-- ==== Sys2Proof/Word.lean ====
section
/-! DEFINITION. The word types the rest of the model uses. -/

namespace Sys2Proof

/-- One byte of an addressed memory (Heartwood, boot flash). -/
abbrev Byte := BitVec 8

end Sys2Proof
end

