-- ==== Sys2Proof/Syntax.lean ====
section
/-! DEFINITION. The commands of the block: one constructor per row of spec/opcode_table.json, in the table's order,
but for the rows without operands, which come last: Lean cannot build a value of a constructor with fields from the 245th on.
The operands are what the command brings from outside; the docstring names the row's rule. -/

namespace Sys2Proof

/-- The commands (R27–R34 and the chapters): every row of the table. Unit numbers, stamps, codes and received values are operands. -/
inductive Instr
  /-- POWER_UP_VIN_RISE (R559). -/
  | powerUpVinRise (corePh : Nat) (agree intact : Bool) (vbat off : Nat)
  /-- STRAP_RESAMPLE (R590). -/
  | strapResample (core : Bool) (value : Nat) (agree test refclk : Bool) (us : Nat)
  /-- RAIL_GOOD (R543). -/
  | railGood (rail us : Nat)
  /-- RESET_RELEASE (R559). -/
  | resetRelease (high agree test refclk : Bool) (us : Nat)
  /-- HEARTWOOD_RECALL_DONE (R448). -/
  | heartwoodRecallDone (us : Nat) (torn : List (Nat × Nat)) (bad fallback lost : List Nat)
  /-- FLASH_PROBE_DONE (R453). -/
  | flashProbeDone (answers suits : Bool) (jedec density mode clock : Nat)
  /-- BOOT_CHECK (R474). -/
  | bootCheck (digest sig unread us : Nat)
  /-- GLADE_START (R38). -/
  | gladeStart (partner : Bool) (epoch cycle us : Nat)
  /-- PF_N_FALL (R417). -/
  | pfNFall (external : Bool)
  /-- SAG_STEP_DOWN (R548). -/
  | sagStepDown (step vin : Nat)
  /-- SAG_STEP_UP (R548). -/
  | sagStepUp (vin : Nat)
  /-- RAIL_UV (R544). -/
  | railUv (rail : Nat)
  /-- RAIL_OC (R544). -/
  | railOc (rail : Nat)
  /-- RAIL_OV (R545). -/
  | railOv (rail : Nat)
  /-- VBAT_SWITCHOVER (R539). -/
  | vbatSwitchover (rows index : Nat) (half : Bool)
  /-- CELL_ALARM_LATCH (R557). -/
  | cellAlarmLatch (alm seconds : Nat)
  /-- TICK_BOUNDARY (R27). -/
  | tickBoundary (overrun : List Nat) (scrubErr : Nat)
  /-- RETRY_SLOT (R136). -/
  | retrySlot (p : Nat)
  /-- UPSTREAM_FRAME (R122). -/
  | upstreamFrame (p : Nat) (retry : Bool) (sofNs : Nat) (codeOk crcOk : Bool) (data : List Nat)
  /-- UPSTREAM_WINDOW_END (R122). -/
  | upstreamWindowEnd (p : Nat) (retry : Bool)
  /-- MAINS_LOSS_DETECT (R225). -/
  | mainsLossDetect (m : Nat)
  /-- LINE_LOSS_DETECT (R225). -/
  | lineLossDetect (m : Nat)
  /-- SWELL_TRIP_DETECT (R225). -/
  | swellTripDetect (m : Nat)
  /-- MAINS_SENSE_LOST (R224). -/
  | mainsSenseLost (m : Nat)
  /-- TRAINING_COMPLETE (R148). -/
  | trainingComplete (p : Nat)
  /-- TRAINING_TIMEOUT (R148). -/
  | trainingTimeout (p : Nat)
  /-- LINK_DELAY_RETRAIN (R148). -/
  | linkDelayRetrain (p : Nat)
  /-- LINK_LOST (R150). -/
  | linkLost (p : Nat)
  /-- LINK_RETRAIN (R150). -/
  | linkRetrain (p : Nat)
  /-- ONESHOT_TIMEOUT (R137). -/
  | oneshotTimeout (p : Nat)
  /-- INJECT_CRC (R156). -/
  | injectCrc (p value : Nat)
  /-- CYCLE_BOUNDARY (R31). -/
  | cycleBoundary (refclkPpm rowErr : Nat)
  /-- ZERO_CROSSING (R209). -/
  | zeroCrossing (phase : Nat) (rising : Bool) (stamp clk : Nat)
  /-- SYNC_IN_EDGE (R65). -/
  | syncInEdge (highNs stamp clk : Nat)
  /-- PIN_NEWEST (R93). -/
  | pinNewest (n : Nat)
  /-- PIN_NAMED (R92). -/
  | pinNamed (n : Nat)
  /-- PIN_RELEASE (R91). -/
  | pinRelease (n : Nat)
  /-- PIN_EXPIRY (R94). -/
  | pinExpiry (n : Nat)
  /-- COMMIT_OPEN (R98). -/
  | commitOpen (n : Nat)
  /-- COMMIT_DISCARD (R99). -/
  | commitDiscard (n : Nat)
  /-- COMMIT_SUBMIT (R101). -/
  | commitSubmit (n : Nat)
  /-- COMMIT_CANCEL (R105). -/
  | commitCancel (n seq : Nat)
  /-- COMMIT_CONFIRM_TIMEOUT (R104). -/
  | commitConfirmTimeout (seq : Nat)
  /-- OBJECT_WRITE (R96). -/
  | objectWrite (n index sub : Nat) (data : List Nat)
  /-- DIRECTORY_READ (R85). -/
  | directoryRead (line cache err : Nat)
  /-- DIRECTORY_OWN (R86). -/
  | directoryOwn (line : Nat) (caches : List Nat)
  /-- DIRECTORY_WRITEBACK (R85). -/
  | directoryWriteback (line cache : Nat) (caches : List Nat)
  /-- ACTION_SUBMIT (R72). -/
  | actionSubmit (n : Nat)
  /-- ACTION_CANCEL (R75). -/
  | actionCancel (n handle : Nat)
  /-- ACTION_CONFIRM_TIMEOUT (R69). -/
  | actionConfirmTimeout (handle : Nat)
  /-- FEED_CLOSE (R277). -/
  | feedClose (handle : Nat)
  /-- FEED_OPEN (R284). -/
  | feedOpen (handle : Nat)
  /-- SEQ_UP (R318). -/
  | seqUp (handle : Nat)
  /-- SEQ_DOWN (R320). -/
  | seqDown (handle : Nat)
  /-- GROUP_SETPOINT (R170). -/
  | groupSetpoint (handle : Nat)
  /-- PORT_SAFE (R146). -/
  | portSafe (handle : Nat)
  /-- LATCH_RESET (R146). -/
  | latchReset (handle : Nat)
  /-- MARK (R77). -/
  | mark (handle : Nat)
  /-- ROLE_SWAP (R390). -/
  | roleSwap (handle : Nat)
  /-- STRING_TEST (R252). -/
  | stringTest (handle : Nat)
  /-- STRING_TEST_END (R252). -/
  | stringTestEnd (str : Nat)
  /-- GROUP_START (R181). -/
  | groupStart (g : Nat)
  /-- GROUP_START_ADVANCE (R181). -/
  | groupStartAdvance (g : Nat)
  /-- GROUP_START_TIMEOUT (R181). -/
  | groupStartTimeout (g : Nat)
  /-- PORT_ADMIT_AFTER_OFF (R612). -/
  | portAdmitAfterOff (p : Nat)
  /-- THIN_SHED (R177). -/
  | thinShed (g : Nat)
  /-- GROUP_SENSE_LOST (R169). -/
  | groupSenseLost (g : Nat)
  /-- MEAS_RESULTS_READY (R197). -/
  | measResultsReady (raw : List Nat) (past : Nat)
  /-- PARTNER_RESULTS (R198). -/
  | partnerResults (lane mseq : Nat) (crcOk : Bool) (late : Bool) (results flags : List Nat)
  /-- CALIBRATE (R206). -/
  | calibrate (ch : Nat)
  /-- CALIBRATION_DONE (R207). -/
  | calibrationDone (ch : Nat)
  /-- STRING_FULL (R249). -/
  | stringFull (str : Nat)
  /-- OCV_ANCHOR (R256). -/
  | ocvAnchor (str : Nat)
  /-- CUTOFF_VOLTAGE (R253). -/
  | cutoffVoltage (str : Nat)
  /-- PRESENCE_GAIN (R261). -/
  | presenceGain (str : Nat)
  /-- STRING_STORE (R258). -/
  | stringStore (str : Nat)
  /-- AUTH_START (R263). -/
  | authStart (str outcome : Nat)
  /-- AUTH_READ (R263). -/
  | authRead (str outcome : Nat) (data : List Nat)
  /-- AUTH_NACK_RETRY (R263). -/
  | authNackRetry (str outcome : Nat)
  /-- AUTH_REREAD (R263). -/
  | authReread (str outcome : Nat) (data : List Nat)
  /-- AUTHENTICATE (R265). -/
  | authenticate (str : Nat)
  /-- AUTH_INTERVAL_EXPIRY (R265). -/
  | authIntervalExpiry (str : Nat)
  /-- FEED_INPUT_QUALIFIED (R276). -/
  | feedInputQualified (f : Nat)
  /-- CLOSE_TIMEOUT (R277). -/
  | closeTimeout (f : Nat)
  /-- GATE_CHECK (R278). -/
  | gateCheck (f : Nat)
  /-- PASS_SHORT (R278). -/
  | passShort (f : Nat)
  /-- FEED_CURVE_TRIP (R279). -/
  | feedCurveTrip (f : Nat)
  /-- FEED_TIMER_TRIP (R280). -/
  | feedTimerTrip (f : Nat)
  /-- FEED_INPUT_FAULT (R282). -/
  | feedInputFault (f : Nat)
  /-- FEED_RETRY (R283). -/
  | feedRetry (f : Nat)
  /-- RETRY_RESET (R283). -/
  | retryReset (f : Nat)
  /-- CLEAR_SUSPECT (R278). -/
  | clearSuspect (f : Nat)
  /-- WALK_IN (R234). -/
  | walkIn (handle : Nat)
  /-- SEQ_MEMBER_ON_DUE (R315). -/
  | seqMemberOnDue (entry pos : Nat)
  /-- SEQ_MEMBER_OFF_DUE (R320). -/
  | seqMemberOffDue (entry pos : Nat)
  /-- SEQ_UP_TIMEOUT (R316). -/
  | seqUpTimeout (entry pos : Nat)
  /-- SEQ_RETRY (R319). -/
  | seqRetry (handle : Nat)
  /-- SEQ_SNAPSHOT_RELEASE (R329). -/
  | seqSnapshotRelease (area8 : Nat)
  /-- FAULT_ACKNOWLEDGE (R350). -/
  | faultAcknowledge (n name : Nat)
  /-- FAULT_WITHHOLD (R344). -/
  | faultWithhold (n name : Nat)
  /-- FAULT_CLEAR (R350). -/
  | faultClear (n name : Nat)
  /-- ACKNOWLEDGE_ALL (R350). -/
  | acknowledgeAll (n : Nat)
  /-- CLEAR_ALL (R350). -/
  | clearAll (n : Nat)
  /-- CLEAR_STICKY (R351). -/
  | clearSticky (n : Nat)
  /-- STICKY_W1C (R351). -/
  | stickyW1c (c : Nat)
  /-- PARTNER_CRC_INJECT (R358). -/
  | partnerCrcInject (value : Nat)
  /-- TWO_WIRE_PEC_INJECT (R358). -/
  | twoWirePecInject (value : Nat)
  /-- ALARM_INPUT (R359). -/
  | alarmInput (alm : Nat) (active : Bool)
  /-- STAND_WEDGED (R354). -/
  | standWedged (stand : Nat)
  /-- ABORT_OVERDUE (R513). -/
  | abortOverdue (kind target : Nat)
  /-- ABORT_TRANSFER (R512). -/
  | abortTransfer (n target : Nat)
  /-- ABORT_SEQUENCE (R323). -/
  | abortSequence (n q : Nat)
  /-- ABORT_AUTHENTICATION (R263). -/
  | abortAuthentication (n str : Nat)
  /-- ABORT_FLASH (R459). -/
  | abortFlash (n pages : Nat)
  /-- ABORT_APPLY (R472). -/
  | abortApply (n : Nat)
  /-- ABORT_DUMP (R426). -/
  | abortDump (n : Nat)
  /-- PARTNER_TIME (R375). -/
  | partnerTime (lane mseq : Nat) (crcOk late : Bool) (epoch cycle angle source freq : Nat) (mainsQual : Bool) (mainsErr : Int) (mainsFreq role gen e readiness : Nat) (grave : Bool)
  /-- PARTNER_MASK (R379). -/
  | partnerMask (lane mseq : Nat) (crcOk late retry : Bool) (sets ok : Nat)
  /-- PARTNER_TICK_DIGEST (R380). -/
  | partnerTickDigest (lane mseq : Nat) (crcOk late : Bool) (differ unshadowed : List Nat)
  /-- PARTNER_CYCLE_DIGEST (R380). -/
  | partnerCycleDigest (lane mseq : Nat) (crcOk late : Bool) (boundary : Nat) (differ : List Nat)
  /-- PARTNER_ROOT (R346). -/
  | partnerRoot (lane mseq : Nat) (crcOk late : Bool) (op number src cls scope rule reaction left : Nat) (insts : List Nat) (detail : List Int)
  /-- PARTNER_COMMIT (R104). -/
  | partnerCommit (lane mseq : Nat) (crcOk : Bool) (op seq session epoch cycle : Nat) (writes : List (Nat × List Nat))
  /-- PARTNER_ACTION (R69). -/
  | partnerAction (lane mseq : Nat) (crcOk : Bool) (op handle session action kind target arg epoch cycle angle : Nat)
  /-- PARTNER_SESSION (R95). -/
  | partnerSession (lane mseq : Nat) (crcOk : Bool) (op n v0 v1 v2 v3 : Nat) (data : List Nat)
  /-- PARTNER_SWAP (R390). -/
  | partnerSwap (lane mseq : Nat) (crcOk : Bool) (epoch cycle : Nat)
  /-- PARTNER_BULK (R394). -/
  | partnerBulk (lane mseq : Nat) (crcOk : Bool) (kind unit : Nat) (vals : List (Nat × Nat)) (carry : List Int) (writes : List (Nat × List Nat))
  /-- PARTNER_ACK (R376). -/
  | partnerAck (lane : Nat) (crcOk : Bool) (mseq result : Nat)
  /-- PARTNER_LINK_UP (R377). -/
  | partnerLinkUp (ns : Nat)
  /-- PARTNER_LANE_DOWN (R377). -/
  | partnerLaneDown (lane : Nat)
  /-- DICT_CONFIRM_TIMEOUT (R491). -/
  | dictConfirmTimeout (n id : Nat)
  /-- TOKEN_IN_CHANGE (R373). -/
  | tokenInChange (cls : Nat) (fits early : Bool)
  /-- SWAP_NOW (R390). -/
  | swapNow (n : Nat)
  /-- KILL_NOW (R398). -/
  | killNow (value : Nat)
  /-- ARCHIVE_BATCH (R416). -/
  | archiveBatch (refused : Nat)
  /-- RINGS_CLEAR (R423). -/
  | ringsClear (n mask : Nat)
  /-- RINGS_READER_OPEN (R421). -/
  | ringsReaderOpen (n : Nat)
  /-- RINGS_READER_CLOSE (R422). -/
  | ringsReaderClose (n : Nat)
  /-- RINGS_DATA_READ (R421). -/
  | ringsDataRead (n : Nat)
  /-- RATE_SUMMARY (R420). -/
  | rateSummary (c : Nat)
  /-- DUMP_NOW (R425). -/
  | dumpNow (n : Nat)
  /-- DUMP_COMPLETE (R427). -/
  | dumpComplete (sections : List (Nat × List Nat))
  /-- DUMP_RELEASE (R430). -/
  | dumpRelease (n value : Nat)
  /-- DUMP_ERASE_DONE (R430). -/
  | dumpEraseDone (area : Nat)
  /-- FLASH_REQUEST (R455). -/
  | flashRequest (owner kind addr len : Nat) (data : List Nat)
  /-- FLASH_OP_DONE (R456). -/
  | flashOpDone (fail : Nat)
  /-- UPDATE_BEGIN (R470). -/
  | updateBegin (n : Nat)
  /-- UPDATE_DATA (R470). -/
  | updateData (n : Nat) (data : List Nat) (fail : Nat)
  /-- UPDATE_VERIFY (R471). -/
  | updateVerify (n : Nat)
  /-- UPDATE_VERIFY_DONE (R471). -/
  | updateVerifyDone (tagOk : Bool)
  /-- UPDATE_APPLY (R472). -/
  | updateApply (n : Nat)
  /-- UPDATE_APPLY_DONE (R472). -/
  | updateApplyDone (payload : List Nat) (tagOk : Bool) (fail : Nat)
  /-- UPDATE_REBOOT (R475). -/
  | updateReboot (n : Nat)
  /-- REVOKE_KEY (R481). -/
  | revokeKey (n value : Nat)
  /-- EDP_OPEN (R500). -/
  | edpOpen (id size : Nat) (subscribe seat : Bool)
  /-- EDP_CLOSE (R489). -/
  | edpClose (n id : Nat) (mine : Bool)
  /-- EDP_READ (R500). -/
  | edpRead (n id index sub : Nat) (mine : Bool)
  /-- EDP_READ_SEG (R493). -/
  | edpReadSeg (n id index sub off : Nat) (mine : Bool)
  /-- EDP_WRITE (R500). -/
  | edpWrite (n id index sub total : Nat) (first mine : Bool) (data : List Nat)
  /-- EDP_WRITE_SEG (R495). -/
  | edpWriteSeg (n id index sub off : Nat) (mine : Bool) (data : List Nat)
  /-- EDP_END (R495). -/
  | edpEnd (n id : Nat) (mine : Bool)
  /-- EDP_KEEPALIVE (R500). -/
  | edpKeepalive (n id : Nat) (mine : Bool)
  /-- EDP_ALERT_ACK (R509). -/
  | edpAlertAck (n id seq : Nat) (mine : Bool)
  /-- SESSION_IDLE (R489). -/
  | sessionIdle (n : Nat)
  /-- TRANSFER_IDLE (R496). -/
  | transferIdle (n : Nat)
  /-- ALERT_REPEAT (R509). -/
  | alertRepeat (n : Nat)
  /-- USDO_REQUEST (R503). -/
  | usdoRequest (can : Nat) (rack : Bool) (client op index sub off total size : Nat) (data : List Nat)
  /-- NMT_START (R504). -/
  | nmtStart (can : Nat) (rack : Bool)
  /-- NMT_STOP (R504). -/
  | nmtStop (can : Nat) (rack : Bool)
  /-- NMT_PRE_OPERATIONAL (R504). -/
  | nmtPreOperational (can : Nat) (rack : Bool)
  /-- NMT_RESET_COMMUNICATION (R504). -/
  | nmtResetCommunication (can : Nat) (rack : Bool)
  /-- NMT_RESET_NODE (R504). -/
  | nmtResetNode (can : Nat) (rack : Bool)
  /-- HEARTBEAT (R506). -/
  | heartbeat (can : Nat) (rack : Bool)
  /-- TPDO_TRANSMIT (R505). -/
  | tpdoTransmit (can u : Nat)
  /-- CAN_BUS_OFF (R502). -/
  | canBusOff (can : Nat)
  /-- CAN_ERROR_PASSIVE (R516). -/
  | canErrorPassive (can : Nat) (passive : Bool)
  /-- PRP_NODE_FORGET (R497). -/
  | prpNodeForget (mac : Nat)
  /-- ETH_LAN_DOWN (R516). -/
  | ethLanDown (lan : Nat)
  /-- CAPABILITY (R523). -/
  | capability (e4 : Nat)
  /-- MFR_ID (R523). -/
  | mfrId (e4 : Nat)
  /-- MFR_MODEL (R523). -/
  | mfrModel (e4 : Nat)
  /-- DICT_SELECT (R524). -/
  | dictSelect (e4 index sub pec : Nat) (sized : Bool)
  /-- DICT_READ (R524). -/
  | dictRead (e4 : Nat) (ready : Bool)
  /-- DICT_WRITE (R525). -/
  | dictWrite (e4 flags off pec : Nat) (sized : Bool) (data : List Nat)
  /-- DICT_STATUS (R523). -/
  | dictStatus (e4 : Nat)
  /-- DICT_OFFSET (R524). -/
  | dictOffset (e4 off pec : Nat) (sized : Bool)
  /-- ALERT_READ (R527). -/
  | alertRead (e4 : Nat)
  /-- ALERT_ACK (R527). -/
  | alertAck (e4 seq pec : Nat) (sized : Bool)
  /-- TW_UNKNOWN_COMMAND (R523). -/
  | twUnknownCommand (e4 code : Nat)
  /-- ALERT_RESPONSE (R528). -/
  | alertResponse (wins : Bool)
  /-- ALERT_REARM (R528). -/
  | alertRearm (e4 : Nat)
  /-- TW_STRETCH_TIMEOUT (R519). -/
  | twStretchTimeout (tw e4 : Nat)
  /-- TW_SELF_RELEASE (R519). -/
  | twSelfRelease (tw : Nat)
  /-- TW_BUS_CLEAR (R519). -/
  | twBusClear (tw : Nat) (freed : Bool)
  /-- TW_BUS_STUCK (R519). -/
  | twBusStuck (tw : Nat) (sda : Bool)
  /-- TW_ARB_LOST (R530). -/
  | twArbLost (tw : Nat)
  /-- TW_ARB_RETRY (R530). -/
  | twArbRetry (tw : Nat)
  /-- TW_DEVICE_ALERT (R531). -/
  | twDeviceAlert (tw addr : Nat) (answered : Bool)
  /-- SEND_BYTE (R532). -/
  | sendByte (n tw addr cmd : Nat) (pec : Bool)
  /-- WRITE_BYTE (R532). -/
  | writeByte (n tw addr cmd : Nat) (pec : Bool) (data : List Nat)
  /-- WRITE_WORD (R532). -/
  | writeWord (n tw addr cmd : Nat) (pec : Bool) (data : List Nat)
  /-- BLOCK_WRITE (R532). -/
  | blockWrite (n tw addr cmd : Nat) (pec : Bool) (data : List Nat)
  /-- RECEIVE_BYTE (R532). -/
  | receiveByte (n tw addr : Nat) (pec : Bool)
  /-- READ_BYTE (R532). -/
  | readByte (n tw addr cmd : Nat) (pec : Bool)
  /-- READ_WORD (R532). -/
  | readWord (n tw addr cmd : Nat) (pec : Bool)
  /-- BLOCK_READ (R532). -/
  | blockRead (n tw addr cmd : Nat) (pec : Bool)
  /-- TW_TRANSACTION_DONE (R529). -/
  | twTransactionDone (tw outcome : Nat) (data : List Nat)
  /-- TW_BUS_STUCK_END (R519). -/
  | twBusStuckEnd (tw : Nat)
  /-- ETH_LINK_UP (R501). -/
  | ethLinkUp (lan speed : Nat)
  /-- CAN_BUS_OFF_RECOVERY (R502). -/
  | canBusOffRecovery (can : Nat)
  /-- ARP_REQUEST (R497). -/
  | arpRequest (lan addr : Nat)
  /-- ICMP_ECHO (R497). -/
  | icmpEcho (lan addr : Nat)
  /-- SUPERVISION_FRAME_RECEIVED (R497). -/
  | supervisionFrameReceived (lan mac : Nat) (wrong dup : Bool)
  /-- FLASH_ACCESS (R591). -/
  | flashAccess (cmd addr value : Nat)
  /-- RAIL_START_TIMEOUT (R543). -/
  | railStartTimeout
  /-- RAIL_RESTART (R543). -/
  | railRestart
  /-- FIRMWARE_START (R559). -/
  | firmwareStart
  /-- RST_N_ASSERT (R560). -/
  | rstNAssert
  /-- PF_N_RISE (R552). -/
  | pfNRise
  /-- AUX_OV (R546). -/
  | auxOv
  /-- CELL_ALARM_PENDING_CLEAR (R558). -/
  | cellAlarmPendingClear
  /-- SELF_CYCLE_ASSERT (R357). -/
  | selfCycleAssert
  /-- SELF_CYCLE_RELEASE (R357). -/
  | selfCycleRelease
  /-- AUTOSTART_SUBMIT (R563). -/
  | autostartSubmit
  /-- HALF_CYCLE_END (R52). -/
  | halfCycleEnd
  /-- MAINS_SOURCE_TIMEOUT (R46). -/
  | mainsSourceTimeout
  /-- SYNC_IN_LOST (R46). -/
  | syncInLost
  /-- SYNC_FRAME (R66). -/
  | syncFrame
  /-- HOLDOVER_LIMIT_EXPIRY (R56). -/
  | holdoverLimitExpiry
  /-- SNAPSHOT_CAPTURE_DONE (R88). -/
  | snapshotCaptureDone
  /-- RESERVED_ENTRY_OBTAINED (R69). -/
  | reservedEntryObtained
  /-- RESULTS_MISSING (R198). -/
  | resultsMissing
  /-- CALIBRATE_ALL (R206). -/
  | calibrateAll
  /-- REF_FAULT (R205). -/
  | refFault
  /-- REF_READY (R205). -/
  | refReady
  /-- SUPERVISOR_DONE (R31). -/
  | supervisorDone
  /-- SUP_OVERRUN (R33). -/
  | supOverrun
  /-- TRANSFER_COMPLETE (R231). -/
  | transferComplete
  /-- WALK_IN_END (R234). -/
  | walkInEnd
  /-- WINDTHROW_WINDOW_CLOSE (R338). -/
  | windthrowWindowClose
  /-- REACTION_DECIDE (R343). -/
  | reactionDecide
  /-- FIREBREAK_CLOSE (R349). -/
  | firebreakClose
  /-- SRAM_ARM (R358). -/
  | sramArm
  /-- GRAVE_ENTER (R356). -/
  | graveEnter
  /-- COLLECTOR_WEDGED (R354). -/
  | collectorWedged
  /-- SUPERVISOR_WEDGED (R354). -/
  | supervisorWedged
  /-- SUPERVISOR_LOCKSTEP (R354). -/
  | supervisorLockstep
  /-- PARTNER_RETRANSMIT (R376). -/
  | partnerRetransmit
  /-- PARTNER_LINK_DOWN (R377). -/
  | partnerLinkDown
  /-- TOKEN_TAKE (R384). -/
  | tokenTake
  /-- COLD_TAKE (R386). -/
  | coldTake
  /-- SWAP_EXECUTE (R391). -/
  | swapExecute
  /-- DRILL_NOW (R397). -/
  | drillNow
  /-- DRILL_INTERVAL_EXPIRY (R397). -/
  | drillIntervalExpiry
  /-- DRILL_CHECK_END (R397). -/
  | drillCheckEnd
  /-- DRILL_SECOND_SWAP (R397). -/
  | drillSecondSwap
  /-- RESYNC (R394). -/
  | resync
  /-- RESYNC_BULK_DONE (R394). -/
  | resyncBulkDone
  /-- RESYNC_REPLAY_DONE (R394). -/
  | resyncReplayDone
  /-- RESYNC_VERIFY_DONE (R394). -/
  | resyncVerifyDone
  /-- RESYNC_RETRY (R395). -/
  | resyncRetry
  /-- KILL_ON_GRAVE (R398). -/
  | killOnGrave
  /-- KILL_PULSE_END (R399). -/
  | killPulseEnd
  /-- RINGS_FLUSH (R414). -/
  | ringsFlush
  /-- FLUSH_COMPLETE (R414). -/
  | flushComplete
  /-- FLUSH_RETRY (R414). -/
  | flushRetry
  /-- FREEZE_LIMIT_EXPIRY (R422). -/
  | freezeLimitExpiry
  /-- DUMP_START (R425). -/
  | dumpStart
  /-- UPDATE_ERASE_DONE (R470). -/
  | updateEraseDone
  /-- PRP_SUPERVISION (R497). -/
  | prpSupervision
  /-- VBAT_UNDERVOLTAGE (R539). -/
  | vbatUndervoltage
  /-- OPERATING_HOURS_COUNT (R553). -/
  | operatingHoursCount
  deriving DecidableEq, Repr

end Sys2Proof
end

