-- ==== Sys2Proof/Config.lean ====
section
/-! DEFINITION. What an implementation fixes and the free values: constants with no body, so that no proof sees what they are. -/

namespace Sys2Proof

/-- The n-th free value a step draws where the manual states no value (DESIGN CHOICE, assumption 2); n is a plain counter in State. -/
opaque Config.freeValue : Nat → Nat

end Sys2Proof
end

