-- ==== Sys2Proof/Machine/ObjectMap.lean ====
section
/-! DEFINITION. The object dictionary's map (spec/20_dictionary_map.md, R573–R577, and the object tables of the chapters): the
address of every scalar object as a key, one name per sub-index, and the table of types, access codes, defaults and ranges. -/

namespace Sys2Proof.Machine

/-- The key of index:sub-index in the dictionary store. -/
def objKey (index sub : Nat) : Nat := index * 256 + sub

/-- Access codes of R9. -/
inductive Access
  | ro | rw | wo | w1c | rc
  deriving DecidableEq, Repr

/-- Object types of R575: unsigned or signed of a width in bytes, or a DOMAIN with its maximum length and whether that length is fixed. -/
inductive ObjType
  | uint (bytes : Nat)
  | sint (bytes : Nat)
  | domain (maxLength : Nat) (fixed : Bool)
  deriving DecidableEq, Repr

/-- How a write takes effect (R574): not at all, staged under R96, or immediately under R97. -/
inductive WriteMode
  | none | staged | immediate
  deriving DecidableEq, Repr

/-- One row of an object table: sub-indexes first to last, access, type, default, range, allowed values (empty: the range alone), write mode, per-session copy. -/
structure SubRow where
  first : Nat
  last : Nat
  access : Access
  type : ObjType
  default : Nat
  lo : Int
  hi : Int
  allowed : List Nat
  mode : WriteMode
  perSession : Bool
  deriving DecidableEq, Repr

/-- A range of indexes with one layout; `top` is what sub-index 00 reads (R13), 0 for a VAR or DOMAIN object. -/
structure ObjRow where
  first : Nat
  last : Nat
  top : Nat
  subs : List SubRow
  deriving DecidableEq, Repr

/-- 0x1000:00 (U32, RO), R506. -/
def Obj.Comm.DeviceType : Nat := objKey (0x1000) (0x00)

/-- 0x1001:00 (U8, RO), R506. -/
def Obj.Comm.ErrorRegister : Nat := objKey (0x1001) (0x00)

/-- 0x1003:00 (U8, RO), R506. -/
def Obj.PreDefinedErrorField.ErrorCount : Nat := objKey (0x1003) (0x00)

/-- 0x1003:01–08 (U32, RO), R506. -/
def Obj.PreDefinedErrorField.ErrorField (i : Nat) : Nat := objKey (0x1003) (0x01 + i)

/-- 0x1014:00 (U32, RW), R506. -/
def Obj.Comm.CobIdEmcy : Nat := objKey (0x1014) (0x00)

/-- 0x1017:00 (U16, RW), R506. -/
def Obj.Comm.ProducerHeartbeatTime : Nat := objKey (0x1017) (0x00)

/-- 0x1018:01 (U32, RO), R506. -/
def Obj.CanIdentity.Vendor : Nat := objKey (0x1018) (0x01)

/-- 0x1018:02 (U32, RO), R506. -/
def Obj.CanIdentity.Product : Nat := objKey (0x1018) (0x02)

/-- 0x1018:03 (U32, RO), R506. -/
def Obj.CanIdentity.Revision : Nat := objKey (0x1018) (0x03)

/-- 0x1018:04 (U32, RO), R506. -/
def Obj.CanIdentity.Serial : Nat := objKey (0x1018) (0x04)

/-- 0x1800:01 (U32, RW), R506. -/
def Obj.TpdoComm.CobId (u : Nat) : Nat := objKey (0x1800 + u) (0x01)

/-- 0x1800:02 (U8, RW), R506. -/
def Obj.TpdoComm.TransmissionType (u : Nat) : Nat := objKey (0x1800 + u) (0x02)

/-- 0x1800:03 (U16, RW), R506. -/
def Obj.TpdoComm.InhibitTime (u : Nat) : Nat := objKey (0x1800 + u) (0x03)

/-- 0x1800:05 (U16, RW), R506. -/
def Obj.TpdoComm.EventTimer (u : Nat) : Nat := objKey (0x1800 + u) (0x05)

/-- 0x1800:06 (U8, RW), R506. -/
def Obj.TpdoComm.SyncStart (u : Nat) : Nat := objKey (0x1800 + u) (0x06)

/-- 0x1A00:00 (U8, RW), R506. -/
def Obj.TpdoMap.MapCount (u : Nat) : Nat := objKey (0x1A00 + u) (0x00)

/-- 0x1A00:01–40 (U32, RW), R506. -/
def Obj.TpdoMap.MapEntry (u i : Nat) : Nat := objKey (0x1A00 + u) (0x01 + i)

/-- 0x2000:01 (U16, RO), R3. -/
def Obj.Identity.PartNumber : Nat := objKey (0x2000) (0x01)

/-- 0x2000:02 (U8, RO), R3. -/
def Obj.Identity.Stepping : Nat := objKey (0x2000) (0x02)

/-- 0x2000:03 (U8, RO), R3. -/
def Obj.Identity.Grade : Nat := objKey (0x2000) (0x03)

/-- 0x2001:00 (U8, RO), R20. -/
def Obj.Seat.Value : Nat := objKey (0x2001) (0x00)

/-- 0x2010:01 (U16, RW), R39. -/
def Obj.GladeConfig.TicksPerCycle : Nat := objKey (0x2010) (0x01)

/-- 0x2010:02 (U8, RW), R39. -/
def Obj.GladeConfig.NominalFreq : Nat := objKey (0x2010) (0x02)

/-- 0x2010:03 (U16, RW), R39. -/
def Obj.GladeConfig.FreqLow : Nat := objKey (0x2010) (0x03)

/-- 0x2010:04 (U16, RW), R39. -/
def Obj.GladeConfig.FreqHigh : Nat := objKey (0x2010) (0x04)

/-- 0x2010:05 (U16, RW), R39. -/
def Obj.GladeConfig.SourcePriority : Nat := objKey (0x2010) (0x05)

/-- 0x2010:06 (U8, RW), R39. -/
def Obj.GladeConfig.MainsPhases : Nat := objKey (0x2010) (0x06)

/-- 0x2010:07 (U8, RW), R39. -/
def Obj.GladeConfig.PhaseSequence : Nat := objKey (0x2010) (0x07)

/-- 0x2010:08 (U16, RW), R39. -/
def Obj.GladeConfig.QualifyCycles : Nat := objKey (0x2010) (0x08)

/-- 0x2010:09 (U32, RW), R39. -/
def Obj.GladeConfig.HoldoverLimit : Nat := objKey (0x2010) (0x09)

/-- 0x2010:0A (U16, RW), R39. -/
def Obj.GladeConfig.SyncInDelay : Nat := objKey (0x2010) (0x0A)

/-- 0x2010:0B (U8, RW), R39. -/
def Obj.GladeConfig.SyncOutEnable : Nat := objKey (0x2010) (0x0B)

/-- 0x2010:0C (U8, RW), R39. -/
def Obj.GladeConfig.SyncAdoptNumber : Nat := objKey (0x2010) (0x0C)

/-- 0x2011:01 (U8, RO), R62. -/
def Obj.GladeStatus.State : Nat := objKey (0x2011) (0x01)

/-- 0x2011:02 (U8, RO), R62. -/
def Obj.GladeStatus.Source : Nat := objKey (0x2011) (0x02)

/-- 0x2011:03 (U32, RO), R62. -/
def Obj.GladeStatus.Frequency : Nat := objKey (0x2011) (0x03)

/-- 0x2011:04 (I32, RO), R62. -/
def Obj.GladeStatus.PhaseError : Nat := objKey (0x2011) (0x04)

/-- 0x2011:05 (I32, RO), R62. -/
def Obj.GladeStatus.MainsPhaseError : Nat := objKey (0x2011) (0x05)

/-- 0x2011:06 (I32, RO), R62. -/
def Obj.GladeStatus.SlewRemaining : Nat := objKey (0x2011) (0x06)

/-- 0x2011:07 (U8, RO), R62. -/
def Obj.GladeStatus.QualifiedMask : Nat := objKey (0x2011) (0x07)

/-- 0x2011:08 (U32, RO), R62. -/
def Obj.GladeStatus.HoldoverCycles : Nat := objKey (0x2011) (0x08)

/-- 0x2011:09 (U32, RO), R62. -/
def Obj.GladeStatus.JumpCount : Nat := objKey (0x2011) (0x09)

/-- 0x2011:0A (U32, RO), R62. -/
def Obj.GladeStatus.InvalidCrossings : Nat := objKey (0x2011) (0x0A)

/-- 0x2011:0B (U16, RO), R62. -/
def Obj.GladeStatus.ShortestTick : Nat := objKey (0x2011) (0x0B)

/-- 0x2011:0C (U16, RO), R62. -/
def Obj.GladeStatus.LongestTick : Nat := objKey (0x2011) (0x0C)

/-- 0x2011:0D (U8, RO), R62. -/
def Obj.GladeStatus.RetrySlot : Nat := objKey (0x2011) (0x0D)

/-- 0x2012:01 (U16, RO), R63. -/
def Obj.GladeNow.Epoch : Nat := objKey (0x2012) (0x01)

/-- 0x2012:02 (U32, RO), R63. -/
def Obj.GladeNow.Cycle : Nat := objKey (0x2012) (0x02)

/-- 0x2012:03 (U32, RO), R63. -/
def Obj.GladeNow.Angle : Nat := objKey (0x2012) (0x03)

/-- 0x2012:04 (U16, RO), R63. -/
def Obj.GladeNow.Tick : Nat := objKey (0x2012) (0x04)

/-- 0x2030:01 (U8, RW), R507. -/
def Obj.CanConfig.PortEnable : Nat := objKey (0x2030) (0x01)

/-- 0x2030:02 (U16, RW), R507. -/
def Obj.CanConfig.NominalRate : Nat := objKey (0x2030) (0x02)

/-- 0x2030:03 (U16, RW), R507. -/
def Obj.CanConfig.DataRate : Nat := objKey (0x2030) (0x03)

/-- 0x2030:04 (U8, RW), R507. -/
def Obj.CanConfig.RackNodeId : Nat := objKey (0x2030) (0x04)

/-- 0x2030:05 (U8, RW), R507. -/
def Obj.CanConfig.SeatNodeIdA : Nat := objKey (0x2030) (0x05)

/-- 0x2030:06 (U8, RW), R507. -/
def Obj.CanConfig.SeatNodeIdB : Nat := objKey (0x2030) (0x06)

/-- 0x2031:01–02 (U8, RO), R507. -/
def Obj.CanStatus.CanState (i : Nat) : Nat := objKey (0x2031) (0x01 + i)

/-- 0x2031:03–04 (U32, RO), R507. -/
def Obj.CanStatus.BusOffs (i : Nat) : Nat := objKey (0x2031) (0x03 + i)

/-- 0x2040:01 (U32, RW), R501. -/
def Obj.EthConfig.RackAddress : Nat := objKey (0x2040) (0x01)

/-- 0x2040:02 (U32, RW), R501. -/
def Obj.EthConfig.SeatAddressA : Nat := objKey (0x2040) (0x02)

/-- 0x2040:03 (U32, RW), R501. -/
def Obj.EthConfig.SeatAddressB : Nat := objKey (0x2040) (0x03)

/-- 0x2040:04 (U32, RW), R501. -/
def Obj.EthConfig.SubnetMask : Nat := objKey (0x2040) (0x04)

/-- 0x2040:05 (U32, RW), R501. -/
def Obj.EthConfig.Gateway : Nat := objKey (0x2040) (0x05)

/-- 0x2040:06 (U16, RW), R501. -/
def Obj.EthConfig.LifeCheckInterval : Nat := objKey (0x2040) (0x06)

/-- 0x2040:07 (U16, RO), R501. -/
def Obj.EthConfig.UdpPort : Nat := objKey (0x2040) (0x07)

/-- 0x2041:01 (U8, RO), R501. -/
def Obj.EthStatus.LinkA : Nat := objKey (0x2041) (0x01)

/-- 0x2041:02 (U8, RO), R501. -/
def Obj.EthStatus.LinkB : Nat := objKey (0x2041) (0x02)

/-- 0x2041:03 (U32, RO), R501. -/
def Obj.EthStatus.Duplicates : Nat := objKey (0x2041) (0x03)

/-- 0x2041:04 (U32, RO), R501. -/
def Obj.EthStatus.WrongLanA : Nat := objKey (0x2041) (0x04)

/-- 0x2041:05 (U32, RO), R501. -/
def Obj.EthStatus.WrongLanB : Nat := objKey (0x2041) (0x05)

/-- 0x2041:06 (U32, RO), R501. -/
def Obj.EthStatus.Datagrams : Nat := objKey (0x2041) (0x06)

/-- 0x2041:07 (U16, RO), R501. -/
def Obj.EthStatus.NodeTableEntries : Nat := objKey (0x2041) (0x07)

/-- 0x2041:08 (U64, RO), R501. -/
def Obj.EthStatus.MacAddress : Nat := objKey (0x2041) (0x08)

/-- 0x2050:01 (U16, RW), R565. -/
def Obj.SupplyConfig.PfThreshold : Nat := objKey (0x2050) (0x01)

/-- 0x2050:02 (U16, RW), R565. -/
def Obj.SupplyConfig.Sag1Threshold : Nat := objKey (0x2050) (0x02)

/-- 0x2050:03 (U16, RW), R565. -/
def Obj.SupplyConfig.Sag2Threshold : Nat := objKey (0x2050) (0x03)

/-- 0x2050:04 (U16, RW), R565. -/
def Obj.SupplyConfig.ClockFloor : Nat := objKey (0x2050) (0x04)

/-- 0x2050:05 (U16, RW), R565. -/
def Obj.SupplyConfig.SagRecoverCycles : Nat := objKey (0x2050) (0x05)

/-- 0x2050:06 (U16, RW), R565. -/
def Obj.SupplyConfig.AutoStartWait : Nat := objKey (0x2050) (0x06)

/-- 0x2050:07 (U8, RW), R565. -/
def Obj.SupplyConfig.BkpAlertEnable : Nat := objKey (0x2050) (0x07)

/-- 0x2051:01 (U8, RO), R566. -/
def Obj.SupplyStatus.VinState : Nat := objKey (0x2051) (0x01)

/-- 0x2051:02 (U16, RO), R566. -/
def Obj.SupplyStatus.EngineClock : Nat := objKey (0x2051) (0x02)

/-- 0x2051:03 (U16, RO), R566. -/
def Obj.SupplyStatus.SupervisorClock : Nat := objKey (0x2051) (0x03)

/-- 0x2051:04 (U32, RO), R566. -/
def Obj.SupplyStatus.ClockSteps : Nat := objKey (0x2051) (0x04)

/-- 0x2051:05 (U32, RO), R566. -/
def Obj.SupplyStatus.PfEvents : Nat := objKey (0x2051) (0x05)

/-- 0x2051:06 (U8, RO), R566. -/
def Obj.SupplyStatus.PfSource : Nat := objKey (0x2051) (0x06)

/-- 0x2051:07 (U8, RO), R566. -/
def Obj.SupplyStatus.CorePhases : Nat := objKey (0x2051) (0x07)

/-- 0x2051:08 (U8, RO), R566. -/
def Obj.SupplyStatus.VbatState : Nat := objKey (0x2051) (0x08)

/-- 0x2052:01 (U32, RO), R567. -/
def Obj.BackupDomain.OperatingHours : Nat := objKey (0x2052) (0x01)

/-- 0x2052:02 (U32, RO), R567. -/
def Obj.BackupDomain.PowerCycles : Nat := objKey (0x2052) (0x02)

/-- 0x2052:03 (U16, W1C), R567. -/
def Obj.BackupDomain.Flags : Nat := objKey (0x2052) (0x03)

/-- 0x2052:04 (U16, RO), R567. -/
def Obj.BackupDomain.CellAlarmCount : Nat := objKey (0x2052) (0x04)

/-- 0x2052:05 (U32, RO), R567. -/
def Obj.BackupDomain.LastVinLossHours : Nat := objKey (0x2052) (0x05)

/-- 0x2052:06 (U32, RO), R567. -/
def Obj.BackupDomain.LastOffSeconds : Nat := objKey (0x2052) (0x06)

/-- 0x2053:00 (DOMAIN 128, RO), R568. -/
def Obj.CellAlarmLog.Data : Nat := objKey (0x2053) (0x00)

/-- 0x2054:00 (DOMAIN =512, RW), R568. -/
def Obj.BackupRam.Data : Nat := objKey (0x2054) (0x00)

/-- 0x2055:01 (U8, RO), R569. -/
def Obj.StartupStatus.StartKind : Nat := objKey (0x2055) (0x01)

/-- 0x2055:02 (U32, RO), R569. -/
def Obj.StartupStatus.RailsGood : Nat := objKey (0x2055) (0x02)

/-- 0x2055:03 (U32, RO), R569. -/
def Obj.StartupStatus.ResetReleased : Nat := objKey (0x2055) (0x03)

/-- 0x2055:04 (U32, RO), R569. -/
def Obj.StartupStatus.BootDone : Nat := objKey (0x2055) (0x04)

/-- 0x2055:05 (U32, RO), R569. -/
def Obj.StartupStatus.GladeStarted : Nat := objKey (0x2055) (0x05)

/-- 0x2055:06 (U32, RO), R569. -/
def Obj.StartupStatus.TokenTaken : Nat := objKey (0x2055) (0x06)

/-- 0x2055:07 (U32, RO), R569. -/
def Obj.StartupStatus.AutoStartSubmitted : Nat := objKey (0x2055) (0x07)

/-- 0x2055:08 (U8, RO), R569. -/
def Obj.StartupStatus.RailRetries : Nat := objKey (0x2055) (0x08)

/-- 0x2080:01 (U8, RW), R91. -/
def Obj.SnapshotSession.Mode : Nat := objKey (0x2080) (0x01)

/-- 0x2080:02 (WO, WO), R91. -/
def Obj.SnapshotSession.Pin : Nat := objKey (0x2080) (0x02)

/-- 0x2080:03 (U16, RW), R91. -/
def Obj.SnapshotSession.RequestEpoch : Nat := objKey (0x2080) (0x03)

/-- 0x2080:04 (U32, RW), R91. -/
def Obj.SnapshotSession.RequestCycle : Nat := objKey (0x2080) (0x04)

/-- 0x2080:05 (U16, RO), R91. -/
def Obj.SnapshotSession.PinnedEpoch : Nat := objKey (0x2080) (0x05)

/-- 0x2080:06 (U32, RO), R91. -/
def Obj.SnapshotSession.PinnedCycle : Nat := objKey (0x2080) (0x06)

/-- 0x2080:07 (U16, RW), R91. -/
def Obj.SnapshotSession.PinLimit : Nat := objKey (0x2080) (0x07)

/-- 0x2080:08 (U16, RO), R91. -/
def Obj.SnapshotSession.PinRemaining : Nat := objKey (0x2080) (0x08)

/-- 0x2080:09 (U8, RO), R91. -/
def Obj.SnapshotSession.Status : Nat := objKey (0x2080) (0x09)

/-- 0x2080:0A (U8, RO), R91. -/
def Obj.SnapshotSession.SessionId : Nat := objKey (0x2080) (0x0A)

/-- 0x2081:01 (U8, WO), R99. -/
def Obj.CommitSession.Open : Nat := objKey (0x2081) (0x01)

/-- 0x2081:02 (U8, RW), R99. -/
def Obj.CommitSession.When : Nat := objKey (0x2081) (0x02)

/-- 0x2081:03 (U16, RW), R99. -/
def Obj.CommitSession.TargetEpoch : Nat := objKey (0x2081) (0x03)

/-- 0x2081:04 (U32, RW), R99. -/
def Obj.CommitSession.TargetCycle : Nat := objKey (0x2081) (0x04)

/-- 0x2081:05 (U8, WO), R99. -/
def Obj.CommitSession.Submit : Nat := objKey (0x2081) (0x05)

/-- 0x2081:06 (U32, RO), R99. -/
def Obj.CommitSession.Sequence : Nat := objKey (0x2081) (0x06)

/-- 0x2081:07 (U8, RO), R99. -/
def Obj.CommitSession.Status : Nat := objKey (0x2081) (0x07)

/-- 0x2081:08 (U16, RO), R99. -/
def Obj.CommitSession.Reason : Nat := objKey (0x2081) (0x08)

/-- 0x2081:09 (U16, RO), R99. -/
def Obj.CommitSession.FailIndex : Nat := objKey (0x2081) (0x09)

/-- 0x2081:0A (U8, RO), R99. -/
def Obj.CommitSession.FailSub : Nat := objKey (0x2081) (0x0A)

/-- 0x2081:0B (U16, RO), R99. -/
def Obj.CommitSession.Entries : Nat := objKey (0x2081) (0x0B)

/-- 0x2081:0C (U32, RO), R99. -/
def Obj.CommitSession.Bytes : Nat := objKey (0x2081) (0x0C)

/-- 0x2081:0D (U16, RO), R99. -/
def Obj.CommitSession.AppliedEpoch : Nat := objKey (0x2081) (0x0D)

/-- 0x2081:0E (U32, RO), R99. -/
def Obj.CommitSession.AppliedCycle : Nat := objKey (0x2081) (0x0E)

/-- 0x2081:0F (U16, RO), R99. -/
def Obj.CommitSession.Superseded : Nat := objKey (0x2081) (0x0F)

/-- 0x2081:10 (U32, WO), R99. -/
def Obj.CommitSession.Cancel : Nat := objKey (0x2081) (0x10)

/-- 0x2082:01 (U32, RO), R114. -/
def Obj.CanopyStatus.Corrected : Nat := objKey (0x2082) (0x01)

/-- 0x2082:02 (U32, RO), R114. -/
def Obj.CanopyStatus.Uncorrectable : Nat := objKey (0x2082) (0x02)

/-- 0x2082:03 (U16, RO), R114. -/
def Obj.CanopyStatus.LastErrorLine : Nat := objKey (0x2082) (0x03)

/-- 0x2082:04 (U32, RO), R114. -/
def Obj.CanopyStatus.ScrubPasses : Nat := objKey (0x2082) (0x04)

/-- 0x2082:05 (U8, RO), R114. -/
def Obj.CanopyStatus.SlotsPinned : Nat := objKey (0x2082) (0x05)

/-- 0x2082:06 (U16, RO), R114. -/
def Obj.CanopyStatus.NewestEpoch : Nat := objKey (0x2082) (0x06)

/-- 0x2082:07 (U32, RO), R114. -/
def Obj.CanopyStatus.NewestCycle : Nat := objKey (0x2082) (0x07)

/-- 0x2082:08 (U32, RO), R114. -/
def Obj.CanopyStatus.StagingUsed : Nat := objKey (0x2082) (0x08)

/-- 0x2082:09 (U8, RO), R114. -/
def Obj.CanopyStatus.CommitsPending : Nat := objKey (0x2082) (0x09)

/-- 0x2082:0A (U8, RO), R114. -/
def Obj.CanopyStatus.SessionsOpen : Nat := objKey (0x2082) (0x0A)

/-- 0x2082:0B (U16, RO), R114. -/
def Obj.CanopyStatus.DirectoryMaxWait : Nat := objKey (0x2082) (0x0B)

/-- 0x2083:01 (U16, RO), R111. -/
def Obj.EventOrder.Generation : Nat := objKey (0x2083) (0x01)

/-- 0x2083:02 (U32, RO), R111. -/
def Obj.EventOrder.EventSequence : Nat := objKey (0x2083) (0x02)

/-- 0x2083:03 (U32, RO), R111. -/
def Obj.EventOrder.PartnerSequence : Nat := objKey (0x2083) (0x03)

/-- 0x2083:04 (U32, RO), R111. -/
def Obj.EventOrder.CommitSequence : Nat := objKey (0x2083) (0x04)

/-- 0x2084:01 (U16, RW), R490. -/
def Obj.SessionConfig.BufferSize : Nat := objKey (0x2084) (0x01)

/-- 0x2084:02 (U16, RW), R490. -/
def Obj.SessionConfig.SessionIdle : Nat := objKey (0x2084) (0x02)

/-- 0x2085:01–20 (U32, RO), R490. -/
def Obj.SessionTable.SessionEntry (i : Nat) : Nat := objKey (0x2085) (0x01 + i)

/-- 0x2088:01 (U8, RW), R510. -/
def Obj.AlertConfig.AlertMinClass : Nat := objKey (0x2088) (0x01)

/-- 0x2088:02 (U8, RW), R510. -/
def Obj.AlertConfig.EmcyEnable : Nat := objKey (0x2088) (0x02)

/-- 0x2088:03 (U16, RW), R510. -/
def Obj.AlertConfig.RepeatInterval : Nat := objKey (0x2088) (0x03)

/-- 0x2089:01 (U32, RO), R510. -/
def Obj.AlertStatus.NewestSequence : Nat := objKey (0x2089) (0x01)

/-- 0x2089:02 (U32, RO), R510. -/
def Obj.AlertStatus.Dropped : Nat := objKey (0x2089) (0x02)

/-- 0x2089:03 (U16, RO), R510. -/
def Obj.AlertStatus.Queued : Nat := objKey (0x2089) (0x03)

/-- 0x2089:04 (DOMAIN =4096, RO), R510. -/
def Obj.AlertStatus.AlertRecords : Nat := objKey (0x2089) (0x04)

/-- 0x2090:01 (U8, RW), R511. -/
def Obj.Abort.Kind : Nat := objKey (0x2090) (0x01)

/-- 0x2090:02 (U16, RW), R511. -/
def Obj.Abort.Target : Nat := objKey (0x2090) (0x02)

/-- 0x2090:03 (U8, WO), R511. -/
def Obj.Abort.Execute : Nat := objKey (0x2090) (0x03)

/-- 0x2090:04 (U8, RO), R511. -/
def Obj.Abort.Result : Nat := objKey (0x2090) (0x04)

/-- 0x2090:05 (U32, RO), R511. -/
def Obj.Abort.Elapsed : Nat := objKey (0x2090) (0x05)

/-- 0x20A0:01 (U16, RW), R70. -/
def Obj.ActionRequest.Epoch : Nat := objKey (0x20A0) (0x01)

/-- 0x20A0:02 (U32, RW), R70. -/
def Obj.ActionRequest.Cycle : Nat := objKey (0x20A0) (0x02)

/-- 0x20A0:03 (U32, RW), R70. -/
def Obj.ActionRequest.Angle : Nat := objKey (0x20A0) (0x03)

/-- 0x20A0:04 (U8, RW), R70. -/
def Obj.ActionRequest.TargetKind : Nat := objKey (0x20A0) (0x04)

/-- 0x20A0:05 (U16, RW), R70. -/
def Obj.ActionRequest.TargetIndex : Nat := objKey (0x20A0) (0x05)

/-- 0x20A0:06 (U16, RW), R70. -/
def Obj.ActionRequest.Operation : Nat := objKey (0x20A0) (0x06)

/-- 0x20A0:07 (U32, RW), R70. -/
def Obj.ActionRequest.Argument : Nat := objKey (0x20A0) (0x07)

/-- 0x20A0:08 (U8, WO), R70. -/
def Obj.ActionRequest.Submit : Nat := objKey (0x20A0) (0x08)

/-- 0x20A0:09 (U16, RO), R70. -/
def Obj.ActionRequest.Handle : Nat := objKey (0x20A0) (0x09)

/-- 0x20A0:0A (U8, RO), R70. -/
def Obj.ActionRequest.Status : Nat := objKey (0x20A0) (0x0A)

/-- 0x20A0:0B (U16, WO), R70. -/
def Obj.ActionRequest.Cancel : Nat := objKey (0x20A0) (0x0B)

/-- 0x20A0:0C (U16, RO), R70. -/
def Obj.ActionRequest.ResolvedEpoch : Nat := objKey (0x20A0) (0x0C)

/-- 0x20A0:0D (U8, RO), R70. -/
def Obj.ActionRequest.CancelStatus : Nat := objKey (0x20A0) (0x0D)

/-- 0x20A1:01 (U16, RO), R77. -/
def Obj.ActionTable.InUse : Nat := objKey (0x20A1) (0x01)

/-- 0x20A1:02 (U16, RO), R77. -/
def Obj.ActionTable.HighWater : Nat := objKey (0x20A1) (0x02)

/-- 0x20A1:03 (U32, RO), R77. -/
def Obj.ActionTable.Refused : Nat := objKey (0x20A1) (0x03)

/-- 0x20A1:04 (U32, RO), R77. -/
def Obj.ActionTable.ReservedDeferred : Nat := objKey (0x20A1) (0x04)

/-- 0x3000:01 (U8, RW), R17. -/
def Obj.PortRecord.ConfiguredClass (u : Nat) : Nat := objKey (0x3000 + u) (0x01)

/-- 0x3000:02 (U8, RO), R17. -/
def Obj.PortRecord.ReportedClass (u : Nat) : Nat := objKey (0x3000 + u) (0x02)

/-- 0x3000:03 (U8, RW), R17. -/
def Obj.PortRecord.Group (u : Nat) : Nat := objKey (0x3000 + u) (0x03)

/-- 0x3000:04 (U16, RW), R17. -/
def Obj.PortRecord.Member (u : Nat) : Nat := objKey (0x3000 + u) (0x04)

/-- 0x3000:05 (U8, RO), R17. -/
def Obj.PortRecord.PortState (u : Nat) : Nat := objKey (0x3000 + u) (0x05)

/-- 0x3000:06 (U8, RO), R154. -/
def Obj.PortRecord.HeadStatus (u : Nat) : Nat := objKey (0x3000 + u) (0x06)

/-- 0x3000:07 (U8, RO), R154. -/
def Obj.PortRecord.HeadHolder (u : Nat) : Nat := objKey (0x3000 + u) (0x07)

/-- 0x3000:08 (U32, RO), R154. -/
def Obj.PortRecord.PrimaryFails (u : Nat) : Nat := objKey (0x3000 + u) (0x08)

/-- 0x3000:09 (U32, RO), R154. -/
def Obj.PortRecord.RetryRecovered (u : Nat) : Nat := objKey (0x3000 + u) (0x09)

/-- 0x3000:0A (U32, RO), R154. -/
def Obj.PortRecord.TicksFailed (u : Nat) : Nat := objKey (0x3000 + u) (0x0A)

/-- 0x3000:0B (U32, RO), R154. -/
def Obj.PortRecord.CrcErrors (u : Nat) : Nat := objKey (0x3000 + u) (0x0B)

/-- 0x3000:0C (U32, RO), R154. -/
def Obj.PortRecord.CodeErrors (u : Nat) : Nat := objKey (0x3000 + u) (0x0C)

/-- 0x3000:0D (U32, RO), R154. -/
def Obj.PortRecord.NoResponse (u : Nat) : Nat := objKey (0x3000 + u) (0x0D)

/-- 0x3000:0E (U32, RO), R154. -/
def Obj.PortRecord.HeadRxErrors (u : Nat) : Nat := objKey (0x3000 + u) (0x0E)

/-- 0x3000:0F (U32, RO), R154. -/
def Obj.PortRecord.SeqRejects (u : Nat) : Nat := objKey (0x3000 + u) (0x0F)

/-- 0x3000:10 (U32, RO), R154. -/
def Obj.PortRecord.ConsecutiveFailed (u : Nat) : Nat := objKey (0x3000 + u) (0x10)

/-- 0x3000:11 (U8, RO), R154. -/
def Obj.PortRecord.WireDelay (u : Nat) : Nat := objKey (0x3000 + u) (0x11)

/-- 0x3000:12 (U16, RO), R154. -/
def Obj.PortRecord.TrainAttempts (u : Nat) : Nat := objKey (0x3000 + u) (0x12)

/-- 0x3000:13 (U8, RW), R154. -/
def Obj.PortRecord.HoldLimit (u : Nat) : Nat := objKey (0x3000 + u) (0x13)

/-- 0x3000:14 (U16, RW), R154. -/
def Obj.PortRecord.DegradeThreshold (u : Nat) : Nat := objKey (0x3000 + u) (0x14)

/-- 0x3000:15 (U16, RO), R154. -/
def Obj.PortRecord.HeadVendor (u : Nat) : Nat := objKey (0x3000 + u) (0x15)

/-- 0x3000:16 (U16, RO), R154. -/
def Obj.PortRecord.HeadRevision (u : Nat) : Nat := objKey (0x3000 + u) (0x16)

/-- 0x3000:17 (U64, RO), R154. -/
def Obj.PortRecord.HeadSerial (u : Nat) : Nat := objKey (0x3000 + u) (0x17)

/-- 0x3000:18 (U16, RO), R154. -/
def Obj.PortRecord.HeadCaps (u : Nat) : Nat := objKey (0x3000 + u) (0x18)

/-- 0x3000:19 (U8, RO), R154. -/
def Obj.PortRecord.OneShotLast (u : Nat) : Nat := objKey (0x3000 + u) (0x19)

/-- 0x3000:1A (U16, RW), R154. -/
def Obj.PortRecord.InjectCrc (u : Nat) : Nat := objKey (0x3000 + u) (0x1A)

/-- 0x3000:1B (U8, RW), R154. -/
def Obj.PortRecord.SafeBreaker (u : Nat) : Nat := objKey (0x3000 + u) (0x1B)

/-- 0x3000:1C (U8, RW), R188. -/
def Obj.PortRecord.SwitchMult (u : Nat) : Nat := objKey (0x3000 + u) (0x1C)

/-- 0x3000:1D (U16, RO), R188. -/
def Obj.PortRecord.Inductance (u : Nat) : Nat := objKey (0x3000 + u) (0x1D)

/-- 0x3000:1E (U16, RO), R188. -/
def Obj.PortRecord.Turns (u : Nat) : Nat := objKey (0x3000 + u) (0x1E)

/-- 0x3000:1F (U16, RO), R188. -/
def Obj.PortRecord.SenseTol (u : Nat) : Nat := objKey (0x3000 + u) (0x1F)

/-- 0x3000:20 (I32, RO), R188. -/
def Obj.PortRecord.Trim (u : Nat) : Nat := objKey (0x3000 + u) (0x20)

/-- 0x3000:21 (U16, RO), R188. -/
def Obj.PortRecord.IpkRef (u : Nat) : Nat := objKey (0x3000 + u) (0x21)

/-- 0x3000:22 (U16, RO), R188. -/
def Obj.PortRecord.Slope (u : Nat) : Nat := objKey (0x3000 + u) (0x22)

/-- 0x3000:23 (U16, RO), R188. -/
def Obj.PortRecord.PhaseOffset (u : Nat) : Nat := objKey (0x3000 + u) (0x23)

/-- 0x3000:24 (U8, RO), R188. -/
def Obj.PortRecord.Mode (u : Nat) : Nat := objKey (0x3000 + u) (0x24)

/-- 0x3000:25 (U32, RO), R188. -/
def Obj.PortRecord.RunCycles (u : Nat) : Nat := objKey (0x3000 + u) (0x25)

/-- 0x3000:26 (I16, RO), R188. -/
def Obj.PortRecord.ZeroCalOffset (u : Nat) : Nat := objKey (0x3000 + u) (0x26)

/-- 0x3000:27 (U8, RW), R216. -/
def Obj.PortRecord.MainsLine (u : Nat) : Nat := objKey (0x3000 + u) (0x27)

/-- 0x3000:28 (U8, RO), R292. -/
def Obj.PortRecord.Role (u : Nat) : Nat := objKey (0x3000 + u) (0x28)

/-- 0x3000:29 (U16, RO), R155. -/
def Obj.PortRecord.CfgWriteResult (u : Nat) : Nat := objKey (0x3000 + u) (0x29)

/-- 0x3400:01 (U32, RW), R287. -/
def Obj.FeedRecord.InputUv (u : Nat) : Nat := objKey (0x3400 + u) (0x01)

/-- 0x3400:02 (U32, RW), R287. -/
def Obj.FeedRecord.InputOv (u : Nat) : Nat := objKey (0x3400 + u) (0x02)

/-- 0x3400:03 (U16, RW), R287. -/
def Obj.FeedRecord.InsertionDelay (u : Nat) : Nat := objKey (0x3400 + u) (0x03)

/-- 0x3400:04 (U16, RW), R287. -/
def Obj.FeedRecord.InputFaultTicks (u : Nat) : Nat := objKey (0x3400 + u) (0x04)

/-- 0x3400:05 (U8, RW), R287. -/
def Obj.FeedRecord.AutoReclose (u : Nat) : Nat := objKey (0x3400 + u) (0x05)

/-- 0x3400:06 (U32, RW), R287. -/
def Obj.FeedRecord.RatedCurrent (u : Nat) : Nat := objKey (0x3400 + u) (0x06)

/-- 0x3400:07 (U32, RW), R287. -/
def Obj.FeedRecord.LinearLimit (u : Nat) : Nat := objKey (0x3400 + u) (0x07)

/-- 0x3400:08 (U32, RW), R287. -/
def Obj.FeedRecord.InrushLimit (u : Nat) : Nat := objKey (0x3400 + u) (0x08)

/-- 0x3400:09 (U16, RW), R287. -/
def Obj.FeedRecord.GateRamp (u : Nat) : Nat := objKey (0x3400 + u) (0x09)

/-- 0x3400:0A (U16, RW), R287. -/
def Obj.FeedRecord.TGate (u : Nat) : Nat := objKey (0x3400 + u) (0x0A)

/-- 0x3400:0B (U16, RW), R287. -/
def Obj.FeedRecord.CloseTimeout (u : Nat) : Nat := objKey (0x3400 + u) (0x0B)

/-- 0x3400:0C (U16, RW), R287. -/
def Obj.FeedRecord.CloseFraction (u : Nat) : Nat := objKey (0x3400 + u) (0x0C)

/-- 0x3400:0D (U8, RW), R287. -/
def Obj.FeedRecord.CurveMode (u : Nat) : Nat := objKey (0x3400 + u) (0x0D)

/-- 0x3400:0E–15 (U16, RW), R287. -/
def Obj.FeedRecord.CurveI (u i : Nat) : Nat := objKey (0x3400 + u) (0x0E + i)

/-- 0x3400:16–1D (U32, RW), R287. -/
def Obj.FeedRecord.CurveT (u i : Nat) : Nat := objKey (0x3400 + u) (0x16 + i)

/-- 0x3400:1E (U16, RW), R287. -/
def Obj.FeedRecord.CoolTime (u : Nat) : Nat := objKey (0x3400 + u) (0x1E)

/-- 0x3400:1F (U32, RW), R287. -/
def Obj.FeedRecord.TimerLimit (u : Nat) : Nat := objKey (0x3400 + u) (0x1F)

/-- 0x3400:20 (U32, RW), R287. -/
def Obj.FeedRecord.FaultTimer (u : Nat) : Nat := objKey (0x3400 + u) (0x20)

/-- 0x3400:21 (U8, RW), R287. -/
def Obj.FeedRecord.RetryLimit (u : Nat) : Nat := objKey (0x3400 + u) (0x21)

/-- 0x3400:22 (U16, RW), R287. -/
def Obj.FeedRecord.RetryBackoff (u : Nat) : Nat := objKey (0x3400 + u) (0x22)

/-- 0x3400:23 (U32, RW), R287. -/
def Obj.FeedRecord.RetryResetCycles (u : Nat) : Nat := objKey (0x3400 + u) (0x23)

/-- 0x3400:24 (U8, WO), R287. -/
def Obj.FeedRecord.ClearSuspect (u : Nat) : Nat := objKey (0x3400 + u) (0x24)

/-- 0x3400:25 (U8, RO), R287. -/
def Obj.FeedRecord.State (u : Nat) : Nat := objKey (0x3400 + u) (0x25)

/-- 0x3400:26 (I32, RO), R287. -/
def Obj.FeedRecord.Current (u : Nat) : Nat := objKey (0x3400 + u) (0x26)

/-- 0x3400:27 (I32, RO), R287. -/
def Obj.FeedRecord.InputVoltage (u : Nat) : Nat := objKey (0x3400 + u) (0x27)

/-- 0x3400:28 (I32, RO), R287. -/
def Obj.FeedRecord.OutputVoltage (u : Nat) : Nat := objKey (0x3400 + u) (0x28)

/-- 0x3400:29 (I16, RO), R287. -/
def Obj.FeedRecord.GateVoltage (u : Nat) : Nat := objKey (0x3400 + u) (0x29)

/-- 0x3400:2A (U16, RO), R287. -/
def Obj.FeedRecord.CurveAccumulator (u : Nat) : Nat := objKey (0x3400 + u) (0x2A)

/-- 0x3400:2B (U32, RO), R287. -/
def Obj.FeedRecord.TripCount (u : Nat) : Nat := objKey (0x3400 + u) (0x2B)

/-- 0x3400:2C (U8, RO), R287. -/
def Obj.FeedRecord.RetriesUsed (u : Nat) : Nat := objKey (0x3400 + u) (0x2C)

/-- 0x3400:2D (U32, RO), R287. -/
def Obj.FeedRecord.RetryRemaining (u : Nat) : Nat := objKey (0x3400 + u) (0x2D)

/-- 0x3400:2E (U8, RO), R287. -/
def Obj.FeedRecord.LastOpenCause (u : Nat) : Nat := objKey (0x3400 + u) (0x2E)

/-- 0x3400:2F (U16, RO), R287. -/
def Obj.FeedRecord.LastOpenEpoch (u : Nat) : Nat := objKey (0x3400 + u) (0x2F)

/-- 0x3400:30 (U32, RO), R287. -/
def Obj.FeedRecord.LastOpenCycle (u : Nat) : Nat := objKey (0x3400 + u) (0x30)

/-- 0x3400:31 (U16, RO), R287. -/
def Obj.FeedRecord.LastOpenTick (u : Nat) : Nat := objKey (0x3400 + u) (0x31)

/-- 0x3400:32 (U32, RO), R287. -/
def Obj.FeedRecord.CloseCount (u : Nat) : Nat := objKey (0x3400 + u) (0x32)

/-- 0x3400:33 (U32, RO), R287. -/
def Obj.FeedRecord.IlimInForce (u : Nat) : Nat := objKey (0x3400 + u) (0x33)

/-- 0x3400:40 (U8, RW), R309. -/
def Obj.FeedRecord.Priority (u : Nat) : Nat := objKey (0x3400 + u) (0x40)

/-- 0x3400:41 (U32, RW), R309. -/
def Obj.FeedRecord.Floor (u : Nat) : Nat := objKey (0x3400 + u) (0x41)

/-- 0x3400:42 (U32, RW), R309. -/
def Obj.FeedRecord.ContractCap (u : Nat) : Nat := objKey (0x3400 + u) (0x42)

/-- 0x3400:43 (U8, RW), R309. -/
def Obj.FeedRecord.NotifyMask (u : Nat) : Nat := objKey (0x3400 + u) (0x43)

/-- 0x3400:44 (U32, RO), R309. -/
def Obj.FeedRecord.Demand (u : Nat) : Nat := objKey (0x3400 + u) (0x44)

/-- 0x3400:45 (U32, RO), R309. -/
def Obj.FeedRecord.Request (u : Nat) : Nat := objKey (0x3400 + u) (0x45)

/-- 0x3400:46 (U32, RO), R309. -/
def Obj.FeedRecord.Allocation (u : Nat) : Nat := objKey (0x3400 + u) (0x46)

/-- 0x3400:47 (U8, RO), R309. -/
def Obj.FeedRecord.CapState (u : Nat) : Nat := objKey (0x3400 + u) (0x47)

/-- 0x3400:48 (U32, RO), R309. -/
def Obj.FeedRecord.CapCurrent (u : Nat) : Nat := objKey (0x3400 + u) (0x48)

/-- 0x3400:49 (U32, RO), R309. -/
def Obj.FeedRecord.NextAllocation (u : Nat) : Nat := objKey (0x3400 + u) (0x49)

/-- 0x3400:4A (U8, RO), R309. -/
def Obj.FeedRecord.NextCapState (u : Nat) : Nat := objKey (0x3400 + u) (0x4A)

/-- 0x3400:4B (U32, RO), R309. -/
def Obj.FeedRecord.ContingencyAllocation (u : Nat) : Nat := objKey (0x3400 + u) (0x4B)

/-- 0x3400:4C (U32, RO), R309. -/
def Obj.FeedRecord.CappedCycles (u : Nat) : Nat := objKey (0x3400 + u) (0x4C)

/-- 0x3400:4D (U32, RO), R309. -/
def Obj.FeedRecord.CapNotices (u : Nat) : Nat := objKey (0x3400 + u) (0x4D)

/-- 0x3600:01 (U8, RW), R266. -/
def Obj.StringRecord.VoltageChannel (u : Nat) : Nat := objKey (0x3600 + u) (0x01)

/-- 0x3600:02 (U8, RW), R266. -/
def Obj.StringRecord.CurrentChannel (u : Nat) : Nat := objKey (0x3600 + u) (0x02)

/-- 0x3600:03 (U8, RW), R266. -/
def Obj.StringRecord.ThermChannel (u : Nat) : Nat := objKey (0x3600 + u) (0x03)

/-- 0x3600:04 (U16, RW), R266. -/
def Obj.StringRecord.CellCount (u : Nat) : Nat := objKey (0x3600 + u) (0x04)

/-- 0x3600:05 (U32, RW), R266. -/
def Obj.StringRecord.RatedCapacity (u : Nat) : Nat := objKey (0x3600 + u) (0x05)

/-- 0x3600:06 (U16, RW), R266. -/
def Obj.StringRecord.ChargeVoltage (u : Nat) : Nat := objKey (0x3600 + u) (0x06)

/-- 0x3600:07 (U16, RW), R266. -/
def Obj.StringRecord.ChargeWarnVoltage (u : Nat) : Nat := objKey (0x3600 + u) (0x07)

/-- 0x3600:08 (U16, RW), R266. -/
def Obj.StringRecord.ChargeStopVoltage (u : Nat) : Nat := objKey (0x3600 + u) (0x08)

/-- 0x3600:09 (U32, RW), R266. -/
def Obj.StringRecord.MaxChargeCurrent (u : Nat) : Nat := objKey (0x3600 + u) (0x09)

/-- 0x3600:0A (U32, RW), R266. -/
def Obj.StringRecord.TaperCurrent (u : Nat) : Nat := objKey (0x3600 + u) (0x0A)

/-- 0x3600:0B (U16, RW), R266. -/
def Obj.StringRecord.TaperCycles (u : Nat) : Nat := objKey (0x3600 + u) (0x0B)

/-- 0x3600:0C (U16, RW), R266. -/
def Obj.StringRecord.RechargeSoc (u : Nat) : Nat := objKey (0x3600 + u) (0x0C)

/-- 0x3600:0D (U32, RW), R266. -/
def Obj.StringRecord.MaxDischargeCurrent (u : Nat) : Nat := objKey (0x3600 + u) (0x0D)

/-- 0x3600:0E (U16, RW), R266. -/
def Obj.StringRecord.W1Soc (u : Nat) : Nat := objKey (0x3600 + u) (0x0E)

/-- 0x3600:0F (U16, RW), R266. -/
def Obj.StringRecord.W2Soc (u : Nat) : Nat := objKey (0x3600 + u) (0x0F)

/-- 0x3600:10 (U16, RW), R266. -/
def Obj.StringRecord.W2Derate (u : Nat) : Nat := objKey (0x3600 + u) (0x10)

/-- 0x3600:11 (U16, RW), R266. -/
def Obj.StringRecord.CutoffSoc (u : Nat) : Nat := objKey (0x3600 + u) (0x11)

/-- 0x3600:12 (U16, RW), R266. -/
def Obj.StringRecord.CutoffVoltage (u : Nat) : Nat := objKey (0x3600 + u) (0x12)

/-- 0x3600:13 (U16, RW), R266. -/
def Obj.StringRecord.CutoffTicks (u : Nat) : Nat := objKey (0x3600 + u) (0x13)

/-- 0x3600:14 (U16, RW), R266. -/
def Obj.StringRecord.RecoverSoc (u : Nat) : Nat := objKey (0x3600 + u) (0x14)

/-- 0x3600:15 (I16, RW), R266. -/
def Obj.StringRecord.ChargeTempLow (u : Nat) : Nat := objKey (0x3600 + u) (0x15)

/-- 0x3600:16 (I16, RW), R266. -/
def Obj.StringRecord.ChargeTempHigh (u : Nat) : Nat := objKey (0x3600 + u) (0x16)

/-- 0x3600:17 (I16, RW), R266. -/
def Obj.StringRecord.DischargeTempLow (u : Nat) : Nat := objKey (0x3600 + u) (0x17)

/-- 0x3600:18 (I16, RW), R266. -/
def Obj.StringRecord.DischargeTempHigh (u : Nat) : Nat := objKey (0x3600 + u) (0x18)

/-- 0x3600:19 (U16, RW), R266. -/
def Obj.StringRecord.DerateBand (u : Nat) : Nat := objKey (0x3600 + u) (0x19)

/-- 0x3600:1A (U32, RW), R266. -/
def Obj.StringRecord.ThermPullup (u : Nat) : Nat := objKey (0x3600 + u) (0x1A)

/-- 0x3600:1B (U16, RW), R266. -/
def Obj.StringRecord.ThermBias (u : Nat) : Nat := objKey (0x3600 + u) (0x1B)

/-- 0x3600:1C (U32, RW), R266. -/
def Obj.StringRecord.ThermNominal (u : Nat) : Nat := objKey (0x3600 + u) (0x1C)

/-- 0x3600:1D (U16, RW), R266. -/
def Obj.StringRecord.ThermBeta (u : Nat) : Nat := objKey (0x3600 + u) (0x1D)

/-- 0x3600:1E (U16, RW), R266. -/
def Obj.StringRecord.ThermOpenLevel (u : Nat) : Nat := objKey (0x3600 + u) (0x1E)

/-- 0x3600:1F (U16, RW), R266. -/
def Obj.StringRecord.ThermShortLevel (u : Nat) : Nat := objKey (0x3600 + u) (0x1F)

/-- 0x3600:20 (U8, RW), R266. -/
def Obj.StringRecord.PresenceCycles (u : Nat) : Nat := objKey (0x3600 + u) (0x20)

/-- 0x3600:21 (U32, RW), R266. -/
def Obj.StringRecord.RestCurrent (u : Nat) : Nat := objKey (0x3600 + u) (0x21)

/-- 0x3600:22 (U32, RW), R266. -/
def Obj.StringRecord.RestCycles (u : Nat) : Nat := objKey (0x3600 + u) (0x22)

/-- 0x3600:23 (U16, RW), R266. -/
def Obj.StringRecord.OcvMinSlope (u : Nat) : Nat := objKey (0x3600 + u) (0x23)

/-- 0x3600:24 (U16, RW), R266. -/
def Obj.StringRecord.ChargeEfficiency (u : Nat) : Nat := objKey (0x3600 + u) (0x24)

/-- 0x3600:25–2F (U16, RW), R266. -/
def Obj.StringRecord.OcvTable (u i : Nat) : Nat := objKey (0x3600 + u) (0x25 + i)

/-- 0x3600:30 (U8, RW), R266. -/
def Obj.StringRecord.AuthPort (u : Nat) : Nat := objKey (0x3600 + u) (0x30)

/-- 0x3600:31 (U8, RW), R266. -/
def Obj.StringRecord.AuthAddress (u : Nat) : Nat := objKey (0x3600 + u) (0x31)

/-- 0x3600:32 (U8, RW), R266. -/
def Obj.StringRecord.AuthPolicy (u : Nat) : Nat := objKey (0x3600 + u) (0x32)

/-- 0x3600:33 (U32, RW), R266. -/
def Obj.StringRecord.AuthInterval (u : Nat) : Nat := objKey (0x3600 + u) (0x33)

/-- 0x3600:34 (DOMAIN, 32 bytes, WO), R266. -/
def Obj.StringRecord.AuthKey (u : Nat) : Nat := objKey (0x3600 + u) (0x34)

/-- 0x3600:35 (U8, WO), R266. -/
def Obj.StringRecord.Authenticate (u : Nat) : Nat := objKey (0x3600 + u) (0x35)

/-- 0x3600:36 (U16, RW), R266. -/
def Obj.StringRecord.StringTestCycles (u : Nat) : Nat := objKey (0x3600 + u) (0x36)

/-- 0x3600:37 (U16, RW), R266. -/
def Obj.StringRecord.WarnInterruptMask (u : Nat) : Nat := objKey (0x3600 + u) (0x37)

/-- 0x3600:40 (U8, RO), R266. -/
def Obj.StringRecord.Presence (u : Nat) : Nat := objKey (0x3600 + u) (0x40)

/-- 0x3600:41 (U8, RO), R266. -/
def Obj.StringRecord.Identity (u : Nat) : Nat := objKey (0x3600 + u) (0x41)

/-- 0x3600:42 (U8, RO), R266. -/
def Obj.StringRecord.Mode (u : Nat) : Nat := objKey (0x3600 + u) (0x42)

/-- 0x3600:43 (U8, RO), R266. -/
def Obj.StringRecord.DischargeLevel (u : Nat) : Nat := objKey (0x3600 + u) (0x43)

/-- 0x3600:44 (U8, RO), R266. -/
def Obj.StringRecord.ChargeLevel (u : Nat) : Nat := objKey (0x3600 + u) (0x44)

/-- 0x3600:45 (U16, RO), R266. -/
def Obj.StringRecord.Inhibit (u : Nat) : Nat := objKey (0x3600 + u) (0x45)

/-- 0x3600:46 (I32, RO), R266. -/
def Obj.StringRecord.Voltage (u : Nat) : Nat := objKey (0x3600 + u) (0x46)

/-- 0x3600:47 (I32, RO), R266. -/
def Obj.StringRecord.Current (u : Nat) : Nat := objKey (0x3600 + u) (0x47)

/-- 0x3600:48 (I16, RO), R266. -/
def Obj.StringRecord.Temperature (u : Nat) : Nat := objKey (0x3600 + u) (0x48)

/-- 0x3600:49 (U16, RO), R266. -/
def Obj.StringRecord.Soc (u : Nat) : Nat := objKey (0x3600 + u) (0x49)

/-- 0x3600:4A (U32, RO), R266. -/
def Obj.StringRecord.RemainingCharge (u : Nat) : Nat := objKey (0x3600 + u) (0x4A)

/-- 0x3600:4B (U32, RO), R266. -/
def Obj.StringRecord.CapacityEstimate (u : Nat) : Nat := objKey (0x3600 + u) (0x4B)

/-- 0x3600:4C (U16, RO), R266. -/
def Obj.StringRecord.Soh (u : Nat) : Nat := objKey (0x3600 + u) (0x4C)

/-- 0x3600:4D (U16, RO), R266. -/
def Obj.StringRecord.EstFlags (u : Nat) : Nat := objKey (0x3600 + u) (0x4D)

/-- 0x3600:4E (U32, RO), R266. -/
def Obj.StringRecord.ChargeLimit (u : Nat) : Nat := objKey (0x3600 + u) (0x4E)

/-- 0x3600:4F (U32, RO), R266. -/
def Obj.StringRecord.DischargeLimit (u : Nat) : Nat := objKey (0x3600 + u) (0x4F)

/-- 0x3600:50 (U16, RO), R266. -/
def Obj.StringRecord.SupportWeight (u : Nat) : Nat := objKey (0x3600 + u) (0x50)

/-- 0x3600:51 (U64, RO), R266. -/
def Obj.StringRecord.PackId (u : Nat) : Nat := objKey (0x3600 + u) (0x51)

/-- 0x3600:52 (U32, RO), R266. -/
def Obj.StringRecord.AuthAttempts (u : Nat) : Nat := objKey (0x3600 + u) (0x52)

/-- 0x3600:53 (U32, RO), R266. -/
def Obj.StringRecord.AuthFailures (u : Nat) : Nat := objKey (0x3600 + u) (0x53)

/-- 0x3600:54 (U16, RO), R266. -/
def Obj.StringRecord.LastAuthEpoch (u : Nat) : Nat := objKey (0x3600 + u) (0x54)

/-- 0x3600:55 (U32, RO), R266. -/
def Obj.StringRecord.LastAuthCycle (u : Nat) : Nat := objKey (0x3600 + u) (0x55)

/-- 0x3600:56 (U8, RO), R266. -/
def Obj.StringRecord.TestStatus (u : Nat) : Nat := objKey (0x3600 + u) (0x56)

/-- 0x3600:57 (U32, RO), R266. -/
def Obj.StringRecord.InternalResistance (u : Nat) : Nat := objKey (0x3600 + u) (0x57)

/-- 0x3600:58 (U32, RO), R266. -/
def Obj.StringRecord.DischargedAh (u : Nat) : Nat := objKey (0x3600 + u) (0x58)

/-- 0x3600:59 (U16, RO), R266. -/
def Obj.StringRecord.LastAnchorSoc (u : Nat) : Nat := objKey (0x3600 + u) (0x59)

/-- 0x3700:01 (U8, RW), R212. -/
def Obj.Channel.Enable (u : Nat) : Nat := objKey (0x3700 + u) (0x01)

/-- 0x3700:02 (U8, RW (RO on IC)), R212. -/
def Obj.Channel.Range (u : Nat) : Nat := objKey (0x3700 + u) (0x02)

/-- 0x3700:03 (U8, RW (RO on IC)), R212. -/
def Obj.Channel.Mode (u : Nat) : Nat := objKey (0x3700 + u) (0x03)

/-- 0x3700:04 (U32, RW), R212. -/
def Obj.Channel.RectAngle (u : Nat) : Nat := objKey (0x3700 + u) (0x04)

/-- 0x3700:05 (U8, RW), R212. -/
def Obj.Channel.AvgShift (u : Nat) : Nat := objKey (0x3700 + u) (0x05)

/-- 0x3700:06 (I32, RW (RO on IC)), R212. -/
def Obj.Channel.Scale (u : Nat) : Nat := objKey (0x3700 + u) (0x06)

/-- 0x3700:07 (U8, RW), R212. -/
def Obj.Channel.EngUnit (u : Nat) : Nat := objKey (0x3700 + u) (0x07)

/-- 0x3700:08 (I32, RO), R212. -/
def Obj.Channel.Result (u : Nat) : Nat := objKey (0x3700 + u) (0x08)

/-- 0x3700:09 (U16, RO), R212. -/
def Obj.Channel.Flags (u : Nat) : Nat := objKey (0x3700 + u) (0x09)

/-- 0x3700:0A (U16, RO), R212. -/
def Obj.Channel.ResultEpoch (u : Nat) : Nat := objKey (0x3700 + u) (0x0A)

/-- 0x3700:0B (U32, RO), R212. -/
def Obj.Channel.ResultCycle (u : Nat) : Nat := objKey (0x3700 + u) (0x0B)

/-- 0x3700:0C (I32, RO), R212. -/
def Obj.Channel.Value (u : Nat) : Nat := objKey (0x3700 + u) (0x0C)

/-- 0x3700:0D (I32, RO), R212. -/
def Obj.Channel.AvgSum (u : Nat) : Nat := objKey (0x3700 + u) (0x0D)

/-- 0x3700:0E (I32, RO), R212. -/
def Obj.Channel.Average (u : Nat) : Nat := objKey (0x3700 + u) (0x0E)

/-- 0x3700:0F (I32, RO), R212. -/
def Obj.Channel.AvgValue (u : Nat) : Nat := objKey (0x3700 + u) (0x0F)

/-- 0x3700:10 (U32, RO), R212. -/
def Obj.Channel.AvgCycle (u : Nat) : Nat := objKey (0x3700 + u) (0x10)

/-- 0x3700:11 (U32, RO), R212. -/
def Obj.Channel.AvgDiscarded (u : Nat) : Nat := objKey (0x3700 + u) (0x11)

/-- 0x3700:12 (I32, RO), R212. -/
def Obj.Channel.LocalResult (u : Nat) : Nat := objKey (0x3700 + u) (0x12)

/-- 0x3700:13 (I32, RO), R212. -/
def Obj.Channel.PartnerResult (u : Nat) : Nat := objKey (0x3700 + u) (0x13)

/-- 0x3700:14 (U32, RW), R212. -/
def Obj.Channel.CrossTol (u : Nat) : Nat := objKey (0x3700 + u) (0x14)

/-- 0x3700:15 (I32, RO), R212. -/
def Obj.Channel.CalOffset0 (u : Nat) : Nat := objKey (0x3700 + u) (0x15)

/-- 0x3700:16 (U32, RO), R212. -/
def Obj.Channel.CalGain0 (u : Nat) : Nat := objKey (0x3700 + u) (0x16)

/-- 0x3700:17 (I32, RO), R212. -/
def Obj.Channel.CalOffset1 (u : Nat) : Nat := objKey (0x3700 + u) (0x17)

/-- 0x3700:18 (U32, RO), R212. -/
def Obj.Channel.CalGain1 (u : Nat) : Nat := objKey (0x3700 + u) (0x18)

/-- 0x3700:19 (U8, WO), R212. -/
def Obj.Channel.Calibrate (u : Nat) : Nat := objKey (0x3700 + u) (0x19)

/-- 0x3700:1A (U8, RO), R212. -/
def Obj.Channel.CalSource (u : Nat) : Nat := objKey (0x3700 + u) (0x1A)

/-- 0x3700:1B (U32, RO), R212. -/
def Obj.Channel.OverRangeCount (u : Nat) : Nat := objKey (0x3700 + u) (0x1B)

/-- 0x3700:1C (U16, RW), R212. -/
def Obj.Channel.ZcHysteresis (u : Nat) : Nat := objKey (0x3700 + u) (0x1C)

/-- 0x3700:1D (U16, RW), R212. -/
def Obj.Channel.ZcFilter (u : Nat) : Nat := objKey (0x3700 + u) (0x1D)

/-- 0x3700:1E (U8, RW), R212. -/
def Obj.Channel.ZcBlank (u : Nat) : Nat := objKey (0x3700 + u) (0x1E)

/-- 0x3700:1F (U32, RO), R212. -/
def Obj.Channel.ZcCount (u : Nat) : Nat := objKey (0x3700 + u) (0x1F)

/-- 0x3740:20 (U8, WO), R213. -/
def Obj.Channel.CalibrateAll : Nat := objKey (0x3740) (0x20)

/-- 0x3740:21 (U8, RO), R213. -/
def Obj.Channel.RefState : Nat := objKey (0x3740) (0x21)

/-- 0x3740:22 (U8, RW), R213. -/
def Obj.Channel.RefLeadCycles : Nat := objKey (0x3740) (0x22)

/-- 0x3740:23 (U8, RO), R213. -/
def Obj.Channel.RefLeadRemaining : Nat := objKey (0x3740) (0x23)

/-- 0x3800:01 (U8, RW), R570. -/
def Obj.RailRecord.Enable (u : Nat) : Nat := objKey (0x3800 + u) (0x01)

/-- 0x3800:02 (U16, RW), R570. -/
def Obj.RailRecord.Setpoint (u : Nat) : Nat := objKey (0x3800 + u) (0x02)

/-- 0x3800:03 (U8, RW), R570. -/
def Obj.RailRecord.Phases (u : Nat) : Nat := objKey (0x3800 + u) (0x03)

/-- 0x3800:04 (U16, RW), R570. -/
def Obj.RailRecord.CurrentLimit (u : Nat) : Nat := objKey (0x3800 + u) (0x04)

/-- 0x3800:05 (U8, RO), R570. -/
def Obj.RailRecord.State (u : Nat) : Nat := objKey (0x3800 + u) (0x05)

/-- 0x3800:06 (U32, RO), R570. -/
def Obj.RailRecord.Voltage (u : Nat) : Nat := objKey (0x3800 + u) (0x06)

/-- 0x3800:07 (U32, RO), R570. -/
def Obj.RailRecord.Current (u : Nat) : Nat := objKey (0x3800 + u) (0x07)

/-- 0x3800:08 (U32, RO), R570. -/
def Obj.RailRecord.UvEvents (u : Nat) : Nat := objKey (0x3800 + u) (0x08)

/-- 0x3800:09 (U32, RO), R570. -/
def Obj.RailRecord.OcEvents (u : Nat) : Nat := objKey (0x3800 + u) (0x09)

/-- 0x3800:0A (U32, RO), R570. -/
def Obj.RailRecord.OvEvents (u : Nat) : Nat := objKey (0x3800 + u) (0x0A)

/-- 0x3900:01 (U8, RW), R327. -/
def Obj.SequenceRecord.RetryLimit (u : Nat) : Nat := objKey (0x3900 + u) (0x01)

/-- 0x3900:02 (U16, RW), R327. -/
def Obj.SequenceRecord.RetryDelay (u : Nat) : Nat := objKey (0x3900 + u) (0x02)

/-- 0x3900:03 (U8, RW), R327. -/
def Obj.SequenceRecord.AutoStart (u : Nat) : Nat := objKey (0x3900 + u) (0x03)

/-- 0x3900:04 (U8, RO), R327. -/
def Obj.SequenceRecord.State (u : Nat) : Nat := objKey (0x3900 + u) (0x04)

/-- 0x3900:05 (U32, RW), R327. -/
def Obj.SequenceRecord.AutoStartAngle (u : Nat) : Nat := objKey (0x3900 + u) (0x05)

/-- 0x3900:06 (U8, RO), R327. -/
def Obj.SequenceRecord.RetriesUsed (u : Nat) : Nat := objKey (0x3900 + u) (0x06)

/-- 0x3900:07 (U16, RO), R327. -/
def Obj.SequenceRecord.StartEpoch (u : Nat) : Nat := objKey (0x3900 + u) (0x07)

/-- 0x3900:08 (U32, RO), R327. -/
def Obj.SequenceRecord.StartCycle (u : Nat) : Nat := objKey (0x3900 + u) (0x08)

/-- 0x3900:09 (U32, RO), R327. -/
def Obj.SequenceRecord.StartAngle (u : Nat) : Nat := objKey (0x3900 + u) (0x09)

/-- 0x3900:0A (U16, RO), R327. -/
def Obj.SequenceRecord.MembersTotal (u : Nat) : Nat := objKey (0x3900 + u) (0x0A)

/-- 0x3900:0B (U16, RO), R327. -/
def Obj.SequenceRecord.MembersUp (u : Nat) : Nat := objKey (0x3900 + u) (0x0B)

/-- 0x3900:0C (U8, RO), R327. -/
def Obj.SequenceRecord.LastResult (u : Nat) : Nat := objKey (0x3900 + u) (0x0C)

/-- 0x3900:0D (U32, RO), R327. -/
def Obj.SequenceRecord.Failures (u : Nat) : Nat := objKey (0x3900 + u) (0x0D)

/-- 0x3900:0E (U8, RO), R327. -/
def Obj.SequenceRecord.LastFailEntry (u : Nat) : Nat := objKey (0x3900 + u) (0x0E)

/-- 0x3900:0F (U16, RO), R327. -/
def Obj.SequenceRecord.LastFailUnit (u : Nat) : Nat := objKey (0x3900 + u) (0x0F)

/-- 0x3900:10 (U8, RO), R327. -/
def Obj.SequenceRecord.LastFailReason (u : Nat) : Nat := objKey (0x3900 + u) (0x10)

/-- 0x3900:11 (U8, RO), R327. -/
def Obj.SequenceRecord.LastSnapshotArea (u : Nat) : Nat := objKey (0x3900 + u) (0x11)

/-- 0x3900:12 (U32, RO), R327. -/
def Obj.SequenceRecord.SnapshotsSkipped (u : Nat) : Nat := objKey (0x3900 + u) (0x12)

/-- 0x3920:01 (U8, RO), R329. -/
def Obj.SeqSnapshotStatus.AreasHeld : Nat := objKey (0x3920) (0x01)

/-- 0x3920:02 (U8, WO), R329. -/
def Obj.SeqSnapshotStatus.Release : Nat := objKey (0x3920) (0x02)

/-- 0x3920:03 (U16, RW), R329. -/
def Obj.SeqSnapshotStatus.SnapshotInterval : Nat := objKey (0x3920) (0x03)

/-- 0x3920:04 (U16, RO), R329. -/
def Obj.SeqSnapshotStatus.LastTakenEpoch : Nat := objKey (0x3920) (0x04)

/-- 0x3920:05 (U32, RO), R329. -/
def Obj.SeqSnapshotStatus.LastTakenCycle : Nat := objKey (0x3920) (0x05)

/-- 0x3921:00 (DOMAIN 16384, RO), R329. -/
def Obj.SnapshotArea.Data (u : Nat) : Nat := objKey (0x3921 + u) (0x00)

/-- 0x3940:01 (U8, RW), R328. -/
def Obj.SlotEntry.Sequence (u : Nat) : Nat := objKey (0x3940 + u) (0x01)

/-- 0x3940:02 (U8, RW), R328. -/
def Obj.SlotEntry.Kind (u : Nat) : Nat := objKey (0x3940 + u) (0x02)

/-- 0x3940:03 (U16, RW), R328. -/
def Obj.SlotEntry.FirstUnit (u : Nat) : Nat := objKey (0x3940 + u) (0x03)

/-- 0x3940:04 (U16, RW), R328. -/
def Obj.SlotEntry.Count (u : Nat) : Nat := objKey (0x3940 + u) (0x04)

/-- 0x3940:05 (U32, RW), R328. -/
def Obj.SlotEntry.OnDelay (u : Nat) : Nat := objKey (0x3940 + u) (0x05)

/-- 0x3940:06 (U32, RW), R328. -/
def Obj.SlotEntry.OffDelay (u : Nat) : Nat := objKey (0x3940 + u) (0x06)

/-- 0x3940:07 (U32, RW), R328. -/
def Obj.SlotEntry.Stagger (u : Nat) : Nat := objKey (0x3940 + u) (0x07)

/-- 0x3940:08 (U32, RW), R328. -/
def Obj.SlotEntry.UpTimeout (u : Nat) : Nat := objKey (0x3940 + u) (0x08)

/-- 0x3940:09 (U8, RW), R328. -/
def Obj.SlotEntry.Critical (u : Nat) : Nat := objKey (0x3940 + u) (0x09)

/-- 0x3940:0A (U16, RO), R328. -/
def Obj.SlotEntry.MembersUp (u : Nat) : Nat := objKey (0x3940 + u) (0x0A)

/-- 0x3940:0B (U32, RO), R328. -/
def Obj.SlotEntry.FailCount (u : Nat) : Nat := objKey (0x3940 + u) (0x0B)

/-- 0x3940:0C (U16, RO), R328. -/
def Obj.SlotEntry.LastFailUnit (u : Nat) : Nat := objKey (0x3940 + u) (0x0C)

/-- 0x3940:0D (U8, RO), R328. -/
def Obj.SlotEntry.LastFailReason (u : Nat) : Nat := objKey (0x3940 + u) (0x0D)

/-- 0x3940:0E (U16, RO), R328. -/
def Obj.SlotEntry.LastFailEpoch (u : Nat) : Nat := objKey (0x3940 + u) (0x0E)

/-- 0x3940:0F (U32, RO), R328. -/
def Obj.SlotEntry.LastFailCycle (u : Nat) : Nat := objKey (0x3940 + u) (0x0F)

/-- 0x3940:10 (U16, RO), R328. -/
def Obj.SlotEntry.LastFailTick (u : Nat) : Nat := objKey (0x3940 + u) (0x10)

/-- 0x3A00:01 (U32, RW), R187. -/
def Obj.GroupRecord.Setpoint (u : Nat) : Nat := objKey (0x3A00 + u) (0x01)

/-- 0x3A00:02 (U16, RW), R187. -/
def Obj.GroupRecord.SetpointSlew (u : Nat) : Nat := objKey (0x3A00 + u) (0x02)

/-- 0x3A00:03 (U32, RW), R187. -/
def Obj.GroupRecord.Kp (u : Nat) : Nat := objKey (0x3A00 + u) (0x03)

/-- 0x3A00:04 (U32, RW), R187. -/
def Obj.GroupRecord.Ki (u : Nat) : Nat := objKey (0x3A00 + u) (0x04)

/-- 0x3A00:05 (U16, RW), R187. -/
def Obj.GroupRecord.SlopeFactor (u : Nat) : Nat := objKey (0x3A00 + u) (0x05)

/-- 0x3A00:06 (U32, RW), R187. -/
def Obj.GroupRecord.PhaseCurrentRating (u : Nat) : Nat := objKey (0x3A00 + u) (0x06)

/-- 0x3A00:07 (U16, RW), R187. -/
def Obj.GroupRecord.TrimGain (u : Nat) : Nat := objKey (0x3A00 + u) (0x07)

/-- 0x3A00:08 (U16, RW), R187. -/
def Obj.GroupRecord.TrimLimit (u : Nat) : Nat := objKey (0x3A00 + u) (0x08)

/-- 0x3A00:09 (U16, RW), R187. -/
def Obj.GroupRecord.AddFraction (u : Nat) : Nat := objKey (0x3A00 + u) (0x09)

/-- 0x3A00:0A (U16, RW), R187. -/
def Obj.GroupRecord.ShedFraction (u : Nat) : Nat := objKey (0x3A00 + u) (0x0A)

/-- 0x3A00:0B (U16, RW), R187. -/
def Obj.GroupRecord.ShedDelay (u : Nat) : Nat := objKey (0x3A00 + u) (0x0B)

/-- 0x3A00:0C (U8, RW), R187. -/
def Obj.GroupRecord.MinRun (u : Nat) : Nat := objKey (0x3A00 + u) (0x0C)

/-- 0x3A00:0D (U16, RW), R187. -/
def Obj.GroupRecord.SoftStartRate (u : Nat) : Nat := objKey (0x3A00 + u) (0x0D)

/-- 0x3A00:0E (I32, RW), R187. -/
def Obj.GroupRecord.SoftValley (u : Nat) : Nat := objKey (0x3A00 + u) (0x0E)

/-- 0x3A00:0F (U16, RW), R187. -/
def Obj.GroupRecord.StartTimeout (u : Nat) : Nat := objKey (0x3A00 + u) (0x0F)

/-- 0x3A00:10 (U32, RW), R187. -/
def Obj.GroupRecord.OvWarn (u : Nat) : Nat := objKey (0x3A00 + u) (0x10)

/-- 0x3A00:11 (U32, RW), R187. -/
def Obj.GroupRecord.OvpLevel (u : Nat) : Nat := objKey (0x3A00 + u) (0x11)

/-- 0x3A00:12 (U8, RO), R187. -/
def Obj.GroupRecord.State (u : Nat) : Nat := objKey (0x3A00 + u) (0x12)

/-- 0x3A00:13 (U8, RO), R187. -/
def Obj.GroupRecord.RunPhases (u : Nat) : Nat := objKey (0x3A00 + u) (0x13)

/-- 0x3A00:14 (U16, RO), R187. -/
def Obj.GroupRecord.LoopOwner (u : Nat) : Nat := objKey (0x3A00 + u) (0x14)

/-- 0x3A00:15 (U32, RO), R187. -/
def Obj.GroupRecord.EffSetpoint (u : Nat) : Nat := objKey (0x3A00 + u) (0x15)

/-- 0x3A00:16 (I32, RO), R187. -/
def Obj.GroupRecord.Feedback (u : Nat) : Nat := objKey (0x3A00 + u) (0x16)

/-- 0x3A00:17 (I32, RO), R187. -/
def Obj.GroupRecord.CurrentCommand (u : Nat) : Nat := objKey (0x3A00 + u) (0x17)

/-- 0x3A00:18 (I32, RO), R187. -/
def Obj.GroupRecord.Integrator (u : Nat) : Nat := objKey (0x3A00 + u) (0x18)

/-- 0x3A00:19 (U32, RO), R187. -/
def Obj.GroupRecord.CurrentLimit (u : Nat) : Nat := objKey (0x3A00 + u) (0x19)

/-- 0x3A00:1A (U16, RO), R187. -/
def Obj.GroupRecord.SharingError (u : Nat) : Nat := objKey (0x3A00 + u) (0x1A)

/-- 0x3A00:1B (U32, RO), R187. -/
def Obj.GroupRecord.ThinEvents (u : Nat) : Nat := objKey (0x3A00 + u) (0x1B)

/-- 0x3A00:1C (U8, RO), R187. -/
def Obj.GroupRecord.LastStartResult (u : Nat) : Nat := objKey (0x3A00 + u) (0x1C)

/-- 0x3A00:20 (U8, RW), R308. -/
def Obj.GroupRecord.RequiredPhases (u : Nat) : Nat := objKey (0x3A00 + u) (0x20)

/-- 0x3A00:21 (U8, RW), R308. -/
def Obj.GroupRecord.MinPhases (u : Nat) : Nat := objKey (0x3A00 + u) (0x21)

/-- 0x3A00:22 (U8, RW), R308. -/
def Obj.GroupRecord.SpareMode (u : Nat) : Nat := objKey (0x3A00 + u) (0x22)

/-- 0x3A00:23 (U16, RW), R308. -/
def Obj.GroupRecord.Derate (u : Nat) : Nat := objKey (0x3A00 + u) (0x23)

/-- 0x3A00:24 (U16, RW), R308. -/
def Obj.GroupRecord.Efficiency (u : Nat) : Nat := objKey (0x3A00 + u) (0x24)

/-- 0x3A00:25 (U8, RO), R308. -/
def Obj.GroupRecord.SupplyState (u : Nat) : Nat := objKey (0x3A00 + u) (0x25)

/-- 0x3A00:26 (U8, RO), R308. -/
def Obj.GroupRecord.UnitsOk (u : Nat) : Nat := objKey (0x3A00 + u) (0x26)

/-- 0x3A00:27 (U8, RO), R308. -/
def Obj.GroupRecord.SparesLeft (u : Nat) : Nat := objKey (0x3A00 + u) (0x27)

/-- 0x3A00:28 (U32, RO), R308. -/
def Obj.GroupRecord.RatedLimit (u : Nat) : Nat := objKey (0x3A00 + u) (0x28)

/-- 0x3A00:29 (U32, RO), R308. -/
def Obj.GroupRecord.AllocLimit (u : Nat) : Nat := objKey (0x3A00 + u) (0x29)

/-- 0x3A00:2A (U32, RO), R308. -/
def Obj.GroupRecord.SpareUsedCount (u : Nat) : Nat := objKey (0x3A00 + u) (0x2A)

/-- 0x3A00:2B (U32, RO), R308. -/
def Obj.GroupRecord.GroupDemand (u : Nat) : Nat := objKey (0x3A00 + u) (0x2B)

/-- 0x3A00:2C (U32, RO), R308. -/
def Obj.GroupRecord.GroupAllocation (u : Nat) : Nat := objKey (0x3A00 + u) (0x2C)

/-- 0x3A00:2D (U16, RO), R308. -/
def Obj.GroupRecord.FeedsCapped (u : Nat) : Nat := objKey (0x3A00 + u) (0x2D)

/-- 0x3A80:01 (U32, RW), R310. -/
def Obj.CappingConfig.RackInputLimit : Nat := objKey (0x3A80) (0x01)

/-- 0x3A80:02 (U16, RW), R310. -/
def Obj.CappingConfig.Headroom : Nat := objKey (0x3A80) (0x02)

/-- 0x3A80:03 (U32, RW), R310. -/
def Obj.CappingConfig.ChargeReserve : Nat := objKey (0x3A80) (0x03)

/-- 0x3A81:01 (U32, RO), R310. -/
def Obj.CappingStatus.Budget : Nat := objKey (0x3A81) (0x01)

/-- 0x3A81:02 (U32, RO), R310. -/
def Obj.CappingStatus.Allocated : Nat := objKey (0x3A81) (0x02)

/-- 0x3A81:03 (U32, RO), R310. -/
def Obj.CappingStatus.ChargeGranted : Nat := objKey (0x3A81) (0x03)

/-- 0x3A81:04 (U16, RO), R310. -/
def Obj.CappingStatus.FeedsCapped : Nat := objKey (0x3A81) (0x04)

/-- 0x3A81:05 (U16, RO), R310. -/
def Obj.CappingStatus.FeedsBelowFloor : Nat := objKey (0x3A81) (0x05)

/-- 0x3A81:06 (U8, RO), R310. -/
def Obj.CappingStatus.RackLimited : Nat := objKey (0x3A81) (0x06)

/-- 0x3A82:01–10 (U32, RO), R304. -/
def Obj.ChargeAllocation.Entry (i : Nat) : Nat := objKey (0x3A82) (0x01 + i)

/-- 0x3B00:01 (U8, RW), R238. -/
def Obj.MainsConfig.FeedCount : Nat := objKey (0x3B00) (0x01)

/-- 0x3B00:02 (U8, RW), R238. -/
def Obj.MainsConfig.FeedMode : Nat := objKey (0x3B00) (0x02)

/-- 0x3B00:03 (U32, RW), R238. -/
def Obj.MainsConfig.NominalVoltage : Nat := objKey (0x3B00) (0x03)

/-- 0x3B00:04 (U16, RW), R238. -/
def Obj.MainsConfig.LossLevel : Nat := objKey (0x3B00) (0x04)

/-- 0x3B00:05 (U8, RW), R238. -/
def Obj.MainsConfig.LossTicks : Nat := objKey (0x3B00) (0x05)

/-- 0x3B00:06 (U16, RW), R238. -/
def Obj.MainsConfig.SagLevel : Nat := objKey (0x3B00) (0x06)

/-- 0x3B00:07 (U16, RW), R238. -/
def Obj.MainsConfig.SwellLevel : Nat := objKey (0x3B00) (0x07)

/-- 0x3B00:08 (U16, RW), R238. -/
def Obj.MainsConfig.SwellTrip : Nat := objKey (0x3B00) (0x08)

/-- 0x3B00:09 (U16, RW), R238. -/
def Obj.MainsConfig.NotchLevel : Nat := objKey (0x3B00) (0x09)

/-- 0x3B00:0A (U16, RW), R238. -/
def Obj.MainsConfig.LineLossTicks : Nat := objKey (0x3B00) (0x0A)

/-- 0x3B00:0B (U16, RW), R238. -/
def Obj.MainsConfig.ThdLevel : Nat := objKey (0x3B00) (0x0B)

/-- 0x3B00:0C (U16, RW), R238. -/
def Obj.MainsConfig.ReturnCycles : Nat := objKey (0x3B00) (0x0C)

/-- 0x3B00:0D (U16, RW), R238. -/
def Obj.MainsConfig.WalkInCycles : Nat := objKey (0x3B00) (0x0D)

/-- 0x3B00:0E (U32, RW), R238. -/
def Obj.MainsConfig.HoldupBusSetpoint : Nat := objKey (0x3B00) (0x0E)

/-- 0x3B00:0F (U16, RW), R238. -/
def Obj.MainsConfig.HoldupSlew : Nat := objKey (0x3B00) (0x0F)

/-- 0x3B00:10 (U32, RW), R238. -/
def Obj.MainsConfig.HoldupKp : Nat := objKey (0x3B00) (0x10)

/-- 0x3B00:11 (U32, RW), R238. -/
def Obj.MainsConfig.HoldupKi : Nat := objKey (0x3B00) (0x11)

/-- 0x3B00:12 (U16, RW), R238. -/
def Obj.MainsConfig.ArmMargin : Nat := objKey (0x3B00) (0x12)

/-- 0x3B00:13 (U32, RW), R238. -/
def Obj.MainsConfig.BusLowLevel : Nat := objKey (0x3B00) (0x13)

/-- 0x3B00:14 (U32, RW), R238. -/
def Obj.MainsConfig.BusCapacitance : Nat := objKey (0x3B00) (0x14)

/-- 0x3B10:01 (U8, RW), R239. -/
def Obj.MainsFeed.SenseSource (u : Nat) : Nat := objKey (0x3B10 + u) (0x01)

/-- 0x3B10:02 (U8, RW), R239. -/
def Obj.MainsFeed.Phases (u : Nat) : Nat := objKey (0x3B10 + u) (0x02)

/-- 0x3B10:03 (U8, RW), R239. -/
def Obj.MainsFeed.RectChannel (u : Nat) : Nat := objKey (0x3B10 + u) (0x03)

/-- 0x3B10:04 (U8, RO), R239. -/
def Obj.MainsFeed.State (u : Nat) : Nat := objKey (0x3B10 + u) (0x04)

/-- 0x3B10:05 (U16, RO), R239. -/
def Obj.MainsFeed.QualCount (u : Nat) : Nat := objKey (0x3B10 + u) (0x05)

/-- 0x3B10:06 (U32, RO), R239. -/
def Obj.MainsFeed.Magnitude (u : Nat) : Nat := objKey (0x3B10 + u) (0x06)

/-- 0x3B10:07–09 (U32, RO), R239. -/
def Obj.MainsFeed.LinePeak (u i : Nat) : Nat := objKey (0x3B10 + u) (0x07 + i)

/-- 0x3B10:0A–0C (I32, RO), R239. -/
def Obj.MainsFeed.LinePhase (u i : Nat) : Nat := objKey (0x3B10 + u) (0x0A + i)

/-- 0x3B10:0D (U32, RO), R239. -/
def Obj.MainsFeed.Frequency (u : Nat) : Nat := objKey (0x3B10 + u) (0x0D)

/-- 0x3B10:0E (U16, RO), R239. -/
def Obj.MainsFeed.ThdMax (u : Nat) : Nat := objKey (0x3B10 + u) (0x0E)

/-- 0x3B10:0F (U8, RO), R239. -/
def Obj.MainsFeed.LastDisturbance (u : Nat) : Nat := objKey (0x3B10 + u) (0x0F)

/-- 0x3B10:10 (U32, RO), R239. -/
def Obj.MainsFeed.Disturbances (u : Nat) : Nat := objKey (0x3B10 + u) (0x10)

/-- 0x3B10:11 (U32, RO), R239. -/
def Obj.MainsFeed.Losses (u : Nat) : Nat := objKey (0x3B10 + u) (0x11)

/-- 0x3B20:01 (U8, RO), R240. -/
def Obj.HoldupStatus.State : Nat := objKey (0x3B20) (0x01)

/-- 0x3B20:02 (U16, RO), R240. -/
def Obj.HoldupStatus.SupportSet : Nat := objKey (0x3B20) (0x02)

/-- 0x3B20:03 (I32, RO), R240. -/
def Obj.HoldupStatus.SupportCommand : Nat := objKey (0x3B20) (0x03)

/-- 0x3B20:04 (I32, RO), R240. -/
def Obj.HoldupStatus.SupportIntegrator : Nat := objKey (0x3B20) (0x04)

/-- 0x3B20:05 (U32, RO), R240. -/
def Obj.HoldupStatus.SupportEffSetpoint : Nat := objKey (0x3B20) (0x05)

/-- 0x3B20:06 (U32, RO), R240. -/
def Obj.HoldupStatus.HandoverCount : Nat := objKey (0x3B20) (0x06)

/-- 0x3B20:07 (U16, RO), R240. -/
def Obj.HoldupStatus.LastTriggerEpoch : Nat := objKey (0x3B20) (0x07)

/-- 0x3B20:08 (U32, RO), R240. -/
def Obj.HoldupStatus.LastTriggerCycle : Nat := objKey (0x3B20) (0x08)

/-- 0x3B20:09 (U16, RO), R240. -/
def Obj.HoldupStatus.LastTriggerTick : Nat := objKey (0x3B20) (0x09)

/-- 0x3B20:0A (U8, RO), R240. -/
def Obj.HoldupStatus.LastTriggerCause : Nat := objKey (0x3B20) (0x0A)

/-- 0x3B20:0B (U32, RO), R240. -/
def Obj.HoldupStatus.LastDip : Nat := objKey (0x3B20) (0x0B)

/-- 0x3B20:0C (U16, RO), R240. -/
def Obj.HoldupStatus.LastDipRatio : Nat := objKey (0x3B20) (0x0C)

/-- 0x3B20:0D (U16, RO), R240. -/
def Obj.HoldupStatus.WalkInProgress : Nat := objKey (0x3B20) (0x0D)

/-- 0x3B20:0E (U32, RO), R240. -/
def Obj.HoldupStatus.BatteryCycles : Nat := objKey (0x3B20) (0x0E)

/-- 0x3B20:0F (U32, RO), R240. -/
def Obj.HoldupStatus.FeedTransfers : Nat := objKey (0x3B20) (0x0F)

/-- 0x3B20:10 (U32, RO), R240. -/
def Obj.HoldupStatus.InputCapacity : Nat := objKey (0x3B20) (0x10)

/-- 0x4000:01 (U16, RO), R361. -/
def Obj.FaultSummary.RootsHeld : Nat := objKey (0x4000) (0x01)

/-- 0x4000:02 (U16, RO), R361. -/
def Obj.FaultSummary.Unacknowledged : Nat := objKey (0x4000) (0x02)

/-- 0x4000:03 (U16, RO), R361. -/
def Obj.FaultSummary.Present : Nat := objKey (0x4000) (0x03)

/-- 0x4000:04 (U16, RO), R361. -/
def Obj.FaultSummary.Pending : Nat := objKey (0x4000) (0x04)

/-- 0x4000:05–07 (U16, RO), R361. -/
def Obj.FaultSummary.HeldC (i : Nat) : Nat := objKey (0x4000) (0x05 + i)

/-- 0x4000:08 (U8, RO), R361. -/
def Obj.FaultSummary.Grave : Nat := objKey (0x4000) (0x08)

/-- 0x4000:09 (U8, RO), R361. -/
def Obj.FaultSummary.FaultN : Nat := objKey (0x4000) (0x09)

/-- 0x4000:0A (U16, RO), R361. -/
def Obj.FaultSummary.NewestRoot : Nat := objKey (0x4000) (0x0A)

/-- 0x4000:0B (U32, RO), R361. -/
def Obj.FaultSummary.RootsCreated : Nat := objKey (0x4000) (0x0B)

/-- 0x4000:0C (U32, RO), R361. -/
def Obj.FaultSummary.ReportsCoalesced : Nat := objKey (0x4000) (0x0C)

/-- 0x4000:0D (U32, RO), R361. -/
def Obj.FaultSummary.LinkedTotal : Nat := objKey (0x4000) (0x0D)

/-- 0x4000:0E (U32, RO), R361. -/
def Obj.FaultSummary.Escalations : Nat := objKey (0x4000) (0x0E)

/-- 0x4000:0F (U32, RO), R361. -/
def Obj.FaultSummary.TableReplacements : Nat := objKey (0x4000) (0x0F)

/-- 0x4000:10 (DOMAIN, 28 bytes, RO), R361. -/
def Obj.FaultSummary.StickyMap : Nat := objKey (0x4000) (0x10)

/-- 0x4000:11 (U16, RO), R361. -/
def Obj.FaultSummary.FirebreaksOpen : Nat := objKey (0x4000) (0x11)

/-- 0x4001:01 (U32, WO), R362. -/
def Obj.FaultControl.Acknowledge : Nat := objKey (0x4001) (0x01)

/-- 0x4001:02 (U32, WO), R362. -/
def Obj.FaultControl.Withhold : Nat := objKey (0x4001) (0x02)

/-- 0x4001:03 (U32, WO), R362. -/
def Obj.FaultControl.Clear : Nat := objKey (0x4001) (0x03)

/-- 0x4001:04 (U8, WO), R362. -/
def Obj.FaultControl.AcknowledgeAll : Nat := objKey (0x4001) (0x04)

/-- 0x4001:05 (U8, WO), R362. -/
def Obj.FaultControl.ClearAll : Nat := objKey (0x4001) (0x05)

/-- 0x4001:06 (U8, WO), R362. -/
def Obj.FaultControl.ClearSticky : Nat := objKey (0x4001) (0x06)

/-- 0x4001:07 (U8, RO), R362. -/
def Obj.FaultControl.Result : Nat := objKey (0x4001) (0x07)

/-- 0x4002:01 (U32, RW), R363. -/
def Obj.FaultClassConfig.WindowC1 : Nat := objKey (0x4002) (0x01)

/-- 0x4002:02 (U32, RW), R363. -/
def Obj.FaultClassConfig.WindowC2 : Nat := objKey (0x4002) (0x02)

/-- 0x4003:01 (U32, RW), R363. -/
def Obj.Firebreak.Firebreak1 : Nat := objKey (0x4003) (0x01)

/-- 0x4003:02 (U32, RW), R363. -/
def Obj.Firebreak.Firebreak2 : Nat := objKey (0x4003) (0x02)

/-- 0x4003:03 (U32, RW), R363. -/
def Obj.Firebreak.Firebreak3 : Nat := objKey (0x4003) (0x03)

/-- 0x4003:04 (U32, RW), R363. -/
def Obj.Firebreak.Firebreak4 : Nat := objKey (0x4003) (0x04)

/-- 0x4003:05 (U32, RW), R363. -/
def Obj.Firebreak.Firebreak5 : Nat := objKey (0x4003) (0x05)

/-- 0x4003:06 (U32, RW), R363. -/
def Obj.Firebreak.Firebreak6 : Nat := objKey (0x4003) (0x06)

/-- 0x4003:07 (U32, RW), R363. -/
def Obj.Firebreak.Firebreak7 : Nat := objKey (0x4003) (0x07)

/-- 0x4003:08 (U32, RW), R363. -/
def Obj.Firebreak.Firebreak8 : Nat := objKey (0x4003) (0x08)

/-- 0x4003:09 (U32, RW), R363. -/
def Obj.Firebreak.Firebreak9 : Nat := objKey (0x4003) (0x09)

/-- 0x4003:0A (U32, RW), R363. -/
def Obj.Firebreak.Firebreak10 : Nat := objKey (0x4003) (0x0A)

/-- 0x4004:01 (U8, RW), R364. -/
def Obj.FaultInject.InjectEnable : Nat := objKey (0x4004) (0x01)

/-- 0x4004:02 (U8, RW), R364. -/
def Obj.FaultInject.TargetSeat : Nat := objKey (0x4004) (0x02)

/-- 0x4004:03 (U8, RW), R364. -/
def Obj.FaultInject.SramTarget : Nat := objKey (0x4004) (0x03)

/-- 0x4004:04 (U16, RW), R364. -/
def Obj.FaultInject.SramUnit : Nat := objKey (0x4004) (0x04)

/-- 0x4004:05 (U32, RW), R364. -/
def Obj.FaultInject.SramAddress : Nat := objKey (0x4004) (0x05)

/-- 0x4004:06 (U8, RW), R364. -/
def Obj.FaultInject.SramMask : Nat := objKey (0x4004) (0x06)

/-- 0x4004:07 (U8, WO), R364. -/
def Obj.FaultInject.SramArm : Nat := objKey (0x4004) (0x07)

/-- 0x4004:08 (U16, WO), R364. -/
def Obj.FaultInject.PartnerCrc : Nat := objKey (0x4004) (0x08)

/-- 0x4004:09 (U16, WO), R364. -/
def Obj.FaultInject.TwoWirePec : Nat := objKey (0x4004) (0x09)

/-- 0x4004:0A (U8, RO), R364. -/
def Obj.FaultInject.Armed : Nat := objKey (0x4004) (0x0A)

/-- 0x4005:01 (U8, RW), R365. -/
def Obj.AlarmInputs.AlarmPolarity0 : Nat := objKey (0x4005) (0x01)

/-- 0x4005:02 (U16, RW), R365. -/
def Obj.AlarmInputs.AlarmDebounce0 : Nat := objKey (0x4005) (0x02)

/-- 0x4005:03 (U8, RW), R365. -/
def Obj.AlarmInputs.AlarmPolarity1 : Nat := objKey (0x4005) (0x03)

/-- 0x4005:04 (U16, RW), R365. -/
def Obj.AlarmInputs.AlarmDebounce1 : Nat := objKey (0x4005) (0x04)

/-- 0x4005:05 (U8, RO), R365. -/
def Obj.AlarmInputs.AlarmState : Nat := objKey (0x4005) (0x05)

/-- 0x4006:01 (U16, RO), R365. -/
def Obj.LrsStatus.LastTrigger : Nat := objKey (0x4006) (0x01)

/-- 0x4006:02 (U16, RO), R365. -/
def Obj.LrsStatus.LastEpoch : Nat := objKey (0x4006) (0x02)

/-- 0x4006:03 (U32, RO), R365. -/
def Obj.LrsStatus.LastCycle : Nat := objKey (0x4006) (0x03)

/-- 0x4006:04 (U8, RO), R365. -/
def Obj.LrsStatus.LastOperations : Nat := objKey (0x4006) (0x04)

/-- 0x4006:05 (U8, RW), R365. -/
def Obj.LrsStatus.SelfCycleEnable : Nat := objKey (0x4006) (0x05)

/-- 0x4006:06 (U32, RW), R365. -/
def Obj.LrsStatus.SelfCycleDelay : Nat := objKey (0x4006) (0x06)

/-- 0x4006:07 (U16, RW), R365. -/
def Obj.LrsStatus.SelfCyclePulse : Nat := objKey (0x4006) (0x07)

/-- 0x4006:08 (U32, RO), R365. -/
def Obj.LrsStatus.AbortResets : Nat := objKey (0x4006) (0x08)

/-- 0x4010:01 (U8, RW), R366. -/
def Obj.SourceConfig.Class (u : Nat) : Nat := objKey (0x4010 + u) (0x01)

/-- 0x4010:02 (U8, RO), R366. -/
def Obj.SourceConfig.Kind (u : Nat) : Nat := objKey (0x4010 + u) (0x02)

/-- 0x4010:03 (U8, RO), R366. -/
def Obj.SourceConfig.Scope (u : Nat) : Nat := objKey (0x4010 + u) (0x03)

/-- 0x4010:04 (U8, RW), R366. -/
def Obj.SourceConfig.GraveEscalation (u : Nat) : Nat := objKey (0x4010 + u) (0x04)

/-- 0x4010:05 (U8, W1C), R366. -/
def Obj.SourceConfig.Sticky (u : Nat) : Nat := objKey (0x4010 + u) (0x05)

/-- 0x4010:06 (U32, RO), R366. -/
def Obj.SourceConfig.Reports (u : Nat) : Nat := objKey (0x4010 + u) (0x06)

/-- 0x4010:07 (U32, RO), R366. -/
def Obj.SourceConfig.Roots (u : Nat) : Nat := objKey (0x4010 + u) (0x07)

/-- 0x4010:08 (U32, RO), R366. -/
def Obj.SourceConfig.Linked (u : Nat) : Nat := objKey (0x4010 + u) (0x08)

/-- 0x4010:09 (U32, RO), R366. -/
def Obj.SourceConfig.Escalations (u : Nat) : Nat := objKey (0x4010 + u) (0x09)

/-- 0x4010:0A (U16, RO), R366. -/
def Obj.SourceConfig.LastRoot (u : Nat) : Nat := objKey (0x4010 + u) (0x0A)

/-- 0x4010:0B (U16, RO), R366. -/
def Obj.SourceConfig.PresentInstances (u : Nat) : Nat := objKey (0x4010 + u) (0x0B)

/-- 0x4010:0C (U8, RO), R366. -/
def Obj.SourceConfig.DefaultClass (u : Nat) : Nat := objKey (0x4010 + u) (0x0C)

/-- 0x40F0:00 (DOMAIN 32768, RO), R367. -/
def Obj.FaultTable.Data : Nat := objKey (0x40F0) (0x00)

/-- 0x40F1:00 (DOMAIN 32768, RO), R367. -/
def Obj.PartnerFaultTable.Data : Nat := objKey (0x40F1) (0x00)

/-- 0x4100:01 (U8, RW), R368. -/
def Obj.ReactionRule.Enable (u : Nat) : Nat := objKey (0x4100 + u) (0x01)

/-- 0x4100:02 (U16, RW), R368. -/
def Obj.ReactionRule.Source (u : Nat) : Nat := objKey (0x4100 + u) (0x02)

/-- 0x4100:03 (U8, RW), R368. -/
def Obj.ReactionRule.MinClass (u : Nat) : Nat := objKey (0x4100 + u) (0x03)

/-- 0x4100:04 (U8, RW), R368. -/
def Obj.ReactionRule.ScopeKind (u : Nat) : Nat := objKey (0x4100 + u) (0x04)

/-- 0x4100:05 (U16, RW), R368. -/
def Obj.ReactionRule.InstanceLow (u : Nat) : Nat := objKey (0x4100 + u) (0x05)

/-- 0x4100:06 (U16, RW), R368. -/
def Obj.ReactionRule.InstanceHigh (u : Nat) : Nat := objKey (0x4100 + u) (0x06)

/-- 0x4100:07 (U8, RW), R368. -/
def Obj.ReactionRule.HeadClassMask (u : Nat) : Nat := objKey (0x4100 + u) (0x07)

/-- 0x4100:08 (U8, RW), R368. -/
def Obj.ReactionRule.Reaction (u : Nat) : Nat := objKey (0x4100 + u) (0x08)

/-- 0x4100:09 (U8, RW), R368. -/
def Obj.ReactionRule.TargetKind (u : Nat) : Nat := objKey (0x4100 + u) (0x09)

/-- 0x4100:0A (U16, RW), R368. -/
def Obj.ReactionRule.TargetIndex (u : Nat) : Nat := objKey (0x4100 + u) (0x0A)

/-- 0x4100:0B (U8, RW), R368. -/
def Obj.ReactionRule.Withholdable (u : Nat) : Nat := objKey (0x4100 + u) (0x0B)

/-- 0x4100:0C (U32, RO), R368. -/
def Obj.ReactionRule.Matches (u : Nat) : Nat := objKey (0x4100 + u) (0x0C)

/-- 0x4100:0D (U16, RO), R368. -/
def Obj.ReactionRule.LastRoot (u : Nat) : Nat := objKey (0x4100 + u) (0x0D)

/-- 0x4400:01 (U16, RW), R432. -/
def Obj.RingsConfig.DefaultRate : Nat := objKey (0x4400) (0x01)

/-- 0x4400:02 (U8, RW), R432. -/
def Obj.RingsConfig.DefaultBurst : Nat := objKey (0x4400) (0x02)

/-- 0x4400:03 (U16, RW), R432. -/
def Obj.RingsConfig.FillThreshold : Nat := objKey (0x4400) (0x03)

/-- 0x4400:04 (U8, RW), R432. -/
def Obj.RingsConfig.ArchiveEnable : Nat := objKey (0x4400) (0x04)

/-- 0x4400:05 (U16, RW), R432. -/
def Obj.RingsConfig.FreezeLimit : Nat := objKey (0x4400) (0x05)

/-- 0x4401:01–03 (U32, RO), R433. -/
def Obj.RingsStatus.Held (i : Nat) : Nat := objKey (0x4401) (0x01 + i)

/-- 0x4401:04 (U16, RO), R433. -/
def Obj.RingsStatus.Unflushed : Nat := objKey (0x4401) (0x04)

/-- 0x4401:05 (U16, RO), R433. -/
def Obj.RingsStatus.NewestGeneration : Nat := objKey (0x4401) (0x05)

/-- 0x4401:06 (U32, RO), R433. -/
def Obj.RingsStatus.NewestSequence : Nat := objKey (0x4401) (0x06)

/-- 0x4401:07 (U32, RO), R433. -/
def Obj.RingsStatus.Flushes : Nat := objKey (0x4401) (0x07)

/-- 0x4401:08 (U32, RO), R433. -/
def Obj.RingsStatus.FlushFailures : Nat := objKey (0x4401) (0x08)

/-- 0x4401:09 (U32, RO), R433. -/
def Obj.RingsStatus.RecordsLost : Nat := objKey (0x4401) (0x09)

/-- 0x4401:0A (U32, RO), R433. -/
def Obj.RingsStatus.ArchiveLost : Nat := objKey (0x4401) (0x0A)

/-- 0x4401:0B (U32, RO), R433. -/
def Obj.RingsStatus.TornRecords : Nat := objKey (0x4401) (0x0B)

/-- 0x4401:0C (U16, RO), R433. -/
def Obj.RingsStatus.BadSectors : Nat := objKey (0x4401) (0x0C)

/-- 0x4401:0D (U8, RO), R433. -/
def Obj.RingsStatus.FreezeActive : Nat := objKey (0x4401) (0x0D)

/-- 0x4401:0E–10 (U32, RO), R433. -/
def Obj.RingsStatus.Floor (i : Nat) : Nat := objKey (0x4401) (0x0E + i)

/-- 0x4401:11–13 (U32, RO), R433. -/
def Obj.RingsStatus.FloorGen (i : Nat) : Nat := objKey (0x4401) (0x11 + i)

/-- 0x4402:01 (U8, WO), R434. -/
def Obj.RingsControl.Flush : Nat := objKey (0x4402) (0x01)

/-- 0x4402:02 (U8, WO), R434. -/
def Obj.RingsControl.Clear : Nat := objKey (0x4402) (0x02)

/-- 0x4403:01 (U8, RW), R435. -/
def Obj.RingsReader.Mode : Nat := objKey (0x4403) (0x01)

/-- 0x4403:02 (U8, RW), R435. -/
def Obj.RingsReader.Tier : Nat := objKey (0x4403) (0x02)

/-- 0x4403:03 (U16, RW), R435. -/
def Obj.RingsReader.StartGeneration : Nat := objKey (0x4403) (0x03)

/-- 0x4403:04 (U32, RW), R435. -/
def Obj.RingsReader.StartSequence : Nat := objKey (0x4403) (0x04)

/-- 0x4403:05 (U8, WO), R435. -/
def Obj.RingsReader.Open : Nat := objKey (0x4403) (0x05)

/-- 0x4403:06 (U16, RO), R435. -/
def Obj.RingsReader.BoundGeneration : Nat := objKey (0x4403) (0x06)

/-- 0x4403:07 (U32, RO), R435. -/
def Obj.RingsReader.BoundSequence : Nat := objKey (0x4403) (0x07)

/-- 0x4403:08 (U8, RO), R435. -/
def Obj.RingsReader.Status : Nat := objKey (0x4403) (0x08)

/-- 0x4403:09 (U32, RO), R435. -/
def Obj.RingsReader.Returned : Nat := objKey (0x4403) (0x09)

/-- 0x4403:0A (U32, RO), R435. -/
def Obj.RingsReader.Skipped : Nat := objKey (0x4403) (0x0A)

/-- 0x4404:00 (DOMAIN 65536, RO), R421. -/
def Obj.RingsData.Data : Nat := objKey (0x4404) (0x00)

/-- 0x4420:01 (U16, RW), R436. -/
def Obj.CodeRate.RateLimit (u : Nat) : Nat := objKey (0x4420 + u) (0x01)

/-- 0x4420:02 (U8, RW), R436. -/
def Obj.CodeRate.Burst (u : Nat) : Nat := objKey (0x4420 + u) (0x02)

/-- 0x4420:03 (U32, RO), R436. -/
def Obj.CodeRate.Written (u : Nat) : Nat := objKey (0x4420 + u) (0x03)

/-- 0x4420:04 (U32, RO), R436. -/
def Obj.CodeRate.SuppressedTotal (u : Nat) : Nat := objKey (0x4420 + u) (0x04)

/-- 0x4600:01 (U8, RO), R461. -/
def Obj.HeartwoodStatus.RecallState : Nat := objKey (0x4600) (0x01)

/-- 0x4600:02 (U16, RO), R461. -/
def Obj.HeartwoodStatus.RecallTime : Nat := objKey (0x4600) (0x02)

/-- 0x4600:03 (U16, RO), R461. -/
def Obj.HeartwoodStatus.TornRows : Nat := objKey (0x4600) (0x03)

/-- 0x4600:04 (U8, RO), R461. -/
def Obj.HeartwoodStatus.TornOverflow : Nat := objKey (0x4600) (0x04)

/-- 0x4600:05 (U16, RO), R461. -/
def Obj.HeartwoodStatus.FirstTornRow : Nat := objKey (0x4600) (0x05)

/-- 0x4600:06 (U8, RO), R461. -/
def Obj.HeartwoodStatus.FirstTornIndex : Nat := objKey (0x4600) (0x06)

/-- 0x4600:07 (U32, RO), R461. -/
def Obj.HeartwoodStatus.Corrected : Nat := objKey (0x4600) (0x07)

/-- 0x4600:08 (U32, RO), R461. -/
def Obj.HeartwoodStatus.Uncorrectable : Nat := objKey (0x4600) (0x08)

/-- 0x4600:09 (U16, RO), R461. -/
def Obj.HeartwoodStatus.LastUncorrectableRow : Nat := objKey (0x4600) (0x09)

/-- 0x4600:0A (U32, RO), R461. -/
def Obj.HeartwoodStatus.WriteRefusals : Nat := objKey (0x4600) (0x0A)

/-- 0x4600:0B (U32, RO), R461. -/
def Obj.HeartwoodStatus.StoreFallbacks : Nat := objKey (0x4600) (0x0B)

/-- 0x4600:0C (U32, RO), R461. -/
def Obj.HeartwoodStatus.ScrubPasses : Nat := objKey (0x4600) (0x0C)

/-- 0x4601:01 (U8, RW), R462. -/
def Obj.HeartwoodProtect.ProtectLevel : Nat := objKey (0x4601) (0x01)

/-- 0x4601:02 (U16, RW), R462. -/
def Obj.HeartwoodProtect.ProtectUnlock : Nat := objKey (0x4601) (0x02)

/-- 0x4601:03 (U8, RW), R462. -/
def Obj.HeartwoodProtect.TargetSeat : Nat := objKey (0x4601) (0x03)

/-- 0x4601:04 (U8, RO), R462. -/
def Obj.HeartwoodProtect.LevelInForce : Nat := objKey (0x4601) (0x04)

/-- 0x4601:05 (U8, RO), R462. -/
def Obj.HeartwoodProtect.LevelAtReset : Nat := objKey (0x4601) (0x05)

/-- 0x4602:00 (DOMAIN 256, RO), R462. -/
def Obj.HeartwoodTorn.Data : Nat := objKey (0x4602) (0x00)

/-- 0x4603:01 (U32, RW), R462. -/
def Obj.HeartwoodWindow.Offset : Nat := objKey (0x4603) (0x01)

/-- 0x4604:00 (DOMAIN 65536, RO), R462. -/
def Obj.HeartwoodData.Data : Nat := objKey (0x4604) (0x00)

/-- 0x4610:01 (U8, RO), R463. -/
def Obj.FlashStatus.DeviceState : Nat := objKey (0x4610) (0x01)

/-- 0x4610:02 (U32, RO), R463. -/
def Obj.FlashStatus.JedecId : Nat := objKey (0x4610) (0x02)

/-- 0x4610:03 (U32, RO), R463. -/
def Obj.FlashStatus.DensityKiB : Nat := objKey (0x4610) (0x03)

/-- 0x4610:04 (U8, RO), R463. -/
def Obj.FlashStatus.BusMode : Nat := objKey (0x4610) (0x04)

/-- 0x4610:05 (U32, RO), R463. -/
def Obj.FlashStatus.ClockKHz : Nat := objKey (0x4610) (0x05)

/-- 0x4610:06 (U8, RO), R463. -/
def Obj.FlashStatus.Owner : Nat := objKey (0x4610) (0x06)

/-- 0x4610:07 (U32, RO), R463. -/
def Obj.FlashStatus.Programs : Nat := objKey (0x4610) (0x07)

/-- 0x4610:08 (U32, RO), R463. -/
def Obj.FlashStatus.Erases : Nat := objKey (0x4610) (0x08)

/-- 0x4610:09 (U32, RO), R463. -/
def Obj.FlashStatus.NotErased : Nat := objKey (0x4610) (0x09)

/-- 0x4610:0A (U32, RO), R463. -/
def Obj.FlashStatus.VerifyFailures : Nat := objKey (0x4610) (0x0A)

/-- 0x4610:0B (U32, RO), R463. -/
def Obj.FlashStatus.Timeouts : Nat := objKey (0x4610) (0x0B)

/-- 0x4610:0C (U32, RO), R463. -/
def Obj.FlashStatus.EraseSuspends : Nat := objKey (0x4610) (0x0C)

/-- 0x4610:0D (U8, RO), R463. -/
def Obj.FlashStatus.LastStatus : Nat := objKey (0x4610) (0x0D)

/-- 0x4610:0E (U32, RO), R463. -/
def Obj.FlashStatus.LastAddress : Nat := objKey (0x4610) (0x0E)

/-- 0x4800:01 (U8, WO), R479. -/
def Obj.UpdateControl.Begin : Nat := objKey (0x4800) (0x01)

/-- 0x4800:02 (U8, WO), R479. -/
def Obj.UpdateControl.Verify : Nat := objKey (0x4800) (0x02)

/-- 0x4800:03 (U8, WO), R479. -/
def Obj.UpdateControl.Apply : Nat := objKey (0x4800) (0x03)

/-- 0x4800:04 (U8, WO), R479. -/
def Obj.UpdateControl.Reboot : Nat := objKey (0x4800) (0x04)

/-- 0x4800:05 (U8, RO), R479. -/
def Obj.UpdateControl.Result : Nat := objKey (0x4800) (0x05)

/-- 0x4801:01 (U32, RW), R479. -/
def Obj.UpdateWindow.Offset : Nat := objKey (0x4801) (0x01)

/-- 0x4802:00 (DOMAIN 65536, WO), R479. -/
def Obj.UpdateData.Data : Nat := objKey (0x4802) (0x00)

/-- 0x4803:01 (U8, RO), R480. -/
def Obj.UpdateStatus.State : Nat := objKey (0x4803) (0x01)

/-- 0x4803:02 (U8, RO), R480. -/
def Obj.UpdateStatus.Reason : Nat := objKey (0x4803) (0x02)

/-- 0x4803:03 (U32, RO), R480. -/
def Obj.UpdateStatus.BytesReceived : Nat := objKey (0x4803) (0x03)

/-- 0x4803:04 (U32, RO), R480. -/
def Obj.UpdateStatus.TargetVersion : Nat := objKey (0x4803) (0x04)

/-- 0x4803:05 (U32, RO), R480. -/
def Obj.UpdateStatus.ApplyProgress : Nat := objKey (0x4803) (0x05)

/-- 0x4803:06 (U8, RO), R480. -/
def Obj.UpdateStatus.InService : Nat := objKey (0x4803) (0x06)

/-- 0x4803:07 (U8, RO), R480. -/
def Obj.UpdateStatus.NextBoot : Nat := objKey (0x4803) (0x07)

/-- 0x4803:08 (U32, RO), R480. -/
def Obj.UpdateStatus.ImageVersion : Nat := objKey (0x4803) (0x08)

/-- 0x4803:09 (U16, RO), R480. -/
def Obj.UpdateStatus.ShadowCompat : Nat := objKey (0x4803) (0x09)

/-- 0x4803:0A (U16, RO), R480. -/
def Obj.UpdateStatus.AcceptsShadow : Nat := objKey (0x4803) (0x0A)

/-- 0x4803:0B (U16, RO), R480. -/
def Obj.UpdateStatus.PartnerShadowCompat : Nat := objKey (0x4803) (0x0B)

/-- 0x4803:0C (U16, RO), R480. -/
def Obj.UpdateStatus.PartnerAcceptsShadow : Nat := objKey (0x4803) (0x0C)

/-- 0x4803:0D (U8, RO), R480. -/
def Obj.UpdateStatus.LastBootResult : Nat := objKey (0x4803) (0x0D)

/-- 0x4803:0E (U32, RO), R480. -/
def Obj.UpdateStatus.Fallbacks : Nat := objKey (0x4803) (0x0E)

/-- 0x4804:01 (U8, RW), R481. -/
def Obj.UpdatePolicy.SiteKeyRequired : Nat := objKey (0x4804) (0x01)

/-- 0x4804:02 (U16, RW), R481. -/
def Obj.UpdatePolicy.ShadowLevel : Nat := objKey (0x4804) (0x02)

/-- 0x4804:03 (U8, RW), R481. -/
def Obj.UpdatePolicy.TargetSeat : Nat := objKey (0x4804) (0x03)

/-- 0x4805:00 (DOMAIN =32, WO), R481. -/
def Obj.SiteKey.Data : Nat := objKey (0x4805) (0x00)

/-- 0x4806:01 (U8, RO), R481. -/
def Obj.Slot.State (u : Nat) : Nat := objKey (0x4806 + u) (0x01)

/-- 0x4806:02 (U32, RO), R481. -/
def Obj.Slot.Version (u : Nat) : Nat := objKey (0x4806 + u) (0x02)

/-- 0x4806:03 (U32, RO), R481. -/
def Obj.Slot.Length (u : Nat) : Nat := objKey (0x4806 + u) (0x03)

/-- 0x4806:04 (U16, RO), R481. -/
def Obj.Slot.ShadowCompat (u : Nat) : Nat := objKey (0x4806 + u) (0x04)

/-- 0x4806:05 (U16, RO), R481. -/
def Obj.Slot.AcceptsShadow (u : Nat) : Nat := objKey (0x4806 + u) (0x05)

/-- 0x4806:06 (U8, RO), R481. -/
def Obj.Slot.SigningKeyIndex (u : Nat) : Nat := objKey (0x4806 + u) (0x06)

/-- 0x4806:07 (U8, RO), R481. -/
def Obj.Slot.LastCheck (u : Nat) : Nat := objKey (0x4806 + u) (0x07)

/-- 0x4808:01–04 (U8, RO), R481. -/
def Obj.SigningKeys.KeyState (i : Nat) : Nat := objKey (0x4808) (0x01 + i)

/-- 0x4808:05 (U16, WO), R481. -/
def Obj.SigningKeys.RevokeKey : Nat := objKey (0x4808) (0x05)

/-- 0x4A00:01 (U16, RW), R401. -/
def Obj.RedundancyConfig.HoldQuorum : Nat := objKey (0x4A00) (0x01)

/-- 0x4A00:02 (U16, RW), R401. -/
def Obj.RedundancyConfig.ColdStartWait : Nat := objKey (0x4A00) (0x02)

/-- 0x4A00:03 (U8, RW), R401. -/
def Obj.RedundancyConfig.AutoYield : Nat := objKey (0x4A00) (0x03)

/-- 0x4A00:04 (U16, RW), R401. -/
def Obj.RedundancyConfig.YieldPortCount : Nat := objKey (0x4A00) (0x04)

/-- 0x4A00:05 (U16, RW), R401. -/
def Obj.RedundancyConfig.ShadowVerifyCycles : Nat := objKey (0x4A00) (0x05)

/-- 0x4A00:06 (U8, RW), R401. -/
def Obj.RedundancyConfig.ResyncLimit : Nat := objKey (0x4A00) (0x06)

/-- 0x4A00:07 (U8, RW), R401. -/
def Obj.RedundancyConfig.SwapMergeCycles : Nat := objKey (0x4A00) (0x07)

/-- 0x4A01:01 (U8, RO), R402. -/
def Obj.RedundancyStatus.Role : Nat := objKey (0x4A01) (0x01)

/-- 0x4A01:02 (U8, RO), R402. -/
def Obj.RedundancyStatus.Readiness : Nat := objKey (0x4A01) (0x02)

/-- 0x4A01:03 (U8, RO), R402. -/
def Obj.RedundancyStatus.TokenIn : Nat := objKey (0x4A01) (0x03)

/-- 0x4A01:04 (U8, RO), R402. -/
def Obj.RedundancyStatus.PartnerReadiness : Nat := objKey (0x4A01) (0x04)

/-- 0x4A01:05 (U32, RO), R402. -/
def Obj.RedundancyStatus.Takeovers : Nat := objKey (0x4A01) (0x05)

/-- 0x4A01:06 (U8, RO), R402. -/
def Obj.RedundancyStatus.LastTrigger : Nat := objKey (0x4A01) (0x06)

/-- 0x4A01:07 (U16, RO), R402. -/
def Obj.RedundancyStatus.LastTakeEpoch : Nat := objKey (0x4A01) (0x07)

/-- 0x4A01:08 (U32, RO), R402. -/
def Obj.RedundancyStatus.LastTakeCycle : Nat := objKey (0x4A01) (0x08)

/-- 0x4A01:09 (U16, RO), R402. -/
def Obj.RedundancyStatus.LastTakeTick : Nat := objKey (0x4A01) (0x09)

/-- 0x4A01:0A (U8, RO), R402. -/
def Obj.RedundancyStatus.LastGap : Nat := objKey (0x4A01) (0x0A)

/-- 0x4A01:0B (U8, RO), R402. -/
def Obj.RedundancyStatus.MaxGap : Nat := objKey (0x4A01) (0x0B)

/-- 0x4A01:0C (U32, RO), R402. -/
def Obj.RedundancyStatus.SamplesDiscarded : Nat := objKey (0x4A01) (0x0C)

/-- 0x4A01:0D (U16, RO), R402. -/
def Obj.RedundancyStatus.Unshadowed : Nat := objKey (0x4A01) (0x0D)

/-- 0x4A01:0E (U32, RO), R402. -/
def Obj.RedundancyStatus.Mismatches : Nat := objKey (0x4A01) (0x0E)

/-- 0x4A01:0F (U32, RO), R402. -/
def Obj.RedundancyStatus.Resyncs : Nat := objKey (0x4A01) (0x0F)

/-- 0x4A01:10 (U32, RO), R402. -/
def Obj.RedundancyStatus.ResyncFailures : Nat := objKey (0x4A01) (0x10)

/-- 0x4A01:11 (U8, RO), R402. -/
def Obj.RedundancyStatus.ResyncPhase : Nat := objKey (0x4A01) (0x11)

/-- 0x4A01:12 (U8, WO), R402. -/
def Obj.RedundancyStatus.Resync : Nat := objKey (0x4A01) (0x12)

/-- 0x4A01:13 (U32, RO), R402. -/
def Obj.RedundancyStatus.Yields : Nat := objKey (0x4A01) (0x13)

/-- 0x4A02:01 (U8, WO), R403. -/
def Obj.SwapControl.SwapNow : Nat := objKey (0x4A02) (0x01)

/-- 0x4A02:02 (U8, RO), R403. -/
def Obj.SwapControl.Status : Nat := objKey (0x4A02) (0x02)

/-- 0x4A02:03 (U16, RO), R403. -/
def Obj.SwapControl.PendingEpoch : Nat := objKey (0x4A02) (0x03)

/-- 0x4A02:04 (U32, RO), R403. -/
def Obj.SwapControl.PendingCycle : Nat := objKey (0x4A02) (0x04)

/-- 0x4A02:05 (U32, RO), R403. -/
def Obj.SwapControl.Swaps : Nat := objKey (0x4A02) (0x05)

/-- 0x4A02:06 (U16, RO), R403. -/
def Obj.SwapControl.LastSwapEpoch : Nat := objKey (0x4A02) (0x06)

/-- 0x4A02:07 (U32, RO), R403. -/
def Obj.SwapControl.LastSwapCycle : Nat := objKey (0x4A02) (0x07)

/-- 0x4A02:08 (U8, RO), R403. -/
def Obj.SwapControl.LastOutcome : Nat := objKey (0x4A02) (0x08)

/-- 0x4A03:01 (U32, RW), R404. -/
def Obj.SwapDrill.DrillInterval : Nat := objKey (0x4A03) (0x01)

/-- 0x4A03:02 (U32, RW), R404. -/
def Obj.SwapDrill.DrillDuration : Nat := objKey (0x4A03) (0x02)

/-- 0x4A03:03 (U8, WO), R404. -/
def Obj.SwapDrill.DrillNow : Nat := objKey (0x4A03) (0x03)

/-- 0x4A03:04 (U8, RO), R404. -/
def Obj.SwapDrill.DrillState : Nat := objKey (0x4A03) (0x04)

/-- 0x4A03:05 (U8, RO), R404. -/
def Obj.SwapDrill.LastResult : Nat := objKey (0x4A03) (0x05)

/-- 0x4A03:06 (U16, RO), R404. -/
def Obj.SwapDrill.LastDrillEpoch : Nat := objKey (0x4A03) (0x06)

/-- 0x4A03:07 (U32, RO), R404. -/
def Obj.SwapDrill.LastDrillCycle : Nat := objKey (0x4A03) (0x07)

/-- 0x4A03:08 (U32, RO), R404. -/
def Obj.SwapDrill.DrillsPassed : Nat := objKey (0x4A03) (0x08)

/-- 0x4A03:09 (U32, RO), R404. -/
def Obj.SwapDrill.DrillsFailed : Nat := objKey (0x4A03) (0x09)

/-- 0x4A04:01 (U8, RW), R405. -/
def Obj.PartnerKill.KillEnable : Nat := objKey (0x4A04) (0x01)

/-- 0x4A04:02 (U8, WO), R405. -/
def Obj.PartnerKill.KillNow : Nat := objKey (0x4A04) (0x02)

/-- 0x4A04:03 (U8, RW), R405. -/
def Obj.PartnerKill.KillOnGrave : Nat := objKey (0x4A04) (0x03)

/-- 0x4A04:04 (U32, RW), R405. -/
def Obj.PartnerKill.KillDelay : Nat := objKey (0x4A04) (0x04)

/-- 0x4A04:05 (U16, RW), R405. -/
def Obj.PartnerKill.KillPulse : Nat := objKey (0x4A04) (0x05)

/-- 0x4A04:06 (U8, RW), R405. -/
def Obj.PartnerKill.KillLimit : Nat := objKey (0x4A04) (0x06)

/-- 0x4A04:07 (U32, RO), R405. -/
def Obj.PartnerKill.Kills : Nat := objKey (0x4A04) (0x07)

/-- 0x4A04:08 (U8, RO), R405. -/
def Obj.PartnerKill.LastResult : Nat := objKey (0x4A04) (0x08)

/-- 0x4A05:01 (U8, RO), R406. -/
def Obj.PartnerLink.LinkState : Nat := objKey (0x4A05) (0x01)

/-- 0x4A05:02 (U8, RO), R406. -/
def Obj.PartnerLink.Lane0Up : Nat := objKey (0x4A05) (0x02)

/-- 0x4A05:03 (U8, RO), R406. -/
def Obj.PartnerLink.Lane1Up : Nat := objKey (0x4A05) (0x03)

/-- 0x4A05:04 (U32, RO), R406. -/
def Obj.PartnerLink.CrcErrors0 : Nat := objKey (0x4A05) (0x04)

/-- 0x4A05:05 (U32, RO), R406. -/
def Obj.PartnerLink.CrcErrors1 : Nat := objKey (0x4A05) (0x05)

/-- 0x4A05:06 (U32, RO), R406. -/
def Obj.PartnerLink.LateMessages : Nat := objKey (0x4A05) (0x06)

/-- 0x4A05:07 (U32, RO), R406. -/
def Obj.PartnerLink.Duplicates : Nat := objKey (0x4A05) (0x07)

/-- 0x4A05:08 (U32, RO), R406. -/
def Obj.PartnerLink.Retransmits : Nat := objKey (0x4A05) (0x08)

/-- 0x4A05:09 (U32, RO), R406. -/
def Obj.PartnerLink.LinkDowns : Nat := objKey (0x4A05) (0x09)

/-- 0x4A05:0A (U16, RO), R406. -/
def Obj.PartnerLink.Latency : Nat := objKey (0x4A05) (0x0A)

/-- 0x4C00:01 (U8, RW), R534. -/
def Obj.TwTargetConfig.AddressMode : Nat := objKey (0x4C00) (0x01)

/-- 0x4C00:02 (U8, RW), R534. -/
def Obj.TwTargetConfig.AddressMask : Nat := objKey (0x4C00) (0x02)

/-- 0x4C00:03–06 (U8, RW), R534. -/
def Obj.TwTargetConfig.Address (i : Nat) : Nat := objKey (0x4C00) (0x03 + i)

/-- 0x4C00:07–0A (U8, RW), R534. -/
def Obj.TwTargetConfig.Scope (i : Nat) : Nat := objKey (0x4C00) (0x07 + i)

/-- 0x4C00:0B (U8, RW), R534. -/
def Obj.TwTargetConfig.AlertEnable : Nat := objKey (0x4C00) (0x0B)

/-- 0x4C00:0C (U8, RW), R534. -/
def Obj.TwTargetConfig.PecRequired : Nat := objKey (0x4C00) (0x0C)

/-- 0x4C10:01 (U8, RW), R535. -/
def Obj.TwPortConfig.Speed (u : Nat) : Nat := objKey (0x4C10 + u) (0x01)

/-- 0x4C10:02 (U8, RW), R535. -/
def Obj.TwPortConfig.GlitchFilter (u : Nat) : Nat := objKey (0x4C10 + u) (0x02)

/-- 0x4C10:03 (U8, RW), R535. -/
def Obj.TwPortConfig.ArbRetries (u : Nat) : Nat := objKey (0x4C10 + u) (0x03)

/-- 0x4C10:04 (U8, RW), R535. -/
def Obj.TwPortConfig.AlertInputEnable (u : Nat) : Nat := objKey (0x4C10 + u) (0x04)

/-- 0x4C20:01 (U8, RO), R535. -/
def Obj.TwPortStatus.BusState (u : Nat) : Nat := objKey (0x4C20 + u) (0x01)

/-- 0x4C20:02 (U32, RO), R535. -/
def Obj.TwPortStatus.Transactions (u : Nat) : Nat := objKey (0x4C20 + u) (0x02)

/-- 0x4C20:03 (U32, RO), R535. -/
def Obj.TwPortStatus.PecErrors (u : Nat) : Nat := objKey (0x4C20 + u) (0x03)

/-- 0x4C20:04 (U32, RO), R535. -/
def Obj.TwPortStatus.Nacks (u : Nat) : Nat := objKey (0x4C20 + u) (0x04)

/-- 0x4C20:05 (U32, RO), R535. -/
def Obj.TwPortStatus.ArbLost (u : Nat) : Nat := objKey (0x4C20 + u) (0x05)

/-- 0x4C20:06 (U32, RO), R535. -/
def Obj.TwPortStatus.StretchTimeouts (u : Nat) : Nat := objKey (0x4C20 + u) (0x06)

/-- 0x4C20:07 (U32, RO), R535. -/
def Obj.TwPortStatus.SelfReleases (u : Nat) : Nat := objKey (0x4C20 + u) (0x07)

/-- 0x4C20:08 (U32, RO), R535. -/
def Obj.TwPortStatus.BusClears (u : Nat) : Nat := objKey (0x4C20 + u) (0x08)

/-- 0x4C20:09 (U32, RO), R535. -/
def Obj.TwPortStatus.UnknownCommands (u : Nat) : Nat := objKey (0x4C20 + u) (0x09)

/-- 0x4C20:0A (U32, RO), R535. -/
def Obj.TwPortStatus.AlertResponses (u : Nat) : Nat := objKey (0x4C20 + u) (0x0A)

/-- 0x4C20:0B (U8, RO), R535. -/
def Obj.TwPortStatus.LastAlertAddress (u : Nat) : Nat := objKey (0x4C20 + u) (0x0B)

/-- 0x4C30:01 (DOMAIN, up to 261 bytes, WO), R535. -/
def Obj.TwTransaction.Request : Nat := objKey (0x4C30) (0x01)

/-- 0x4C30:02 (DOMAIN, up to 257 bytes, RO), R535. -/
def Obj.TwTransaction.Result : Nat := objKey (0x4C30) (0x02)

/-- 0x4E00:01 (U8, WO), R437. -/
def Obj.DumpControl.DumpNow : Nat := objKey (0x4E00) (0x01)

/-- 0x4E00:02 (U8, WO), R437. -/
def Obj.DumpControl.Release : Nat := objKey (0x4E00) (0x02)

/-- 0x4E00:03 (U8, RO), R437. -/
def Obj.DumpControl.StateD0 : Nat := objKey (0x4E00) (0x03)

/-- 0x4E00:04 (U8, RO), R437. -/
def Obj.DumpControl.StateD1 : Nat := objKey (0x4E00) (0x04)

/-- 0x4E00:05 (U8, RO), R437. -/
def Obj.DumpControl.StateReduced : Nat := objKey (0x4E00) (0x05)

/-- 0x4E00:06 (U8, RO), R437. -/
def Obj.DumpControl.Result : Nat := objKey (0x4E00) (0x06)

/-- 0x4E00:07 (U8, RO), R437. -/
def Obj.DumpControl.LastArea : Nat := objKey (0x4E00) (0x07)

/-- 0x4E00:08 (U16, RO), R437. -/
def Obj.DumpControl.LastCause : Nat := objKey (0x4E00) (0x08)

/-- 0x4E00:09 (U32, RO), R437. -/
def Obj.DumpControl.Dumps : Nat := objKey (0x4E00) (0x09)

/-- 0x4E00:0A (U32, RO), R437. -/
def Obj.DumpControl.NotErased : Nat := objKey (0x4E00) (0x0A)

/-- 0x4E01:01 (U8, RW), R431. -/
def Obj.DumpWindow.Area : Nat := objKey (0x4E01) (0x01)

/-- 0x4E01:02 (U32, RW), R431. -/
def Obj.DumpWindow.Offset : Nat := objKey (0x4E01) (0x02)

/-- 0x4E02:00 (DOMAIN 65536, RO), R431. -/
def Obj.DumpData.Data : Nat := objKey (0x4E02) (0x00)

def subsComm1000 : List SubRow :=
  [⟨0x00, 0x00, .ro, (.uint 4), 0x0, 0, 4294967295, [], .none, false⟩]

def subsComm1001 : List SubRow :=
  [⟨0x00, 0x00, .ro, (.uint 1), 0x0, 0, 255, [], .none, false⟩]

def subsPreDefinedErrorField : List SubRow :=
  [⟨0x00, 0x00, .ro, (.uint 1), 0x0, 0, 255, [], .none, false⟩,
   ⟨0x01, 0x08, .ro, (.uint 4), 0x0, 0, 4294967295, [], .none, false⟩]

def subsComm1014 : List SubRow :=
  [⟨0x00, 0x00, .rw, (.uint 4), 0x90, 0, 4294967295, [], .immediate, false⟩]

def subsComm1017 : List SubRow :=
  [⟨0x00, 0x00, .rw, (.uint 2), 0x3E8, 0, 65535, [], .immediate, false⟩]

def subsCanIdentity : List SubRow :=
  [⟨0x01, 0x01, .ro, (.uint 4), 0xA1E, 0, 4294967295, [], .none, false⟩,
   ⟨0x02, 0x02, .ro, (.uint 4), 0x1400, 0, 4294967295, [], .none, false⟩,
   ⟨0x03, 0x03, .ro, (.uint 4), 0xB1, 0, 4294967295, [], .none, false⟩,
   ⟨0x04, 0x04, .ro, (.uint 4), 0x0, 0, 4294967295, [], .none, false⟩]

def subsTpdoComm : List SubRow :=
  [⟨0x01, 0x01, .rw, (.uint 4), 0x80000000, 0, 4294967295, [], .immediate, false⟩,
   ⟨0x02, 0x02, .rw, (.uint 1), 0xFF, 0, 255, [], .immediate, false⟩,
   ⟨0x03, 0x03, .rw, (.uint 2), 0x0, 0, 65535, [], .immediate, false⟩,
   ⟨0x05, 0x05, .rw, (.uint 2), 0x0, 0, 65535, [], .immediate, false⟩,
   ⟨0x06, 0x06, .rw, (.uint 1), 0x0, 0, 255, [], .immediate, false⟩]

def subsTpdoMap : List SubRow :=
  [⟨0x00, 0x00, .rw, (.uint 1), 0x0, 0, 64, [], .immediate, false⟩,
   ⟨0x01, 0x40, .rw, (.uint 4), 0x0, 0, 4294967295, [], .immediate, false⟩]

def subsIdentity : List SubRow :=
  [⟨0x01, 0x01, .ro, (.uint 2), 0x1400, 0, 65535, [], .none, false⟩,
   ⟨0x02, 0x02, .ro, (.uint 1), 0xB1, 0, 255, [], .none, false⟩,
   ⟨0x03, 0x03, .ro, (.uint 1), 0x49, 0, 255, [], .none, false⟩]

def subsSeat : List SubRow :=
  [⟨0x00, 0x00, .ro, (.uint 1), 0x41, 0, 255, [], .none, false⟩]

def subsGladeConfig : List SubRow :=
  [⟨0x01, 0x01, .rw, (.uint 2), 0x7D0, 400, 2500, [], .staged, false⟩,
   ⟨0x02, 0x02, .rw, (.uint 1), 0x32, 50, 60, [50, 60], .staged, false⟩,
   ⟨0x03, 0x03, .rw, (.uint 2), 0x125C, 4500, 65535, [], .staged, false⟩,
   ⟨0x04, 0x04, .rw, (.uint 2), 0x141E, 0, 6600, [], .staged, false⟩,
   ⟨0x05, 0x05, .rw, (.uint 2), 0x123, 0, 65535, [], .staged, false⟩,
   ⟨0x06, 0x06, .rw, (.uint 1), 0x3, 1, 3, [1, 3], .staged, false⟩,
   ⟨0x07, 0x07, .rw, (.uint 1), 0x0, 0, 1, [], .staged, false⟩,
   ⟨0x08, 0x08, .rw, (.uint 2), 0xA, 2, 1000, [], .staged, false⟩,
   ⟨0x09, 0x09, .rw, (.uint 4), 0x0, 0, 4294967295, [], .staged, false⟩,
   ⟨0x0A, 0x0A, .rw, (.uint 2), 0x0, 0, 2000, [], .staged, false⟩,
   ⟨0x0B, 0x0B, .rw, (.uint 1), 0x1, 0, 1, [], .staged, false⟩,
   ⟨0x0C, 0x0C, .rw, (.uint 1), 0x1, 0, 1, [], .staged, false⟩]

def subsGladeStatus : List SubRow :=
  [⟨0x01, 0x01, .ro, (.uint 1), 0x0, 0, 255, [], .none, false⟩,
   ⟨0x02, 0x02, .ro, (.uint 1), 0x3, 0, 255, [], .none, false⟩,
   ⟨0x03, 0x03, .ro, (.uint 4), 0x0, 0, 4294967295, [], .none, false⟩,
   ⟨0x04, 0x04, .ro, (.sint 4), 0x0, (-2147483648), 2147483647, [], .none, false⟩,
   ⟨0x05, 0x05, .ro, (.sint 4), 0x0, (-2147483648), 2147483647, [], .none, false⟩,
   ⟨0x06, 0x06, .ro, (.sint 4), 0x0, (-2147483648), 2147483647, [], .none, false⟩,
   ⟨0x07, 0x07, .ro, (.uint 1), 0x8, 0, 255, [], .none, false⟩,
   ⟨0x08, 0x08, .ro, (.uint 4), 0x0, 0, 4294967295, [], .none, false⟩,
   ⟨0x09, 0x09, .ro, (.uint 4), 0x0, 0, 4294967295, [], .none, false⟩,
   ⟨0x0A, 0x0A, .ro, (.uint 4), 0x0, 0, 4294967295, [], .none, false⟩,
   ⟨0x0B, 0x0B, .ro, (.uint 2), 0x25D2, 0, 65535, [], .none, false⟩,
   ⟨0x0C, 0x0C, .ro, (.uint 2), 0x29AC, 0, 65535, [], .none, false⟩,
   ⟨0x0D, 0x0D, .ro, (.uint 1), 0x1, 0, 255, [], .none, false⟩]

def subsGladeNow : List SubRow :=
  [⟨0x01, 0x01, .ro, (.uint 2), 0x0, 0, 65535, [], .none, false⟩,
   ⟨0x02, 0x02, .ro, (.uint 4), 0x0, 0, 4294967295, [], .none, false⟩,
   ⟨0x03, 0x03, .ro, (.uint 4), 0x0, 0, 4294967295, [], .none, false⟩,
   ⟨0x04, 0x04, .ro, (.uint 2), 0x0, 0, 65535, [], .none, false⟩]

def subsCanConfig : List SubRow :=
  [⟨0x01, 0x01, .rw, (.uint 1), 0x3, 0, 3, [], .staged, false⟩,
   ⟨0x02, 0x02, .rw, (.uint 2), 0x1F4, 125, 1000, [125, 250, 500, 1000], .staged, false⟩,
   ⟨0x03, 0x03, .rw, (.uint 2), 0x7D0, 1000, 5000, [1000, 2000, 4000, 5000], .staged, false⟩,
   ⟨0x04, 0x04, .rw, (.uint 1), 0x10, 1, 127, [], .staged, false⟩,
   ⟨0x05, 0x05, .rw, (.uint 1), 0x11, 1, 127, [], .staged, false⟩,
   ⟨0x06, 0x06, .rw, (.uint 1), 0x12, 1, 127, [], .staged, false⟩]

def subsCanStatus : List SubRow :=
  [⟨0x01, 0x02, .ro, (.uint 1), 0x0, 0, 255, [], .none, false⟩,
   ⟨0x03, 0x04, .ro, (.uint 4), 0x0, 0, 4294967295, [], .none, false⟩]

def subsEthConfig : List SubRow :=
  [⟨0x01, 0x01, .rw, (.uint 4), 0x0, 0, 4294967295, [], .staged, false⟩,
   ⟨0x02, 0x02, .rw, (.uint 4), 0x0, 0, 4294967295, [], .staged, false⟩,
   ⟨0x03, 0x03, .rw, (.uint 4), 0x0, 0, 4294967295, [], .staged, false⟩,
   ⟨0x04, 0x04, .rw, (.uint 4), 0xFFFFFF00, 0, 4294967295, [], .staged, false⟩,
   ⟨0x05, 0x05, .rw, (.uint 4), 0x0, 0, 4294967295, [], .staged, false⟩,
   ⟨0x06, 0x06, .rw, (.uint 2), 0x7D0, 100, 10000, [], .staged, false⟩,
   ⟨0x07, 0x07, .ro, (.uint 2), 0x7730, 0, 65535, [], .none, false⟩]

def subsEthStatus : List SubRow :=
  [⟨0x01, 0x01, .ro, (.uint 1), 0x0, 0, 255, [], .none, false⟩,
   ⟨0x02, 0x02, .ro, (.uint 1), 0x0, 0, 255, [], .none, false⟩,
   ⟨0x03, 0x03, .ro, (.uint 4), 0x0, 0, 4294967295, [], .none, false⟩,
   ⟨0x04, 0x04, .ro, (.uint 4), 0x0, 0, 4294967295, [], .none, false⟩,
   ⟨0x05, 0x05, .ro, (.uint 4), 0x0, 0, 4294967295, [], .none, false⟩,
   ⟨0x06, 0x06, .ro, (.uint 4), 0x0, 0, 4294967295, [], .none, false⟩,
   ⟨0x07, 0x07, .ro, (.uint 2), 0x0, 0, 65535, [], .none, false⟩,
   ⟨0x08, 0x08, .ro, (.uint 8), 0x0, 0, 18446744073709551615, [], .none, false⟩]

def subsSupplyConfig : List SubRow :=
  [⟨0x01, 0x01, .rw, (.uint 2), 0x12C0, 4800, 17000, [], .staged, false⟩,
   ⟨0x02, 0x02, .rw, (.uint 2), 0x0, 0, 65535, [], .staged, false⟩,
   ⟨0x03, 0x03, .rw, (.uint 2), 0x0, 0, 65535, [], .staged, false⟩,
   ⟨0x04, 0x04, .rw, (.uint 2), 0x258, 300, 600, [300, 450, 600], .staged, false⟩,
   ⟨0x05, 0x05, .rw, (.uint 2), 0x32, 10, 3000, [], .staged, false⟩,
   ⟨0x06, 0x06, .rw, (.uint 2), 0xFA, 0, 30000, [], .staged, false⟩,
   ⟨0x07, 0x07, .rw, (.uint 1), 0x0, 0, 1, [], .staged, false⟩]

def subsSupplyStatus : List SubRow :=
  [⟨0x01, 0x01, .ro, (.uint 1), 0x0, 0, 255, [], .none, false⟩,
   ⟨0x02, 0x02, .ro, (.uint 2), 0x258, 0, 65535, [], .none, false⟩,
   ⟨0x03, 0x03, .ro, (.uint 2), 0x3E8, 0, 65535, [], .none, false⟩,
   ⟨0x04, 0x04, .ro, (.uint 4), 0x0, 0, 4294967295, [], .none, false⟩,
   ⟨0x05, 0x05, .ro, (.uint 4), 0x0, 0, 4294967295, [], .none, false⟩,
   ⟨0x06, 0x06, .ro, (.uint 1), 0x0, 0, 255, [], .none, false⟩,
   ⟨0x07, 0x07, .ro, (.uint 1), 0x0, 0, 255, [], .none, false⟩,
   ⟨0x08, 0x08, .ro, (.uint 1), 0x0, 0, 255, [], .none, false⟩]

def subsBackupDomain : List SubRow :=
  [⟨0x01, 0x01, .ro, (.uint 4), 0x0, 0, 4294967295, [], .none, false⟩,
   ⟨0x02, 0x02, .ro, (.uint 4), 0x0, 0, 4294967295, [], .none, false⟩,
   ⟨0x03, 0x03, .w1c, (.uint 2), 0x0, 0, 65535, [], .immediate, false⟩,
   ⟨0x04, 0x04, .ro, (.uint 2), 0x0, 0, 65535, [], .none, false⟩,
   ⟨0x05, 0x05, .ro, (.uint 4), 0x0, 0, 4294967295, [], .none, false⟩,
   ⟨0x06, 0x06, .ro, (.uint 4), 0xFFFFFFFF, 0, 4294967295, [], .none, false⟩]

def subsCellAlarmLog : List SubRow :=
  [⟨0x00, 0x00, .ro, (.domain 128 false), 0x0, 0, 0, [], .none, false⟩]

def subsBackupRam : List SubRow :=
  [⟨0x00, 0x00, .rw, (.domain 512 true), 0x0, 0, 0, [], .immediate, false⟩]

def subsStartupStatus : List SubRow :=
  [⟨0x01, 0x01, .ro, (.uint 1), 0x0, 0, 255, [], .none, false⟩,
   ⟨0x02, 0x02, .ro, (.uint 4), 0x0, 0, 4294967295, [], .none, false⟩,
   ⟨0x03, 0x03, .ro, (.uint 4), 0x0, 0, 4294967295, [], .none, false⟩,
   ⟨0x04, 0x04, .ro, (.uint 4), 0x0, 0, 4294967295, [], .none, false⟩,
   ⟨0x05, 0x05, .ro, (.uint 4), 0x0, 0, 4294967295, [], .none, false⟩,
   ⟨0x06, 0x06, .ro, (.uint 4), 0xFFFFFFFF, 0, 4294967295, [], .none, false⟩,
   ⟨0x07, 0x07, .ro, (.uint 4), 0xFFFFFFFF, 0, 4294967295, [], .none, false⟩,
   ⟨0x08, 0x08, .ro, (.uint 1), 0x0, 0, 255, [], .none, false⟩]

def subsSnapshotSession : List SubRow :=
  [⟨0x01, 0x01, .rw, (.uint 1), 0x0, 0, 1, [], .immediate, true⟩,
   ⟨0x02, 0x02, .wo, (.uint 1), 0x0, 0, 2, [], .immediate, true⟩,
   ⟨0x03, 0x03, .rw, (.uint 2), 0xFFFF, 0, 65535, [], .immediate, true⟩,
   ⟨0x04, 0x04, .rw, (.uint 4), 0x0, 0, 4294967295, [], .immediate, true⟩,
   ⟨0x05, 0x05, .ro, (.uint 2), 0xFFFF, 0, 65535, [], .none, true⟩,
   ⟨0x06, 0x06, .ro, (.uint 4), 0x0, 0, 4294967295, [], .none, true⟩,
   ⟨0x07, 0x07, .rw, (.uint 2), 0x5DC, 0, 65535, [], .immediate, true⟩,
   ⟨0x08, 0x08, .ro, (.uint 2), 0x0, 0, 65535, [], .none, true⟩,
   ⟨0x09, 0x09, .ro, (.uint 1), 0x0, 0, 255, [], .none, true⟩,
   ⟨0x0A, 0x0A, .ro, (.uint 1), 0x0, 0, 255, [], .none, true⟩]

def subsCommitSession : List SubRow :=
  [⟨0x01, 0x01, .wo, (.uint 1), 0x0, 0, 1, [], .immediate, true⟩,
   ⟨0x02, 0x02, .rw, (.uint 1), 0x0, 0, 1, [], .immediate, true⟩,
   ⟨0x03, 0x03, .rw, (.uint 2), 0xFFFF, 0, 65535, [], .immediate, true⟩,
   ⟨0x04, 0x04, .rw, (.uint 4), 0x0, 0, 4294967295, [], .immediate, true⟩,
   ⟨0x05, 0x05, .wo, (.uint 1), 0x0, 1, 1, [], .immediate, true⟩,
   ⟨0x06, 0x06, .ro, (.uint 4), 0x0, 0, 4294967295, [], .none, true⟩,
   ⟨0x07, 0x07, .ro, (.uint 1), 0x0, 0, 255, [], .none, true⟩,
   ⟨0x08, 0x08, .ro, (.uint 2), 0x0, 0, 65535, [], .none, true⟩,
   ⟨0x09, 0x09, .ro, (.uint 2), 0x0, 0, 65535, [], .none, true⟩,
   ⟨0x0A, 0x0A, .ro, (.uint 1), 0x0, 0, 255, [], .none, true⟩,
   ⟨0x0B, 0x0B, .ro, (.uint 2), 0x0, 0, 65535, [], .none, true⟩,
   ⟨0x0C, 0x0C, .ro, (.uint 4), 0x0, 0, 4294967295, [], .none, true⟩,
   ⟨0x0D, 0x0D, .ro, (.uint 2), 0xFFFF, 0, 65535, [], .none, true⟩,
   ⟨0x0E, 0x0E, .ro, (.uint 4), 0x0, 0, 4294967295, [], .none, true⟩,
   ⟨0x0F, 0x0F, .ro, (.uint 2), 0x0, 0, 65535, [], .none, true⟩,
   ⟨0x10, 0x10, .wo, (.uint 4), 0x0, 0, 4294967295, [], .immediate, true⟩]

def subsCanopyStatus : List SubRow :=
  [⟨0x01, 0x01, .ro, (.uint 4), 0x0, 0, 4294967295, [], .none, false⟩,
   ⟨0x02, 0x02, .ro, (.uint 4), 0x0, 0, 4294967295, [], .none, false⟩,
   ⟨0x03, 0x03, .ro, (.uint 2), 0xFFFF, 0, 65535, [], .none, false⟩,
   ⟨0x04, 0x04, .ro, (.uint 4), 0x0, 0, 4294967295, [], .none, false⟩,
   ⟨0x05, 0x05, .ro, (.uint 1), 0x0, 0, 255, [], .none, false⟩,
   ⟨0x06, 0x06, .ro, (.uint 2), 0xFFFF, 0, 65535, [], .none, false⟩,
   ⟨0x07, 0x07, .ro, (.uint 4), 0x0, 0, 4294967295, [], .none, false⟩,
   ⟨0x08, 0x08, .ro, (.uint 4), 0x0, 0, 4294967295, [], .none, false⟩,
   ⟨0x09, 0x09, .ro, (.uint 1), 0x0, 0, 255, [], .none, false⟩,
   ⟨0x0A, 0x0A, .ro, (.uint 1), 0x0, 0, 255, [], .none, false⟩,
   ⟨0x0B, 0x0B, .ro, (.uint 2), 0x0, 0, 65535, [], .none, false⟩]

def subsEventOrder : List SubRow :=
  [⟨0x01, 0x01, .ro, (.uint 2), 0x0, 0, 65535, [], .none, false⟩,
   ⟨0x02, 0x02, .ro, (.uint 4), 0x0, 0, 4294967295, [], .none, false⟩,
   ⟨0x03, 0x03, .ro, (.uint 4), 0x0, 0, 4294967295, [], .none, false⟩,
   ⟨0x04, 0x04, .ro, (.uint 4), 0x0, 0, 4294967295, [], .none, false⟩]

def subsSessionConfig : List SubRow :=
  [⟨0x01, 0x01, .rw, (.uint 2), 0x400, 512, 1408, [], .immediate, true⟩,
   ⟨0x02, 0x02, .rw, (.uint 2), 0xBB8, 50, 30000, [], .immediate, true⟩]

def subsSessionTable : List SubRow :=
  [⟨0x01, 0x20, .ro, (.uint 4), 0x0, 0, 4294967295, [], .none, false⟩]

def subsAlertConfig : List SubRow :=
  [⟨0x01, 0x01, .rw, (.uint 1), 0x2, 1, 3, [], .staged, false⟩,
   ⟨0x02, 0x02, .rw, (.uint 1), 0x1, 0, 1, [], .staged, false⟩,
   ⟨0x03, 0x03, .rw, (.uint 2), 0x64, 10, 1000, [], .staged, false⟩]

def subsAlertStatus : List SubRow :=
  [⟨0x01, 0x01, .ro, (.uint 4), 0x0, 0, 4294967295, [], .none, false⟩,
   ⟨0x02, 0x02, .ro, (.uint 4), 0x0, 0, 4294967295, [], .none, false⟩,
   ⟨0x03, 0x03, .ro, (.uint 2), 0x0, 0, 65535, [], .none, false⟩,
   ⟨0x04, 0x04, .ro, (.domain 4096 true), 0x0, 0, 0, [], .none, false⟩]

def subsAbort : List SubRow :=
  [⟨0x01, 0x01, .rw, (.uint 1), 0x0, 0, 255, [], .immediate, true⟩,
   ⟨0x02, 0x02, .rw, (.uint 2), 0x0, 0, 65535, [], .immediate, true⟩,
   ⟨0x03, 0x03, .wo, (.uint 1), 0x0, 1, 1, [], .immediate, true⟩,
   ⟨0x04, 0x04, .ro, (.uint 1), 0x0, 0, 255, [], .none, true⟩,
   ⟨0x05, 0x05, .ro, (.uint 4), 0x0, 0, 4294967295, [], .none, true⟩]

def subsActionRequest : List SubRow :=
  [⟨0x01, 0x01, .rw, (.uint 2), 0xFFFF, 0, 65535, [], .immediate, true⟩,
   ⟨0x02, 0x02, .rw, (.uint 4), 0x0, 0, 4294967295, [], .immediate, true⟩,
   ⟨0x03, 0x03, .rw, (.uint 4), 0x0, 0, 4294967295, [], .immediate, true⟩,
   ⟨0x04, 0x04, .rw, (.uint 1), 0x0, 0, 255, [], .immediate, true⟩,
   ⟨0x05, 0x05, .rw, (.uint 2), 0x0, 0, 65535, [], .immediate, true⟩,
   ⟨0x06, 0x06, .rw, (.uint 2), 0x0, 0, 65535, [], .immediate, true⟩,
   ⟨0x07, 0x07, .rw, (.uint 4), 0x0, 0, 4294967295, [], .immediate, true⟩,
   ⟨0x08, 0x08, .wo, (.uint 1), 0x0, 1, 1, [], .immediate, true⟩,
   ⟨0x09, 0x09, .ro, (.uint 2), 0xFFFF, 0, 65535, [], .none, true⟩,
   ⟨0x0A, 0x0A, .ro, (.uint 1), 0x0, 0, 255, [], .none, true⟩,
   ⟨0x0B, 0x0B, .wo, (.uint 2), 0x0, 0, 65535, [], .immediate, true⟩,
   ⟨0x0C, 0x0C, .ro, (.uint 2), 0xFFFF, 0, 65535, [], .none, true⟩,
   ⟨0x0D, 0x0D, .ro, (.uint 1), 0x0, 0, 255, [], .none, true⟩]

def subsActionTable : List SubRow :=
  [⟨0x01, 0x01, .ro, (.uint 2), 0x0, 0, 65535, [], .none, false⟩,
   ⟨0x02, 0x02, .ro, (.uint 2), 0x0, 0, 65535, [], .none, false⟩,
   ⟨0x03, 0x03, .ro, (.uint 4), 0x0, 0, 4294967295, [], .none, false⟩,
   ⟨0x04, 0x04, .ro, (.uint 4), 0x0, 0, 4294967295, [], .none, false⟩]

def subsPortRecord : List SubRow :=
  [⟨0x01, 0x01, .rw, (.uint 1), 0x0, 0, 7, [], .staged, false⟩,
   ⟨0x02, 0x02, .ro, (.uint 1), 0xFF, 0, 255, [], .none, false⟩,
   ⟨0x03, 0x03, .rw, (.uint 1), 0xFF, 0, 255, [], .staged, false⟩,
   ⟨0x04, 0x04, .rw, (.uint 2), 0xFFFF, 0, 65535, [], .staged, false⟩,
   ⟨0x05, 0x05, .ro, (.uint 1), 0x0, 0, 255, [], .none, false⟩,
   ⟨0x06, 0x06, .ro, (.uint 1), 0x80, 0, 255, [], .none, false⟩,
   ⟨0x07, 0x07, .ro, (.uint 1), 0x0, 0, 255, [], .none, false⟩,
   ⟨0x08, 0x08, .ro, (.uint 4), 0x0, 0, 4294967295, [], .none, false⟩,
   ⟨0x09, 0x09, .ro, (.uint 4), 0x0, 0, 4294967295, [], .none, false⟩,
   ⟨0x0A, 0x0A, .ro, (.uint 4), 0x0, 0, 4294967295, [], .none, false⟩,
   ⟨0x0B, 0x0B, .ro, (.uint 4), 0x0, 0, 4294967295, [], .none, false⟩,
   ⟨0x0C, 0x0C, .ro, (.uint 4), 0x0, 0, 4294967295, [], .none, false⟩,
   ⟨0x0D, 0x0D, .ro, (.uint 4), 0x0, 0, 4294967295, [], .none, false⟩,
   ⟨0x0E, 0x0E, .ro, (.uint 4), 0x0, 0, 4294967295, [], .none, false⟩,
   ⟨0x0F, 0x0F, .ro, (.uint 4), 0x0, 0, 4294967295, [], .none, false⟩,
   ⟨0x10, 0x10, .ro, (.uint 4), 0x0, 0, 4294967295, [], .none, false⟩,
   ⟨0x11, 0x11, .ro, (.uint 1), 0x0, 0, 255, [], .none, false⟩,
   ⟨0x12, 0x12, .ro, (.uint 2), 0x0, 0, 65535, [], .none, false⟩,
   ⟨0x13, 0x13, .rw, (.uint 1), 0x8, 4, 32, [], .staged, false⟩,
   ⟨0x14, 0x14, .rw, (.uint 2), 0x14, 1, 2500, [], .staged, false⟩,
   ⟨0x15, 0x15, .ro, (.uint 2), 0x0, 0, 65535, [], .none, false⟩,
   ⟨0x16, 0x16, .ro, (.uint 2), 0x0, 0, 65535, [], .none, false⟩,
   ⟨0x17, 0x17, .ro, (.uint 8), 0x0, 0, 18446744073709551615, [], .none, false⟩,
   ⟨0x18, 0x18, .ro, (.uint 2), 0x0, 0, 65535, [], .none, false⟩,
   ⟨0x19, 0x19, .ro, (.uint 1), 0x0, 0, 255, [], .none, false⟩,
   ⟨0x1A, 0x1A, .rw, (.uint 2), 0x0, 0, 65535, [], .immediate, false⟩,
   ⟨0x1B, 0x1B, .rw, (.uint 1), 0x0, 0, 1, [], .staged, false⟩,
   ⟨0x1C, 0x1C, .rw, (.uint 1), 0x1, 1, 4, [1, 2, 4], .staged, false⟩,
   ⟨0x1D, 0x1D, .ro, (.uint 2), 0x0, 0, 65535, [], .none, false⟩,
   ⟨0x1E, 0x1E, .ro, (.uint 2), 0x0, 0, 65535, [], .none, false⟩,
   ⟨0x1F, 0x1F, .ro, (.uint 2), 0x0, 0, 65535, [], .none, false⟩,
   ⟨0x20, 0x20, .ro, (.sint 4), 0x0, (-2147483648), 2147483647, [], .none, false⟩,
   ⟨0x21, 0x21, .ro, (.uint 2), 0x0, 0, 65535, [], .none, false⟩,
   ⟨0x22, 0x22, .ro, (.uint 2), 0x0, 0, 65535, [], .none, false⟩,
   ⟨0x23, 0x23, .ro, (.uint 2), 0x0, 0, 65535, [], .none, false⟩,
   ⟨0x24, 0x24, .ro, (.uint 1), 0x0, 0, 255, [], .none, false⟩,
   ⟨0x25, 0x25, .ro, (.uint 4), 0x0, 0, 4294967295, [], .none, false⟩,
   ⟨0x26, 0x26, .ro, (.sint 2), 0x0, (-32768), 32767, [], .none, false⟩,
   ⟨0x27, 0x27, .rw, (.uint 1), 0xFF, 0, 255, [], .staged, false⟩,
   ⟨0x28, 0x28, .ro, (.uint 1), 0x0, 0, 255, [], .none, false⟩,
   ⟨0x29, 0x29, .ro, (.uint 2), 0xFFFF, 0, 65535, [], .none, false⟩]

def subsFeedRecord : List SubRow :=
  [⟨0x01, 0x01, .rw, (.uint 4), 0x0, 0, 4294967295, [], .staged, false⟩,
   ⟨0x02, 0x02, .rw, (.uint 4), 0x0, 0, 4294967295, [], .staged, false⟩,
   ⟨0x03, 0x03, .rw, (.uint 2), 0xA, 0, 3000, [], .staged, false⟩,
   ⟨0x04, 0x04, .rw, (.uint 2), 0x14, 1, 2500, [], .staged, false⟩,
   ⟨0x05, 0x05, .rw, (.uint 1), 0x1, 0, 1, [], .staged, false⟩,
   ⟨0x06, 0x06, .rw, (.uint 4), 0x0, 0, 4294967295, [], .staged, false⟩,
   ⟨0x07, 0x07, .rw, (.uint 4), 0x0, 0, 4294967295, [], .staged, false⟩,
   ⟨0x08, 0x08, .rw, (.uint 4), 0x0, 0, 4294967295, [], .staged, false⟩,
   ⟨0x09, 0x09, .rw, (.uint 2), 0xC8, 10, 10000, [], .staged, false⟩,
   ⟨0x0A, 0x0A, .rw, (.uint 2), 0x1F4, 20, 20000, [], .staged, false⟩,
   ⟨0x0B, 0x0B, .rw, (.uint 2), 0x3E8, 10, 10000, [], .staged, false⟩,
   ⟨0x0C, 0x0C, .rw, (.uint 2), 0x3EC, 922, 1024, [], .staged, false⟩,
   ⟨0x0D, 0x0D, .rw, (.uint 1), 0x0, 0, 1, [], .staged, false⟩,
   ⟨0x0E, 0x15, .rw, (.uint 2), 0x0, 0, 65535, [], .staged, false⟩,
   ⟨0x16, 0x1D, .rw, (.uint 4), 0x0, 0, 4294967295, [], .staged, false⟩,
   ⟨0x1E, 0x1E, .rw, (.uint 2), 0xBB8, 50, 30000, [], .staged, false⟩,
   ⟨0x1F, 0x1F, .rw, (.uint 4), 0x0, 0, 4294967295, [], .staged, false⟩,
   ⟨0x20, 0x20, .rw, (.uint 4), 0x2710, 100, 10000000, [], .staged, false⟩,
   ⟨0x21, 0x21, .rw, (.uint 1), 0x3, 0, 15, [], .staged, false⟩,
   ⟨0x22, 0x22, .rw, (.uint 2), 0x5, 1, 3000, [], .staged, false⟩,
   ⟨0x23, 0x23, .rw, (.uint 4), 0xBB8, 50, 4320000, [], .staged, false⟩,
   ⟨0x24, 0x24, .wo, (.uint 1), 0x0, 1, 1, [], .immediate, false⟩,
   ⟨0x25, 0x25, .ro, (.uint 1), 0x0, 0, 255, [], .none, false⟩,
   ⟨0x26, 0x26, .ro, (.sint 4), 0x0, (-2147483648), 2147483647, [], .none, false⟩,
   ⟨0x27, 0x27, .ro, (.sint 4), 0x0, (-2147483648), 2147483647, [], .none, false⟩,
   ⟨0x28, 0x28, .ro, (.sint 4), 0x0, (-2147483648), 2147483647, [], .none, false⟩,
   ⟨0x29, 0x29, .ro, (.sint 2), 0x0, (-32768), 32767, [], .none, false⟩,
   ⟨0x2A, 0x2A, .ro, (.uint 2), 0x0, 0, 65535, [], .none, false⟩,
   ⟨0x2B, 0x2B, .ro, (.uint 4), 0x0, 0, 4294967295, [], .none, false⟩,
   ⟨0x2C, 0x2C, .ro, (.uint 1), 0x0, 0, 255, [], .none, false⟩,
   ⟨0x2D, 0x2D, .ro, (.uint 4), 0x0, 0, 4294967295, [], .none, false⟩,
   ⟨0x2E, 0x2E, .ro, (.uint 1), 0x0, 0, 255, [], .none, false⟩,
   ⟨0x2F, 0x2F, .ro, (.uint 2), 0xFFFF, 0, 65535, [], .none, false⟩,
   ⟨0x30, 0x30, .ro, (.uint 4), 0x0, 0, 4294967295, [], .none, false⟩,
   ⟨0x31, 0x31, .ro, (.uint 2), 0x0, 0, 65535, [], .none, false⟩,
   ⟨0x32, 0x32, .ro, (.uint 4), 0x0, 0, 4294967295, [], .none, false⟩,
   ⟨0x33, 0x33, .ro, (.uint 4), 0x0, 0, 4294967295, [], .none, false⟩,
   ⟨0x40, 0x40, .rw, (.uint 1), 0x8, 0, 15, [], .staged, false⟩,
   ⟨0x41, 0x41, .rw, (.uint 4), 0x0, 0, 4294967295, [], .staged, false⟩,
   ⟨0x42, 0x42, .rw, (.uint 4), 0x0, 0, 4294967295, [], .staged, false⟩,
   ⟨0x43, 0x43, .rw, (.uint 1), 0x0, 0, 255, [], .staged, false⟩,
   ⟨0x44, 0x44, .ro, (.uint 4), 0x0, 0, 4294967295, [], .none, false⟩,
   ⟨0x45, 0x45, .ro, (.uint 4), 0x0, 0, 4294967295, [], .none, false⟩,
   ⟨0x46, 0x46, .ro, (.uint 4), 0x0, 0, 4294967295, [], .none, false⟩,
   ⟨0x47, 0x47, .ro, (.uint 1), 0x0, 0, 255, [], .none, false⟩,
   ⟨0x48, 0x48, .ro, (.uint 4), 0xFFFFFFFF, 0, 4294967295, [], .none, false⟩,
   ⟨0x49, 0x49, .ro, (.uint 4), 0x0, 0, 4294967295, [], .none, false⟩,
   ⟨0x4A, 0x4A, .ro, (.uint 1), 0x0, 0, 255, [], .none, false⟩,
   ⟨0x4B, 0x4B, .ro, (.uint 4), 0x0, 0, 4294967295, [], .none, false⟩,
   ⟨0x4C, 0x4C, .ro, (.uint 4), 0x0, 0, 4294967295, [], .none, false⟩,
   ⟨0x4D, 0x4D, .ro, (.uint 4), 0x0, 0, 4294967295, [], .none, false⟩]

def subsStringRecord : List SubRow :=
  [⟨0x01, 0x01, .rw, (.uint 1), 0xFF, 0, 255, [], .staged, false⟩,
   ⟨0x02, 0x02, .rw, (.uint 1), 0xFF, 0, 255, [], .staged, false⟩,
   ⟨0x03, 0x03, .rw, (.uint 1), 0xFF, 0, 255, [], .staged, false⟩,
   ⟨0x04, 0x04, .rw, (.uint 2), 0x0, 1, 400, [], .staged, false⟩,
   ⟨0x05, 0x05, .rw, (.uint 4), 0x0, 1, 10000000, [], .staged, false⟩,
   ⟨0x06, 0x06, .rw, (.uint 2), 0x0, 0, 65535, [], .staged, false⟩,
   ⟨0x07, 0x07, .rw, (.uint 2), 0x0, 0, 65535, [], .staged, false⟩,
   ⟨0x08, 0x08, .rw, (.uint 2), 0x0, 0, 65535, [], .staged, false⟩,
   ⟨0x09, 0x09, .rw, (.uint 4), 0x0, 0, 4294967295, [], .staged, false⟩,
   ⟨0x0A, 0x0A, .rw, (.uint 4), 0x0, 0, 4294967295, [], .staged, false⟩,
   ⟨0x0B, 0x0B, .rw, (.uint 2), 0x1F4, 1, 30000, [], .staged, false⟩,
   ⟨0x0C, 0x0C, .rw, (.uint 2), 0x251C, 0, 65535, [], .staged, false⟩,
   ⟨0x0D, 0x0D, .rw, (.uint 4), 0x0, 0, 4294967295, [], .staged, false⟩,
   ⟨0x0E, 0x0E, .rw, (.uint 2), 0xBB8, 0, 65535, [], .staged, false⟩,
   ⟨0x0F, 0x0F, .rw, (.uint 2), 0x5DC, 0, 65535, [], .staged, false⟩,
   ⟨0x10, 0x10, .rw, (.uint 2), 0x200, 0, 1024, [], .staged, false⟩,
   ⟨0x11, 0x11, .rw, (.uint 2), 0x1F4, 0, 65535, [], .staged, false⟩,
   ⟨0x12, 0x12, .rw, (.uint 2), 0x0, 0, 65535, [], .staged, false⟩,
   ⟨0x13, 0x13, .rw, (.uint 2), 0x64, 1, 2500, [], .staged, false⟩,
   ⟨0x14, 0x14, .rw, (.uint 2), 0x5DC, 0, 65535, [], .staged, false⟩,
   ⟨0x15, 0x15, .rw, (.sint 2), 0x0, (-32768), 32767, [], .staged, false⟩,
   ⟨0x16, 0x16, .rw, (.sint 2), 0x1C2, (-32768), 32767, [], .staged, false⟩,
   ⟨0x17, 0x17, .rw, (.sint 2), 0xFF38, (-32768), 32767, [], .staged, false⟩,
   ⟨0x18, 0x18, .rw, (.sint 2), 0x258, (-32768), 32767, [], .staged, false⟩,
   ⟨0x19, 0x19, .rw, (.uint 2), 0x32, 0, 200, [], .staged, false⟩,
   ⟨0x1A, 0x1A, .rw, (.uint 4), 0x30D40, 0, 4294967295, [], .staged, false⟩,
   ⟨0x1B, 0x1B, .rw, (.uint 2), 0x640, 1550, 5000, [], .staged, false⟩,
   ⟨0x1C, 0x1C, .rw, (.uint 4), 0x2710, 0, 4294967295, [], .staged, false⟩,
   ⟨0x1D, 0x1D, .rw, (.uint 2), 0xD6B, 1000, 10000, [], .staged, false⟩,
   ⟨0x1E, 0x1E, .rw, (.uint 2), 0x578, 0, 65535, [], .staged, false⟩,
   ⟨0x1F, 0x1F, .rw, (.uint 2), 0x5, 0, 65535, [], .staged, false⟩,
   ⟨0x20, 0x20, .rw, (.uint 1), 0x19, 2, 250, [], .staged, false⟩,
   ⟨0x21, 0x21, .rw, (.uint 4), 0x3E8, 0, 4294967295, [], .staged, false⟩,
   ⟨0x22, 0x22, .rw, (.uint 4), 0x15F90, 1, 1000000, [], .staged, false⟩,
   ⟨0x23, 0x23, .rw, (.uint 2), 0x1E, 0, 65535, [], .staged, false⟩,
   ⟨0x24, 0x24, .rw, (.uint 2), 0x3FB, 900, 1024, [], .staged, false⟩,
   ⟨0x25, 0x2F, .rw, (.uint 2), 0x0, 0, 65535, [], .staged, false⟩,
   ⟨0x30, 0x30, .rw, (.uint 1), 0x0, 0, 3, [], .staged, false⟩,
   ⟨0x31, 0x31, .rw, (.uint 1), 0x0, 0, 127, [], .staged, false⟩,
   ⟨0x32, 0x32, .rw, (.uint 1), 0x1, 0, 1, [], .staged, false⟩,
   ⟨0x33, 0x33, .rw, (.uint 4), 0x2BF20, 3000, 4320000, [], .staged, false⟩,
   ⟨0x34, 0x34, .wo, (.domain 32 true), 0x0, 0, 0, [], .staged, false⟩,
   ⟨0x35, 0x35, .wo, (.uint 1), 0x0, 1, 1, [], .immediate, false⟩,
   ⟨0x36, 0x36, .rw, (.uint 2), 0xFA, 50, 3000, [], .staged, false⟩,
   ⟨0x37, 0x37, .rw, (.uint 2), 0x0, 0, 65535, [], .staged, false⟩,
   ⟨0x40, 0x40, .ro, (.uint 1), 0x0, 0, 255, [], .none, false⟩,
   ⟨0x41, 0x41, .ro, (.uint 1), 0x0, 0, 255, [], .none, false⟩,
   ⟨0x42, 0x42, .ro, (.uint 1), 0x0, 0, 255, [], .none, false⟩,
   ⟨0x43, 0x43, .ro, (.uint 1), 0x0, 0, 255, [], .none, false⟩,
   ⟨0x44, 0x44, .ro, (.uint 1), 0x0, 0, 255, [], .none, false⟩,
   ⟨0x45, 0x45, .ro, (.uint 2), 0x1, 0, 65535, [], .none, false⟩,
   ⟨0x46, 0x46, .ro, (.sint 4), 0x0, (-2147483648), 2147483647, [], .none, false⟩,
   ⟨0x47, 0x47, .ro, (.sint 4), 0x0, (-2147483648), 2147483647, [], .none, false⟩,
   ⟨0x48, 0x48, .ro, (.sint 2), 0x8000, (-32768), 32767, [], .none, false⟩,
   ⟨0x49, 0x49, .ro, (.uint 2), 0x0, 0, 65535, [], .none, false⟩,
   ⟨0x4A, 0x4A, .ro, (.uint 4), 0x0, 0, 4294967295, [], .none, false⟩,
   ⟨0x4B, 0x4B, .ro, (.uint 4), 0x0, 0, 4294967295, [], .none, false⟩,
   ⟨0x4C, 0x4C, .ro, (.uint 2), 0x0, 0, 65535, [], .none, false⟩,
   ⟨0x4D, 0x4D, .ro, (.uint 2), 0x0, 0, 65535, [], .none, false⟩,
   ⟨0x4E, 0x4E, .ro, (.uint 4), 0x0, 0, 4294967295, [], .none, false⟩,
   ⟨0x4F, 0x4F, .ro, (.uint 4), 0x0, 0, 4294967295, [], .none, false⟩,
   ⟨0x50, 0x50, .ro, (.uint 2), 0x0, 0, 65535, [], .none, false⟩,
   ⟨0x51, 0x51, .ro, (.uint 8), 0x0, 0, 18446744073709551615, [], .none, false⟩,
   ⟨0x52, 0x52, .ro, (.uint 4), 0x0, 0, 4294967295, [], .none, false⟩,
   ⟨0x53, 0x53, .ro, (.uint 4), 0x0, 0, 4294967295, [], .none, false⟩,
   ⟨0x54, 0x54, .ro, (.uint 2), 0xFFFF, 0, 65535, [], .none, false⟩,
   ⟨0x55, 0x55, .ro, (.uint 4), 0x0, 0, 4294967295, [], .none, false⟩,
   ⟨0x56, 0x56, .ro, (.uint 1), 0x0, 0, 255, [], .none, false⟩,
   ⟨0x57, 0x57, .ro, (.uint 4), 0x0, 0, 4294967295, [], .none, false⟩,
   ⟨0x58, 0x58, .ro, (.uint 4), 0x0, 0, 4294967295, [], .none, false⟩,
   ⟨0x59, 0x59, .ro, (.uint 2), 0x0, 0, 65535, [], .none, false⟩]

def subsChannel : List SubRow :=
  [⟨0x01, 0x01, .rw, (.uint 1), 0x1, 0, 1, [], .staged, false⟩,
   ⟨0x02, 0x02, .rw, (.uint 1), 0x0, 0, 1, [], .staged, false⟩,
   ⟨0x03, 0x03, .rw, (.uint 1), 0x0, 0, 1, [], .staged, false⟩,
   ⟨0x04, 0x04, .rw, (.uint 4), 0x0, 0, 4294967295, [], .staged, false⟩,
   ⟨0x05, 0x05, .rw, (.uint 1), 0x1, 1, 8, [], .staged, false⟩,
   ⟨0x06, 0x06, .rw, (.sint 4), 0x3E8, (-2147483648), 2147483647, [], .staged, false⟩,
   ⟨0x07, 0x07, .rw, (.uint 1), 0x0, 0, 4, [], .staged, false⟩,
   ⟨0x08, 0x08, .ro, (.sint 4), 0x0, (-2147483648), 2147483647, [], .none, false⟩,
   ⟨0x09, 0x09, .ro, (.uint 2), 0x0, 0, 65535, [], .none, false⟩,
   ⟨0x0A, 0x0A, .ro, (.uint 2), 0xFFFF, 0, 65535, [], .none, false⟩,
   ⟨0x0B, 0x0B, .ro, (.uint 4), 0x0, 0, 4294967295, [], .none, false⟩,
   ⟨0x0C, 0x0C, .ro, (.sint 4), 0x0, (-2147483648), 2147483647, [], .none, false⟩,
   ⟨0x0D, 0x0D, .ro, (.sint 4), 0x0, (-2147483648), 2147483647, [], .none, false⟩,
   ⟨0x0E, 0x0E, .ro, (.sint 4), 0x0, (-2147483648), 2147483647, [], .none, false⟩,
   ⟨0x0F, 0x0F, .ro, (.sint 4), 0x0, (-2147483648), 2147483647, [], .none, false⟩,
   ⟨0x10, 0x10, .ro, (.uint 4), 0x0, 0, 4294967295, [], .none, false⟩,
   ⟨0x11, 0x11, .ro, (.uint 4), 0x0, 0, 4294967295, [], .none, false⟩,
   ⟨0x12, 0x12, .ro, (.sint 4), 0x0, (-2147483648), 2147483647, [], .none, false⟩,
   ⟨0x13, 0x13, .ro, (.sint 4), 0x80000000, (-2147483648), 2147483647, [], .none, false⟩,
   ⟨0x14, 0x14, .rw, (.uint 4), 0x1E8480, 0, 4294967295, [], .staged, false⟩,
   ⟨0x15, 0x15, .ro, (.sint 4), 0x0, (-2147483648), 2147483647, [], .none, false⟩,
   ⟨0x16, 0x16, .ro, (.uint 4), 0x40000000, 0, 4294967295, [], .none, false⟩,
   ⟨0x17, 0x17, .ro, (.sint 4), 0x0, (-2147483648), 2147483647, [], .none, false⟩,
   ⟨0x18, 0x18, .ro, (.uint 4), 0x40000000, 0, 4294967295, [], .none, false⟩,
   ⟨0x19, 0x19, .wo, (.uint 1), 0x0, 1, 1, [], .immediate, false⟩,
   ⟨0x1A, 0x1A, .ro, (.uint 1), 0x0, 0, 255, [], .none, false⟩,
   ⟨0x1B, 0x1B, .ro, (.uint 4), 0x0, 0, 4294967295, [], .none, false⟩]

def subsZeroCross : List SubRow :=
  [⟨0x1C, 0x1C, .rw, (.uint 2), 0x14, 4, 100, [], .staged, false⟩,
   ⟨0x1D, 0x1D, .rw, (.uint 2), 0x32, 0, 500, [], .staged, false⟩,
   ⟨0x1E, 0x1E, .rw, (.uint 1), 0x5A, 30, 150, [], .staged, false⟩,
   ⟨0x1F, 0x1F, .ro, (.uint 4), 0x0, 0, 4294967295, [], .none, false⟩]

def subsReference : List SubRow :=
  [⟨0x20, 0x20, .wo, (.uint 1), 0x0, 1, 1, [], .immediate, false⟩,
   ⟨0x21, 0x21, .ro, (.uint 1), 0x0, 0, 255, [], .none, false⟩,
   ⟨0x22, 0x22, .rw, (.uint 1), 0xA, 10, 255, [], .staged, false⟩,
   ⟨0x23, 0x23, .ro, (.uint 1), 0x0, 0, 255, [], .none, false⟩]

def subsRailRecord : List SubRow :=
  [⟨0x01, 0x01, .rw, (.uint 1), 0x1, 0, 1, [], .staged, false⟩,
   ⟨0x02, 0x02, .rw, (.uint 2), 0x0, 0, 5000, [], .staged, false⟩,
   ⟨0x03, 0x03, .rw, (.uint 1), 0x1, 1, 4, [], .staged, false⟩,
   ⟨0x04, 0x04, .rw, (.uint 2), 0x0, 0, 65535, [], .staged, false⟩,
   ⟨0x05, 0x05, .ro, (.uint 1), 0x0, 0, 255, [], .none, false⟩,
   ⟨0x06, 0x06, .ro, (.uint 4), 0x0, 0, 4294967295, [], .none, false⟩,
   ⟨0x07, 0x07, .ro, (.uint 4), 0x0, 0, 4294967295, [], .none, false⟩,
   ⟨0x08, 0x08, .ro, (.uint 4), 0x0, 0, 4294967295, [], .none, false⟩,
   ⟨0x09, 0x09, .ro, (.uint 4), 0x0, 0, 4294967295, [], .none, false⟩,
   ⟨0x0A, 0x0A, .ro, (.uint 4), 0x0, 0, 4294967295, [], .none, false⟩]

def subsSequenceRecord : List SubRow :=
  [⟨0x01, 0x01, .rw, (.uint 1), 0x3, 0, 7, [], .staged, false⟩,
   ⟨0x02, 0x02, .rw, (.uint 2), 0x32, 2, 3000, [], .staged, false⟩,
   ⟨0x03, 0x03, .rw, (.uint 1), 0x0, 0, 1, [], .staged, false⟩,
   ⟨0x04, 0x04, .ro, (.uint 1), 0x0, 0, 255, [], .none, false⟩,
   ⟨0x05, 0x05, .rw, (.uint 4), 0x0, 0, 4294967295, [], .staged, false⟩,
   ⟨0x06, 0x06, .ro, (.uint 1), 0x0, 0, 255, [], .none, false⟩,
   ⟨0x07, 0x07, .ro, (.uint 2), 0xFFFF, 0, 65535, [], .none, false⟩,
   ⟨0x08, 0x08, .ro, (.uint 4), 0x0, 0, 4294967295, [], .none, false⟩,
   ⟨0x09, 0x09, .ro, (.uint 4), 0x0, 0, 4294967295, [], .none, false⟩,
   ⟨0x0A, 0x0A, .ro, (.uint 2), 0x0, 0, 65535, [], .none, false⟩,
   ⟨0x0B, 0x0B, .ro, (.uint 2), 0x0, 0, 65535, [], .none, false⟩,
   ⟨0x0C, 0x0C, .ro, (.uint 1), 0x0, 0, 255, [], .none, false⟩,
   ⟨0x0D, 0x0D, .ro, (.uint 4), 0x0, 0, 4294967295, [], .none, false⟩,
   ⟨0x0E, 0x0E, .ro, (.uint 1), 0xFF, 0, 255, [], .none, false⟩,
   ⟨0x0F, 0x0F, .ro, (.uint 2), 0xFFFF, 0, 65535, [], .none, false⟩,
   ⟨0x10, 0x10, .ro, (.uint 1), 0x0, 0, 255, [], .none, false⟩,
   ⟨0x11, 0x11, .ro, (.uint 1), 0xFF, 0, 255, [], .none, false⟩,
   ⟨0x12, 0x12, .ro, (.uint 4), 0x0, 0, 4294967295, [], .none, false⟩]

def subsSeqSnapshotStatus : List SubRow :=
  [⟨0x01, 0x01, .ro, (.uint 1), 0x0, 0, 255, [], .none, false⟩,
   ⟨0x02, 0x02, .wo, (.uint 1), 0x0, 0, 7, [], .immediate, false⟩,
   ⟨0x03, 0x03, .rw, (.uint 2), 0xFA, 1, 30000, [], .staged, false⟩,
   ⟨0x04, 0x04, .ro, (.uint 2), 0xFFFF, 0, 65535, [], .none, false⟩,
   ⟨0x05, 0x05, .ro, (.uint 4), 0x0, 0, 4294967295, [], .none, false⟩]

def subsSnapshotArea : List SubRow :=
  [⟨0x00, 0x00, .ro, (.domain 16384 false), 0x0, 0, 0, [], .none, false⟩]

def subsSlotEntry : List SubRow :=
  [⟨0x01, 0x01, .rw, (.uint 1), 0xFF, 0, 255, [], .staged, false⟩,
   ⟨0x02, 0x02, .rw, (.uint 1), 0x0, 0, 3, [0, 2, 3], .staged, false⟩,
   ⟨0x03, 0x03, .rw, (.uint 2), 0x0, 0, 65535, [], .staged, false⟩,
   ⟨0x04, 0x04, .rw, (.uint 2), 0x1, 1, 256, [], .staged, false⟩,
   ⟨0x05, 0x05, .rw, (.uint 4), 0x0, 0, 4294967295, [], .staged, false⟩,
   ⟨0x06, 0x06, .rw, (.uint 4), 0x0, 0, 4294967295, [], .staged, false⟩,
   ⟨0x07, 0x07, .rw, (.uint 4), 0x0, 0, 4294967295, [], .staged, false⟩,
   ⟨0x08, 0x08, .rw, (.uint 4), 0x186A0, 100, 30000000, [], .staged, false⟩,
   ⟨0x09, 0x09, .rw, (.uint 1), 0x1, 0, 1, [], .staged, false⟩,
   ⟨0x0A, 0x0A, .ro, (.uint 2), 0x0, 0, 65535, [], .none, false⟩,
   ⟨0x0B, 0x0B, .ro, (.uint 4), 0x0, 0, 4294967295, [], .none, false⟩,
   ⟨0x0C, 0x0C, .ro, (.uint 2), 0xFFFF, 0, 65535, [], .none, false⟩,
   ⟨0x0D, 0x0D, .ro, (.uint 1), 0x0, 0, 255, [], .none, false⟩,
   ⟨0x0E, 0x0E, .ro, (.uint 2), 0xFFFF, 0, 65535, [], .none, false⟩,
   ⟨0x0F, 0x0F, .ro, (.uint 4), 0x0, 0, 4294967295, [], .none, false⟩,
   ⟨0x10, 0x10, .ro, (.uint 2), 0x0, 0, 65535, [], .none, false⟩]

def subsGroupRecord : List SubRow :=
  [⟨0x01, 0x01, .rw, (.uint 4), 0x0, 0, 4294967295, [], .staged, false⟩,
   ⟨0x02, 0x02, .rw, (.uint 2), 0x3E8, 1, 60000, [], .staged, false⟩,
   ⟨0x03, 0x03, .rw, (.uint 4), 0x0, 1, 10000000, [], .staged, false⟩,
   ⟨0x04, 0x04, .rw, (.uint 4), 0x0, 0, 100000000, [], .staged, false⟩,
   ⟨0x05, 0x05, .rw, (.uint 2), 0x300, 512, 1536, [], .staged, false⟩,
   ⟨0x06, 0x06, .rw, (.uint 4), 0x0, 0, 4294967295, [], .staged, false⟩,
   ⟨0x07, 0x07, .rw, (.uint 2), 0x200, 0, 1024, [], .staged, false⟩,
   ⟨0x08, 0x08, .rw, (.uint 2), 0x66, 0, 205, [], .staged, false⟩,
   ⟨0x09, 0x09, .rw, (.uint 2), 0x333, 512, 1024, [], .staged, false⟩,
   ⟨0x0A, 0x0A, .rw, (.uint 2), 0x266, 205, 1024, [], .staged, false⟩,
   ⟨0x0B, 0x0B, .rw, (.uint 2), 0x32, 1, 3000, [], .staged, false⟩,
   ⟨0x0C, 0x0C, .rw, (.uint 1), 0x1, 1, 255, [], .staged, false⟩,
   ⟨0x0D, 0x0D, .rw, (.uint 2), 0x1388, 1, 60000, [], .staged, false⟩,
   ⟨0x0E, 0x0E, .rw, (.sint 4), 0x0, (-2147483648), 2147483647, [], .staged, false⟩,
   ⟨0x0F, 0x0F, .rw, (.uint 2), 0x64, 1, 3000, [], .staged, false⟩,
   ⟨0x10, 0x10, .rw, (.uint 4), 0x0, 0, 4294967295, [], .staged, false⟩,
   ⟨0x11, 0x11, .rw, (.uint 4), 0x0, 0, 4294967295, [], .staged, false⟩,
   ⟨0x12, 0x12, .ro, (.uint 1), 0x0, 0, 255, [], .none, false⟩,
   ⟨0x13, 0x13, .ro, (.uint 1), 0x0, 0, 255, [], .none, false⟩,
   ⟨0x14, 0x14, .ro, (.uint 2), 0xFFFF, 0, 65535, [], .none, false⟩,
   ⟨0x15, 0x15, .ro, (.uint 4), 0x0, 0, 4294967295, [], .none, false⟩,
   ⟨0x16, 0x16, .ro, (.sint 4), 0x0, (-2147483648), 2147483647, [], .none, false⟩,
   ⟨0x17, 0x17, .ro, (.sint 4), 0x0, (-2147483648), 2147483647, [], .none, false⟩,
   ⟨0x18, 0x18, .ro, (.sint 4), 0x0, (-2147483648), 2147483647, [], .none, false⟩,
   ⟨0x19, 0x19, .ro, (.uint 4), 0x0, 0, 4294967295, [], .none, false⟩,
   ⟨0x1A, 0x1A, .ro, (.uint 2), 0x0, 0, 65535, [], .none, false⟩,
   ⟨0x1B, 0x1B, .ro, (.uint 4), 0x0, 0, 4294967295, [], .none, false⟩,
   ⟨0x1C, 0x1C, .ro, (.uint 1), 0x0, 0, 255, [], .none, false⟩,
   ⟨0x20, 0x20, .rw, (.uint 1), 0x0, 1, 96, [], .staged, false⟩,
   ⟨0x21, 0x21, .rw, (.uint 1), 0x0, 1, 96, [], .staged, false⟩,
   ⟨0x22, 0x22, .rw, (.uint 1), 0x0, 0, 1, [], .staged, false⟩,
   ⟨0x23, 0x23, .rw, (.uint 2), 0x400, 512, 1024, [], .staged, false⟩,
   ⟨0x24, 0x24, .rw, (.uint 2), 0x3D7, 768, 1024, [], .staged, false⟩,
   ⟨0x25, 0x25, .ro, (.uint 1), 0x0, 0, 255, [], .none, false⟩,
   ⟨0x26, 0x26, .ro, (.uint 1), 0x0, 0, 255, [], .none, false⟩,
   ⟨0x27, 0x27, .ro, (.uint 1), 0x0, 0, 255, [], .none, false⟩,
   ⟨0x28, 0x28, .ro, (.uint 4), 0x0, 0, 4294967295, [], .none, false⟩,
   ⟨0x29, 0x29, .ro, (.uint 4), 0xFFFFFFFF, 0, 4294967295, [], .none, false⟩,
   ⟨0x2A, 0x2A, .ro, (.uint 4), 0x0, 0, 4294967295, [], .none, false⟩,
   ⟨0x2B, 0x2B, .ro, (.uint 4), 0x0, 0, 4294967295, [], .none, false⟩,
   ⟨0x2C, 0x2C, .ro, (.uint 4), 0x0, 0, 4294967295, [], .none, false⟩,
   ⟨0x2D, 0x2D, .ro, (.uint 2), 0x0, 0, 65535, [], .none, false⟩]

def subsCappingConfig : List SubRow :=
  [⟨0x01, 0x01, .rw, (.uint 4), 0x0, 0, 4294967295, [], .staged, false⟩,
   ⟨0x02, 0x02, .rw, (.uint 2), 0x40, 0, 512, [], .staged, false⟩,
   ⟨0x03, 0x03, .rw, (.uint 4), 0x0, 0, 4294967295, [], .staged, false⟩]

def subsCappingStatus : List SubRow :=
  [⟨0x01, 0x01, .ro, (.uint 4), 0x0, 0, 4294967295, [], .none, false⟩,
   ⟨0x02, 0x02, .ro, (.uint 4), 0x0, 0, 4294967295, [], .none, false⟩,
   ⟨0x03, 0x03, .ro, (.uint 4), 0x0, 0, 4294967295, [], .none, false⟩,
   ⟨0x04, 0x04, .ro, (.uint 2), 0x0, 0, 65535, [], .none, false⟩,
   ⟨0x05, 0x05, .ro, (.uint 2), 0x0, 0, 65535, [], .none, false⟩,
   ⟨0x06, 0x06, .ro, (.uint 1), 0x0, 0, 255, [], .none, false⟩]

def subsChargeAllocation : List SubRow :=
  [⟨0x01, 0x10, .ro, (.uint 4), 0x0, 0, 4294967295, [], .none, false⟩]

def subsMainsConfig : List SubRow :=
  [⟨0x01, 0x01, .rw, (.uint 1), 0x1, 1, 2, [], .staged, false⟩,
   ⟨0x02, 0x02, .rw, (.uint 1), 0x0, 0, 2, [], .staged, false⟩,
   ⟨0x03, 0x03, .rw, (.uint 4), 0x38270, 0, 4294967295, [], .staged, false⟩,
   ⟨0x04, 0x04, .rw, (.uint 2), 0x200, 256, 768, [], .staged, false⟩,
   ⟨0x05, 0x05, .rw, (.uint 1), 0x1, 1, 8, [], .staged, false⟩,
   ⟨0x06, 0x06, .rw, (.uint 2), 0x366, 307, 1004, [], .staged, false⟩,
   ⟨0x07, 0x07, .rw, (.uint 2), 0x49A, 1044, 1331, [], .staged, false⟩,
   ⟨0x08, 0x08, .rw, (.uint 2), 0x533, 1064, 1638, [], .staged, false⟩,
   ⟨0x09, 0x09, .rw, (.uint 2), 0x66, 20, 512, [], .staged, false⟩,
   ⟨0x0A, 0x0A, .rw, (.uint 2), 0xFA, 10, 1250, [], .staged, false⟩,
   ⟨0x0B, 0x0B, .rw, (.uint 2), 0x320, 100, 3000, [], .staged, false⟩,
   ⟨0x0C, 0x0C, .rw, (.uint 2), 0x32, 10, 3000, [], .staged, false⟩,
   ⟨0x0D, 0x0D, .rw, (.uint 2), 0x64, 1, 3000, [], .staged, false⟩,
   ⟨0x0E, 0x0E, .rw, (.uint 4), 0x0, 0, 4294967295, [], .staged, false⟩,
   ⟨0x0F, 0x0F, .rw, (.uint 2), 0x2710, 100, 60000, [], .staged, false⟩,
   ⟨0x10, 0x10, .rw, (.uint 4), 0x0, 1, 10000000, [], .staged, false⟩,
   ⟨0x11, 0x11, .rw, (.uint 4), 0x0, 0, 100000000, [], .staged, false⟩,
   ⟨0x12, 0x12, .rw, (.uint 2), 0x400, 1024, 1536, [], .staged, false⟩,
   ⟨0x13, 0x13, .rw, (.uint 4), 0x0, 0, 4294967295, [], .staged, false⟩,
   ⟨0x14, 0x14, .rw, (.uint 4), 0x0, 0, 4294967295, [], .staged, false⟩]

def subsMainsFeed : List SubRow :=
  [⟨0x01, 0x01, .rw, (.uint 1), 0x0, 0, 1, [], .staged, false⟩,
   ⟨0x02, 0x02, .rw, (.uint 1), 0x3, 1, 3, [1, 3], .staged, false⟩,
   ⟨0x03, 0x03, .rw, (.uint 1), 0xFF, 0, 255, [], .staged, false⟩,
   ⟨0x04, 0x04, .ro, (.uint 1), 0x0, 0, 255, [], .none, false⟩,
   ⟨0x05, 0x05, .ro, (.uint 2), 0x0, 0, 65535, [], .none, false⟩,
   ⟨0x06, 0x06, .ro, (.uint 4), 0x0, 0, 4294967295, [], .none, false⟩,
   ⟨0x07, 0x09, .ro, (.uint 4), 0x0, 0, 4294967295, [], .none, false⟩,
   ⟨0x0A, 0x0C, .ro, (.sint 4), 0x0, (-2147483648), 2147483647, [], .none, false⟩,
   ⟨0x0D, 0x0D, .ro, (.uint 4), 0x0, 0, 4294967295, [], .none, false⟩,
   ⟨0x0E, 0x0E, .ro, (.uint 2), 0x0, 0, 65535, [], .none, false⟩,
   ⟨0x0F, 0x0F, .ro, (.uint 1), 0x0, 0, 255, [], .none, false⟩,
   ⟨0x10, 0x10, .ro, (.uint 4), 0x0, 0, 4294967295, [], .none, false⟩,
   ⟨0x11, 0x11, .ro, (.uint 4), 0x0, 0, 4294967295, [], .none, false⟩]

def subsHoldupStatus : List SubRow :=
  [⟨0x01, 0x01, .ro, (.uint 1), 0x0, 0, 255, [], .none, false⟩,
   ⟨0x02, 0x02, .ro, (.uint 2), 0x0, 0, 65535, [], .none, false⟩,
   ⟨0x03, 0x03, .ro, (.sint 4), 0x0, (-2147483648), 2147483647, [], .none, false⟩,
   ⟨0x04, 0x04, .ro, (.sint 4), 0x0, (-2147483648), 2147483647, [], .none, false⟩,
   ⟨0x05, 0x05, .ro, (.uint 4), 0x0, 0, 4294967295, [], .none, false⟩,
   ⟨0x06, 0x06, .ro, (.uint 4), 0x0, 0, 4294967295, [], .none, false⟩,
   ⟨0x07, 0x07, .ro, (.uint 2), 0xFFFF, 0, 65535, [], .none, false⟩,
   ⟨0x08, 0x08, .ro, (.uint 4), 0x0, 0, 4294967295, [], .none, false⟩,
   ⟨0x09, 0x09, .ro, (.uint 2), 0x0, 0, 65535, [], .none, false⟩,
   ⟨0x0A, 0x0A, .ro, (.uint 1), 0x0, 0, 255, [], .none, false⟩,
   ⟨0x0B, 0x0B, .ro, (.uint 4), 0x0, 0, 4294967295, [], .none, false⟩,
   ⟨0x0C, 0x0C, .ro, (.uint 2), 0x0, 0, 65535, [], .none, false⟩,
   ⟨0x0D, 0x0D, .ro, (.uint 2), 0x0, 0, 65535, [], .none, false⟩,
   ⟨0x0E, 0x0E, .ro, (.uint 4), 0x0, 0, 4294967295, [], .none, false⟩,
   ⟨0x0F, 0x0F, .ro, (.uint 4), 0x0, 0, 4294967295, [], .none, false⟩,
   ⟨0x10, 0x10, .ro, (.uint 4), 0x0, 0, 4294967295, [], .none, false⟩]

def subsFaultSummary : List SubRow :=
  [⟨0x01, 0x01, .ro, (.uint 2), 0x0, 0, 65535, [], .none, false⟩,
   ⟨0x02, 0x02, .ro, (.uint 2), 0x0, 0, 65535, [], .none, false⟩,
   ⟨0x03, 0x03, .ro, (.uint 2), 0x0, 0, 65535, [], .none, false⟩,
   ⟨0x04, 0x04, .ro, (.uint 2), 0x0, 0, 65535, [], .none, false⟩,
   ⟨0x05, 0x07, .ro, (.uint 2), 0x0, 0, 65535, [], .none, false⟩,
   ⟨0x08, 0x08, .ro, (.uint 1), 0x0, 0, 255, [], .none, false⟩,
   ⟨0x09, 0x09, .ro, (.uint 1), 0x1, 0, 255, [], .none, false⟩,
   ⟨0x0A, 0x0A, .ro, (.uint 2), 0x0, 0, 65535, [], .none, false⟩,
   ⟨0x0B, 0x0B, .ro, (.uint 4), 0x0, 0, 4294967295, [], .none, false⟩,
   ⟨0x0C, 0x0C, .ro, (.uint 4), 0x0, 0, 4294967295, [], .none, false⟩,
   ⟨0x0D, 0x0D, .ro, (.uint 4), 0x0, 0, 4294967295, [], .none, false⟩,
   ⟨0x0E, 0x0E, .ro, (.uint 4), 0x0, 0, 4294967295, [], .none, false⟩,
   ⟨0x0F, 0x0F, .ro, (.uint 4), 0x0, 0, 4294967295, [], .none, false⟩,
   ⟨0x10, 0x10, .ro, (.domain 28 true), 0x0, 0, 0, [], .none, false⟩,
   ⟨0x11, 0x11, .ro, (.uint 2), 0x0, 0, 65535, [], .none, false⟩]

def subsFaultControl : List SubRow :=
  [⟨0x01, 0x01, .wo, (.uint 4), 0x0, 0, 4294967295, [], .immediate, false⟩,
   ⟨0x02, 0x02, .wo, (.uint 4), 0x0, 0, 4294967295, [], .immediate, false⟩,
   ⟨0x03, 0x03, .wo, (.uint 4), 0x0, 0, 4294967295, [], .immediate, false⟩,
   ⟨0x04, 0x04, .wo, (.uint 1), 0x0, 1, 1, [], .immediate, false⟩,
   ⟨0x05, 0x05, .wo, (.uint 1), 0x0, 1, 1, [], .immediate, false⟩,
   ⟨0x06, 0x06, .wo, (.uint 1), 0x0, 1, 1, [], .immediate, false⟩,
   ⟨0x07, 0x07, .ro, (.uint 1), 0x0, 0, 255, [], .none, true⟩]

def subsFaultClassConfig : List SubRow :=
  [⟨0x01, 0x01, .rw, (.uint 4), 0x2710, 0, 1000000, [], .staged, false⟩,
   ⟨0x02, 0x02, .rw, (.uint 4), 0x3E8, 0, 1000000, [], .staged, false⟩]

def subsFirebreak : List SubRow :=
  [⟨0x01, 0x01, .rw, (.uint 4), 0x1388, 0, 3000000, [], .staged, false⟩,
   ⟨0x02, 0x02, .rw, (.uint 4), 0x1388, 0, 3000000, [], .staged, false⟩,
   ⟨0x03, 0x03, .rw, (.uint 4), 0x1388, 0, 3000000, [], .staged, false⟩,
   ⟨0x04, 0x04, .rw, (.uint 4), 0x2710, 0, 3000000, [], .staged, false⟩,
   ⟨0x05, 0x05, .rw, (.uint 4), 0x7D0, 0, 3000000, [], .staged, false⟩,
   ⟨0x06, 0x06, .rw, (.uint 4), 0x7D0, 0, 3000000, [], .staged, false⟩,
   ⟨0x07, 0x07, .rw, (.uint 4), 0xC350, 0, 3000000, [], .staged, false⟩,
   ⟨0x08, 0x08, .rw, (.uint 4), 0x186A0, 0, 3000000, [], .staged, false⟩,
   ⟨0x09, 0x09, .rw, (.uint 4), 0x186A0, 0, 3000000, [], .staged, false⟩,
   ⟨0x0A, 0x0A, .rw, (.uint 4), 0x2710, 0, 3000000, [], .staged, false⟩]

def subsFaultInject : List SubRow :=
  [⟨0x01, 0x01, .rw, (.uint 1), 0x0, 0, 1, [], .staged, false⟩,
   ⟨0x02, 0x02, .rw, (.uint 1), 0x41, 65, 66, [65, 66], .immediate, false⟩,
   ⟨0x03, 0x03, .rw, (.uint 1), 0x0, 0, 4, [], .immediate, false⟩,
   ⟨0x04, 0x04, .rw, (.uint 2), 0x0, 0, 65535, [], .immediate, false⟩,
   ⟨0x05, 0x05, .rw, (.uint 4), 0x0, 0, 4294967295, [], .immediate, false⟩,
   ⟨0x06, 0x06, .rw, (.uint 1), 0x0, 0, 255, [], .immediate, false⟩,
   ⟨0x07, 0x07, .wo, (.uint 1), 0x0, 1, 1, [], .immediate, false⟩,
   ⟨0x08, 0x08, .wo, (.uint 2), 0x0, 0, 65535, [], .immediate, false⟩,
   ⟨0x09, 0x09, .wo, (.uint 2), 0x0, 0, 65535, [], .immediate, false⟩,
   ⟨0x0A, 0x0A, .ro, (.uint 1), 0x0, 0, 255, [], .none, false⟩]

def subsAlarmInputs : List SubRow :=
  [⟨0x01, 0x01, .rw, (.uint 1), 0x0, 0, 1, [], .staged, false⟩,
   ⟨0x02, 0x02, .rw, (.uint 2), 0xA, 0, 1000, [], .staged, false⟩,
   ⟨0x03, 0x03, .rw, (.uint 1), 0x0, 0, 1, [], .staged, false⟩,
   ⟨0x04, 0x04, .rw, (.uint 2), 0xA, 0, 1000, [], .staged, false⟩,
   ⟨0x05, 0x05, .ro, (.uint 1), 0x0, 0, 255, [], .none, false⟩]

def subsLrsStatus : List SubRow :=
  [⟨0x01, 0x01, .ro, (.uint 2), 0xFFFF, 0, 65535, [], .none, false⟩,
   ⟨0x02, 0x02, .ro, (.uint 2), 0xFFFF, 0, 65535, [], .none, false⟩,
   ⟨0x03, 0x03, .ro, (.uint 4), 0x0, 0, 4294967295, [], .none, false⟩,
   ⟨0x04, 0x04, .ro, (.uint 1), 0x0, 0, 255, [], .none, false⟩,
   ⟨0x05, 0x05, .rw, (.uint 1), 0x0, 0, 1, [], .staged, false⟩,
   ⟨0x06, 0x06, .rw, (.uint 4), 0xEA60, 1000, 600000, [], .staged, false⟩,
   ⟨0x07, 0x07, .rw, (.uint 2), 0x1F4, 100, 2000, [], .staged, false⟩,
   ⟨0x08, 0x08, .ro, (.uint 4), 0x0, 0, 4294967295, [], .none, false⟩]

def subsSourceConfig : List SubRow :=
  [⟨0x01, 0x01, .rw, (.uint 1), 0x0, 0, 3, [], .staged, false⟩,
   ⟨0x02, 0x02, .ro, (.uint 1), 0x0, 0, 255, [], .none, false⟩,
   ⟨0x03, 0x03, .ro, (.uint 1), 0x0, 0, 255, [], .none, false⟩,
   ⟨0x04, 0x04, .rw, (.uint 1), 0x0, 0, 1, [], .staged, false⟩,
   ⟨0x05, 0x05, .w1c, (.uint 1), 0x0, 0, 1, [], .immediate, false⟩,
   ⟨0x06, 0x06, .ro, (.uint 4), 0x0, 0, 4294967295, [], .none, false⟩,
   ⟨0x07, 0x07, .ro, (.uint 4), 0x0, 0, 4294967295, [], .none, false⟩,
   ⟨0x08, 0x08, .ro, (.uint 4), 0x0, 0, 4294967295, [], .none, false⟩,
   ⟨0x09, 0x09, .ro, (.uint 4), 0x0, 0, 4294967295, [], .none, false⟩,
   ⟨0x0A, 0x0A, .ro, (.uint 2), 0x0, 0, 65535, [], .none, false⟩,
   ⟨0x0B, 0x0B, .ro, (.uint 2), 0x0, 0, 65535, [], .none, false⟩,
   ⟨0x0C, 0x0C, .ro, (.uint 1), 0x0, 0, 255, [], .none, false⟩]

def subsFaultTable : List SubRow :=
  [⟨0x00, 0x00, .ro, (.domain 32768 false), 0x0, 0, 0, [], .none, false⟩]

def subsPartnerFaultTable : List SubRow :=
  [⟨0x00, 0x00, .ro, (.domain 32768 false), 0x0, 0, 0, [], .none, false⟩]

def subsReactionRule : List SubRow :=
  [⟨0x01, 0x01, .rw, (.uint 1), 0x0, 0, 1, [], .staged, false⟩,
   ⟨0x02, 0x02, .rw, (.uint 2), 0xFFFF, 0, 65535, [], .staged, false⟩,
   ⟨0x03, 0x03, .rw, (.uint 1), 0x1, 1, 3, [], .staged, false⟩,
   ⟨0x04, 0x04, .rw, (.uint 1), 0xFF, 0, 255, [], .staged, false⟩,
   ⟨0x05, 0x05, .rw, (.uint 2), 0x0, 0, 65535, [], .staged, false⟩,
   ⟨0x06, 0x06, .rw, (.uint 2), 0x1FF, 0, 65535, [], .staged, false⟩,
   ⟨0x07, 0x07, .rw, (.uint 1), 0xFF, 0, 255, [], .staged, false⟩,
   ⟨0x08, 0x08, .rw, (.uint 1), 0x0, 0, 10, [], .staged, false⟩,
   ⟨0x09, 0x09, .rw, (.uint 1), 0x0, 0, 6, [], .staged, false⟩,
   ⟨0x0A, 0x0A, .rw, (.uint 2), 0x0, 0, 65535, [], .staged, false⟩,
   ⟨0x0B, 0x0B, .rw, (.uint 1), 0x1, 0, 1, [], .staged, false⟩,
   ⟨0x0C, 0x0C, .ro, (.uint 4), 0x0, 0, 4294967295, [], .none, false⟩,
   ⟨0x0D, 0x0D, .ro, (.uint 2), 0x0, 0, 65535, [], .none, false⟩]

def subsRingsConfig : List SubRow :=
  [⟨0x01, 0x01, .rw, (.uint 2), 0x8, 1, 1000, [], .staged, false⟩,
   ⟨0x02, 0x02, .rw, (.uint 1), 0x8, 1, 255, [], .staged, false⟩,
   ⟨0x03, 0x03, .rw, (.uint 2), 0x1000, 256, 7168, [], .staged, false⟩,
   ⟨0x04, 0x04, .rw, (.uint 1), 0x1, 0, 1, [], .staged, false⟩,
   ⟨0x05, 0x05, .rw, (.uint 2), 0xFA, 1, 1800, [], .staged, false⟩]

def subsRingsStatus : List SubRow :=
  [⟨0x01, 0x03, .ro, (.uint 4), 0x0, 0, 4294967295, [], .none, false⟩,
   ⟨0x04, 0x04, .ro, (.uint 2), 0x0, 0, 65535, [], .none, false⟩,
   ⟨0x05, 0x05, .ro, (.uint 2), 0x0, 0, 65535, [], .none, false⟩,
   ⟨0x06, 0x06, .ro, (.uint 4), 0x0, 0, 4294967295, [], .none, false⟩,
   ⟨0x07, 0x07, .ro, (.uint 4), 0x0, 0, 4294967295, [], .none, false⟩,
   ⟨0x08, 0x08, .ro, (.uint 4), 0x0, 0, 4294967295, [], .none, false⟩,
   ⟨0x09, 0x09, .ro, (.uint 4), 0x0, 0, 4294967295, [], .none, false⟩,
   ⟨0x0A, 0x0A, .ro, (.uint 4), 0x0, 0, 4294967295, [], .none, false⟩,
   ⟨0x0B, 0x0B, .ro, (.uint 4), 0x0, 0, 4294967295, [], .none, false⟩,
   ⟨0x0C, 0x0C, .ro, (.uint 2), 0x0, 0, 65535, [], .none, false⟩,
   ⟨0x0D, 0x0D, .ro, (.uint 1), 0x0, 0, 255, [], .none, false⟩,
   ⟨0x0E, 0x10, .ro, (.uint 4), 0x0, 0, 4294967295, [], .none, false⟩,
   ⟨0x11, 0x13, .ro, (.uint 4), 0x0, 0, 4294967295, [], .none, false⟩]

def subsRingsControl : List SubRow :=
  [⟨0x01, 0x01, .wo, (.uint 1), 0x0, 1, 1, [], .immediate, false⟩,
   ⟨0x02, 0x02, .wo, (.uint 1), 0x0, 0, 7, [], .immediate, false⟩]

def subsRingsReader : List SubRow :=
  [⟨0x01, 0x01, .rw, (.uint 1), 0x0, 0, 1, [], .immediate, true⟩,
   ⟨0x02, 0x02, .rw, (.uint 1), 0x3, 0, 3, [], .immediate, true⟩,
   ⟨0x03, 0x03, .rw, (.uint 2), 0xFFFF, 0, 65535, [], .immediate, true⟩,
   ⟨0x04, 0x04, .rw, (.uint 4), 0xFFFFFFFF, 0, 4294967295, [], .immediate, true⟩,
   ⟨0x05, 0x05, .wo, (.uint 1), 0x0, 0, 1, [], .immediate, true⟩,
   ⟨0x06, 0x06, .ro, (.uint 2), 0xFFFF, 0, 65535, [], .none, true⟩,
   ⟨0x07, 0x07, .ro, (.uint 4), 0x0, 0, 4294967295, [], .none, true⟩,
   ⟨0x08, 0x08, .ro, (.uint 1), 0x5, 0, 255, [], .none, true⟩,
   ⟨0x09, 0x09, .ro, (.uint 4), 0x0, 0, 4294967295, [], .none, true⟩,
   ⟨0x0A, 0x0A, .ro, (.uint 4), 0x0, 0, 4294967295, [], .none, true⟩]

def subsRingsData : List SubRow :=
  [⟨0x00, 0x00, .ro, (.domain 65536 false), 0x0, 0, 0, [], .none, false⟩]

def subsCodeRate : List SubRow :=
  [⟨0x01, 0x01, .rw, (.uint 2), 0xFFFF, 0, 65535, [], .staged, false⟩,
   ⟨0x02, 0x02, .rw, (.uint 1), 0xFF, 0, 255, [], .staged, false⟩,
   ⟨0x03, 0x03, .ro, (.uint 4), 0x0, 0, 4294967295, [], .none, false⟩,
   ⟨0x04, 0x04, .ro, (.uint 4), 0x0, 0, 4294967295, [], .none, false⟩]

def subsHeartwoodStatus : List SubRow :=
  [⟨0x01, 0x01, .ro, (.uint 1), 0x0, 0, 255, [], .none, false⟩,
   ⟨0x02, 0x02, .ro, (.uint 2), 0x0, 0, 65535, [], .none, false⟩,
   ⟨0x03, 0x03, .ro, (.uint 2), 0x0, 0, 65535, [], .none, false⟩,
   ⟨0x04, 0x04, .ro, (.uint 1), 0x0, 0, 255, [], .none, false⟩,
   ⟨0x05, 0x05, .ro, (.uint 2), 0xFFFF, 0, 65535, [], .none, false⟩,
   ⟨0x06, 0x06, .ro, (.uint 1), 0xFF, 0, 255, [], .none, false⟩,
   ⟨0x07, 0x07, .ro, (.uint 4), 0x0, 0, 4294967295, [], .none, false⟩,
   ⟨0x08, 0x08, .ro, (.uint 4), 0x0, 0, 4294967295, [], .none, false⟩,
   ⟨0x09, 0x09, .ro, (.uint 2), 0xFFFF, 0, 65535, [], .none, false⟩,
   ⟨0x0A, 0x0A, .ro, (.uint 4), 0x0, 0, 4294967295, [], .none, false⟩,
   ⟨0x0B, 0x0B, .ro, (.uint 4), 0x0, 0, 4294967295, [], .none, false⟩,
   ⟨0x0C, 0x0C, .ro, (.uint 4), 0x0, 0, 4294967295, [], .none, false⟩]

def subsHeartwoodProtect : List SubRow :=
  [⟨0x01, 0x01, .rw, (.uint 1), 0x0, 0, 3, [], .staged, false⟩,
   ⟨0x02, 0x02, .rw, (.uint 2), 0x0, 0, 65535, [], .staged, false⟩,
   ⟨0x03, 0x03, .rw, (.uint 1), 0x41, 65, 66, [65, 66], .staged, false⟩,
   ⟨0x04, 0x04, .ro, (.uint 1), 0x0, 0, 255, [], .none, false⟩,
   ⟨0x05, 0x05, .ro, (.uint 1), 0x0, 0, 255, [], .none, false⟩]

def subsHeartwoodTorn : List SubRow :=
  [⟨0x00, 0x00, .ro, (.domain 256 false), 0x0, 0, 0, [], .none, false⟩]

def subsHeartwoodWindow : List SubRow :=
  [⟨0x01, 0x01, .rw, (.uint 4), 0x0, 0, 4294967295, [], .immediate, true⟩]

def subsHeartwoodData : List SubRow :=
  [⟨0x00, 0x00, .ro, (.domain 65536 false), 0x0, 0, 0, [], .none, false⟩]

def subsFlashStatus : List SubRow :=
  [⟨0x01, 0x01, .ro, (.uint 1), 0x0, 0, 255, [], .none, false⟩,
   ⟨0x02, 0x02, .ro, (.uint 4), 0x0, 0, 4294967295, [], .none, false⟩,
   ⟨0x03, 0x03, .ro, (.uint 4), 0x0, 0, 4294967295, [], .none, false⟩,
   ⟨0x04, 0x04, .ro, (.uint 1), 0x0, 0, 255, [], .none, false⟩,
   ⟨0x05, 0x05, .ro, (.uint 4), 0x61A8, 0, 4294967295, [], .none, false⟩,
   ⟨0x06, 0x06, .ro, (.uint 1), 0x0, 0, 255, [], .none, false⟩,
   ⟨0x07, 0x07, .ro, (.uint 4), 0x0, 0, 4294967295, [], .none, false⟩,
   ⟨0x08, 0x08, .ro, (.uint 4), 0x0, 0, 4294967295, [], .none, false⟩,
   ⟨0x09, 0x09, .ro, (.uint 4), 0x0, 0, 4294967295, [], .none, false⟩,
   ⟨0x0A, 0x0A, .ro, (.uint 4), 0x0, 0, 4294967295, [], .none, false⟩,
   ⟨0x0B, 0x0B, .ro, (.uint 4), 0x0, 0, 4294967295, [], .none, false⟩,
   ⟨0x0C, 0x0C, .ro, (.uint 4), 0x0, 0, 4294967295, [], .none, false⟩,
   ⟨0x0D, 0x0D, .ro, (.uint 1), 0x0, 0, 255, [], .none, false⟩,
   ⟨0x0E, 0x0E, .ro, (.uint 4), 0x0, 0, 4294967295, [], .none, false⟩]

def subsUpdateControl : List SubRow :=
  [⟨0x01, 0x01, .wo, (.uint 1), 0x0, 1, 1, [], .immediate, false⟩,
   ⟨0x02, 0x02, .wo, (.uint 1), 0x0, 1, 1, [], .immediate, false⟩,
   ⟨0x03, 0x03, .wo, (.uint 1), 0x0, 1, 1, [], .immediate, false⟩,
   ⟨0x04, 0x04, .wo, (.uint 1), 0x0, 1, 1, [], .immediate, false⟩,
   ⟨0x05, 0x05, .ro, (.uint 1), 0x0, 0, 255, [], .none, true⟩]

def subsUpdateWindow : List SubRow :=
  [⟨0x01, 0x01, .rw, (.uint 4), 0x0, 0, 4294967295, [], .immediate, true⟩]

def subsUpdateData : List SubRow :=
  [⟨0x00, 0x00, .wo, (.domain 65536 false), 0x0, 0, 0, [], .immediate, false⟩]

def subsUpdateStatus : List SubRow :=
  [⟨0x01, 0x01, .ro, (.uint 1), 0x0, 0, 255, [], .none, false⟩,
   ⟨0x02, 0x02, .ro, (.uint 1), 0x0, 0, 255, [], .none, false⟩,
   ⟨0x03, 0x03, .ro, (.uint 4), 0x0, 0, 4294967295, [], .none, false⟩,
   ⟨0x04, 0x04, .ro, (.uint 4), 0x0, 0, 4294967295, [], .none, false⟩,
   ⟨0x05, 0x05, .ro, (.uint 4), 0x0, 0, 4294967295, [], .none, false⟩,
   ⟨0x06, 0x06, .ro, (.uint 1), 0x0, 0, 255, [], .none, false⟩,
   ⟨0x07, 0x07, .ro, (.uint 1), 0x0, 0, 255, [], .none, false⟩,
   ⟨0x08, 0x08, .ro, (.uint 4), 0x0, 0, 4294967295, [], .none, false⟩,
   ⟨0x09, 0x09, .ro, (.uint 2), 0x0, 0, 65535, [], .none, false⟩,
   ⟨0x0A, 0x0A, .ro, (.uint 2), 0x0, 0, 65535, [], .none, false⟩,
   ⟨0x0B, 0x0B, .ro, (.uint 2), 0xFFFF, 0, 65535, [], .none, false⟩,
   ⟨0x0C, 0x0C, .ro, (.uint 2), 0xFFFF, 0, 65535, [], .none, false⟩,
   ⟨0x0D, 0x0D, .ro, (.uint 1), 0x0, 0, 255, [], .none, false⟩,
   ⟨0x0E, 0x0E, .ro, (.uint 4), 0x0, 0, 4294967295, [], .none, false⟩]

def subsUpdatePolicy : List SubRow :=
  [⟨0x01, 0x01, .rw, (.uint 1), 0x0, 0, 1, [], .staged, false⟩,
   ⟨0x02, 0x02, .rw, (.uint 2), 0x0, 0, 65535, [], .staged, false⟩,
   ⟨0x03, 0x03, .rw, (.uint 1), 0x41, 65, 66, [65, 66], .staged, false⟩]

def subsSiteKey : List SubRow :=
  [⟨0x00, 0x00, .wo, (.domain 32 true), 0x0, 0, 0, [], .staged, false⟩]

def subsSlot : List SubRow :=
  [⟨0x01, 0x01, .ro, (.uint 1), 0x0, 0, 255, [], .none, false⟩,
   ⟨0x02, 0x02, .ro, (.uint 4), 0x0, 0, 4294967295, [], .none, false⟩,
   ⟨0x03, 0x03, .ro, (.uint 4), 0x0, 0, 4294967295, [], .none, false⟩,
   ⟨0x04, 0x04, .ro, (.uint 2), 0x0, 0, 65535, [], .none, false⟩,
   ⟨0x05, 0x05, .ro, (.uint 2), 0x0, 0, 65535, [], .none, false⟩,
   ⟨0x06, 0x06, .ro, (.uint 1), 0x0, 0, 255, [], .none, false⟩,
   ⟨0x07, 0x07, .ro, (.uint 1), 0x0, 0, 255, [], .none, false⟩]

def subsSigningKeys : List SubRow :=
  [⟨0x01, 0x04, .ro, (.uint 1), 0x0, 0, 255, [], .none, false⟩,
   ⟨0x05, 0x05, .wo, (.uint 2), 0x0, 0, 65535, [], .immediate, false⟩]

def subsRedundancyConfig : List SubRow :=
  [⟨0x01, 0x01, .rw, (.uint 2), 0x8, 1, 512, [], .staged, false⟩,
   ⟨0x02, 0x02, .rw, (.uint 2), 0x19, 5, 3000, [], .staged, false⟩,
   ⟨0x03, 0x03, .rw, (.uint 1), 0x1, 0, 1, [], .staged, false⟩,
   ⟨0x04, 0x04, .rw, (.uint 2), 0x4, 1, 512, [], .staged, false⟩,
   ⟨0x05, 0x05, .rw, (.uint 2), 0x32, 10, 3000, [], .staged, false⟩,
   ⟨0x06, 0x06, .rw, (.uint 1), 0x3, 1, 15, [], .staged, false⟩,
   ⟨0x07, 0x07, .rw, (.uint 1), 0x2, 1, 250, [], .staged, false⟩]

def subsRedundancyStatus : List SubRow :=
  [⟨0x01, 0x01, .ro, (.uint 1), 0x0, 0, 255, [], .none, false⟩,
   ⟨0x02, 0x02, .ro, (.uint 1), 0x0, 0, 255, [], .none, false⟩,
   ⟨0x03, 0x03, .ro, (.uint 1), 0x0, 0, 255, [], .none, false⟩,
   ⟨0x04, 0x04, .ro, (.uint 1), 0xFF, 0, 255, [], .none, false⟩,
   ⟨0x05, 0x05, .ro, (.uint 4), 0x0, 0, 4294967295, [], .none, false⟩,
   ⟨0x06, 0x06, .ro, (.uint 1), 0x0, 0, 255, [], .none, false⟩,
   ⟨0x07, 0x07, .ro, (.uint 2), 0xFFFF, 0, 65535, [], .none, false⟩,
   ⟨0x08, 0x08, .ro, (.uint 4), 0x0, 0, 4294967295, [], .none, false⟩,
   ⟨0x09, 0x09, .ro, (.uint 2), 0x0, 0, 65535, [], .none, false⟩,
   ⟨0x0A, 0x0A, .ro, (.uint 1), 0x0, 0, 255, [], .none, false⟩,
   ⟨0x0B, 0x0B, .ro, (.uint 1), 0x0, 0, 255, [], .none, false⟩,
   ⟨0x0C, 0x0C, .ro, (.uint 4), 0x0, 0, 4294967295, [], .none, false⟩,
   ⟨0x0D, 0x0D, .ro, (.uint 2), 0x0, 0, 65535, [], .none, false⟩,
   ⟨0x0E, 0x0E, .ro, (.uint 4), 0x0, 0, 4294967295, [], .none, false⟩,
   ⟨0x0F, 0x0F, .ro, (.uint 4), 0x0, 0, 4294967295, [], .none, false⟩,
   ⟨0x10, 0x10, .ro, (.uint 4), 0x0, 0, 4294967295, [], .none, false⟩,
   ⟨0x11, 0x11, .ro, (.uint 1), 0x0, 0, 255, [], .none, false⟩,
   ⟨0x12, 0x12, .wo, (.uint 1), 0x0, 1, 1, [], .immediate, false⟩,
   ⟨0x13, 0x13, .ro, (.uint 4), 0x0, 0, 4294967295, [], .none, false⟩]

def subsSwapControl : List SubRow :=
  [⟨0x01, 0x01, .wo, (.uint 1), 0x0, 1, 1, [], .immediate, false⟩,
   ⟨0x02, 0x02, .ro, (.uint 1), 0x0, 0, 255, [], .none, true⟩,
   ⟨0x03, 0x03, .ro, (.uint 2), 0xFFFF, 0, 65535, [], .none, false⟩,
   ⟨0x04, 0x04, .ro, (.uint 4), 0x0, 0, 4294967295, [], .none, false⟩,
   ⟨0x05, 0x05, .ro, (.uint 4), 0x0, 0, 4294967295, [], .none, false⟩,
   ⟨0x06, 0x06, .ro, (.uint 2), 0xFFFF, 0, 65535, [], .none, false⟩,
   ⟨0x07, 0x07, .ro, (.uint 4), 0x0, 0, 4294967295, [], .none, false⟩,
   ⟨0x08, 0x08, .ro, (.uint 1), 0x0, 0, 255, [], .none, false⟩]

def subsSwapDrill : List SubRow :=
  [⟨0x01, 0x01, .rw, (.uint 4), 0x0, 0, 4320000, [], .staged, false⟩,
   ⟨0x02, 0x02, .rw, (.uint 4), 0xBB8, 50, 4320000, [], .staged, false⟩,
   ⟨0x03, 0x03, .wo, (.uint 1), 0x0, 1, 1, [], .immediate, false⟩,
   ⟨0x04, 0x04, .ro, (.uint 1), 0x0, 0, 255, [], .none, false⟩,
   ⟨0x05, 0x05, .ro, (.uint 1), 0x0, 0, 255, [], .none, false⟩,
   ⟨0x06, 0x06, .ro, (.uint 2), 0xFFFF, 0, 65535, [], .none, false⟩,
   ⟨0x07, 0x07, .ro, (.uint 4), 0x0, 0, 4294967295, [], .none, false⟩,
   ⟨0x08, 0x08, .ro, (.uint 4), 0x0, 0, 4294967295, [], .none, false⟩,
   ⟨0x09, 0x09, .ro, (.uint 4), 0x0, 0, 4294967295, [], .none, false⟩]

def subsPartnerKill : List SubRow :=
  [⟨0x01, 0x01, .rw, (.uint 1), 0x0, 0, 1, [], .staged, false⟩,
   ⟨0x02, 0x02, .wo, (.uint 1), 0x0, 75, 75, [], .immediate, false⟩,
   ⟨0x03, 0x03, .rw, (.uint 1), 0x0, 0, 1, [], .staged, false⟩,
   ⟨0x04, 0x04, .rw, (.uint 4), 0xEA60, 1000, 600000, [], .staged, false⟩,
   ⟨0x05, 0x05, .rw, (.uint 2), 0x1F4, 100, 2000, [], .staged, false⟩,
   ⟨0x06, 0x06, .rw, (.uint 1), 0x3, 1, 15, [], .staged, false⟩,
   ⟨0x07, 0x07, .ro, (.uint 4), 0x0, 0, 4294967295, [], .none, false⟩,
   ⟨0x08, 0x08, .ro, (.uint 1), 0x0, 0, 255, [], .none, false⟩]

def subsPartnerLink : List SubRow :=
  [⟨0x01, 0x01, .ro, (.uint 1), 0x0, 0, 255, [], .none, false⟩,
   ⟨0x02, 0x02, .ro, (.uint 1), 0x0, 0, 255, [], .none, false⟩,
   ⟨0x03, 0x03, .ro, (.uint 1), 0x0, 0, 255, [], .none, false⟩,
   ⟨0x04, 0x04, .ro, (.uint 4), 0x0, 0, 4294967295, [], .none, false⟩,
   ⟨0x05, 0x05, .ro, (.uint 4), 0x0, 0, 4294967295, [], .none, false⟩,
   ⟨0x06, 0x06, .ro, (.uint 4), 0x0, 0, 4294967295, [], .none, false⟩,
   ⟨0x07, 0x07, .ro, (.uint 4), 0x0, 0, 4294967295, [], .none, false⟩,
   ⟨0x08, 0x08, .ro, (.uint 4), 0x0, 0, 4294967295, [], .none, false⟩,
   ⟨0x09, 0x09, .ro, (.uint 4), 0x0, 0, 4294967295, [], .none, false⟩,
   ⟨0x0A, 0x0A, .ro, (.uint 2), 0x0, 0, 65535, [], .none, false⟩]

def subsTwTargetConfig : List SubRow :=
  [⟨0x01, 0x01, .rw, (.uint 1), 0x0, 0, 1, [], .staged, false⟩,
   ⟨0x02, 0x02, .rw, (.uint 1), 0x0, 0, 255, [], .staged, false⟩,
   ⟨0x03, 0x06, .rw, (.uint 1), 0x0, 0, 255, [], .staged, false⟩,
   ⟨0x07, 0x0A, .rw, (.uint 1), 0x0, 0, 2, [], .staged, false⟩,
   ⟨0x0B, 0x0B, .rw, (.uint 1), 0x0, 0, 255, [], .staged, false⟩,
   ⟨0x0C, 0x0C, .rw, (.uint 1), 0x1, 0, 1, [], .staged, false⟩]

def subsTwPortConfig : List SubRow :=
  [⟨0x01, 0x01, .rw, (.uint 1), 0x1, 0, 2, [], .staged, false⟩,
   ⟨0x02, 0x02, .rw, (.uint 1), 0x0, 0, 2, [], .staged, false⟩,
   ⟨0x03, 0x03, .rw, (.uint 1), 0x3, 0, 7, [], .staged, false⟩,
   ⟨0x04, 0x04, .rw, (.uint 1), 0x0, 0, 1, [], .staged, false⟩]

def subsTwPortStatus : List SubRow :=
  [⟨0x01, 0x01, .ro, (.uint 1), 0x0, 0, 255, [], .none, false⟩,
   ⟨0x02, 0x02, .ro, (.uint 4), 0x0, 0, 4294967295, [], .none, false⟩,
   ⟨0x03, 0x03, .ro, (.uint 4), 0x0, 0, 4294967295, [], .none, false⟩,
   ⟨0x04, 0x04, .ro, (.uint 4), 0x0, 0, 4294967295, [], .none, false⟩,
   ⟨0x05, 0x05, .ro, (.uint 4), 0x0, 0, 4294967295, [], .none, false⟩,
   ⟨0x06, 0x06, .ro, (.uint 4), 0x0, 0, 4294967295, [], .none, false⟩,
   ⟨0x07, 0x07, .ro, (.uint 4), 0x0, 0, 4294967295, [], .none, false⟩,
   ⟨0x08, 0x08, .ro, (.uint 4), 0x0, 0, 4294967295, [], .none, false⟩,
   ⟨0x09, 0x09, .ro, (.uint 4), 0x0, 0, 4294967295, [], .none, false⟩,
   ⟨0x0A, 0x0A, .ro, (.uint 4), 0x0, 0, 4294967295, [], .none, false⟩,
   ⟨0x0B, 0x0B, .ro, (.uint 1), 0x0, 0, 255, [], .none, false⟩]

def subsTwTransaction : List SubRow :=
  [⟨0x01, 0x01, .wo, (.domain 261 false), 0x0, 0, 0, [], .immediate, false⟩,
   ⟨0x02, 0x02, .ro, (.domain 257 false), 0x0, 0, 0, [], .none, true⟩]

def subsDumpControl : List SubRow :=
  [⟨0x01, 0x01, .wo, (.uint 1), 0x0, 1, 1, [], .immediate, false⟩,
   ⟨0x02, 0x02, .wo, (.uint 1), 0x0, 0, 2, [], .immediate, false⟩,
   ⟨0x03, 0x03, .ro, (.uint 1), 0x0, 0, 255, [], .none, false⟩,
   ⟨0x04, 0x04, .ro, (.uint 1), 0x0, 0, 255, [], .none, false⟩,
   ⟨0x05, 0x05, .ro, (.uint 1), 0x0, 0, 255, [], .none, false⟩,
   ⟨0x06, 0x06, .ro, (.uint 1), 0x0, 0, 255, [], .none, true⟩,
   ⟨0x07, 0x07, .ro, (.uint 1), 0xFF, 0, 255, [], .none, false⟩,
   ⟨0x08, 0x08, .ro, (.uint 2), 0xFFFF, 0, 65535, [], .none, false⟩,
   ⟨0x09, 0x09, .ro, (.uint 4), 0x0, 0, 4294967295, [], .none, false⟩,
   ⟨0x0A, 0x0A, .ro, (.uint 4), 0x0, 0, 4294967295, [], .none, false⟩]

def subsDumpWindow : List SubRow :=
  [⟨0x01, 0x01, .rw, (.uint 1), 0x0, 0, 2, [], .immediate, true⟩,
   ⟨0x02, 0x02, .rw, (.uint 4), 0x0, 0, 4294967295, [], .immediate, true⟩]

def subsDumpData : List SubRow :=
  [⟨0x00, 0x00, .ro, (.domain 65536 false), 0x0, 0, 0, [], .none, false⟩]

def objRows0 : List ObjRow :=
  [⟨0x3000, 0x31FF, 0x29, subsPortRecord⟩,
   ⟨0x3400, 0x34FF, 0x4D, subsFeedRecord⟩,
   ⟨0x3600, 0x360F, 0x59, subsStringRecord⟩,
   ⟨0x3A00, 0x3A3F, 0x2D, subsGroupRecord⟩,
   ⟨0x3700, 0x3702, 0x1F, (subsChannel ++ subsZeroCross)⟩,
   ⟨0x3703, 0x373F, 0x1B, subsChannel⟩,
   ⟨0x3900, 0x390F, 0x12, subsSequenceRecord⟩,
   ⟨0x3940, 0x39BF, 0x10, subsSlotEntry⟩,
   ⟨0x1000, 0x1000, 0x0, subsComm1000⟩,
   ⟨0x1001, 0x1001, 0x0, subsComm1001⟩,
   ⟨0x1003, 0x1003, 0x8, subsPreDefinedErrorField⟩,
   ⟨0x1014, 0x1014, 0x0, subsComm1014⟩,
   ⟨0x1017, 0x1017, 0x0, subsComm1017⟩,
   ⟨0x1018, 0x1018, 0x4, subsCanIdentity⟩,
   ⟨0x1800, 0x1807, 0x6, subsTpdoComm⟩,
   ⟨0x1A00, 0x1A07, 0x0, subsTpdoMap⟩,
   ⟨0x2000, 0x2000, 0x3, subsIdentity⟩,
   ⟨0x2001, 0x2001, 0x0, subsSeat⟩,
   ⟨0x2010, 0x2010, 0xC, subsGladeConfig⟩,
   ⟨0x2011, 0x2011, 0xD, subsGladeStatus⟩,
   ⟨0x2012, 0x2012, 0x4, subsGladeNow⟩,
   ⟨0x2030, 0x2030, 0x6, subsCanConfig⟩,
   ⟨0x2031, 0x2031, 0x4, subsCanStatus⟩,
   ⟨0x2040, 0x2040, 0x7, subsEthConfig⟩,
   ⟨0x2041, 0x2041, 0x8, subsEthStatus⟩]

def objRows1 : List ObjRow :=
  [⟨0x2050, 0x2050, 0x7, subsSupplyConfig⟩,
   ⟨0x2051, 0x2051, 0x8, subsSupplyStatus⟩,
   ⟨0x2052, 0x2052, 0x6, subsBackupDomain⟩,
   ⟨0x2053, 0x2053, 0x0, subsCellAlarmLog⟩,
   ⟨0x2054, 0x2054, 0x0, subsBackupRam⟩,
   ⟨0x2055, 0x2055, 0x8, subsStartupStatus⟩,
   ⟨0x2080, 0x2080, 0xA, subsSnapshotSession⟩,
   ⟨0x2081, 0x2081, 0x10, subsCommitSession⟩,
   ⟨0x2082, 0x2082, 0xB, subsCanopyStatus⟩,
   ⟨0x2083, 0x2083, 0x4, subsEventOrder⟩,
   ⟨0x2084, 0x2084, 0x2, subsSessionConfig⟩,
   ⟨0x2085, 0x2085, 0x20, subsSessionTable⟩,
   ⟨0x2088, 0x2088, 0x3, subsAlertConfig⟩,
   ⟨0x2089, 0x2089, 0x4, subsAlertStatus⟩,
   ⟨0x2090, 0x2090, 0x5, subsAbort⟩,
   ⟨0x20A0, 0x20A0, 0xD, subsActionRequest⟩,
   ⟨0x20A1, 0x20A1, 0x4, subsActionTable⟩,
   ⟨0x3740, 0x3740, 0x23, (subsChannel ++ subsReference)⟩,
   ⟨0x3741, 0x3747, 0x1B, subsChannel⟩,
   ⟨0x3800, 0x3803, 0xA, subsRailRecord⟩,
   ⟨0x3920, 0x3920, 0x5, subsSeqSnapshotStatus⟩,
   ⟨0x3921, 0x3928, 0x0, subsSnapshotArea⟩,
   ⟨0x3A80, 0x3A80, 0x3, subsCappingConfig⟩,
   ⟨0x3A81, 0x3A81, 0x6, subsCappingStatus⟩,
   ⟨0x3A82, 0x3A82, 0x10, subsChargeAllocation⟩]

def objRows2 : List ObjRow :=
  [⟨0x3B00, 0x3B00, 0x14, subsMainsConfig⟩,
   ⟨0x3B10, 0x3B11, 0x11, subsMainsFeed⟩,
   ⟨0x3B20, 0x3B20, 0x10, subsHoldupStatus⟩,
   ⟨0x4000, 0x4000, 0x11, subsFaultSummary⟩,
   ⟨0x4001, 0x4001, 0x7, subsFaultControl⟩,
   ⟨0x4002, 0x4002, 0x2, subsFaultClassConfig⟩,
   ⟨0x4003, 0x4003, 0xA, subsFirebreak⟩,
   ⟨0x4004, 0x4004, 0xA, subsFaultInject⟩,
   ⟨0x4005, 0x4005, 0x5, subsAlarmInputs⟩,
   ⟨0x4006, 0x4006, 0x8, subsLrsStatus⟩,
   ⟨0x4010, 0x40EF, 0xC, subsSourceConfig⟩,
   ⟨0x40F0, 0x40F0, 0x0, subsFaultTable⟩,
   ⟨0x40F1, 0x40F1, 0x0, subsPartnerFaultTable⟩,
   ⟨0x4100, 0x41FF, 0xD, subsReactionRule⟩,
   ⟨0x4400, 0x4400, 0x5, subsRingsConfig⟩,
   ⟨0x4401, 0x4401, 0x13, subsRingsStatus⟩,
   ⟨0x4402, 0x4402, 0x2, subsRingsControl⟩,
   ⟨0x4403, 0x4403, 0xA, subsRingsReader⟩,
   ⟨0x4404, 0x4404, 0x0, subsRingsData⟩,
   ⟨0x4420, 0x44FF, 0x4, subsCodeRate⟩,
   ⟨0x4600, 0x4600, 0xC, subsHeartwoodStatus⟩,
   ⟨0x4601, 0x4601, 0x5, subsHeartwoodProtect⟩,
   ⟨0x4602, 0x4602, 0x0, subsHeartwoodTorn⟩,
   ⟨0x4603, 0x4603, 0x1, subsHeartwoodWindow⟩,
   ⟨0x4604, 0x4604, 0x0, subsHeartwoodData⟩]

def objRows3 : List ObjRow :=
  [⟨0x4610, 0x4610, 0xE, subsFlashStatus⟩,
   ⟨0x4800, 0x4800, 0x5, subsUpdateControl⟩,
   ⟨0x4801, 0x4801, 0x1, subsUpdateWindow⟩,
   ⟨0x4802, 0x4802, 0x0, subsUpdateData⟩,
   ⟨0x4803, 0x4803, 0xE, subsUpdateStatus⟩,
   ⟨0x4804, 0x4804, 0x3, subsUpdatePolicy⟩,
   ⟨0x4805, 0x4805, 0x0, subsSiteKey⟩,
   ⟨0x4806, 0x4807, 0x7, subsSlot⟩,
   ⟨0x4808, 0x4808, 0x5, subsSigningKeys⟩,
   ⟨0x4A00, 0x4A00, 0x7, subsRedundancyConfig⟩,
   ⟨0x4A01, 0x4A01, 0x13, subsRedundancyStatus⟩,
   ⟨0x4A02, 0x4A02, 0x8, subsSwapControl⟩,
   ⟨0x4A03, 0x4A03, 0x9, subsSwapDrill⟩,
   ⟨0x4A04, 0x4A04, 0x8, subsPartnerKill⟩,
   ⟨0x4A05, 0x4A05, 0xA, subsPartnerLink⟩,
   ⟨0x4C00, 0x4C00, 0xC, subsTwTargetConfig⟩,
   ⟨0x4C10, 0x4C13, 0x4, subsTwPortConfig⟩,
   ⟨0x4C20, 0x4C23, 0xB, subsTwPortStatus⟩,
   ⟨0x4C30, 0x4C30, 0x2, subsTwTransaction⟩,
   ⟨0x4E00, 0x4E00, 0xA, subsDumpControl⟩,
   ⟨0x4E01, 0x4E01, 0x2, subsDumpWindow⟩,
   ⟨0x4E02, 0x4E02, 0x0, subsDumpData⟩]

/-- Every index the device serves (R573). -/
def objectMap : List ObjRow :=
  objRows0 ++ objRows1 ++ objRows2 ++ objRows3

end Sys2Proof.Machine
end

