-- ==== Sys2Proof/Machine/Sources.lean ====
section
/-! DEFINITION. The fault sources (R332, R578–R580): the code of each source, and the table of default classes, kinds and scopes. -/

namespace Sys2Proof.Machine

/-- R34. -/
def Src.CLASS_MISMATCH : Nat := 0x00
/-- R34. -/
def Src.SEAT_MISMATCH : Nat := 0x01
/-- R34. -/
def Src.KERNEL_OVERRUN : Nat := 0x02
/-- R34. -/
def Src.SUP_OVERRUN : Nat := 0x03
/-- R78. -/
def Src.GLADE_HOLDOVER : Nat := 0x04
/-- R78. -/
def Src.GLADE_FREE : Nat := 0x05
/-- R78. -/
def Src.GLADE_TRACK : Nat := 0x06
/-- R78. -/
def Src.PHASE_JUMP : Nat := 0x07
/-- R78. -/
def Src.FREQ_SLEW_LIMIT : Nat := 0x08
/-- R78. -/
def Src.FREQ_OUT_OF_RANGE : Nat := 0x09
/-- R78. -/
def Src.PHASE_SEQ_REVERSED : Nat := 0x0A
/-- R78. -/
def Src.SYNC_FRAME_ERROR : Nat := 0x0B
/-- R78. -/
def Src.GLADE_RENUMBER : Nat := 0x0C
/-- R78. -/
def Src.GLADE_EPOCH : Nat := 0x0D
/-- R78. -/
def Src.GLADE_NUMBER_INIT : Nat := 0x0E
/-- R78. -/
def Src.GLADE_SLAVE_LOST : Nat := 0x0F
/-- R78. -/
def Src.REFCLK_FAIL : Nat := 0x10
/-- R113. -/
def Src.CANOPY_CORRECTED : Nat := 0x11
/-- R113. -/
def Src.CANOPY_UNCORRECTABLE : Nat := 0x12
/-- R113. -/
def Src.CANOPY_CFG_RESTORED : Nat := 0x13
/-- R113. -/
def Src.SNAP_PIN_EXPIRED : Nat := 0x14
/-- R157. -/
def Src.LINK_TICK_LOST : Nat := 0x15
/-- R157. -/
def Src.LINK_DEGRADED : Nat := 0x16
/-- R157. -/
def Src.LINK_LOST : Nat := 0x17
/-- R157. -/
def Src.LINK_TRAIN_FAIL : Nat := 0x18
/-- R157. -/
def Src.LINK_DELAY : Nat := 0x19
/-- R157. -/
def Src.SEQ_RESYNC : Nat := 0x1A
/-- R157. -/
def Src.TOKEN_REJECTED : Nat := 0x1B
/-- R157. -/
def Src.TOKEN_STRAY : Nat := 0x1C
/-- R157. -/
def Src.ONESHOT_FAIL : Nat := 0x1D
/-- R157. -/
def Src.HEAD_OC_TRIP : Nat := 0x1E
/-- R157. -/
def Src.HEAD_OVP : Nat := 0x1F
/-- R157. -/
def Src.HEAD_OT : Nat := 0x20
/-- R157. -/
def Src.HEAD_UVLO : Nat := 0x21
/-- R157. -/
def Src.HEAD_GATE : Nat := 0x22
/-- R157. -/
def Src.HEAD_CFG : Nat := 0x23
/-- R157. -/
def Src.HEAD_HOLD_EXPIRED : Nat := 0x24
/-- R157. -/
def Src.HEAD_CFG_REFUSED : Nat := 0x25
/-- R190. -/
def Src.GROUP_SENSE_LOST : Nat := 0x26
/-- R190. -/
def Src.GROUP_SENSE_DISAGREE : Nat := 0x27
/-- R190. -/
def Src.GROUP_OV_WARN : Nat := 0x28
/-- R190. -/
def Src.GROUP_OV : Nat := 0x29
/-- R190. -/
def Src.GROUP_START_FAIL : Nat := 0x2A
/-- R190. -/
def Src.PREBIAS_HIGH : Nat := 0x2B
/-- R190. -/
def Src.PHASE_START_EXCLUDED : Nat := 0x2C
/-- R190. -/
def Src.SETPOINT_REFUSED : Nat := 0x2D
/-- R190. -/
def Src.THIN_ADD : Nat := 0x2E
/-- R190. -/
def Src.THIN_SHED : Nat := 0x2F
/-- R215. -/
def Src.MEAS_OVERRANGE : Nat := 0x30
/-- R215. -/
def Src.MEAS_CAL_FAIL : Nat := 0x31
/-- R215. -/
def Src.MEAS_CROSS_DISAGREE : Nat := 0x32
/-- R215. -/
def Src.MEAS_LOCAL : Nat := 0x33
/-- R215. -/
def Src.REF_FAULT : Nat := 0x34
/-- R215. -/
def Src.GROUND_CHECK_FAIL : Nat := 0x35
/-- R215. -/
def Src.DIE_TEMP_HIGH : Nat := 0x36
/-- R242. -/
def Src.MAINS_DISTURBANCE : Nat := 0x37
/-- R242. -/
def Src.MAINS_LOSS : Nat := 0x38
/-- R242. -/
def Src.FEED_TRANSFER : Nat := 0x39
/-- R242. -/
def Src.HANDOVER : Nat := 0x3A
/-- R242. -/
def Src.HOLDUP_RETURN : Nat := 0x3B
/-- R242. -/
def Src.HOLDUP_UNAVAILABLE : Nat := 0x3C
/-- R242. -/
def Src.HOLDUP_EXHAUSTED : Nat := 0x3D
/-- R242. -/
def Src.MAINS_SENSE_LOST : Nat := 0x3E
/-- R242. -/
def Src.MAINS_SENSE_DISAGREE : Nat := 0x3F
/-- R242. -/
def Src.MAINS_NOT_QUALIFIED : Nat := 0x40
/-- R271. -/
def Src.STRING_ABSENT : Nat := 0x41
/-- R271. -/
def Src.STRING_THERM_SHORT : Nat := 0x42
/-- R271. -/
def Src.PACK_INSERTED : Nat := 0x43
/-- R271. -/
def Src.PACK_NEW : Nat := 0x44
/-- R271. -/
def Src.PACK_AUTH_FAIL : Nat := 0x45
/-- R271. -/
def Src.PACK_ID_CONFLICT : Nat := 0x46
/-- R271. -/
def Src.PACK_NO_RESPONSE : Nat := 0x47
/-- R271. -/
def Src.BAT_W1 : Nat := 0x48
/-- R271. -/
def Src.BAT_W2 : Nat := 0x49
/-- R271. -/
def Src.BAT_CUTOFF : Nat := 0x4A
/-- R271. -/
def Src.BAT_CHG_WARN : Nat := 0x4B
/-- R271. -/
def Src.BAT_CHG_STOP : Nat := 0x4C
/-- R271. -/
def Src.STRING_CURRENT_DISAGREE : Nat := 0x4D
/-- R271. -/
def Src.STRING_TEST_DONE : Nat := 0x4E
/-- R271. -/
def Src.STRING_TEST_REFUSED : Nat := 0x4F
/-- R271. -/
def Src.CAPACITY_LEARNED : Nat := 0x50
/-- R271. -/
def Src.CAPACITY_IMPLAUSIBLE : Nat := 0x51
/-- R289. -/
def Src.FEED_CLOSED : Nat := 0x52
/-- R289. -/
def Src.FEED_TRIP : Nat := 0x53
/-- R289. -/
def Src.FEED_LOCKED_OUT : Nat := 0x54
/-- R289. -/
def Src.FEED_INPUT_FAULT : Nat := 0x55
/-- R289. -/
def Src.BRK_GATE_SUSPECT : Nat := 0x56
/-- R289. -/
def Src.BRK_PASS_SHORT : Nat := 0x57
/-- R289. -/
def Src.FEED_CLOSE_REFUSED : Nat := 0x58
/-- R289. -/
def Src.FEED_RESUMED : Nat := 0x59
/-- R312. -/
def Src.SPARE_USED : Nat := 0x5A
/-- R312. -/
def Src.SPARE_FAILED : Nat := 0x5B
/-- R312. -/
def Src.GROUP_SHORT : Nat := 0x5C
/-- R312. -/
def Src.GROUP_RESTORED : Nat := 0x5D
/-- R312. -/
def Src.GROUP_BELOW_MIN : Nat := 0x5E
/-- R312. -/
def Src.FEED_CAP_NOTICE : Nat := 0x5F
/-- R312. -/
def Src.FEED_FLOOR_BREACH : Nat := 0x60
/-- R331. -/
def Src.SEQ_UP_DONE : Nat := 0x61
/-- R331. -/
def Src.SEQ_DOWN_DONE : Nat := 0x62
/-- R331. -/
def Src.SEQ_MEMBER_FAIL : Nat := 0x63
/-- R331. -/
def Src.SEQ_FAIL : Nat := 0x64
/-- R331. -/
def Src.SEQ_EXHAUSTED : Nat := 0x65
/-- R331. -/
def Src.SEQ_FORCED_DOWN : Nat := 0x66
/-- R331. -/
def Src.SEQ_SNAPSHOT_SKIPPED : Nat := 0x67
/-- R331. -/
def Src.SEQ_ABORTED : Nat := 0x68
/-- R370. -/
def Src.FAULT_TABLE_FULL : Nat := 0x69
/-- R370. -/
def Src.REACTION_WITHHELD : Nat := 0x6A
/-- R370. -/
def Src.REACTION_NO_TARGET : Nat := 0x6B
/-- R370. -/
def Src.LINKED : Nat := 0x6C
/-- R370. -/
def Src.COLLECTOR_WEDGED : Nat := 0x6D
/-- R370. -/
def Src.SUPERVISOR_WEDGED : Nat := 0x6E
/-- R370. -/
def Src.SUPERVISOR_LOCKSTEP : Nat := 0x6F
/-- R370. -/
def Src.STAND_WEDGED : Nat := 0x70
/-- R370. -/
def Src.SUPERVISOR_FAULT : Nat := 0x71
/-- R370. -/
def Src.LRS_ABORT_RESET : Nat := 0x72
/-- R370. -/
def Src.ALARM0 : Nat := 0x73
/-- R370. -/
def Src.ALARM1 : Nat := 0x74
/-- R370. -/
def Src.GRAVE_CLEARED : Nat := 0x75
/-- R408. -/
def Src.PARTNER_LINK_DOWN : Nat := 0x76
/-- R408. -/
def Src.PARTNER_LANE_DOWN : Nat := 0x77
/-- R408. -/
def Src.TOKEN_LINE_FAULT : Nat := 0x78
/-- R408. -/
def Src.SHADOW_MISMATCH : Nat := 0x79
/-- R408. -/
def Src.SHADOW_UNSTABLE : Nat := 0x7A
/-- R408. -/
def Src.RESYNC_DONE : Nat := 0x7B
/-- R408. -/
def Src.TAKEOVER : Nat := 0x7C
/-- R408. -/
def Src.COLD_TAKE : Nat := 0x7D
/-- R408. -/
def Src.YIELDED : Nat := 0x7E
/-- R408. -/
def Src.YIELD_NO_PARTNER : Nat := 0x7F
/-- R408. -/
def Src.SEAT_LINKS_WORSE : Nat := 0x80
/-- R408. -/
def Src.TOKEN_CONCEDED : Nat := 0x81
/-- R408. -/
def Src.SPLIT_BRAIN : Nat := 0x82
/-- R408. -/
def Src.SWAP_DONE : Nat := 0x83
/-- R408. -/
def Src.SWAP_MERGED : Nat := 0x84
/-- R408. -/
def Src.SWAP_ABANDONED : Nat := 0x85
/-- R408. -/
def Src.DRILL_PASSED : Nat := 0x86
/-- R408. -/
def Src.DRILL_FAILED : Nat := 0x87
/-- R408. -/
def Src.PARTNER_KILLED : Nat := 0x88
/-- R408. -/
def Src.PARTNER_KILL_REFUSED : Nat := 0x89
/-- R439. -/
def Src.RINGS_FLUSH_FAIL : Nat := 0x8A
/-- R439. -/
def Src.ARCHIVE_SECTOR_BAD : Nat := 0x8B
/-- R439. -/
def Src.DUMP_NOT_WRITTEN : Nat := 0x8C
/-- R464. -/
def Src.HW_TORN : Nat := 0x8D
/-- R464. -/
def Src.HW_UNCORRECTABLE : Nat := 0x8E
/-- R464. -/
def Src.HW_WRITE_REFUSED : Nat := 0x8F
/-- R464. -/
def Src.HW_STORE_FALLBACK : Nat := 0x90
/-- R464. -/
def Src.HW_STORE_LOST : Nat := 0x91
/-- R464. -/
def Src.HW_ARCHIVED : Nat := 0x92
/-- R464. -/
def Src.FLASH_UNSUITABLE : Nat := 0x93
/-- R464. -/
def Src.FLASH_NOT_ERASED : Nat := 0x94
/-- R464. -/
def Src.FLASH_VERIFY_FAIL : Nat := 0x95
/-- R464. -/
def Src.FLASH_TIMEOUT : Nat := 0x96
/-- R482. -/
def Src.UPD_REFUSED : Nat := 0x97
/-- R482. -/
def Src.UPD_APPLIED : Nat := 0x98
/-- R482. -/
def Src.UPD_APPLY_FAILED : Nat := 0x99
/-- R482. -/
def Src.UPD_BOOT_OK : Nat := 0x9A
/-- R482. -/
def Src.UPD_BOOT_FALLBACK : Nat := 0x9B
/-- R482. -/
def Src.UPD_NO_IMAGE : Nat := 0x9C
/-- R482. -/
def Src.UPD_SHADOW_INCOMPATIBLE : Nat := 0x9D
/-- R516. -/
def Src.ETH_LAN_DOWN : Nat := 0x9E
/-- R516. -/
def Src.PRP_WRONG_LAN : Nat := 0x9F
/-- R516. -/
def Src.CAN_BUS_OFF : Nat := 0xA0
/-- R516. -/
def Src.CAN_ERROR_PASSIVE : Nat := 0xA1
/-- R516. -/
def Src.SESSION_REFUSED : Nat := 0xA2
/-- R516. -/
def Src.TRANSFER_TIMEOUT : Nat := 0xA3
/-- R516. -/
def Src.ALERT_OVERFLOW : Nat := 0xA4
/-- R537. -/
def Src.TW_PEC_ERROR : Nat := 0xA5
/-- R537. -/
def Src.TW_STRETCH_TIMEOUT : Nat := 0xA6
/-- R537. -/
def Src.TW_SELF_RELEASE : Nat := 0xA7
/-- R537. -/
def Src.TW_BUS_STUCK : Nat := 0xA8
/-- R537. -/
def Src.TW_ARB_LOST : Nat := 0xA9
/-- R537. -/
def Src.TW_ARB_FAIL : Nat := 0xAA
/-- R537. -/
def Src.TW_DEVICE_ALERT : Nat := 0xAB
/-- R537. -/
def Src.TW_UNKNOWN_COMMAND : Nat := 0xAC
/-- R572. -/
def Src.RAIL_OV : Nat := 0xAD
/-- R572. -/
def Src.RAIL_UV : Nat := 0xAE
/-- R572. -/
def Src.RAIL_OC : Nat := 0xAF
/-- R572. -/
def Src.RAIL_START_FAILED : Nat := 0xB0
/-- R572. -/
def Src.AUX_OV : Nat := 0xB1
/-- R572. -/
def Src.AUX_UV : Nat := 0xB2
/-- R572. -/
def Src.CLOCK_STEP : Nat := 0xB3
/-- R572. -/
def Src.PF_DIP : Nat := 0xB4
/-- R572. -/
def Src.BACKUP_LOST : Nat := 0xB5
/-- R572. -/
def Src.BACKUP_NO_CELL : Nat := 0xB6
/-- R572. -/
def Src.VBAT_LOW : Nat := 0xB7
/-- R572. -/
def Src.CELL_ALARM : Nat := 0xB8
/-- R572. -/
def Src.PC_SATURATED : Nat := 0xB9

/-- A source's default class (R334), its kind (R580: condition or event) and its scope code (R579). -/
structure SourceRow where
  cls : Nat
  condition : Bool
  scope : Nat
  deriving DecidableEq, Repr

def sourceRows0 : List SourceRow :=
  [⟨1, true, 1⟩, ⟨2, true, 0⟩, ⟨2, false, 1⟩, ⟨1, false, 0⟩, ⟨0, false, 0⟩, ⟨0, false, 0⟩, ⟨0, false, 0⟩, ⟨0, false, 0⟩, ⟨0, false, 0⟩, ⟨1, true, 11⟩, ⟨2, true, 0⟩, ⟨0, false, 0⟩, ⟨0, false, 0⟩, ⟨0, false, 0⟩, ⟨1, false, 0⟩, ⟨2, true, 0⟩, ⟨2, true, 0⟩, ⟨0, false, 0⟩, ⟨2, false, 12⟩, ⟨1, false, 0⟩, ⟨0, false, 10⟩, ⟨0, false, 1⟩, ⟨1, true, 1⟩, ⟨2, true, 1⟩, ⟨0, false, 1⟩, ⟨1, false, 1⟩, ⟨0, false, 1⟩, ⟨2, false, 1⟩, ⟨2, false, 1⟩, ⟨1, false, 1⟩, ⟨2, true, 1⟩, ⟨2, true, 1⟩, ⟨1, true, 1⟩, ⟨1, true, 1⟩, ⟨2, true, 1⟩, ⟨1, true, 1⟩, ⟨2, true, 1⟩, ⟨1, false, 1⟩, ⟨2, true, 3⟩, ⟨1, true, 1⟩, ⟨1, true, 3⟩, ⟨2, true, 3⟩, ⟨1, false, 3⟩, ⟨1, false, 3⟩, ⟨1, false, 1⟩, ⟨0, false, 3⟩, ⟨0, false, 3⟩]

def sourceRows1 : List SourceRow :=
  [⟨0, false, 3⟩, ⟨0, false, 7⟩, ⟨1, false, 7⟩, ⟨1, true, 7⟩, ⟨1, true, 0⟩, ⟨2, true, 0⟩, ⟨1, true, 0⟩, ⟨1, true, 0⟩, ⟨0, false, 8⟩, ⟨1, true, 8⟩, ⟨0, false, 0⟩, ⟨1, false, 0⟩, ⟨0, false, 0⟩, ⟨2, false, 0⟩, ⟨2, false, 0⟩, ⟨2, true, 8⟩, ⟨1, true, 8⟩, ⟨1, false, 0⟩, ⟨1, true, 4⟩, ⟨1, true, 4⟩, ⟨0, false, 4⟩, ⟨0, false, 4⟩, ⟨1, true, 4⟩, ⟨1, true, 4⟩, ⟨1, true, 4⟩, ⟨0, true, 4⟩, ⟨1, true, 4⟩, ⟨1, true, 4⟩, ⟨0, true, 4⟩, ⟨1, true, 4⟩, ⟨1, true, 4⟩, ⟨0, false, 4⟩, ⟨0, false, 4⟩, ⟨0, false, 4⟩, ⟨0, false, 4⟩, ⟨0, false, 2⟩, ⟨1, false, 2⟩, ⟨2, true, 2⟩, ⟨1, false, 2⟩, ⟨2, true, 2⟩, ⟨2, true, 2⟩, ⟨0, false, 2⟩, ⟨0, false, 2⟩, ⟨0, false, 3⟩, ⟨1, false, 1⟩, ⟨1, true, 3⟩, ⟨0, false, 3⟩]

def sourceRows2 : List SourceRow :=
  [⟨2, true, 3⟩, ⟨0, false, 2⟩, ⟨1, true, 2⟩, ⟨0, false, 5⟩, ⟨0, false, 5⟩, ⟨1, false, 9⟩, ⟨1, false, 5⟩, ⟨2, true, 5⟩, ⟨0, false, 0⟩, ⟨0, false, 0⟩, ⟨0, false, 5⟩, ⟨1, false, 0⟩, ⟨0, false, 0⟩, ⟨0, false, 0⟩, ⟨0, false, 0⟩, ⟨3, false, 0⟩, ⟨3, false, 0⟩, ⟨3, false, 0⟩, ⟨3, false, 0⟩, ⟨3, false, 0⟩, ⟨1, false, 0⟩, ⟨1, true, 0⟩, ⟨1, true, 0⟩, ⟨0, false, 0⟩, ⟨1, true, 0⟩, ⟨0, true, 0⟩, ⟨1, true, 0⟩, ⟨1, false, 0⟩, ⟨2, true, 0⟩, ⟨0, false, 0⟩, ⟨1, false, 0⟩, ⟨2, false, 0⟩, ⟨1, false, 0⟩, ⟨1, false, 0⟩, ⟨1, true, 0⟩, ⟨1, false, 0⟩, ⟨2, false, 0⟩, ⟨0, false, 0⟩, ⟨0, false, 0⟩, ⟨1, false, 0⟩, ⟨0, false, 0⟩, ⟨1, false, 0⟩, ⟨1, false, 0⟩, ⟨0, false, 0⟩, ⟨1, false, 0⟩, ⟨1, false, 0⟩, ⟨1, false, 0⟩]

def sourceRows3 : List SourceRow :=
  [⟨0, false, 0⟩, ⟨2, false, 0⟩, ⟨1, false, 0⟩, ⟨1, false, 0⟩, ⟨2, false, 0⟩, ⟨1, false, 0⟩, ⟨2, false, 0⟩, ⟨0, false, 0⟩, ⟨1, false, 0⟩, ⟨2, false, 0⟩, ⟨1, false, 0⟩, ⟨0, false, 0⟩, ⟨1, false, 0⟩, ⟨0, false, 0⟩, ⟨2, false, 0⟩, ⟨2, false, 0⟩, ⟨1, false, 0⟩, ⟨1, true, 0⟩, ⟨0, false, 0⟩, ⟨1, true, 0⟩, ⟨0, true, 0⟩, ⟨0, false, 0⟩, ⟨0, false, 10⟩, ⟨1, false, 0⟩, ⟨0, false, 13⟩, ⟨1, false, 13⟩, ⟨1, false, 13⟩, ⟨2, true, 13⟩, ⟨0, false, 13⟩, ⟨1, false, 13⟩, ⟨0, false, 13⟩, ⟨0, false, 13⟩, ⟨3, false, 0⟩, ⟨3, true, 0⟩, ⟨2, false, 0⟩, ⟨2, false, 0⟩, ⟨2, false, 0⟩, ⟨1, true, 0⟩, ⟨0, false, 0⟩, ⟨1, false, 0⟩, ⟨1, false, 0⟩, ⟨0, false, 0⟩, ⟨1, true, 0⟩, ⟨1, false, 0⟩, ⟨0, false, 0⟩]

/-- The 186 sources in code order (R578). -/
def sourceTable : List SourceRow :=
  sourceRows0 ++ sourceRows1 ++ sourceRows2 ++ sourceRows3

/-- The row of source c; a reserved code reads Class 0, Kind 0, Scope 0x00 (R578). -/
def sourceRow (c : Nat) : SourceRow := sourceTable.getD c ⟨0, false, 0⟩

end Sys2Proof.Machine
end

