-- ==== Sys2Proof/Machine/Tab.lean ====
section
/-! DEFINITION. Sparse tables: a list of key and value pairs, keys strictly rising, no entry equal to what an unlisted key reads as. -/

namespace Sys2Proof.Machine

/-- A sparse table from keys to values; what an unlisted key reads as is an argument of the operations. -/
abbrev Tab (α : Type) := List (Nat × α)

/-- The value at key `n`; `d` where the table lists none. -/
def Tab.look {α : Type} (d : α) : Tab α → Nat → α
  | [], _ => d
  | (k, v) :: r, n => if k = n then v else Tab.look d r n

/-- The table without key `n`. -/
def Tab.drop {α : Type} (m : Tab α) (n : Nat) : Tab α := m.filter (fun e => e.1 != n)

/-- Insertion before the first larger key. -/
def Tab.insert {α : Type} (n : Nat) (v : α) : Tab α → Tab α
  | [] => [(n, v)]
  | (k, w) :: r => if n < k then (n, v) :: (k, w) :: r else (k, w) :: Tab.insert n v r

/-- The table with `v` at key `n`, listed whatever its value. -/
def Tab.set {α : Type} (m : Tab α) (n : Nat) (v : α) : Tab α := Tab.insert n v (Tab.drop m n)

/-- The table with `v` at key `n`, in canonical form: a value an unlisted key reads as is not listed. -/
def Tab.put {α : Type} [DecidableEq α] (d : α) (m : Tab α) (n : Nat) (v : α) : Tab α :=
  if v = d then Tab.drop m n else Tab.set m n v

/-- Keys strictly rising. -/
def Tab.sorted {α : Type} : Tab α → Bool
  | [] => true
  | (k, _) :: r => r.all (fun e => decide (k < e.1)) && Tab.sorted r

/-- The canonical form: keys strictly rising and no entry that reads as an unlisted key does. -/
def Tab.wf {α : Type} [DecidableEq α] (d : Nat → α) (m : Tab α) : Bool :=
  Tab.sorted m && m.all (fun e => decide (e.2 ≠ d e.1))

/-- The keys a table lists. -/
def Tab.keys {α : Type} (m : Tab α) : List Nat := m.map (·.1)

end Sys2Proof.Machine
end

