-- ==== Sys2Proof/Machine/Parts.lean ====
section
/-! DEFINITION. The parts State is made of: one structure per block of the chip, plain data, with the value each field has at reset. -/

namespace Sys2Proof.Machine

/-- A place on the waveform: epoch:cycle:angle (R6). -/
structure Stamp where
  epoch : Nat := 0
  cycle : Nat := 0
  angle : Nat := 0
  deriving DecidableEq, Repr

/-- A report (R332): one raising of a source for one instance of its scope, with the detail its chapter names. -/
structure Report where
  src : Nat
  inst : Nat
  detail : List Int := []
  injected : Bool := false
  /-- The scope, where it is not the source's own (CANOPY_UNCORRECTABLE in port tick state, R332). -/
  scope : Option Nat := none
  deriving DecidableEq, Repr

/-- A Rings record (R409, R412): its fields; `data` holds bytes 32–59. -/
structure Rec where
  seq : Nat
  gen : Nat
  code : Nat
  hours : Nat
  cycles : Nat
  seat : Nat
  stamp : Stamp
  scope : Nat
  flags : Nat
  inst : Nat
  suppressed : Nat
  data : List Nat
  deriving DecidableEq, Repr

/-- Glade (chapter 2): the count, the sources' qualification, the loop's view of the mains, and rack sync. -/
structure Glade where
  /-- Glade has started (R38). -/
  running : Bool := false
  epoch : Nat := 0
  cycle : Nat := 0
  tick : Nat := 0
  /-- A cycle boundary has passed and its tick 0 has not begun (R31, R32). -/
  boundary : Bool := false
  /-- What ends a tick has been done for the last one (R27); true before the first. -/
  ended : Bool := true
  /-- N_t and NominalFreq in force since the last reset (R39). -/
  nt : Nat := 2000
  fnom : Nat := 50
  /-- Ticks and cycles elapsed since Glade started, whatever the numbering does. -/
  ticks : Nat := 0
  cycles : Nat := 0
  /-- A port of this controller has been IN_SERVICE since power-up (R35, R48). -/
  everInService : Bool := false
  /-- The angle has been moved in this cycle, which disturbs its windows (R35, R194). -/
  moved : Bool := false
  /-- Consecutive cycles in which each source met its condition (R45). -/
  okMains : Nat := 0
  okPartner : Nat := 0
  okSync : Nat := 0
  /-- Valid crossings seen in the two half-cycles of this cycle (R45). -/
  firstHalf : Bool := false
  secondHalf : Bool := false
  /-- Errors of the valid crossings of the half-cycle in progress (R52). -/
  halfErrors : List Int := []
  /-- Glade clock count of the last crossing of each kind, key phase × 2 + polarity. -/
  lastClk : Tab Nat := []
  /-- The kinds whose last interval spanned a phase step, and so measured no frequency. -/
  stepped : List Nat := []
  /-- The last frequency measured over one cycle, unsigned 16.16 Hz; 0 before the first. -/
  mainsFreq : Nat := 0
  /-- The source's frequency at the last boundary in TRACK, 0 else; a slew beyond 2 Hz/s has been recorded and lasts (R51). -/
  slewFrom : Nat := 0
  slewFast : Bool := false
  /-- Source frequency of the last 50 cycles, newest first (R55). -/
  history : List Nat := []
  /-- The two crossings of R54 seen in this cycle, and the run of reversed cycles. -/
  seqL2 : Bool := false
  seqL3 : Bool := false
  seqRun : Nat := 0
  seqReversed : Bool := false
  /-- SYNC_IN: the last 64 bits (newest first), how many came from the present run of good edges, an edge seen in this cycle, missing edges, bad frames, the frame condition, the last frame, the last edge's error, frequency and clock count (R45, R46, R65–R67). -/
  syncBits : List Bool := []
  syncRun : Nat := 0
  syncSeen : Bool := false
  syncMissing : Nat := 0
  syncBad : Nat := 0
  syncFrameOk : Bool := false
  syncFrame : Nat := 0
  syncError : Int := 0
  syncFreq : Nat := 0
  syncClk : Nat := 0
  /-- A numbering taken from SYNC_IN, adopted at the start of the next frame (R68). -/
  renumber : Option (Nat × Nat) := none
  /-- SYNC_OUT: driven by this controller, the frame being sent, and the bit of the last pulse (R64–R66). -/
  syncDrive : Bool := false
  syncOut : Nat := 0
  syncPulse : Option Bool := none
  /-- The partner's last TIME message (R375): its view of the mains, its Glade source and whether MAINS is qualified there (R44, R61). -/
  partnerQual : Bool := false
  partnerErr : Int := 0
  partnerFreq : Nat := 0
  partnerSource : Nat := 3
  /-- The clock generator runs from the always-on oscillator (R57). -/
  refclkFallback : Bool := false
  deriving DecidableEq, Repr

/-- An entry of the pending-action table (R69–R77); session 0xFF for the device's own functions. -/
structure Action where
  session : Nat
  op : Nat
  kind : Nat
  target : Nat
  arg : Nat
  epoch : Nat
  cycle : Nat
  angle : Nat
  /-- Order of acceptance (R75). -/
  order : Nat
  /-- Accepted: the partner's copy is confirmed, or no partner needs to. -/
  accepted : Bool
  /-- Its firing tick passed in a fail-over gap (R76). -/
  late : Bool := false
  deriving DecidableEq, Repr

/-- A device function that waits for a reserved entry (R69). -/
structure Waiting where
  op : Nat
  kind : Nat
  target : Nat
  arg : Nat
  /-- Cycles from the boundary at which the entry is obtained to the firing cycle, and the firing angle. -/
  lead : Nat
  angle : Nat
  deriving DecidableEq, Repr

/-- The pending-action table, its order counter and the functions that wait (R69). -/
structure Actions where
  table : Tab Action := []
  next : Nat := 0
  waiting : List Waiting := []
  deriving DecidableEq, Repr

/-- The rows and bytes the writers have handed to the Heartwood controller and the flash manager within the command in progress
(R442, R455): address and byte, in order; empty between commands. -/
structure Writes where
  heartwood : List (Nat × Nat) := []
  flash : List (Nat × Nat) := []
  deriving DecidableEq, Repr

/-- A bundle of staged writes (R98–R106): key of the object and its data bytes, in order of writing. -/
structure Bundle where
  seq : Nat
  session : Nat
  epoch : Nat
  cycle : Nat
  writes : List (Nat × List Nat)
  /-- The partner has confirmed its copy, or none is needed. -/
  accepted : Bool
  deriving DecidableEq, Repr

/-- A Canopy line in the directory (R85): 0 HOME, 1 SHARED, 2 OWNED; holders as a mask of 17 caches; the cache last granted. -/
structure Line where
  state : Nat := 0
  mask : Nat := 0
  last : Nat := 16
  deriving DecidableEq, Repr

/-- A root (R337–R344, R367): what a fault-table entry holds. Outcomes: 0 none, 1 pending, 2 executed, 3 WITHHELD, 4 LAPSED, 5 dropped. -/
structure Root where
  number : Nat
  /-- Its place in the fault table, 0 to 255 (R353, R367). -/
  entry : Nat := 0
  src : Nat
  configured : Nat
  cls : Nat
  count : Nat := 1
  linked : Nat := 0
  instances : List Nat
  stamp : Stamp
  gen : Nat
  seq : Nat
  rule : Nat := 0xFFFF
  reaction : Nat := 0
  outcome : Nat := 0
  /-- Elapsed tick of the boundary at which the root is decided (R343), and its place. -/
  decideAt : Nat := 0
  decided : Stamp := {}
  acknowledged : Bool := false
  withheld : Bool := false
  escalated : Bool := false
  injected : Bool := false
  seat : Nat := 0x41
  scope : Nat := 0
  detail : List Int := []
  /-- The instances the reaction acts on, once it is decided (R343). -/
  acts : Option (List Nat) := none
  deriving DecidableEq, Repr

/-- An open windthrow window (R337): its root as it stands and the elapsed tick that opened it. -/
structure Window where
  root : Root
  opened : Nat
  deriving DecidableEq, Repr

/-- An open firebreak window (R348): the seat and number of the root, the reaction's code, the elapsed ticks in which it opens and
closes, the covered units as scope × 65536 + instance, and the linked condition instances as source × 65536 + instance. -/
structure Firebreak where
  seat : Nat
  root : Nat
  code : Nat
  openAt : Nat
  closeAt : Nat
  units : List Nat
  linked : List Nat := []
  deriving DecidableEq, Repr

/-- A write to FaultControl served in this tick, which takes effect at the next boundary (R350): session (0xFF for one the partner passed
on), operation (the sub-index of R362), root number. -/
structure FaultCmd where
  session : Nat
  op : Nat
  root : Nat
  deriving DecidableEq, Repr

/-- The fault collector and the last-resort sequencer (chapter 12). -/
structure Faults where
  /-- Reports of the tick in progress (R336). -/
  reports : List Report := []
  /-- Present instances of condition sources, source × 65536 + instance, rising (R333). -/
  present : List Nat := []
  roots : List Root := []
  /-- Roots the full table did not take, which still run their reaction and hold FAULT_N (R353). -/
  untabled : List Root := []
  windows : Tab Window := []
  firebreaks : List Firebreak := []
  commands : List FaultCmd := []
  partnerRoots : List Root := []
  /-- Pending roots of the former holder, which the new holder decides (R346). -/
  carried : List Root := []
  /-- The collector has made its first pass over a tick (R352). -/
  passed : Bool := false
  /-- The LRS asserts FAULT_N (R352, R543, R561). -/
  lrsFault : Bool := true
  /-- The collector has created a C3 root, or the LRS has detected a trigger, and GRAVE has not been entered yet. -/
  gravePending : Option Nat := none
  /-- The grave latch with its source and place, in the always-on domain (R356, R357). -/
  grave : Bool := false
  graveSrc : Nat := 0xFFFF
  graveStamp : Stamp := {}
  /-- Ports failed and groups halted, with the root whose reaction did it, as unit × 131072 + root, seat B's roots 65536 higher (R342). -/
  failedBy : List Nat := []
  haltedBy : List Nat := []
  /-- Instances that joined after their root's reaction had executed (R338), as root × 65536 + instance. -/
  late : List Nat := []
  /-- SELF_CYCLE_N is driven low (R357). -/
  selfCycle : Bool := false
  /-- Injection in force (R358, R364): SRAM word armed; frames and transfers left with their selectors. -/
  sramArmed : Bool := false
  partnerCrcLeft : Nat := 0
  partnerCrcSel : Nat := 0
  pecLeft : Nat := 0
  pecSel : Nat := 0
  deriving DecidableEq, Repr

/-- A message of the partner link that waits for its acknowledgement (R376): its sequence, kind (1 ROOT, 2 COMMIT, 3 ACTION, 4 SESSION,
5 SWAP, 6 BULK), what it names, and the elapsed tick in which it was last sent. -/
structure Msg where
  seq : Nat
  kind : Nat
  ref : List Nat
  sent : Nat
  deriving DecidableEq, Repr

/-- The pair of controllers (chapter 13): the partner link, the token, shadowing, swaps and the partner kill. -/
structure Pair where
  /-- Lanes on which a valid frame arrived in this tick; ticks without one per lane; a valid TIME in this tick, and in how many before. -/
  heard : List Nat := []
  silent0 : Nat := 0
  silent1 : Nat := 0
  timeSeen : Bool := false
  timeRun : Nat := 0
  /-- Message sequences applied, as ranges; the last sequence sent; messages not acknowledged (R376). -/
  seen : List (Nat × Nat) := []
  tx : Nat := 0
  out : List Msg := []
  /-- The partner's last TIME: its Role, generation and grave latch, and the elapsed tick since which the latch has been reported (R375, R398). -/
  role : Nat := 0
  gen : Nat := 0
  graveAt : Option Nat := none
  /-- Tick boundaries in a row at which TOKEN_IN read HOLDING while this controller held the token (R389); YIELD_NO_PARTNER recorded in this
  spell (R387); an accepted reply of this command names the partner's port (R388); the elapsed cycle the wait of R386 counts from, and READY
  read in it. -/
  holdingRun : Nat := 0
  yieldNoted : Bool := false
  rejected : Bool := false
  waitFrom : Nat := 0
  sawReady : Bool := false
  /-- Ports whose replies of this tick show HOLDING for the partner, and ticks in a row with such a reply (R383, R385). -/
  held : List Nat := []
  heldRun : Nat := 0
  /-- A warm trigger: its code (R402), its tick and the first claiming tick, elapsed (R383). -/
  claim : Option (Nat × Nat × Nat) := none
  /-- Elapsed cycle of the last take or concession (R391); READY at the last tick of the cycle that ended. -/
  roleAt : Option Nat := none
  wasReady : Bool := false
  /-- Unshadowed records, as scope × 65536 + unit; scope 0xF for what the supervisors write (R381). -/
  unshadowed : List Nat := []
  /-- Resynchronisation is to start (1 wanted, 2 after a run that ended early), and from which elapsed cycle; elapsed cycles of runs that ended in mismatch; cycles verified (R394, R395). -/
  resync : Nat := 0
  resyncFrom : Nat := 0
  fails : List Nat := []
  verified : Nat := 0
  unstable : Bool := false
  /-- The boundary of the pending swap, and the elapsed cycle at whose start the last one executed (R390, R391). -/
  swap : Option (Nat × Nat) := none
  swapAt : Option Nat := none
  /-- The drill (R397): the elapsed cycle that the last ended in, the elapsed tick and cycle of its first swap, and a check that failed. -/
  drillEnd : Nat := 0
  drillTick : Nat := 0
  drillCycle : Nat := 0
  drillBad : Nat := 0
  /-- PARTNER_PWR_KILL is driven since an elapsed tick; elapsed cycles of the kills of the last 24 hours (R398). -/
  kill : Option Nat := none
  kills : List Nat := []
  deriving DecidableEq, Repr

/-- The Rings recorder (chapter 14): the three tiers, the freeze queue, the buckets and the flush engine. -/
structure Rings where
  /-- The volatile buffer, oldest first, at most 8,192 records. -/
  buffer : List Rec := []
  /-- How many of the newest records of the buffer are not in the Heartwood ring. -/
  unflushed : Nat := 0
  queue : List Rec := []
  queueLost : Nat := 0
  /-- Elapsed cycle at which the freeze ends; none outside a freeze (R422). -/
  freezeEnd : Option Nat := none
  ring : List Rec := []
  /-- How many of the newest records of the ring are not in the archive. -/
  unarchived : Nat := 0
  /-- Row of the Heartwood ring that the next record takes, and how many unflushed records the running flush covers (R414). -/
  row : Nat := 0
  covered : Nat := 0
  /-- Archived batches, oldest first, with their sectors. -/
  archive : List (Nat × List Rec) := []
  /-- Next archive sector, sectors marked bad, and the batch's second attempt (R416). -/
  sector : Nat := 0
  badSectors : List Nat := []
  batchRetry : Bool := false
  /-- Tokens per code in units of 1 / NominalFreq (R420), unlisted where the bucket is at its depth; cycles a bucket has stayed full; suppressed since the last record. -/
  tokens : Tab Nat := []
  full : Tab Nat := []
  suppressed : Tab Nat := []
  flushing : Bool := false
  retry : Bool := false
  failRaised : Bool := false
  lost : Nat := 0
  /-- A C2 or C3 root arrived during a freeze: flush at its end (R422). -/
  flushAfterFreeze : Bool := false
  deriving DecidableEq, Repr

/-- A snapshot image (R88): every dictionary value at its boundary and the tables served as DOMAIN objects. -/
structure Image where
  epoch : Nat
  cycle : Nat
  complete : Bool := false
  bad : Bool := false
  /-- Elapsed cycle of its boundary: the oldest image is the one with the lowest. -/
  taken : Nat := 0
  dict : Tab Nat := []
  /-- The byte strings of DOMAIN objects that hosts can write. -/
  domains : Tab (List Nat) := []
  roots : List Root := []
  partnerRoots : List Root := []
  present : List Nat := []
  /-- The user area of the backup SRAM (R556). -/
  ram : List Nat := []
  deriving DecidableEq, Repr

/-- Canopy (chapter 3): snapshot slots, bundles, the directory, the scrubber. -/
structure Canopy where
  slots : Tab Image := []
  bundles : List Bundle := []
  lines : Tab Line := []
  scrub : Nat := 0
  /-- A configuration line is uncorrectable and not restored: no commit is applied (R112). -/
  cfgBad : Bool := false
  /-- The supervisor results of this cycle are void (R33, R112). -/
  discard : Bool := false
  /-- Ports that repeat their last command and units (group 0–63, feed 64–319, string 320–335) that hold their outputs for a tick (R112). -/
  portHold : List Nat := []
  unitHold : List Nat := []
  /-- The boundary entry of the cycle digest (R107). -/
  digest : Nat := 0
  deriving DecidableEq, Repr

/-- A transfer of a session (R493–R496): 0 a read from an image, 1 a read of a live copy, 2 a write; the object's key, the whole
length, the copied or assembled bytes by offset, the pinned slot with the cycles its pin has left, and cycles without a segment. -/
structure Transfer where
  kind : Nat
  key : Nat
  total : Nat
  bytes : Tab Nat := []
  slot : Option Nat := none
  left : Nat := 0
  idle : Nat := 0
  /-- A USDO transfer that a take-over ended: the client's next segment is answered so (R503). -/
  stale : Bool := false
  deriving DecidableEq, Repr

/-- A response (R487, R499): status, detail, flags and data bytes. -/
structure Reply where
  status : Nat := 0
  detail : Nat := 0
  flags : Nat := 0
  total : Nat := 0
  data : List Nat := []
  deriving DecidableEq, Repr

/-- A cached request (R491): its RequestId and response; `waiting` while the partner has not confirmed it, with its tick. -/
structure Request where
  id : Nat
  reply : Reply
  waiting : Bool := false
  deriving DecidableEq, Repr

/-- A host session (R488–R500). Its per-session objects are in the dictionary store under its number. -/
structure Session where
  opened : Bool := false
  network : Nat := 0
  node : Nat := 0
  /-- Opened on a seat address or node-ID rather than the rack's (R498, R503), and of which seat. -/
  onSeat : Bool := false
  seat : Nat := 0
  subscribe : Bool := false
  /-- Highest AlertSequence acknowledged (R509). -/
  ackSeq : Nat := 0
  /-- Cycles since the last request (R489). -/
  idle : Nat := 0
  pin : Option Nat := none
  pinLeft : Nat := 0
  /-- The next snapshot read returns SNAP_EXPIRED (R94). -/
  expired : Bool := false
  bundle : Bool := false
  staged : List (Nat × List Nat) := []
  transfer : Option Transfer := none
  /-- What a later segment request for the transfer that last ended is answered (R496). -/
  ended : Reply := { status := 8 }
  cache : List Request := []
  /-- The last response sent: an output of the block. -/
  reply : Reply := {}
  /-- Rings reader (R421): open; the first generation and sequence the next read may return; what it has still to report (1 a clear, 2 the
  end of a freeze, 3 both). -/
  reader : Bool := false
  readerFreeze : Bool := false
  cursorGen : Nat := 0
  cursorSeq : Nat := 0
  readerNote : Nat := 0
  /-- Records that the reader's tiers have overwritten between its cursor and its bound since its last read. -/
  readerLost : Nat := 0
  /-- The abort addressed by this session that runs: kind, target, elapsed tick in which it was served (R511–R513). -/
  abort : Option (Nat × Nat × Nat) := none
  deriving DecidableEq, Repr

end Sys2Proof.Machine
end

