-- ==== Sys2Proof/Machine/Store.lean ====
section
/-! DEFINITION. The parts of the later chapters (14 to 19): stored sets, flash manager, dump, update, networks, two-wire ports, the always-on domain. -/

namespace Sys2Proof.Machine

/-- One copy of a stored set of Heartwood (R446): dictionary values and byte strings by key. -/
structure Copy where
  vals : Tab Nat := []
  bytes : Tab (List Nat) := []
  deriving DecidableEq, Repr

/-- A stored set (R446): the copy with the newer stamp, and the older one. -/
structure Saved where
  cur : Copy := {}
  prev : Copy := {}
  deriving DecidableEq, Repr

/-- What Heartwood keeps beside its addressed bytes (R441–R449): the stored sets by number (1 numbering, 2 event order, 3 run cycles,
4 Rings, 5 dumps, 6 configuration image, 7 calibration, 9 update, 10 power-fail block, 11 hours and counts), the sets whose store was
refused, the scrubber's row, the rows of the last recall's report with their INDEX, VOID rows, rows whose seal reads CUT or OPEN with
their INDEX, and the rows the last-resort sequencer still writes. -/
structure Store where
  sets : Tab Saved := []
  refused : List Nat := []
  scrub : Nat := 0
  torn : List (Nat × Nat) := []
  voids : List Nat := []
  cuts : List (Nat × Nat) := []
  work : List (Nat × List Nat) := []
  /-- Sets whose newer copy a cut left without its header row (R446, R460). -/
  invalid : List Nat := []
  deriving DecidableEq, Repr

/-- A request to the flash manager (R455): owner (1 dump, 2 boot, 3 update, 4 archive, 5 area erase), kind (0 read, 1 sector erase,
2 blank check, 3 program), address, length, and the bytes to program. -/
structure FlashReq where
  owner : Nat
  kind : Nat
  addr : Nat
  len : Nat
  data : List Nat := []
  deriving DecidableEq, Repr

/-- The flash manager (R455): the operation in progress, an erase that is suspended, the requests that wait in their order of arrival. -/
structure FlashMan where
  cur : Option FlashReq := none
  suspended : Option FlashReq := none
  queue : List FlashReq := []
  deriving DecidableEq, Repr

/-- The fatal dump (R425–R430): a dump that is to start, with its cause, its place and its record; the area being written; its cause; a
retarget has happened; the engines are stopped for it. -/
structure Dump where
  due : Option Nat := none
  cause : Nat := 0xFFFF
  gen : Nat := 0
  seq : Nat := 0
  stamp : Stamp := {}
  area : Option Nat := none
  retargeted : Bool := false
  stopped : Bool := false
  deriving DecidableEq, Repr

/-- Field update (chapter 16): the session that ordered the operation in progress. -/
structure Update where
  session : Nat := 0xFF
  deriving DecidableEq, Repr

/-- An alert (R508). -/
structure Alert where
  seq : Nat
  event : Nat
  kind : Nat
  scope : Nat
  inst : Nat
  code : Nat
  detail : Nat
  deriving DecidableEq, Repr

/-- The networks (chapter 17): the alert queue; per subscribing session the elapsed tick of the last ALERT datagram; the NMT state of each
node, key port × 2 + (1 for RackNodeId), unlisted before it is started; the last EMCY, heartbeat and TPDO sent, by the same key or
port × 8 + TPDO; the PRP node table with the elapsed tick of each node's last frame; gratuitous ARPs, ARP answers, echo answers and
supervision frames sent; the alerts of each session's last ALERT datagram; the session number the last OPEN was answered with (0xFF refused);
the last response to a request without a session; the session numbers freed in this tick (R489); the last USDO response: port, client,
abort code (0 none), then its data bytes. -/
structure Net where
  alerts : List Alert := []
  sentAt : Tab Nat := []
  nmt : Tab Nat := []
  emcy : Tab (List Nat) := []
  beats : Tab Nat := []
  tpdo : Tab (List Nat) := []
  nodes : List (Nat × Nat) := []
  garps : Nat := 0
  arps : Nat := 0
  echoes : Nat := 0
  supervision : Nat := 0
  alertOut : Tab (List Nat) := []
  opened : Nat := 0xFF
  reply : Reply := {}
  closed : List Nat := []
  usdo : List Nat := []
  deriving DecidableEq, Repr

/-- One address of TW0 (R520–R528): the object selected, the offset of the next DICT_READ, the last block returned, the status, detail,
bus result and total length of DICT_STATUS; the write that has been performed (offset and bytes) since the last select; the alert
cursor, whether the address is armed, and the elapsed tick of the ARA that disarmed it. -/
structure TwAddress where
  index : Nat := 0
  sub : Nat := 0
  offset : Nat := 0
  last : Option (Nat × List Nat) := none
  status : Nat := 0
  detail : Nat := 0
  result : Nat := 0
  total : Nat := 0
  wrote : Option (Nat × List Nat) := none
  cursor : Nat := 0
  armed : Bool := false
  disarmedAt : Option Nat := none
  /-- The selected value has been read since the select. -/
  begun : Bool := false
  /-- The bytes the last transaction returned on the bus, PEC included. -/
  out : List Nat := []
  deriving DecidableEq, Repr

/-- A transaction of TW1–TW3 (R529, R532): the session it answers (0xFF the device's own), address, kind, command, PEC, data to write;
times it has been repeated after a loss of arbitration. -/
structure TwReq where
  session : Nat
  addr : Nat
  kind : Nat
  cmd : Nat
  pec : Bool
  data : List Nat
  tries : Nat := 0
  deriving DecidableEq, Repr

/-- A controller port TW1–TW3 (R519, R529–R531): the transaction in progress, those that wait, one that waits to be repeated after a loss
of arbitration, bus clears tried, the elapsed tick of the last ARA read. -/
structure TwPort where
  cur : Option TwReq := none
  queue : List TwReq := []
  lost : Bool := false
  clears : Nat := 0
  araAt : Option Nat := none
  deriving DecidableEq, Repr

/-- The two-wire ports (chapter 18). Results of host transactions, per session. -/
structure TwoWire where
  addrs : Tab TwAddress := []
  ports : Tab TwPort := []
  results : Tab (List Nat) := []
  deriving DecidableEq, Repr

/-- An entry of the cell-alarm log (R568): input, whether BKP_ALERT_N was driven, hours, power-cycle count, seconds from the loss of VIN. -/
structure CellEntry where
  input : Nat
  driven : Bool
  hours : Nat
  cycles : Nat
  seconds : Nat
  deriving DecidableEq, Repr

/-- The always-on domain and the start (chapter 19). Phases: 0 no VIN, 1 rails starting, 2 rails off after a failed start, 3 rails good
and the reset held, 4 reset released, 5 image checked, 6 firmware, 7 Glade runs, 8 halted in the boot ROM, 9 crowbarred, 10 stopped by
PF_N or RST_N. -/
structure Aon where
  phase : Nat := 4
  /-- The rail that starts (0 CORE, 1 IO18, 2 IO33, 3 all good) and retries. -/
  rail : Nat := 3
  retries : Nat := 0
  /-- Copies of SupplyConfig and AlarmInputs (R565, R365). -/
  copies : Tab Nat := []
  /-- VIN is absent: the domain runs on the cell; it has lost its state. -/
  onCell : Bool := false
  dead : Bool := false
  bkpAlertLow : Bool := false
  log : List CellEntry := []
  unreported : Nat := 0
  /-- The user area of the backup SRAM (R556). -/
  ram : List Nat := []
  /-- PF_N is low; a sag threshold has been crossed; the clocks that fall due. -/
  pfLow : Bool := false
  /-- Straps (R590): ROLE_SEAT, CORE_PH and TEST_EN as last sampled; samples disagreed. -/
  strapBad : Bool := false
  testEn : Bool := false
  /-- RAIL_START_FAILED and NO_IMAGE wait to be reported at the next good start. -/
  railFailed : Bool := false
  noImage : Bool := false
  /-- VBAT reads below 1.0 V. -/
  noCell : Bool := false
  /-- AUX latched off until its Enable is committed again. -/
  auxLatched : Bool := false
  /-- AutoStart is still to be submitted (R563): the elapsed cycle of the cold take. -/
  autoStart : Option Nat := none
  /-- Elapsed tick of GRAVE's entry, for the self cycle (R357); none where Glade does not time it. -/
  graveTick : Option Nat := none
  /-- The 8 samples of CORE_PH disagreed (R590). -/
  coreBad : Bool := false
  /-- RAIL_CROWBAR is driven high. -/
  crowbar : Bool := false
  /-- The result of the last FLASH_ACCESS through the test port (R591). -/
  testOut : Nat := 0
  /-- The port's internal reset is to follow within 10 ms (R475). -/
  reboot : Bool := false
  deriving DecidableEq, Repr

end Sys2Proof.Machine
end

