-- ==== Sys2Proof/Machine/Ports.lean ====
section
/-! DEFINITION. The parts of the stage link (chapter 4): what a port holds beside its dictionary record. -/

namespace Sys2Proof.Machine

/-- A downstream frame (R128, R129): type, resync, SEQ, TICK_TAG, one-shot fields or register address, and the four command words or
register data. SEAT, TOKEN and GEN are those of the controller. -/
structure Frame where
  type : Nat
  resync : Bool := false
  seq : Nat
  tag : Nat
  osOp : Nat := 0
  osTag : Nat := 0
  words : List Nat := [0, 0, 0, 0]
  token : Bool := false
  gen : Nat := 0
  /-- Sent with its CRC inverted (R156). -/
  badCrc : Bool := false
  deriving DecidableEq, Repr

/-- A head register access waiting for a slot or its answer (R151). -/
structure Cfg where
  write : Bool
  addr : Nat
  data : Nat := 0
  deriving DecidableEq, Repr

/-- A one-shot (R137): its operation, and the pending-action entry it serves where a host launched it (R146). -/
structure Shot where
  op : Nat
  handle : Option Nat := none
  deriving DecidableEq, Repr

/-- A sample set as received (R130, R132): the slot it came in, its eight words, the status, the last one-shot tag and its refusal. -/
structure Received where
  slot : Nat
  words : List Nat
  status : Nat
  osLast : Nat
  refused : Bool
  tag : Nat
  deriving DecidableEq, Repr

/-- Sums over the ticks of a cycle: the phase current of every tick and of the fresh ones, the feedback voltage, and how many ticks were
fresh; `full` while the phase ran with fresh samples in every tick. -/
structure Sums where
  iAll : Int := 0
  v : Int := 0
  iFresh : Int := 0
  ticks : Nat := 0
  fresh : Nat := 0
  full : Bool := true
  deriving DecidableEq, Repr

/-- A stage port. -/
structure Port where
  /-- SEQ of the last new frame (R134), and a RESYNC owed (R149). -/
  seq : Nat := 0
  resync : Bool := false
  /-- tag(p), the one-shots in firing order, whether the first is pending and the elapsed tick of its firing (R137). -/
  tag : Nat := 0
  shots : List Shot := []
  active : Bool := false
  since : Nat := 0
  /-- How the one-shot that completed last ended, since the last was fired: operation, and 0 done, 1 refused, 2 failed. -/
  result : Option (Nat × Nat) := none
  /-- Frames sent in this tick's slots, whether each exchange succeeded, and whether the last tick's did in either slot (R122, R379). -/
  frame : Option Frame := none
  retry : Option Frame := none
  okPrimary : Bool := false
  okRetry : Bool := false
  okBefore : Bool := false
  /-- A frame has arrived in each slot, the counts of R154 run in this tick, and a slot went unused after a SAFE_BCAST. -/
  heard0 : Bool := false
  heard1 : Bool := false
  counted : Bool := false
  shut : Bool := false
  /-- Sample sets received in this tick, and the one that enters the state of the next (R379). -/
  received : List Received := []
  entered : Option Received := none
  /-- Training (R147–R150): a retrain underneath, consecutive successes, elapsed cycle of the run's start, the cycle at which a run
  that found too long a wire starts again, and what the last TRAIN_RESP said. -/
  retrain : Bool := false
  trainRun : Nat := 0
  trainAt : Nat := 0
  delayUntil : Option Nat := none
  trainClass : Nat := 0
  trainWords : List Nat := []
  trainOsLast : Nat := 0
  sofNs : Nat := 0
  /-- Primary failures in this cycle (R157), and the head's RX_ERR in the last reply (R154). -/
  cycleFails : Nat := 0
  rxErr : Option Nat := none
  /-- The sample set in the state of this tick (R126), and for how many ticks it has been stale. -/
  sample : List Nat := []
  stale : Nat := 1
  everFresh : Bool := false
  /-- Command words in the state of this tick and of the next (R27, R30). -/
  cmd : List Nat := [0, 0, 0, 0]
  cmdN : List Nat := [0, 0, 0, 0]
  /-- The last duty estimate from a positive V_BUS, in 2^-30 (R164), and the trim in µA (R172). -/
  lastD : Int := 0
  trim : Int := 0
  /-- The sums over the cycle in progress and over the cycle that ended last (R169, R172, R255). -/
  acc : Sums := {}
  last : Sums := {}
  /-- The elapsed tick in which the port becomes ADMITTED after 32 ticks of MODE OFF (R612). -/
  offUntil : Option Nat := none
  /-- The armed command of a BAT phase in the support set, for the next tick (R228). -/
  armed : List Nat := []
  /-- Ticks in RUN or SOFT (R188). -/
  runTicks : Nat := 0
  /-- Head registers as last read or written (R152). -/
  regs : Tab Nat := []
  cfg : List Cfg := []
  /-- SAFE shown by the last reply; the cause known, whether it is acted on in this tick, the cause to act on in the next, and whether
  the holder has still to read it (R610). -/
  safeSeen : Bool := false
  cause : Option Nat := none
  causeNew : Bool := false
  causeNext : Option Nat := none
  causeWanted : Bool := false
  /-- A host PORT_SAFE is in force (R146). -/
  hostSafe : Bool := false
  /-- Ticks of CRC injection left, and injection in this tick (R156). -/
  injectLeft : Nat := 0
  inject : Bool := false
  /-- Slots still to go unused after a SAFE_BCAST, and the generation of the last three copies sent (R145). -/
  locked : Nat := 0
  bcast : Option Nat := none
  deriving DecidableEq, Repr

/-- What the partner link has brought of the partner's exchanges (R379), as masks over the ports: sample sets received in each slot of
this tick, whether each slot's MASK part came, and successful exchanges of this tick and the tick before. -/
structure Masks where
  sets0 : Nat := 0
  sets1 : Nat := 0
  came0 : Bool := false
  came1 : Bool := false
  okNow : Nat := 0
  okBefore : Nat := 0
  /-- This controller has stopped transmitting on its ports (R356, R387). -/
  silent : Bool := false
  deriving DecidableEq, Repr

end Sys2Proof.Machine
end

