-- ==== Sys2Proof/Machine/Units.lean ====
section
/-! DEFINITION. The units (chapters 5 to 11): what a group, a feed, a string, a mains feed and a sequence hold beside their records. -/

namespace Sys2Proof.Machine

/-- A group (chapters 5 and 10). Voltages in µV, currents in nA (assumption 38); values of the next tick. -/
structure Group where
  /-- The start step in progress (R181), 0 outside a start; the elapsed cycle of its step 1; its phases and the spares that take part. -/
  step : Nat := 0
  startAt : Nat := 0
  phases : List Nat := []
  spares : List Nat := []
  /-- A start waits for its ports to become ADMITTED (R612). -/
  waiting : Bool := false
  /-- How the last start ended, for the sequencer: 0 running or none, 1 started, 2 failed. -/
  result : Nat := 0
  /-- The output stood above Setpoint at step 4 (R182). -/
  prebias : Bool := false
  veff : Int := 0
  iint : Int := 0
  ig : Int := 0
  fb : Int := 0
  /-- The loop's outputs of the tick in progress, which a KERNEL_OVERRUN keeps for one more (R30). -/
  veffHeld : Int := 0
  iintHeld : Int := 0
  igHeld : Int := 0
  /-- Ticks without fresh feedback (R169). -/
  stale : Nat := 0
  /-- Ticks in a row with no add and a command low enough for a shed (R177). -/
  low : Nat := 0
  /-- GROUP_SHORT was raised in this spell (R296), and the elapsed cycle in which contingency allocations came into force (R297). -/
  short : Bool := false
  shortAt : Option Nat := none
  /-- Members still to replace, and spare units being brought in, by their first port (R295). -/
  owed : Nat := 0
  bringing : List Nat := []
  /-- Spares that failed their bring-in and have not been out since, by their first port. -/
  spent : List Nat := []
  /-- The group is to be emptied (R298): 1 its feeds are still to be taken down, 2 they are, and it stops after the last. -/
  emptying : Nat := 0
  /-- Supply as the last cycle boundary left it (R300, R303): RatedLimit, the same for one member fewer, members, SupplyState. -/
  rated0 : Nat := 0
  rated1 : Nat := 0
  members0 : Nat := 0
  supply0 : Nat := 0
  /-- A running unit moves to the preferred mains feed in this tick (R219). -/
  swap : Bool := false
  deriving DecidableEq, Repr

/-- A feed (chapters 9 and 10). -/
structure Feed where
  /-- The curve's accumulator in 2^-30, and the fault timer in ps (R279, R280). -/
  acc : Nat := 0
  timer : Nat := 0
  /-- Ticks the input has been in its window, and out of it (R276, R282). -/
  inOk : Nat := 0
  inBad : Nat := 0
  /-- Close in progress: its step (0 none, 2 LATCH_RESET, 4 BRK_CLOSE sent, 5 LATCH_RESET of a resumption), the elapsed tick of the close frame. -/
  step : Nat := 0
  closeAt : Nat := 0
  /-- The gate is still to be checked, and the elapsed tick of the sample that shows it (R278). -/
  gateWant : Bool := false
  gateAt : Nat := 0
  /-- Ticks in a row that show a pass short (R278). -/
  shortTicks : Nat := 0
  /-- Retry back-off: the elapsed tick at which it expires; the elapsed tick since which the feed has stayed CLOSED (R283). -/
  retryAt : Option Nat := none
  closedAt : Nat := 0
  /-- The group ran in the last tick (R282). -/
  groupRan : Bool := false
  /-- A FEED_CLOSE that fired in NO_LINK (R284), and a head whose registers failed the checks of R288 since it trained. -/
  held : Bool := false
  refused : Bool := false
  /-- The last fresh product of voltage and current, µW; its sum over the ticks of the cycle, and over the cycle that ended last (R299). -/
  power : Nat := 0
  powAcc : Nat := 0
  powLast : Nat := 0
  ticks : Nat := 0
  ticksLast : Nat := 0
  /-- The feed took part in allocation at the last cycle boundary. -/
  part : Bool := false
  deriving DecidableEq, Repr

/-- A mains feed (chapter 7). Voltages in µV. -/
structure MainsFeed where
  /-- Ticks in a row below LossLevel, off the expected wave per line, above SwellTrip, and blind. -/
  lossRun : Nat := 0
  lineRun : List Nat := [0, 0, 0]
  swellRun : Nat := 0
  blindRun : Nat := 0
  /-- Sum of m (or of the squared line sample) over the half-cycle and its ticks; the mean of the half-cycle before. -/
  halfSum : Nat := 0
  halfTicks : Nat := 0
  halfMean : Nat := 0
  /-- The notch in progress: its ticks. -/
  notchRun : Nat := 0
  /-- Over the cycle, per line: sums against sine and cosine, of squares, and fresh ticks. -/
  sumS : List Int := [0, 0, 0]
  sumC : List Int := [0, 0, 0]
  sumQ : List Int := [0, 0, 0]
  ticks : List Nat := [0, 0, 0]
  /-- The sums of the cycle that ended last. -/
  lastS : List Int := [0, 0, 0]
  lastC : List Int := [0, 0, 0]
  lastQ : List Int := [0, 0, 0]
  lastTicks : List Nat := [0, 0, 0]
  /-- Peak and phase per line in force (R220), and the phases of the cycle before. -/
  peak : List Nat := [0, 0, 0]
  phase : List Int := [0, 0, 0]
  phaseBefore : List Int := [0, 0, 0]
  /-- A disturbance or a blind tick in this cycle; cycles in a row out of sequence; checks in a row that disagreed (R223). -/
  dirty : Bool := false
  seqRun : Nat := 0
  disagree : Nat := 0
  /-- One triple of the other feed is to be moved here at each boundary (R219); the feed was lost and has not carried since. -/
  moving : Bool := false
  back : Bool := false
  /-- Cycles of correct sequence still owed after SEQUENCE; cycles in a row with a phase computed outside LOST; the sag (3) or swell (4)
  in progress; the widest deviation of the notch in progress. -/
  seqHold : Nat := 0
  psiRun : Nat := 0
  episode : Nat := 0
  notchMax : Nat := 0
  deriving DecidableEq, Repr

/-- The hold-up function (chapter 7). Currents in nA, voltages in µV. -/
structure Holdup where
  isup : Int := 0
  iint : Int := 0
  veff : Int := 0
  /-- The elapsed tick of the trigger, one more than it, 0 before the first; and the dip measurement: bus before, lowest since. -/
  trigger : Nat := 0
  dipBefore : Int := 0
  dipLow : Int := 0
  dipLeft : Nat := 0
  busLoad : Int := 0
  /-- The last bus sample, the ones before it (newest first), and the REC group's command, all of the state of the tick. -/
  bus : Int := 0
  busBefore : List Int := []
  recIg : Int := 0
  /-- The bus samples of the cycle in progress, their number, and their mean over the cycle that ended last (R250). -/
  busSum : Int := 0
  busTicks : Nat := 0
  busMean : Int := 0
  /-- Ticks of the walk-in so far, and a walk-in already scheduled. -/
  walk : Nat := 0
  scheduled : Bool := false
  /-- A feed reached AVAILABLE in this cycle, and in the last one (R233). -/
  came : Bool := false
  cameLast : Bool := false
  /-- The rack is to be taken down: the request of R321 for a hold-up fault raised in this tick, 0 none. -/
  takeDown : Nat := 0
  feeds : List MainsFeed := [{}, {}]
  deriving DecidableEq, Repr

/-- What Heartwood stores of a string (R258). -/
structure StringStore where
  q : Nat := 0
  cap : Nat := 0
  soh : Nat := 0
  flags : Nat := 0
  packId : Nat := 0
  dischargedAh : Nat := 0
  anchorSoc : Nat := 0
  /-- The string was seen ABSENT since the last store. -/
  absent : Bool := false
  held : Option (Nat × Bool × Nat) := none
  deriving DecidableEq, Repr

/-- A battery string (chapter 8). Charge in units of mA × 5 ns / 1,024, exact in the counted windows; currents in nA. -/
structure BatString where
  /-- Charge Q and capacity C_est; charge counted since the previous anchor; discharged charge not yet a whole Ah. -/
  q : Nat := 0
  cap : Nat := 0
  dq : Int := 0
  discharged : Nat := 0
  /-- An anchor of this pack has been taken since power-up (R257). -/
  anchored : Bool := false
  /-- The bus-side discharge limit L_b (R250). -/
  limitBus : Int := 0
  /-- The string is in the support set of this tick. -/
  support : Bool := false
  /-- A mode decided within a cycle for its end: after a test, or full. -/
  nextMode : Option Nat := none
  /-- Cycles at taper current with V_eff at the target; cycles of rest; the OCV correction of this rest is taken. -/
  taper : Nat := 0
  rest : Nat := 0
  ocvDone : Bool := false
  /-- Ticks in a row at or below the cutoff voltage; CHARGE has run since CUTOFF was entered. -/
  cutTicks : Nat := 0
  charged : Bool := false
  /-- In-band thermistor results in a row; ABSENT seen since the last gain. -/
  inBand : Nat := 0
  absentSeen : Bool := false
  /-- The gain's authentication is still to decide: after an insertion, or after a gain that resumed the stored values. -/
  inserting : Bool := false
  gained : Bool := false
  /-- The group's start is asked for once Identity is known. -/
  startWanted : Bool := false
  /-- Values held aside while PACK_UNIDENTIFIED: C_est, SOH_UNLEARNED, PackId. -/
  held : Option (Nat × Bool × Nat) := none
  /-- Authentication: 0 idle, 1 due at the next boundary, 2 queued, 3 the nonce is written, 4 its write is to be retried, 5 the response is to be read again; the nonce; the write was retried; the elapsed cycle of the next attempt; Identity before it. -/
  auth : Nat := 0
  nonce : List Nat := []
  retried : Bool := false
  nextAuth : Option Nat := none
  identityBefore : Nat := 0
  /-- The test: its current, the results before it, cycles it still lasts. -/
  testI : Int := 0
  testV : Int := 0
  testPre : Int := 0
  testLeft : Nat := 0
  /-- Cycles in a row in which channel and heads disagreed (R259). -/
  disagree : Nat := 0
  /-- Elapsed cycle of the last store in Heartwood, and what it holds, and held before. -/
  storedAt : Nat := 0
  store : StringStore := {}
  storeBefore : StringStore := {}
  deriving DecidableEq, Repr

/-- A member of an attempt or of a down (chapter 11): kind 3 group or 2 feed, unit, entry, due elapsed tick, status (R326: 0 waiting,
1 commanded, 2 up, 3 failed, 4 down, 5 forced down), and the elapsed tick of its command. -/
structure Member where
  kind : Nat
  unit : Nat
  entry : Nat
  due : Nat
  status : Nat := 0
  since : Nat := 0
  deriving DecidableEq, Repr

/-- A failure of an attempt (R316): entry, kind, unit, reason, and its place. -/
structure SeqFail where
  entry : Nat
  kind : Nat
  unit : Nat
  reason : Nat
  epoch : Nat
  cycle : Nat
  tick : Nat
  deriving DecidableEq, Repr

/-- A sequence (chapter 11): the members of the running attempt, of the running down and of forced downs; the failure of the attempt; the
angle of the last attempt; what the member states of the cycle that ended last decide (0 nothing, 1 up, 2 failed, 3 down); the elapsed tick
from which a boundary carries out an ABORT; the snapshot area that still waits for the number of its SEQ_FAIL record. -/
structure Seq where
  members : List Member := []
  downs : List Member := []
  forced : List Member := []
  fail : Option SeqFail := none
  angle : Nat := 0
  seen : Nat := 0
  abortAt : Option Nat := none
  area : Option Nat := none
  deriving DecidableEq, Repr

/-- A calibration (R206): the elapsed tick at or after which a boundary starts it, the window of it that is open (1 to 4, 0 none) and the
one that ended last, the range it runs on, the zero code, and the gain code once it is in. -/
structure Cal where
  due : Option Nat := none
  window : Nat := 0
  ended : Nat := 0
  range : Nat := 0
  zero : Int := 0
  gain : Option Int := none
  deriving DecidableEq, Repr

/-- An averaging block (R200): the sum and number of its valid results, the count of its first window, and twice the boundary count of the
last discard event, one more between boundaries. -/
structure Avg where
  sum : Int := 0
  n : Nat := 0
  first : Nat := 0
  badAt : Nat := 0
  deriving DecidableEq, Repr

/-- The windows that ended last (R191–R194): their cycle, which boundary opened them, their length in Glade clock edges, and what
disturbed them; the channels that were enabled, and their ranges. -/
structure Window72 where
  epoch : Nat
  cycle : Nat
  no : Nat
  edges : Nat
  irregular : Bool
  notTrack : Bool
  settling : Bool
  enabled : List Bool
  ranges : List Nat
  deriving DecidableEq, Repr

/-- Measurement (chapter 6). -/
structure Meas where
  /-- The converters run; what the open windows have seen so far. -/
  running : Bool := false
  irregular : Bool := false
  notTrack : Bool := false
  settling : Bool := false
  /-- The windows whose results are still to be delivered or were delivered last. -/
  ended : Option Window72 := none
  /-- The results of `ended` are in the cycle data, the partner's set of this cycle has come, its flags. -/
  delivered : Bool := false
  partnerCame : Bool := false
  partnerFlags : List Nat := []
  /-- Flags of the own set. -/
  ownFlags : List Nat := []
  cals : Tab Cal := []
  avgs : Tab Avg := []
  /-- Consecutive cycles of disagreement per channel (R199), and of IC0 out of tolerance (R203). -/
  cross : Tab Nat := []
  icBad : Nat := 0
  /-- The last reported crossing per phase: its stamp and Glade clock count (R209). -/
  lastZc : Tab (Nat × Nat) := []
  deriving DecidableEq, Repr

/-- The supervisors' results of a cycle, which take effect at the next boundary (R31, R33): object values, trims in µA, peaks and phases of
the mains lines, bus-side limits and modes of the strings. -/
structure Sup where
  ready : Bool := false
  /-- The computation of this cycle missed its deadline (R33). -/
  overrun : Bool := false
  writes : List (Nat × Nat) := []
  trims : List (Nat × Int) := []
  peaks : List (List Nat) := []
  phases : List (List Int) := []
  limits : List (Nat × Int) := []
  modes : List (Nat × Nat) := []
  /-- Feed allocations with their CapState, and the decided changes of sequences. -/
  allocs : List (Nat × Nat × Nat) := []
  seqs : List (Nat × Nat) := []
  deriving DecidableEq, Repr

end Sys2Proof.Machine
end

