-- ==== Sys2Proof/Machine/State.lean ====
section
/-! DEFINITION. The state of one EUS-5120: the block's registers and machinery, the two addressed memories, and the queue of commands. -/

namespace Sys2Proof.Machine

/-- The kinds of unit a command can name. -/
inductive UnitKind
  | port | feed | group | string | sequence | slot | channel | mains | source | root | session | handle | line | rail | twoWire | can | lan | area | cell | node
  deriving DecidableEq, Repr

/-- Why a step stops with a fault. -/
inductive Fault
  /-- Raised by every command that names a unit, when that unit does not exist (port 600, session 40). Safe: the model stops where the
  hardware cannot be given such a command. -/
  | noSuchUnit (kind : UnitKind) (n : Nat)
  deriving DecidableEq, Repr

/-- Why a step is refused. -/
inductive Refusal
  /-- Raised by the dispatch for a command that has no meaning yet. Safe. -/
  | notModelled (mnemonic : String)
  deriving DecidableEq, Repr

/-- Everything the block holds but its queue and its two addressed memories: the dictionary's scalar objects (`dict`, with the
sessions' copies) and their values for the next tick (`wimg`, R80), the free-value counter (the model's own), and one part per block. -/
structure Block where
  dict : Tab Nat := []
  wimg : Tab Nat := []
  /-- The model's own: how many free values have been drawn. -/
  free : Nat := 0
  glade : Glade := {}
  actions : Actions := {}
  canopy : Canopy := {}
  faults : Faults := {}
  pair : Pair := {}
  rings : Rings := {}
  sessions : Tab Session := []
  /-- Byte strings of DOMAIN objects that hosts can write, by key. -/
  domains : Tab (List Nat) := []
  ports : Tab Port := []
  masks : Masks := {}
  groupTab : Tab Group := []
  feedTab : Tab Feed := []
  holdup : Holdup := {}
  stringTab : Tab BatString := []
  seqTab : Tab Seq := []
  sup : Sup := {}
  meas : Meas := {}
  /-- Feed and string events an alert may be formed from in this tick (R254, R306): kind 1 feed or 2 string, unit, bit. -/
  events : List (Nat × Nat × Nat) := []
  store : Store := {}
  flashMan : FlashMan := {}
  dump : Dump := {}
  update : Update := {}
  net : Net := {}
  tw : TwoWire := {}
  aon : Aon := {}
  writes : Writes := {}
  deriving DecidableEq, Repr

/-- The machine: the queue of waiting commands, the block, the Heartwood array (R440) and the boot flash (R454). -/
structure State where
  pending : List Instr
  blk : Block
  heartwood : List Host.Cell
  flash : List Host.Cell
  deriving DecidableEq, Repr

/-- The machine before any command, at step 3 of R559: every field at the value the spec or the assumption log gives; CORE, IO18 and IO33 are
good (R543), without which the reset is not released. -/
def State.reset : State :=
  { pending := [], blk := { dict := [(0x380005, 2), (0x380105, 2), (0x380205, 2)] }, heartwood := [], flash := [] }

end Sys2Proof.Machine
end

