-- ==== Sys2Proof/Machine/Ops.lean ====
section
/-! DEFINITION. The named operations every meaning is built from: dictionary reads and writes, free values, time, reports and records. -/

namespace Sys2Proof.Machine

/-! ### Numbers -/

/-- Two's complement reading of an unsigned value of `w` bits. -/
def toI (w n : Nat) : Int := if n % 2 ^ w < 2 ^ (w - 1) then (n % 2 ^ w : Nat) else (n % 2 ^ w : Nat) - (2 ^ w : Nat)

/-- The unsigned value of `w` bits that reads as `i`. -/
def ofI (w : Nat) (i : Int) : Nat := (i % (2 ^ w : Nat)).toNat

/-- A value held between two bounds. -/
def clampI (lo hi x : Int) : Int := max lo (min hi x)

/-- The nearest integer to a / b, halves away from zero (R611); 0 for b = 0. -/
def roundDiv (a b : Int) : Int :=
  if b = 0 then 0
  else if (0 ≤ a) = (0 ≤ b) then (2 * a.natAbs + b.natAbs : Nat) / (2 * b.natAbs : Nat)
  else - ((2 * a.natAbs + b.natAbs : Nat) / (2 * b.natAbs : Nat) : Int)

/-- Unsigned rounding, halves up. -/
def roundDivN (a b : Nat) : Nat := if b = 0 then 0 else (2 * a + b) / (2 * b)

/-- Rounding up. -/
def ceilDiv (a b : Nat) : Nat := if b = 0 then 0 else (a + b - 1) / b

/-- Serial order (R37): `a` lies ahead of `b` with a window of 2^(w-1); two values half the window apart are unordered. -/
def ahead (w a b : Nat) : Bool :=
  let d := (a + 2 ^ w - b % 2 ^ w) % 2 ^ w
  decide (0 < d) && decide (d < 2 ^ (w - 1))

/-- Bit `n` of a value. -/
def bitOf (v n : Nat) : Bool := v / 2 ^ n % 2 == 1

/-- A value with bit `n` set or cleared. -/
def putBit (v n : Nat) (on : Bool) : Nat :=
  if bitOf v n = on then v else if on then v + 2 ^ n else v - 2 ^ n

/-- The number 1 for true. -/
def b2n (p : Bool) : Nat := if p then 1 else 0

/-- Little-endian bytes of a value. -/
def leBytes : Nat → Nat → List Nat
  | 0, _ => []
  | n + 1, v => (v % 256) :: leBytes n (v / 256)

/-- The value of little-endian bytes. -/
def leValue : List Nat → Nat
  | [] => 0
  | b :: r => b % 256 + 256 * leValue r

/-- One byte of a reflected CRC-32C (R107): eight shifts of the running value. -/
def crcBits : Nat → Nat → Nat
  | 0, c => c
  | n + 1, c => crcBits n (if c % 2 = 1 then (c / 2) ^^^ 0x82F63B78 else c / 2)

/-- CRC-32C (Castagnoli 0x1EDC6F41, initial value and final inversion 0xFFFFFFFF, R107). -/
def crc32c (bytes : List Nat) : Nat :=
  (bytes.foldl (fun c b => crcBits 8 (c ^^^ (b % 256))) 0xFFFFFFFF) ^^^ 0xFFFFFFFF

/-! ### Defaults of the dictionary -/

/-- The row of the object table that holds index:sub-index. -/
def findRow (index : Nat) : Option ObjRow := objectMap.find? (fun r => decide (r.first ≤ index) && decide (index ≤ r.last))

/-- The sub-index row of a key. -/
def findSub (key : Nat) : Option SubRow :=
  match findRow (key / 256 % 65536) with
  | none => none
  | some r => r.subs.find? (fun x => decide (x.first ≤ key % 256) && decide (key % 256 ≤ x.last))

/-- Default points of the native curve (R279). -/
def curveDefaultI : List Nat := [1126, 1280, 1536, 2048, 3072, 4096, 6144, 10240]
def curveDefaultT : List Nat := [600000000, 120000000, 30000000, 5000000, 500000, 50000, 10000, 2000]

/-- Defaults of rules 240–246 (R347): source, scope, class mask, reaction. -/
def ruleDefaults : List (Nat × Nat × Nat × Nat) :=
  [(Src.LINK_LOST, 1, 0x0E, 1), (Src.HEAD_HOLD_EXPIRED, 1, 0x0E, 3), (Src.HEAD_GATE, 1, 0x0E, 1), (Src.HEAD_OC_TRIP, 1, 0x0E, 1),
   (Src.HEAD_OT, 1, 0x0E, 1), (Src.HOLDUP_UNAVAILABLE, 0, 0xFF, 8), (Src.HOLDUP_EXHAUSTED, 0, 0xFF, 8)]

/-- Defaults that differ from unit to unit within one table row. -/
def unitDefault (index sub : Nat) : Option Nat :=
  if 0x3400 ≤ index ∧ index ≤ 0x34FF then
    if 0x0E ≤ sub ∧ sub ≤ 0x15 then curveDefaultI[sub - 0x0E]?
    else if 0x16 ≤ sub ∧ sub ≤ 0x1D then curveDefaultT[sub - 0x16]?
    else none
  else if 0x3800 ≤ index ∧ index ≤ 0x3803 then
    match sub, index with
    | 1, 0x3803 => some 0
    | 2, 0x3800 => some 750
    | 2, 0x3801 => some 1800
    | 2, 0x3802 => some 3300
    | 4, 0x3800 => some 4500
    | 4, 0x3803 => some 5000
    | 4, _ => some 3000
    | _, _ => none
  else if 0x4010 ≤ index ∧ index ≤ 0x40EF then
    let r := sourceRow (index - 0x4010)
    match sub with
    | 1 => some r.cls
    | 2 => some (b2n r.condition)
    | 3 => some r.scope
    | 0xC => some r.cls
    | _ => none
  else if 0x41F0 ≤ index ∧ index ≤ 0x41F6 then
    match ruleDefaults[index - 0x41F0]?, sub with
    | some _, 1 => some 1
    | some r, 2 => some r.1
    | some r, 4 => some r.2.1
    | some r, 7 => some r.2.2.1
    | some r, 8 => some r.2.2.2
    | _, _ => none
  else if 0x3740 ≤ index ∧ index ≤ 0x3747 ∧ sub = 6 then [1000, 20000, 4000, 1000, 4000, 0, 0, 1000][index - 0x3740]?
  else match index, sub with
    | 0x3B11, 1 => some 1
    | 0x3B10, 4 => some 1
    | 0x1014, 0 => some 0x90
    | _, _ => none

/-- What an object reads as while the store lists nothing for it: its default (R485), sub-index 00 as R13 has it. -/
def dictDefault (key : Nat) : Nat :=
  let index := key / 256 % 65536
  let sub := key % 256
  match unitDefault index sub with
  | some v => v
  | none =>
    match findSub key with
    | some x => x.default
    | none => if sub = 0 then ((findRow index).map (·.top)).getD 0 else 0

/-! ### Dictionary store -/

/-- The key of session n's own copy of an object (R486). -/
def sk (n key : Nat) : Nat := (n + 1) * 0x1000000 + key

namespace Block

/-- The value an object holds in this tick. -/
def rd (b : Block) (key : Nat) : Nat := Tab.look (dictDefault key) b.dict key

/-- The value, read as a signed number of `w` bits. -/
def rdI (b : Block) (w key : Nat) : Int := toI w (b.rd key)

/-- A write that takes effect at once. -/
def wr (b : Block) (key v : Nat) : Block :=
  { b with dict := Tab.put (dictDefault key) b.dict key v, wimg := Tab.drop b.wimg key }

/-- A signed write of `w` bits. -/
def wrI (b : Block) (w key : Nat) (v : Int) : Block := b.wr key (ofI w v)

/-- Several writes in order. -/
def wrs (b : Block) (l : List (Nat × Nat)) : Block := l.foldl (fun b e => b.wr e.1 e.2) b

/-- The value an object has in the state of the next tick as far as it is written (R81). -/
def rdN (b : Block) (key : Nat) : Nat := Tab.look (b.rd key) b.wimg key

/-- A write into the state of the next tick (R80). -/
def wrN (b : Block) (key v : Nat) : Block := { b with wimg := Tab.set b.wimg key v }

/-- A signed write into the state of the next tick. -/
def wrNI (b : Block) (w key : Nat) (v : Int) : Block := b.wrN key (ofI w v)

/-- A counter of `w` bits that saturates. -/
def bump (b : Block) (key : Nat) (w : Nat := 32) (n : Nat := 1) : Block := b.wr key (min (b.rd key + n) (2 ^ w - 1))

/-- The tick images swap (R80): what was written for the next tick is now in force. -/
def swapImages (b : Block) : Block :=
  b.wimg.foldl (fun c e => { c with dict := Tab.put (dictDefault e.1) c.dict e.1 e.2 }) { b with wimg := [] }

/-- The next free value below 2^w, and the block with the counter advanced. -/
def draw (b : Block) (w : Nat) : Nat × Block := (Config.freeValue b.free % 2 ^ w, { b with free := b.free + 1 })

/-- A write of a free value of `w` bits. -/
def wrFree (b : Block) (w key : Nat) : Block := let d := b.draw w; d.2.wr key d.1

/-! ### Time -/

/-- The start angle of tick k (R5). -/
def tickStart (nt k : Nat) : Nat := ceilDiv (k * 2 ^ 32) nt

/-- The stamp of the tick in progress. -/
def now (b : Block) : Stamp := ⟨b.glade.epoch, b.glade.cycle, tickStart b.glade.nt b.glade.tick⟩

/-- The next cycle number and epoch (R36). -/
def nextCycle (epoch cycle : Nat) : Nat × Nat :=
  if cycle + 1 < 2 ^ 32 then (epoch, cycle + 1) else (min (epoch + 1) 0xFFFE, 0)

/-- How far position (e, c) lies ahead of the current cycle (R37, R73): exact by epochs, serial where either is 0xFFFE. -/
def cyclesAhead (b : Block) (e c : Nat) : Int :=
  if e = 0xFFFE ∨ b.glade.epoch = 0xFFFE then
    let d : Nat := (c + 2 ^ 32 - b.glade.cycle) % 2 ^ 32
    if d < 2 ^ 31 then (d : Int) else (d : Int) - 2 ^ 32
  else ((e * 2 ^ 32 + c : Nat) : Int) - (b.glade.epoch * 2 ^ 32 + b.glade.cycle : Nat)

/-- The epoch a request with EPOCH_AUTO resolves to (R73); `none` where it would lie below 0. -/
def resolveEpoch (b : Block) (e c : Nat) : Option Nat :=
  if e ≠ 0xFFFF then some e
  else if b.glade.epoch = 0xFFFE then some 0xFFFE
  else
    let d := (c + 2 ^ 32 - b.glade.cycle) % 2 ^ 32
    if d < 2 ^ 31 then
      if b.glade.cycle + d < 2 ^ 32 then some b.glade.epoch else some (min (b.glade.epoch + 1) 0xFFFE)
    else if c ≤ b.glade.cycle then some b.glade.epoch
    else if b.glade.epoch = 0 then none else some (b.glade.epoch - 1)

/-- This controller's seat letter (R20). -/
def seat (b : Block) : Nat := b.rd Obj.Seat.Value

/-- This controller holds the token (R372, R402). -/
def isHolder (b : Block) : Bool := b.rd Obj.RedundancyStatus.Role == 1

/-- The partner link is UP, on one lane or both (R377). -/
def linkUp (b : Block) : Bool := b.rd Obj.PartnerLink.LinkState != 0

/-- GRAVE (R356, R357): the grave latch is set. -/
def inGrave (b : Block) : Bool := b.faults.grave

/-! ### Units (R14–R19) -/

/-- The configured class of a port (R17). -/
def classOf (b : Block) (p : Nat) : Nat := b.rd (Obj.PortRecord.ConfiguredClass p) % 8

/-- The group a port names (R17). -/
def groupOf (b : Block) (p : Nat) : Nat := b.rd (Obj.PortRecord.Group p)

/-- The string or feed a port names (R17). -/
def memberOf (b : Block) (p : Nat) : Nat := b.rd (Obj.PortRecord.Member p)

/-- The state of a port (R18). -/
def portState (b : Block) (p : Nat) : Nat := b.rd (Obj.PortRecord.PortState p)

/-- The ports 0–511. -/
def allPorts : List Nat := List.range 512

/-- A port of class REC, CNV or BAT: a phase of a group (R14). -/
def isPhase (b : Block) (p : Nat) : Bool := decide (1 ≤ b.classOf p) && decide (b.classOf p ≤ 3)

/-- The phases of a group, in port order. -/
def groupPorts (b : Block) (g : Nat) : List Nat := allPorts.filter (fun p => b.groupOf p == g && b.isPhase p)

/-- The BRK port of a feed. -/
def feedPort (b : Block) (f : Nat) : Option Nat := allPorts.find? (fun p => b.memberOf p == f && b.classOf p == 4)

/-- The group a feed hangs off. -/
def feedGroup (b : Block) (f : Nat) : Option Nat := (b.feedPort f).map b.groupOf

/-- The feeds that are configured, and those of a group. -/
def feeds (b : Block) : List Nat := (List.range 256).filter (fun f => (b.feedPort f).isSome)
def groupFeeds (b : Block) (g : Nat) : List Nat :=
  (allPorts.filter (fun p => b.groupOf p == g && b.classOf p == 4)).map b.memberOf

/-- The BAT ports of a string, and its group. -/
def stringPorts (b : Block) (n : Nat) : List Nat := allPorts.filter (fun p => b.memberOf p == n && b.classOf p == 3)
def stringGroup (b : Block) (n : Nat) : Option Nat := (b.stringPorts n).head?.map b.groupOf

/-- The strings and groups that are configured. -/
def strings (b : Block) : List Nat := (List.range 16).filter (fun n => !(b.stringPorts n).isEmpty)
def groups (b : Block) : List Nat := (List.range 64).filter (fun g => !(b.groupPorts g).isEmpty)

/-- The class of a group's phases, 0 for an empty group. -/
def groupClass (b : Block) (g : Nat) : Nat := match b.groupPorts g with | [] => 0 | p :: _ => b.classOf p

/-- The string a BAT group belongs to. -/
def groupString (b : Block) (g : Nat) : Option Nat :=
  match b.groupPorts g with
  | [] => none
  | p :: _ => if b.classOf p = 3 then some (b.memberOf p) else none

/-- The slot entries of a sequence that hold a unit (R313). -/
def sequenceUsed (b : Block) (q : Nat) : Bool :=
  (List.range 128).any (fun e => b.rd (Obj.SlotEntry.Sequence e) == q && b.rd (Obj.SlotEntry.Kind e) != 0)

/-- A port's state changes; the first port in service ends start alignment (R18, R48). -/
def setPortState (b : Block) (p v : Nat) : Block :=
  let b := b.wr (Obj.PortRecord.PortState p) v
  if v = 5 then { b with glade := { b.glade with everInService := true } } else b

/-! ### Reports and conditions -/

/-- A report (R332): it reaches the collector at the boundary that opens the next tick (R336). -/
def report (b : Block) (src inst : Nat) (detail : List Int := []) : Block :=
  { b with faults := { b.faults with reports := b.faults.reports ++ [{ src, inst, detail }] } }

/-- A report that an injected check caused (R358). -/
def reportInjected (b : Block) (src inst : Nat) (detail : List Int := []) : Block :=
  { b with faults := { b.faults with reports := b.faults.reports ++ [{ src, inst, detail, injected := true }] } }

/-- A report, marked where an injected check caused it. -/
def raise (b : Block) (src inst : Nat) (detail : List Int := []) (injected : Bool := false) : Block :=
  if injected then b.reportInjected src inst detail else b.report src inst detail

/-- The key of an instance of a source. -/
def instKey (src inst : Nat) : Nat := src * 65536 + inst

/-- An instance of a condition source is present (R333). -/
def isPresent (b : Block) (src inst : Nat) : Bool := b.faults.present.contains (instKey src inst)

/-- A condition source's instance comes or goes: a report when it first appears (R333). -/
def condition (b : Block) (src inst : Nat) (p : Bool) (detail : List Int := []) (injected : Bool := false) : Block :=
  if p = b.isPresent src inst then b
  else if p then
    let b := (b.raise src inst detail injected).bump (Obj.SourceConfig.PresentInstances src) 16
    { b with faults := { b.faults with present := instKey src inst :: b.faults.present } }
  else
    let b := b.wr (Obj.SourceConfig.PresentInstances src) (b.rd (Obj.SourceConfig.PresentInstances src) - 1)
    { b with faults := { b.faults with present := b.faults.present.filter (· != instKey src inst) } }

/-! ### The partner link (R375, R376) -/

/-- A message to the partner that it has to acknowledge; nothing is sent while the link is DOWN (R377). -/
def send (b : Block) (kind : Nat) (ref : List Nat) : Block :=
  if b.linkUp then
    let q := (b.pair.tx + 1) % 2 ^ 32
    { b with pair := { b.pair with tx := q, out := b.pair.out ++ [{ seq := q, kind, ref, sent := b.glade.ticks }] } }
  else b

/-! ### Sessions -/

/-- A host session (R91). -/
def sess (b : Block) (n : Nat) : Session := Tab.look {} b.sessions n

/-- A session's record changes. -/
def setSess (b : Block) (n : Nat) (x : Session) : Block := { b with sessions := Tab.put {} b.sessions n x }

/-! ### Records -/

/-- The next event number (R108, R109): an E that would pass 0xFFFFFFFF advances the generation first. -/
def nextEvent (b : Block) : Block :=
  let e := b.rd Obj.EventOrder.EventSequence
  if e = 0xFFFFFFFF then
    (b.wr Obj.EventOrder.Generation ((b.rd Obj.EventOrder.Generation + 1) % 65536)).wr Obj.EventOrder.EventSequence 1
  else b.wr Obj.EventOrder.EventSequence (e + 1)

/-- The depth of a code's bucket in units of 1 / NominalFreq (R420, R436). -/
def bucketDepth (b : Block) (c : Nat) : Nat :=
  let burst := b.rd (Obj.CodeRate.Burst c)
  (if burst = 0xFF then b.rd Obj.RingsConfig.DefaultBurst else burst) * b.glade.fnom

/-- The tokens a code's bucket holds, in the same units. -/
def bucketTokens (b : Block) (c : Nat) : Nat := min (Tab.look (b.bucketDepth c) b.rings.tokens c) (b.bucketDepth c)

/-- The order of records within a controller (R108–R110): generation first, by serial arithmetic, then sequence. -/
def recBefore (g1 s1 g2 s2 : Nat) : Bool := if g1 = g2 then decide (s1 < s2) else ahead 16 g2 g1

/-- The floor of a tier (R423, R433): generation and sequence. -/
def floorOf (b : Block) (t : Nat) : Nat × Nat := (b.rd (Obj.RingsStatus.FloorGen t) / 65536, b.rd (Obj.RingsStatus.Floor t))

/-- A tier has a floor: a clear has been served since manufacture (a floor of 0:0 lies below every record). -/
def aboveFloor (b : Block) (t : Nat) (r : Rec) : Bool :=
  let f := b.floorOf t
  f == (0, 0) || recBefore f.1 f.2 r.gen r.seq

/-- The records each tier holds. -/
def tierRecs (b : Block) (t : Nat) : List Rec :=
  match t with
  | 0 => b.rings.buffer
  | 1 => b.rings.ring
  | _ => b.rings.archive.flatMap (·.2)

/-- The status objects of the recorder (R433) after an append or a flush. -/
def ringsStatus (b : Block) : Block :=
  b.wrs [(Obj.RingsStatus.Unflushed, b.rings.unflushed + b.rings.queue.length),
         (Obj.RingsStatus.Held 0, (b.rings.buffer.filter (b.aboveFloor 0)).length),
         (Obj.RingsStatus.NewestGeneration, b.rd Obj.EventOrder.Generation),
         (Obj.RingsStatus.NewestSequence, b.rd Obj.EventOrder.EventSequence)]

/-- A tier has overwritten a record: the open readers that have still to return it and find it in no other tier have lost it (R421). -/
def overwritten (b : Block) (t : Nat) (r : Rec) : Block :=
  let other (u : Nat) : Bool := u != t && (b.tierRecs u).any (fun x => x.seq == r.seq && x.gen == r.gen)
  let miss (e : Nat × Session) : Nat × Session :=
    let x := e.2
    let tier := b.rd (sk e.1 Obj.RingsReader.Tier)
    let bg := b.rd (sk e.1 Obj.RingsReader.BoundGeneration)
    let bs := b.rd (sk e.1 Obj.RingsReader.BoundSequence)
    if x.reader && (tier == t || (tier == 3 && !other 0 && !other 1 && !other 2)) && b.aboveFloor t r &&
        !recBefore r.gen r.seq x.cursorGen x.cursorSeq && !recBefore bg bs r.gen r.seq then (e.1, { x with readerLost := x.readerLost + 1 })
    else e
  { b with sessions := b.sessions.map miss }

/-- A trigger of the flush engine (R414, R422): at the end of a freeze where one runs; none of its own while a retry waits; a flush
covers every record appended before it. -/
def flushTrigger (b : Block) : Block :=
  if b.rings.freezeEnd.isSome then { b with rings := { b.rings with flushAfterFreeze := true } }
  else if b.rings.retry then b
  else { b with rings := { b.rings with flushing := true, covered := b.rings.unflushed } }

/-- The unflushed count has reached FillThreshold (R414). -/
def fillTrigger (b : Block) : Block :=
  if b.rd Obj.RingsConfig.FillThreshold ≤ b.rings.unflushed + b.rings.queue.length then b.flushTrigger else b

/-- The oldest unflushed record is lost because 8,192 unflushed records are held (R415). -/
def loseRecord (b : Block) : Block :=
  let b := b.bump Obj.RingsStatus.RecordsLost
  { b with rings := { b.rings with lost := b.rings.lost + 1, unflushed := b.rings.unflushed - 1, covered := b.rings.covered - 1 } }

/-- A record enters the volatile buffer and overwrites its oldest record where it is full (R413, R415). -/
def bufferRec (b : Block) (r : Rec) : Block :=
  let b := if 8192 ≤ b.rings.unflushed + b.rings.queue.length then b.loseRecord else b
  let old := b.rings.buffer
  let b := if 8192 ≤ old.length then (match old with | x :: _ => b.overwritten 0 x | [] => b) else b
  let buf := old ++ [r]
  ({ b with rings := { b.rings with buffer := buf.drop (buf.length - 8192), unflushed := b.rings.unflushed + 1 } }).ringsStatus

/-- A record enters the volatile buffer, or the freeze queue during a freeze (R413, R415, R422). -/
def pushRec (b : Block) (r : Rec) : Block :=
  match b.rings.freezeEnd with
  | none => (b.bufferRec r).fillTrigger
  | some _ =>
    if b.rings.queue.length < 1024 then
      let b := if 8192 ≤ b.rings.unflushed + b.rings.queue.length then b.loseRecord else b
      ({ b with rings := { b.rings with queue := b.rings.queue ++ [r] } }).ringsStatus.fillTrigger
    else
      let b := b.bump Obj.RingsStatus.RecordsLost
      { b with rings := { b.rings with queueLost := b.rings.queueLost + 1 } }

/-- What a record to be appended says. -/
structure NewRec where
  code : Nat
  scope : Nat := 0
  inst : Nat := 0
  flags : Nat := 0
  data : List Nat := []
  stamp : Stamp
  /-- Written whatever its bucket holds (R420): C2 and C3 roots, record-only codes, the last-resort sequencer. -/
  always : Bool := true

/-- A record with its number, stamp and counts, and the suppressed count of its code returned to 0. -/
def writeRec (b : Block) (n : NewRec) (flags : Nat) : Block :=
  let sup := Tab.look 0 b.rings.suppressed n.code
  let b := b.nextEvent
  let b := { b with rings := { b.rings with suppressed := Tab.drop b.rings.suppressed n.code } }
  let b := if n.code < 0xE0 then b.bump (Obj.CodeRate.Written n.code) else b
  b.pushRec
    { seq := b.rd Obj.EventOrder.EventSequence, gen := b.rd Obj.EventOrder.Generation, code := n.code,
      hours := b.rd Obj.BackupDomain.OperatingHours, cycles := b.rd Obj.BackupDomain.PowerCycles % 2 ^ 24, seat := b.seat,
      stamp := n.stamp, scope := n.scope, flags := flags, inst := n.inst, suppressed := min sup 0xFFFF,
      data := (n.data ++ List.replicate 28 0).take 28 }

/-- An append (R409–R415, R420). -/
def append (b : Block) (n : NewRec) : Block :=
  if 0xE0 ≤ n.code then b.writeRec n n.flags
  else
    let t := b.bucketTokens n.code
    if b.glade.fnom ≤ t then
      let b := { b with rings := { b.rings with
        tokens := Tab.set b.rings.tokens n.code (t - b.glade.fnom), full := Tab.drop b.rings.full n.code } }
      b.writeRec n n.flags
    else if n.always then b.writeRec n (n.flags + 8)
    else
      let b := b.bump (Obj.CodeRate.SuppressedTotal n.code)
      { b with rings := { b.rings with suppressed := Tab.set b.rings.suppressed n.code (Tab.look 0 b.rings.suppressed n.code + 1) } }

/-- Heartwood refuses a write to an address (R448, R450): the recall runs, or block protection covers it. -/
def heartwoodRefuses (b : Block) (a : Nat) : Bool :=
  let level := b.rd Obj.HeartwoodProtect.LevelInForce
  b.rd Obj.HeartwoodStatus.RecallState == 0 || (level == 1 && decide (0x300000 ≤ a)) || (level == 2 && decide (0x200000 ≤ a)) || level == 3

/-- Bytes handed to the Heartwood array at an address (R442), or refused (R448, R450). -/
def putHeartwood (b : Block) (a : Nat) (bytes : List Nat) : Block :=
  if b.heartwoodRefuses a then b.bump Obj.HeartwoodStatus.WriteRefusals
  else { b with writes := { b.writes with heartwood := b.writes.heartwood ++ (bytes.mapIdx (fun i v => (a + i, v))) } }

/-- The rows that a run of bytes lies in are CLOSED after the write (R444, R449). -/
def closeRows (b : Block) (a n : Nat) : Block :=
  let keep (r : Nat) : Bool := decide (r < a / 64) || decide ((a + n + 63) / 64 ≤ r)
  { b with store := { b.store with voids := b.store.voids.filter keep, cuts := b.store.cuts.filter (fun e => keep e.1) } }

/-- An address in the region of a stored set (R441): parameters for the image, calibration, string values and the power-fail block. -/
def setAddress (n : Nat) : Nat := if [6, 7, 8, 10].contains n then 0x300000 else 0x280000

/-- A stored set is written into its older copy (R446), or its store is refused: HW_WRITE_REFUSED once per set until the level changes (R451). -/
def storeSet (b : Block) (n : Nat) (c : Copy) : Block :=
  if b.heartwoodRefuses (setAddress n) then
    let b := b.bump Obj.HeartwoodStatus.WriteRefusals
    if b.rd Obj.HeartwoodStatus.RecallState = 0 || b.store.refused.contains n then b
    else ({ b with store := { b.store with refused := n :: b.store.refused } }).report Src.HW_WRITE_REFUSED 0 [n]
  else
    let old : Saved := Tab.look {} b.store.sets n
    { b with store := { b.store with sets := Tab.set b.store.sets n { cur := c, prev := old.cur } } }

/-- The values of a stored set as it was last written. -/
def stored (b : Block) (n key : Nat) : Option Nat := ((Tab.look {} b.store.sets n).cur.vals.find? (fun e => e.1 == key)).map (·.2)

/-- A set of dictionary values is stored. -/
def storeKeys (b : Block) (n : Nat) (keys : List Nat) : Block := b.storeSet n { vals := keys.map (fun k => (k, b.rd k)) }

/-- Bytes handed to the boot flash at an address (R455). -/
def putFlash (b : Block) (a : Nat) (bytes : List Nat) : Block :=
  { b with writes := { b.writes with flash := b.writes.flash ++ (bytes.mapIdx (fun i v => (a + i, v))) } }

/-- A record-only code in the tick in which the device records it (R410, R411). -/
def record (b : Block) (code : Nat) (data : List Nat) : Block := b.append { code, data, stamp := b.now }

end Block

/-! ### Memory: Heartwood (R440) and the boot flash (R454) -/

/-- What a byte of Heartwood that nothing has written reads as (R444), and an erased byte of the flash (R453). -/
def heartwoodFill : BitVec 8 := 0
def flashFill : BitVec 8 := 0xFF

/-- One byte of Heartwood. -/
def Memory.heartwoodByte (m : List Host.Cell) (a : Nat) : Nat := (Tab.look heartwoodFill m a).toNat

/-- One byte of the flash. -/
def Memory.flashByte (m : List Host.Cell) (a : Nat) : Nat := (Tab.look flashFill m a).toNat

/-- A list of byte writes in order, each keeping the canonical form. -/
def Memory.write (fill : BitVec 8) (m : List Host.Cell) (l : List (Nat × Nat)) : List Host.Cell :=
  l.foldl (fun m e => Tab.put fill m e.1 (BitVec.ofNat 8 e.2)) m

/-- The canonical form: addresses strictly rising, no byte that an unlisted address reads as. -/
def Memory.wf (fill : BitVec 8) (m : List Host.Cell) : Bool := Tab.wf (fun _ => fill) m

/-- The arrays take the bytes that the command's writers handed over. -/
def State.settle (s : State) : State :=
  { s with
    heartwood := Memory.write heartwoodFill s.heartwood s.blk.writes.heartwood
    flash := Memory.write flashFill s.flash s.blk.writes.flash
    blk := { s.blk with writes := {} } }

/-- A command's effect on the block, then the arrays take what it wrote. -/
def State.act (s : State) (f : Block → Block) : Host.Outcome State Fault Refusal :=
  .next ({ s with blk := f s.blk }).settle

/-- A command that reads the arrays. -/
def State.run (s : State) (f : State → State) : Host.Outcome State Fault Refusal := .next (f s).settle

/-- A command that reads the arrays, on a unit. -/
def State.runOn (s : State) (ok : Bool) (kind : UnitKind) (n : Nat) (f : State → State) : Host.Outcome State Fault Refusal :=
  if ok then s.run f else .fault (.noSuchUnit kind n)

/-- The block of a state changes. -/
def State.mapBlk (s : State) (f : Block → Block) : State := { s with blk := f s.blk }

/-- A run of bytes of Heartwood and of the flash. -/
def State.heartwoodBytes (s : State) (a n : Nat) : List Nat := (List.range n).map (fun i => Memory.heartwoodByte s.heartwood (a + i))
def State.flashBytes (s : State) (a n : Nat) : List Nat := (List.range n).map (fun i => Memory.flashByte s.flash (a + i))

/-- A command on a unit: a unit that does not exist is a fault. -/
def State.actOn (s : State) (ok : Bool) (kind : UnitKind) (n : Nat) (f : Block → Block) : Host.Outcome State Fault Refusal :=
  if ok then s.act f else .fault (.noSuchUnit kind n)

end Sys2Proof.Machine
end

