-- ==== Sys2Proof/Machine/Glade.lean ====
section
/-! DEFINITION. Glade (chapter 2): counting, sources, the loop's outward behaviour, holdover, the standby's time and rack sync. -/

namespace Sys2Proof.Machine

/-- GladeStatus:01 codes (R62). -/
def gladeTRACK : Nat := 1
def gladeSLEW : Nat := 2
def gladeHOLDOVER : Nat := 3
def gladeFREE : Nat := 4
def gladeSLAVED : Nat := 5

/-- An angle difference as a signed value from −180° up to but not including +180°. -/
def signedAngle (a : Int) : Int := (a + 2 ^ 31) % 2 ^ 32 - 2 ^ 31

/-- The CRC-8 of R66: polynomial x^8 + x^2 + x + 1, initial value 0, most significant bit first. -/
def crc8Bits : List Bool → Nat → Nat
  | [], c => c
  | x :: r, c =>
    let top := bitOf c 7 != x
    crc8Bits r (if top then (c * 2 % 256) ^^^ 0x07 else c * 2 % 256)

/-- Bits of a value, most significant first. -/
def msbBits (w v : Nat) : List Bool := (List.range w).map (fun i => bitOf v (w - 1 - i))

/-- The value of bits given most significant first. -/
def fromMsb (l : List Bool) : Nat := l.foldl (fun v x => v * 2 + b2n x) 0

namespace Block

/-- The state of Glade (R62). -/
def gState (b : Block) : Nat := b.rd Obj.GladeStatus.State

/-- The source in use or last used (R44, R62). -/
def gSource (b : Block) : Nat := b.rd Obj.GladeStatus.Source

/-- Whether a source is qualified (R45). -/
def qualified (b : Block) (src : Nat) : Bool := bitOf (b.rd Obj.GladeStatus.QualifiedMask) src

/-- A source's qualification changes. -/
def setQualified (b : Block) (src : Nat) (on : Bool) : Block :=
  b.wr Obj.GladeStatus.QualifiedMask (putBit (b.rd Obj.GladeStatus.QualifiedMask) src on)

/-- A frequency in unsigned 16.16 Hz held inside R41's bounds. -/
def clampFreq (b : Block) (f : Nat) : Nat :=
  let lo := b.rd Obj.GladeConfig.FreqLow * 65536 * 359 / 36000
  let hi := b.rd Obj.GladeConfig.FreqHigh * 65536 * 361 / 36000
  max lo (min hi f)

/-- A frequency lies inside the lock range. -/
def inLockRange (b : Block) (f : Nat) : Bool :=
  decide (b.rd Obj.GladeConfig.FreqLow * 65536 ≤ f * 100) && decide (f * 100 ≤ b.rd Obj.GladeConfig.FreqHigh * 65536)

/-- The rank of a source in SourcePriority, 4 where it is not named (R44). -/
def sourceRank (b : Block) (src : Nat) : Nat :=
  let p := b.rd Obj.GladeConfig.SourcePriority
  ((List.range 4).find? (fun i => p / 16 ^ (3 - i) % 16 == src)).getD 4

/-- The frequency a source shows (R44). -/
def sourceFreq (b : Block) (src : Nat) : Nat :=
  match src with
  | 0 => b.glade.mainsFreq
  | 1 => b.glade.partnerFreq
  | 2 => b.glade.syncFreq
  | _ => b.glade.fnom * 65536

/-- How far a source is ahead of the Glade angle (R53, R62). -/
def sourceError (b : Block) (src : Nat) : Int :=
  match src with
  | 0 => let e := b.rdI 32 Obj.GladeStatus.MainsPhaseError; if e = -2147483648 then 0 else e
  | 1 => b.glade.partnerErr
  | 2 => b.glade.syncError
  | _ => 0

/-- Entering HOLDOVER (R47, R55): the mean source frequency of the last 50 cycles is held; a slew stops at once. -/
def enterHoldover (b : Block) : Block :=
  let h := b.glade.history
  let f := if h.isEmpty then b.rd Obj.GladeStatus.Frequency else h.sum / h.length
  (b.wrs [(Obj.GladeStatus.State, gladeHOLDOVER), (Obj.GladeStatus.Frequency, b.clampFreq f),
    (Obj.GladeStatus.SlewRemaining, 0), (Obj.GladeStatus.HoldoverCycles, 0)]).report Src.GLADE_HOLDOVER 0

/-- Glade returns to TRACK after SLEW or HOLDOVER (R52, R78). -/
def enterTrack (b : Block) : Block :=
  (b.wrs [(Obj.GladeStatus.State, gladeTRACK), (Obj.GladeStatus.SlewRemaining, 0)]).report Src.GLADE_TRACK 0

/-- The slew runs the angle at the source rate plus or minus exactly 1° per cycle (R52). -/
def slewFreq (b : Block) (src : Nat) (err : Int) : Nat :=
  let f := b.sourceFreq src
  b.clampFreq (if 0 ≤ err then f * 361 / 360 else f * 359 / 360)

/-- Entering SLEW towards a source that lies `err` ahead (R48, R52). -/
def enterSlew (b : Block) (src : Nat) (err : Int) : Block :=
  ((b.wrs [(Obj.GladeStatus.State, gladeSLEW), (Obj.GladeStatus.Source, src), (Obj.GladeStatus.Frequency, b.slewFreq src err),
    (Obj.GladeStatus.HoldoverCycles, 0)]).wrI 32 Obj.GladeStatus.SlewRemaining err).wrI 32 Obj.GladeStatus.PhaseError err

/-- The angle moves forward within the cycle, which ends the tick in progress (R35, R48): the next tick is the first whose start is
at or after the new angle; a position past the last tick's start waits for the cycle boundary. -/
def moveAngle (b : Block) (a : Nat) : Block :=
  let nt := b.glade.nt
  let k := a * nt / 2 ^ 32
  let k := if a ≤ tickStart nt k then k else k + 1
  { b with glade := { b.glade with tick := if k = 0 then 0 else k - 1, boundary := decide (k = 0), moved := true } }

/-- The start angle of the tick in progress, 0 at a boundary whose tick has not begun. -/
def angleNow (b : Block) : Nat := if b.glade.boundary then 0 else tickStart b.glade.nt b.glade.tick

/-- The start alignment (R48): before any port was in service the angle advances to the source's phase. -/
def alignTo (b : Block) (src : Nat) : Block :=
  let e := ofI 32 (b.sourceError src)
  let a := b.angleNow + e
  let b := b.wrs [(Obj.GladeStatus.State, gladeTRACK), (Obj.GladeStatus.Source, src), (Obj.GladeStatus.SlewRemaining, 0),
    (Obj.GladeStatus.PhaseError, 0), (Obj.GladeStatus.HoldoverCycles, 0), (Obj.GladeStatus.Frequency, b.clampFreq (b.sourceFreq src))]
  if e = 0 then b
  else if a < 2 ^ 32 then b.moveAngle a
  else
    let n := nextCycle b.glade.epoch b.glade.cycle
    ({ b with glade := { b.glade with epoch := n.1, cycle := n.2 } }).moveAngle (a - 2 ^ 32)

/-- Glade moves to a source (R47, R48). -/
def joinSource (b : Block) (src : Nat) : Block :=
  if src = 3 then
    b.wrs [(Obj.GladeStatus.State, gladeFREE), (Obj.GladeStatus.Source, 3), (Obj.GladeStatus.SlewRemaining, 0), (Obj.GladeStatus.PhaseError, 0)]
  else if b.glade.everInService then b.enterSlew src (b.sourceError src)
  else b.alignTo src

/-- The highest-priority qualified source other than FREE. -/
def bestSource (b : Block) : Option Nat :=
  let p := b.rd Obj.GladeConfig.SourcePriority
  ((List.range 4).map (fun i => p / 16 ^ (3 - i) % 16)).find? (fun c => decide (c < 3) && b.qualified c)

/-- The move out of HOLDOVER as soon as a source other than FREE is qualified (R47). -/
def holdoverSelect (b : Block) : Block :=
  if b.gState = gladeHOLDOVER then
    match b.bestSource with
    | some c => b.joinSource c
    | none => b
  else b

/-- SOURCE_SELECT at a cycle boundary (R47): the highest-priority qualified source that ranks above the current one. -/
def selectSource (b : Block) : Block :=
  if b.gState = gladeHOLDOVER then b.holdoverSelect
  else if b.gState = gladeSLAVED ∨ b.gState = 0 then b
  else
    let cand := match b.bestSource with
      | some c => if b.sourceRank c < b.sourceRank 3 then c else 3
      | none => 3
    if b.sourceRank cand < b.sourceRank b.gSource then b.joinSource cand else b

/-- A source is lost (R46, R47): it must qualify again, and Glade enters HOLDOVER if it was the selected one. -/
def loseSource (b : Block) (src : Nat) : Block :=
  let b := b.setQualified src false
  let b := match src with
    | 0 => { b with glade := { b.glade with okMains := 0 } }
    | 1 => { b with glade := { b.glade with okPartner := 0 } }
    | _ => { b with glade := { b.glade with okSync := 0, syncFrameOk := false, syncRun := 0 } }
  if b.gSource = src ∧ (b.gState = gladeTRACK ∨ b.gState = gladeSLEW) then b.enterHoldover.holdoverSelect else b

/-- The angle at which a crossing ought to fall (R49); phases 0–2 for L1–L3. -/
def expectedAngle (b : Block) (phase : Nat) (rising : Bool) : Nat :=
  let ph := if b.rd Obj.GladeConfig.PhaseSequence = 1 then (match phase with | 1 => 2 | 2 => 1 | p => p) else phase
  match ph, rising with
  | 0, true => 0
  | 0, false => 0x80000000
  | 1, true => 0x55555555
  | 1, false => 0xD5555555
  | _, true => 0xAAAAAAAB
  | _, false => 0x2AAAAAAB

/-- A stamp within ±30° of an angle (R54). -/
def near30 (stamp target : Nat) : Bool := decide ((signedAngle ((stamp : Int) - target)).natAbs * 12 ≤ 2 ^ 32)

/-- The frequency measured over one cycle (R45, R46): from the interval between two crossings of one kind, where it is at most one and a half
nominal cycles. An interval that at the frequency known moves the phase by over 10° spans a jump (R52) and measures none; the next one of
its kind does. -/
def measureMains (b : Block) (key d : Nat) : Block :=
  let f := 200000000 * 65536 / d
  let away := ((d * b.glade.mainsFreq : Int) - 200000000 * 65536).natAbs
  let skip := decide (b.glade.mainsFreq ≠ 0) && decide (200000000 * 65536 < 36 * away) && !b.glade.stepped.contains key
  if d = 0 ∨ 600000000 < 2 * d * b.glade.fnom then b
  else if skip then { b with glade := { b.glade with stepped := key :: b.glade.stepped } }
  else
    let b := { b with glade := { b.glade with mainsFreq := f, stepped := b.glade.stepped.filter (· != key) } }
    let b := b.condition Src.FREQ_OUT_OF_RANGE 0 (!b.inLockRange f)
    if b.inLockRange f then b else b.loseSource 0

/-- A crossing as Glade judges it (R49, R50, R54): `clk` is the Glade clock count of the crossing. -/
def gladeCrossing (b : Block) (phase : Nat) (rising : Bool) (stamp clk : Nat) : Block :=
  if b.rd Obj.GladeConfig.MainsPhases = 1 ∧ phase ≠ 0 then b
  else
    let err := signedAngle ((stamp : Int) - (b.expectedAngle phase rising : Nat))
    let b := if b.rd Obj.GladeConfig.MainsPhases = 3 ∧ rising then
        { b with glade := { b.glade with
            seqL2 := b.glade.seqL2 || (phase == 1 && near30 stamp (b.expectedAngle 2 true))
            seqL3 := b.glade.seqL3 || (phase == 2 && near30 stamp (b.expectedAngle 1 true)) } }
      else b
    let key := phase * 2 + b2n rising
    let last := Tab.look 0 b.glade.lastClk key
    let b := { b with glade := { b.glade with lastClk := Tab.set b.glade.lastClk key clk } }
    if 2 ^ 30 < err.natAbs then b.bump Obj.GladeStatus.InvalidCrossings
    else
      let b := { b with glade := { b.glade with
        halfErrors := b.glade.halfErrors ++ [err]
        firstHalf := b.glade.firstHalf || decide (stamp < 2 ^ 31)
        secondHalf := b.glade.secondHalf || decide (2 ^ 31 ≤ stamp) } }
      if last = 0 then b else b.measureMains key (clk - last)

/-- HALF_CYCLE_END (R52, R53). -/
def halfCycleEnd (b : Block) : Block :=
  let es := b.glade.halfErrors
  let b := { b with glade := { b.glade with halfErrors := [] } }
  let step : Int := 5965232
  let shrink (x : Int) : Int := if x.natAbs ≤ step.natAbs then 0 else if 0 < x then x - step else x + step
  let left := b.rdI 32 Obj.GladeStatus.SlewRemaining
  if es.isEmpty then
    let b := b.wr Obj.GladeStatus.MainsPhaseError 0x80000000
    if b.gState = gladeSLEW ∨ (b.gState = gladeSLAVED ∧ left ≠ 0) then
      let r := shrink left
      let b := b.wrI 32 Obj.GladeStatus.SlewRemaining r
      if b.gState = gladeSLEW ∧ r.natAbs * 360 ≤ 2 ^ 32 then b.enterTrack else b
    else b
  else
    let avg := roundDiv es.sum es.length
    let ahead := -avg
    let b := b.wrI 32 Obj.GladeStatus.MainsPhaseError ahead
    let onMains := decide (b.gSource = 0) && (decide (b.gState = gladeTRACK) || decide (b.gState = gladeSLEW))
    if onMains then
      let b := b.wrI 32 Obj.GladeStatus.PhaseError ahead
      let big := decide (10 * 2 ^ 32 < avg.natAbs * 360)
      if b.gState = gladeTRACK then
        if big then ((b.bump Obj.GladeStatus.JumpCount).report Src.PHASE_JUMP 0 [avg]).enterSlew 0 ahead else b
      else
        let want := shrink left
        let jump := decide (10 * 2 ^ 32 < (ahead - want).natAbs * 360)
        let b := if jump then (b.bump Obj.GladeStatus.JumpCount).report Src.PHASE_JUMP 0 [avg] else b
        if avg.natAbs * 360 ≤ 2 ^ 32 then b.enterTrack
        else (b.wr Obj.GladeStatus.Frequency (b.slewFreq 0 ahead)).wrI 32 Obj.GladeStatus.SlewRemaining ahead
    else if b.gState = gladeSLEW ∨ (b.gState = gladeSLAVED ∧ left ≠ 0) then
      let r := shrink left
      let b := b.wrI 32 Obj.GladeStatus.SlewRemaining r
      if b.gState = gladeSLEW ∧ r.natAbs * 360 ≤ 2 ^ 32 then b.enterTrack else b
    else b

/-- MAINS is lost for want of crossings (R46). -/
def mainsTimeout (b : Block) : Block := b.loseSource 0

/-- The frame a sender drives in the cycle in progress (R66). -/
def syncFrameBits (b : Block) : Nat :=
  let first := b.glade.cycle - b.glade.cycle % 64
  let st := b.gState
  let src := b.gSource % 4
  let hops := if b.gSource = 2 then min 15 (b.glade.syncFrame / 256 % 16 + 1) else 0
  let body := b.glade.epoch * 2 ^ 40 + first * 2 ^ 8 + src * 2 ^ 6 + b2n (st == gladeHOLDOVER) * 2 ^ 5 + b2n (st == gladeSLEW) * 2 ^ 4 + hops
  body * 256 + crc8Bits (msbBits 56 body) 0

/-- SYNC_OUT at angle 0 (R64–R66): the holder drives a pulse whose width carries bit 63 − (cycle mod 64) of the frame. -/
def syncOutPulse (b : Block) : Block :=
  if b.isHolder && b.rd Obj.GladeConfig.SyncOutEnable == 1 && !b.inGrave then
    let fresh := decide (b.glade.cycle % 64 = 0) || !b.glade.syncDrive
    let f := if fresh then b.syncFrameBits else b.glade.syncOut
    { b with glade := { b.glade with syncDrive := true, syncOut := f, syncPulse := some (bitOf f (63 - b.glade.cycle % 64)) } }
  else { b with glade := { b.glade with syncDrive := false, syncPulse := none } }

/-- A controller that gives up the token stops driving SYNC_OUT at once (R64). -/
def syncOutStop (b : Block) : Block := { b with glade := { b.glade with syncDrive := false, syncPulse := none } }

/-- A SYNC_IN edge (R45, R65, R67): its high time, its stamp as a Glade angle and its clock count. -/
def syncInEdge (b : Block) (highNs stamp clk : Nat) : Block :=
  if highNs < 2000 ∨ 18000 < highNs then b
  else
    let delay : Nat := b.rd Obj.GladeConfig.SyncInDelay * b.rd Obj.GladeStatus.Frequency * 2 ^ 32 / (65536 * 1000000000)
    let err := signedAngle ((stamp : Int) - (delay : Nat))
    let old := b.glade.syncClk
    let f := if old = 0 ∨ clk ≤ old ∨ 600000000 < 2 * (clk - old) * b.glade.fnom then 0 else 200000000 * 65536 / (clk - old)
    let good := decide (err.natAbs ≤ 2 ^ 30) && (decide (f = 0) || b.inLockRange f)
    let one := decide (8000 < highNs)
    let b := { b with glade := { b.glade with
      syncSeen := b.glade.syncSeen || good
      syncMissing := if good then 0 else b.glade.syncMissing
      syncError := -err, syncFreq := f, syncClk := clk
      syncBits := (one :: b.glade.syncBits).take 64
      syncRun := if good then b.glade.syncRun + 1 else 0 } }
    let b := if f = 0 then b else b.condition Src.FREQ_OUT_OF_RANGE 2 (!b.inLockRange f)
    if b.gSource = 2 ∧ (b.gState = gladeTRACK ∨ b.gState = gladeSLEW) then b.wrI 32 Obj.GladeStatus.PhaseError (-err) else b

/-- SYNC_IN is lost: two expected edges missing, or two frames with CRC errors (R46). -/
def syncInLost (b : Block) : Block := { b.loseSource 2 with glade := { (b.loseSource 2).glade with syncMissing := 0, syncBad := 0 } }

/-- A complete SYNC_IN frame (R45, R46, R66–R68). -/
def syncFrame (b : Block) : Block :=
  if b.glade.syncBits.length < 64 then b
  else
    let v := fromMsb b.glade.syncBits.reverse
    let good := decide (crc8Bits (msbBits 56 (v / 256)) 0 = v % 256)
    let whole := decide (64 ≤ b.glade.syncRun)
    let b := { b with glade := { b.glade with syncBits := [] } }
    if !good then
      let b := (b.report Src.SYNC_FRAME_ERROR 0)
      let b := { b with glade := { b.glade with syncBad := b.glade.syncBad + 1, syncFrameOk := false } }
      if 2 ≤ b.glade.syncBad then b.syncInLost else b
    else
      let hops := v / 256 % 16
      let b := { b with glade := { b.glade with syncBad := 0, syncFrame := v, syncFrameOk := whole && decide (hops < 15) } }
      if hops = 15 then b.loseSource 2
      else if b.gSource = 2 ∧ b.rd Obj.GladeConfig.SyncAdoptNumber = 1 ∧ (b.gState = gladeTRACK ∨ b.gState = gladeSLEW) then
        let e := v / 2 ^ 48
        let c := v / 2 ^ 16 % 2 ^ 32
        let next := if c + 64 < 2 ^ 32 then (e, c + 64) else (min (e + 1) 0xFFFE, c + 64 - 2 ^ 32)
        if nextCycle b.glade.epoch b.glade.cycle = next then b
        else { b with glade := { b.glade with renumber := some next } }
      else b

/-- The end of HoldoverLimit (R47, R56). -/
def holdoverExpiry (b : Block) : Block :=
  let lim := b.rd Obj.GladeConfig.HoldoverLimit
  if b.gState = gladeHOLDOVER ∧ lim ≠ 0 ∧ lim ≤ b.rd Obj.GladeStatus.HoldoverCycles then
    (b.joinSource 3).report Src.GLADE_FREE 0
  else b

/-- One source's cycle count towards qualification (R45): the new count and whether it is now qualified. -/
def countOk (need n : Nat) (ok : Bool) : Nat := if ok then min (n + 1) need else 0

/-- The numbering at a cycle boundary (R36, R68). -/
def advanceNumber (b : Block) : Block :=
  let n := nextCycle b.glade.epoch b.glade.cycle
  let wrap := decide (n.2 = 0)
  let b := { b with glade := { b.glade with cycles := b.glade.cycles + 1 } }
  match b.glade.renumber with
  | some r =>
    let old := b.glade
    let b := { b with glade := { b.glade with epoch := r.1, cycle := r.2, tick := 0, boundary := true, renumber := none } }
    b.report Src.GLADE_RENUMBER 0 [old.epoch, old.cycle, r.1, r.2]
  | none =>
    let b := { b with glade := { b.glade with epoch := n.1, cycle := n.2, tick := 0, boundary := true } }
    if wrap then b.report Src.GLADE_EPOCH 0 else b

/-- What Glade finds about its sources at a cycle boundary (R45, R54, R57), before the boundary's commits. -/
def gladeQualify (b : Block) (refclkPpm : Nat) : Block :=
  let need := b.rd Obj.GladeConfig.QualifyCycles
  let g := b.glade
  let reversed := decide (b.rd Obj.GladeConfig.MainsPhases = 3) && g.seqL2 && g.seqL3
  let run := if reversed then g.seqRun + 1 else 0
  let isRev := decide (need ≤ run) && reversed
  let b := { b with glade := { b.glade with seqRun := run, seqReversed := isRev, seqL2 := false, seqL3 := false } }
  let b := if isRev ∧ !g.seqReversed then b.loseSource 0 else b
  let b := b.condition Src.PHASE_SEQ_REVERSED 0 isRev
  let mainsOk := g.firstHalf && g.secondHalf && (g.mainsFreq == 0 || b.inLockRange g.mainsFreq) && !isRev
  let partnerOk := b.linkUp && g.partnerQual && b.inLockRange g.partnerFreq
  let miss := if g.syncSeen then 0 else g.syncMissing + 1
  let b := { b with glade := { b.glade with
    firstHalf := false, secondHalf := false, syncSeen := false, moved := false, syncMissing := miss
    okMains := countOk need g.okMains mainsOk, okPartner := countOk need g.okPartner partnerOk, okSync := countOk need g.okSync g.syncSeen
    syncRun := if g.syncSeen then b.glade.syncRun else 0 } }
  let b := if need ≤ b.glade.okMains then b.setQualified 0 true else b
  let b := if need ≤ b.glade.okPartner then b.setQualified 1 true else b
  let b := if need ≤ b.glade.okSync ∧ b.glade.syncFrameOk then b.setQualified 2 true else b
  let bad := decide (200 < refclkPpm)
  let b := { b with glade := { b.glade with refclkFallback := bad } }
  b.condition Src.REFCLK_FAIL 0 bad [refclkPpm]

/-- A source that slews beyond 2 Hz/s while Glade tracks it is recorded once (R51, R78). -/
def slewLimit (b : Block) : Block :=
  let g := b.glade
  if b.gState = gladeTRACK then
    let f := b.sourceFreq b.gSource
    let fast := decide (g.slewFrom ≠ 0) && decide (2 * 65536 * 65536 < ((f : Int) - g.slewFrom).natAbs * f)
    let b := { b with glade := { g with slewFrom := f, slewFast := fast } }
    if fast && !g.slewFast then b.report Src.FREQ_SLEW_LIMIT 0 else b
  else { b with glade := { g with slewFrom := 0, slewFast := false } }

/-- Glade's own course over a cycle boundary, after the boundary's commits (R41, R47, R52, R55, R56). -/
def gladeAdvance (b : Block) : Block :=
  let st := b.gState
  let b := b.slewLimit
  let b :=
    if st = gladeHOLDOVER then b.bump Obj.GladeStatus.HoldoverCycles
    else if st = gladeTRACK then
      let d := b.draw 32
      let b := d.2
      let b := { b with glade := { b.glade with history := (b.sourceFreq b.gSource :: b.glade.history).take 50 } }
      b.wr Obj.GladeStatus.Frequency (b.clampFreq d.1)
    else if st = gladeSLEW then
      { b with glade := { b.glade with history := (b.sourceFreq b.gSource :: b.glade.history).take 50 } }
    else if st = gladeFREE then
      let f := b.rd Obj.GladeStatus.Frequency
      let goal := b.glade.fnom * 65536
      let d := if f = 0 then goal else 2 ^ 31 / f
      b.wr Obj.GladeStatus.Frequency (if f + d ≤ goal then f + d else if goal + d ≤ f then f - d else goal)
    else b
  b.selectSource

/-- Whether any port is in service (R35, R59). -/
def anyInService (b : Block) : Bool := allPorts.any (fun p => b.portState p == 5)

/-- A numbering taken from the partner (R59, R68): recorded where it changes. -/
def takeNumber (b : Block) (e c : Nat) : Block :=
  if b.glade.epoch = e ∧ b.glade.cycle = c then b
  else
    let old := b.glade
    let b := { b with glade := { b.glade with epoch := e, cycle := c } }
    b.report Src.GLADE_RENUMBER 0 [old.epoch, old.cycle, e, c]

/-- The cycle before a position. -/
def prevCycle (e c : Nat) : Nat × Nat := if c = 0 then (e - 1, 2 ^ 32 - 1) else (e, c - 1)

/-- Glade on a TIME message of the partner (R44–R46, R58, R59): its position, source and view of the mains. -/
def gladeTime (b : Block) (epoch cycle angle source freq : Nat) (mainsQual : Bool) (mainsErr : Int) (mainsFreq : Nat) : Block :=
  let was := b.glade.partnerQual
  let b := { b with glade := { b.glade with
    partnerQual := mainsQual, partnerErr := mainsErr, partnerFreq := mainsFreq, partnerSource := source } }
  let b := b.condition Src.FREQ_OUT_OF_RANGE 1 (decide (mainsFreq ≠ 0) && !b.inLockRange mainsFreq)
  let b := if was ∧ !mainsQual then b.loseSource 1 else b
  if b.isHolder ∨ !b.linkUp ∨ b.gState = 0 then b
  else
    let own := b.angleNow
    let d := signedAngle ((angle : Int) - own)
    let adj := if angle < own ∧ 0 < d then prevCycle epoch cycle else if own < angle ∧ d < 0 then nextCycle epoch cycle else (epoch, cycle)
    if b.gState ≠ gladeSLAVED then
      let b := b.condition Src.GLADE_SLAVE_LOST 0 false
      let b := b.wrs [(Obj.GladeStatus.State, gladeSLAVED), (Obj.GladeStatus.Source, 0x10), (Obj.GladeStatus.Frequency, b.clampFreq freq),
        (Obj.GladeStatus.HoldoverCycles, 0)]
      if b.anyInService then (b.takeNumber adj.1 adj.2).wrI 32 Obj.GladeStatus.SlewRemaining d
      else
        let b := (b.takeNumber epoch cycle).wr Obj.GladeStatus.SlewRemaining 0
        if angle = own then b else b.moveAngle angle
    else
      let b := b.wr Obj.GladeStatus.Frequency (b.clampFreq freq)
      b.takeNumber adj.1 adj.2

/-- The partner link goes DOWN (R46, R60). -/
def gladeLinkDown (b : Block) : Block :=
  let b := { b with glade := { b.glade with partnerQual := false } }
  let b := b.loseSource 1
  if b.gState = gladeSLAVED then
    let f := b.rd Obj.GladeStatus.Frequency
    ((b.enterHoldover.wr Obj.GladeStatus.Frequency (b.clampFreq f)).condition Src.GLADE_SLAVE_LOST 0 true).holdoverSelect
  else b

/-- A take of the token (R61): Glade leaves SLAVED without changing angle or numbering, and records nothing. -/
def gladeTake (b : Block) : Block :=
  if b.gState = gladeSLAVED then
    b.wrs [(Obj.GladeStatus.State, gladeHOLDOVER), (Obj.GladeStatus.Source, b.glade.partnerSource),
      (Obj.GladeStatus.SlewRemaining, 0), (Obj.GladeStatus.HoldoverCycles, 0)]
  else b

/-- Glade starts (R38, R47): in FREE, with the given numbering. -/
def gladeStart (b : Block) (epoch cycle : Nat) : Block :=
  let b := { b with glade := { b.glade with running := true, epoch := epoch, cycle := cycle, tick := 0, boundary := true } }
  b.wrs [(Obj.GladeStatus.State, gladeFREE), (Obj.GladeStatus.Source, 3), (Obj.GladeStatus.Frequency, b.glade.fnom * 65536)]

end Block

/-- MAINS_SOURCE_TIMEOUT (R46). -/
def execMainsSourceTimeout (s : State) : Host.Outcome State Fault Refusal := s.act Block.mainsTimeout

/-- SYNC_IN_EDGE (R65). -/
def execSyncInEdge (highNs stamp clk : Nat) (s : State) : Host.Outcome State Fault Refusal := s.act (·.syncInEdge highNs stamp clk)

/-- SYNC_IN_LOST (R46). -/
def execSyncInLost (s : State) : Host.Outcome State Fault Refusal := s.act Block.syncInLost

/-- SYNC_FRAME (R66). -/
def execSyncFrame (s : State) : Host.Outcome State Fault Refusal := s.act Block.syncFrame

/-- HOLDOVER_LIMIT_EXPIRY (R56). -/
def execHoldoverLimitExpiry (s : State) : Host.Outcome State Fault Refusal := s.act Block.holdoverExpiry

end Sys2Proof.Machine
end

