-- ==== Sys2Proof/Machine/Actions.lean ====
section
/-! DEFINITION. The pending-action table (R69–R77): submit, cancel, firing and the device's own entries. -/

namespace Sys2Proof.Machine

/-- Outcomes of an entry as ACTION_DONE records them (R77); the codes are a DESIGN CHOICE (assumption 10). -/
def actFIRED : Nat := 0
def actFIRED_LATE : Nat := 1
def actSUPERSEDED : Nat := 2
def actCANCELLED : Nat := 3
def actRENUMBERED_PAST : Nat := 4

namespace Block

/-- The tick in which an angle fires (R74): the first tick whose start angle is at or after it; N_t stands for tick 0 of the next cycle. -/
def firingTick (nt a : Nat) : Nat := let k := a * nt / 2 ^ 32; if a ≤ tickStart nt k then k else k + 1

/-- Where an entry fires: epoch, cycle and tick. -/
def firingPlace (b : Block) (epoch cycle angle : Nat) : Nat × Nat × Nat :=
  let k := firingTick b.glade.nt angle
  if k < b.glade.nt then (epoch, cycle, k) else let n := nextCycle epoch cycle; (n.1, n.2, 0)

/-- How many ticks after the tick in progress a place lies; 0 or less in the past. -/
def ticksTo (b : Block) (pl : Nat × Nat × Nat) : Int :=
  b.cyclesAhead pl.1 pl.2.1 * b.glade.nt + pl.2.2 - (if b.glade.boundary then 0 else b.glade.tick : Nat)

/-- How far a place lies past the tick that the next boundary opens: 0 or less where an entry is due (R74, R609). -/
def pastNext (b : Block) (pl : Nat × Nat × Nat) : Int :=
  b.cyclesAhead pl.1 pl.2.1 * b.glade.nt + pl.2.2 - (if b.glade.boundary then 0 else b.glade.tick + 1 : Nat)

/-- The entry's firing place. -/
def entryPlace (b : Block) (a : Action) : Nat × Nat × Nat := b.firingPlace a.epoch a.cycle a.angle

/-- The counts of ActionTable (R77). -/
def actionCounts (b : Block) : Block :=
  let n := b.actions.table.length
  b.wrs [(Obj.ActionTable.InUse, n), (Obj.ActionTable.HighWater, max n (b.rd Obj.ActionTable.HighWater))]

/-- The lowest handle that no entry holds (R69). -/
def freeHandle (b : Block) : Nat := ((List.range 1024).find? (fun h => !(Tab.keys b.actions.table).contains h)).getD 0

/-- Entries of hosts and of the device's own functions in the table. -/
def hostEntries (b : Block) : Nat := (b.actions.table.filter (fun e => e.2.session != 0xFF)).length
def ownEntries (b : Block) : Nat := (b.actions.table.filter (fun e => e.2.session == 0xFF)).length

/-- An entry enters the table under a handle. -/
def addEntry (b : Block) (h : Nat) (a : Action) : Block :=
  ({ b with actions := { b.actions with table := Tab.set b.actions.table h { a with order := b.actions.next }, next := b.actions.next + 1 } }).actionCounts

/-- The entry of a handle. -/
def entry? (b : Block) (h : Nat) : Option Action := (b.actions.table.find? (fun e => e.1 == h)).map (·.2)

/-- The stamp of the tick that the next boundary opens. -/
def nextStamp (b : Block) : Stamp :=
  if b.glade.boundary then b.now
  else if b.glade.tick + 1 < b.glade.nt then { b.now with angle := tickStart b.glade.nt (b.glade.tick + 1) }
  else let n := nextCycle b.glade.epoch b.glade.cycle; ⟨n.1, n.2, 0⟩

/-- An entry completes: its record is written and its handle is free again (R69, R77, R411). It fires into the tick that the next boundary
opens, or fired `ago` ticks back; a cancelled or renumbered entry is recorded in the tick in progress. -/
def completeEntry (b : Block) (h : Nat) (a : Action) (outcome : Nat) (extra : List Nat := []) (ago : Option Nat := none) : Block :=
  let tick := match ago with
    | some d => (b.glade.tick + b.glade.nt - d % b.glade.nt) % b.glade.nt
    | none => if b.glade.boundary then 0 else (b.glade.tick + 1) % b.glade.nt
  let place := if ago.isSome || outcome == actCANCELLED || outcome == actRENUMBERED_PAST then b.now else b.nextStamp
  let data := leBytes 2 h ++ [a.session] ++ leBytes 2 a.op ++ leBytes 2 a.epoch ++ leBytes 4 a.cycle ++ leBytes 4 a.angle ++
    leBytes 2 tick ++ [outcome] ++ leBytes 4 a.arg ++ extra
  let b := b.append { code := 0x0100, data, stamp := place }
  ({ b with actions := { b.actions with table := Tab.drop b.actions.table h } }).actionCounts

/-- Another accepted entry that fires in the same tick on the same target acts later (R75). -/
def superseded (b : Block) (h : Nat) (a : Action) : Bool :=
  b.actions.table.any (fun e => e.1 != h && e.2.accepted && e.2.kind == a.kind && e.2.target == a.target &&
    decide (b.pastNext (b.entryPlace e.2) ≤ 0) &&
    (decide (a.angle < e.2.angle) || (e.2.angle == a.angle && decide (a.order < e.2.order))))

/-- An entry fires into the state of the tick that the next boundary opens (R74–R77): `eff` is the effect of its operation. -/
def fireEntry (b : Block) (h op : Nat) (eff : Action → Block → Block) : Block :=
  match b.entry? h with
  | none => b
  | some a =>
    if a.accepted && a.op == op && decide (b.pastNext (b.entryPlace a) ≤ 0) then
      if b.superseded h a then b.completeEntry h a actSUPERSEDED
      else (eff a b).completeEntry h a (if a.late then actFIRED_LATE else actFIRED)
    else b

/-- An entry of the device's own functions, `lead` cycles after the cycle in progress at an angle; it waits while all 64 are in use (R69). -/
def reserve (b : Block) (op kind target arg lead angle : Nat) : Block :=
  if b.ownEntries < 64 then
    let c := b.glade.cycle + lead
    let e := if c < 2 ^ 32 then b.glade.epoch else min (b.glade.epoch + 1) 0xFFFE
    b.addEntry b.freeHandle { session := 0xFF, op, kind, target, arg, epoch := e, cycle := c % 2 ^ 32, angle, order := 0, accepted := true }
  else
    let b := b.bump Obj.ActionTable.ReservedDeferred
    { b with actions := { b.actions with waiting := b.actions.waiting ++ [{ op, kind, target, arg, lead, angle }] } }

/-- A waiting function obtains its entry at a cycle boundary (R69). -/
def reservedObtained (b : Block) : Block :=
  match b.actions.waiting with
  | [] => b
  | w :: rest =>
    if b.glade.boundary && decide (b.ownEntries < 64) then
      ({ b with actions := { b.actions with waiting := rest } }).reserve w.op w.kind w.target w.arg w.lead w.angle
    else b

/-- Target kinds an operation allows (R71). -/
def opKind (op : Nat) : Option Nat :=
  match op with
  | 1 | 2 => some 2
  | 3 | 4 => some 5
  | 5 => some 3
  | 6 | 7 => some 1
  | 8 | 9 => some 6
  | 10 => some 4
  | _ => none

/-- A target that exists and is configured (R72). -/
def targetOk (b : Block) (kind i : Nat) : Bool :=
  match kind with
  | 1 => decide (i < 512) && b.classOf i != 0
  | 2 => decide (i < 256) && (b.feedPort i).isSome
  | 3 => decide (i < 64) && !(b.groupPorts i).isEmpty
  | 4 => decide (i < 16) && !(b.stringPorts i).isEmpty
  | 5 => decide (i < 16) && b.sequenceUsed i
  | 6 => i == 0
  | _ => false

/-- The first check of R72 that fails, 0 where all pass; the position is that of the resolved epoch. -/
def submitStatus (b : Block) (op kind target angle : Nat) (place : Option (Nat × Nat)) : Nat :=
  if opKind op ≠ some kind then 1
  else if !b.targetOk kind target then 2
  else if op = 9 ∧ angle ≠ 0 then 3
  else match place with
    | none => 4
    | some (e, c) =>
      if b.ticksTo (b.firingPlace e c angle) < 4 then 4
      else if 2 ^ 30 < b.cyclesAhead e c then 5
      else if 960 ≤ b.hostEntries then 6
      else 0

/-- A refused submit. -/
def refuseAction (b : Block) (n st : Nat) : Block :=
  (b.wrs [(sk n Obj.ActionRequest.Status, st), (sk n Obj.ActionRequest.Handle, 0xFFFF)]).bump Obj.ActionTable.Refused

/-- A submit of session n's request (R69–R73): accepted at once without a partner, otherwise once the partner has confirmed its copy. -/
def actionSubmit (b : Block) (n : Nat) : Block :=
  let g k := b.rd (sk n k)
  let c := g Obj.ActionRequest.Cycle
  let op := g Obj.ActionRequest.Operation
  let kind := g Obj.ActionRequest.TargetKind
  let target := g Obj.ActionRequest.TargetIndex
  let angle := g Obj.ActionRequest.Angle
  let e := b.resolveEpoch (g Obj.ActionRequest.Epoch) c
  let st := b.submitStatus op kind target angle (e.map (fun e => (e, c)))
  let b := match e with
    | some e => b.wr (sk n Obj.ActionRequest.ResolvedEpoch) e
    | none => b
  if st ≠ 0 then b.refuseAction n st
  else
    let h := b.freeHandle
    let b := b.addEntry h
      { session := n, op, kind, target, arg := g Obj.ActionRequest.Argument, epoch := e.getD 0, cycle := c, angle, order := 0, accepted := !b.linkUp }
    (b.wrs [(sk n Obj.ActionRequest.Status, 0), (sk n Obj.ActionRequest.Handle, h)]).send 3 [0, h]

/-- The partner did not confirm an entry within 1 ms (R69, R72). -/
def actionConfirmTimeout (b : Block) (h : Nat) : Block :=
  match b.entry? h with
  | none => b
  | some a =>
    if a.accepted then b
    else ({ b with actions := { b.actions with table := Tab.drop b.actions.table h } }).actionCounts.refuseAction a.session 7

/-- A cancel of a session's own entry at least 4 ticks before it fires (R75). -/
def actionCancel (b : Block) (n h : Nat) : Block :=
  match b.entry? h with
  | none => b.wr (sk n Obj.ActionRequest.CancelStatus) 2
  | some a =>
    if a.session ≠ n ∨ !a.accepted then b.wr (sk n Obj.ActionRequest.CancelStatus) 2
    else if b.ticksTo (b.entryPlace a) < 4 then b.wr (sk n Obj.ActionRequest.CancelStatus) 1
    else ((b.completeEntry h a actCANCELLED).wr (sk n Obj.ActionRequest.CancelStatus) 0).send 3 [1, h]

/-- After a renumbering by SYNC_IN (R68), entries whose firing time lies in the past complete without firing. -/
def renumberActions (b : Block) : Block :=
  b.actions.table.foldl (fun b e => if b.pastNext (b.entryPlace e.2) < 0 then b.completeEntry e.1 e.2 actRENUMBERED_PAST else b) b

/-- Entries whose firing tick passed in a fail-over gap will complete as FIRED_LATE (R76). -/
def markLate (b : Block) : Block :=
  let mark (e : Nat × Action) := if b.ticksTo (b.entryPlace e.2) < 0 then (e.1, { e.2 with late := true }) else e
  { b with actions := { b.actions with table := b.actions.table.map mark } }

end Block

/-- ACTION_SUBMIT (R72). -/
def execActionSubmit (n : Nat) (s : State) : Host.Outcome State Fault Refusal :=
  s.actOn (decide (n < 32)) .session n (fun b => if b.inGrave then b else b.actionSubmit n)

/-- ACTION_CANCEL (R75). -/
def execActionCancel (n handle : Nat) (s : State) : Host.Outcome State Fault Refusal :=
  s.actOn (decide (n < 32)) .session n (·.actionCancel n handle)

/-- ACTION_CONFIRM_TIMEOUT (R69). -/
def execActionConfirmTimeout (handle : Nat) (s : State) : Host.Outcome State Fault Refusal := s.act (·.actionConfirmTimeout handle)

/-- RESERVED_ENTRY_OBTAINED (R69). -/
def execReservedEntryObtained (s : State) : Host.Outcome State Fault Refusal := s.act Block.reservedObtained

/-- MARK (R71, R77): its Argument is copied into the entry's record. -/
def execMark (handle : Nat) (s : State) : Host.Outcome State Fault Refusal := s.act (·.fireEntry handle 8 (fun _ b => b))

end Sys2Proof.Machine
end

