-- ==== Sys2Proof/Machine/Checks.lean ====
section
/-! DEFINITION. The configuration checks of a commit (R102, R581, R582): each answers the bundle's keys that it finds at fault. -/

namespace Sys2Proof.Machine

/-- What a check finds in a configuration with the bundle's values in it: `none` where it passes, otherwise the keys of the bundle it concerns. -/
abbrev Finding := Option (List Nat)

/-- A finding where a fault is present. -/
def findIf (bad : Bool) (keys : List Nat) : Finding := if bad then some keys else none

/-- The index and sub-index of a key. -/
def keyIndex (k : Nat) : Nat := k / 256 % 65536
def keySub (k : Nat) : Nat := k % 256

/-- A key of an object range. -/
def inObj (lo hi k : Nat) : Bool := decide (lo ≤ keyIndex k) && decide (keyIndex k ≤ hi)

/-- The value of a key lies in the range its table gives (R484, R574). -/
def inRange (b : Block) (k : Nat) : Bool :=
  match findSub k with
  | none => true
  | some r =>
    let v : Int := match r.type with
      | .sint n => toI (8 * n) (b.rd k)
      | _ => b.rd k
    decide (r.lo ≤ v) && decide (v ≤ r.hi) && (r.allowed.isEmpty || r.allowed.contains (b.rd k))

/-- The objects of a row at fault. -/
def faultIf (bad : Bool) (objs : List Nat) : List Nat := if bad then objs else []

/-- The objects at fault as a finding: of these, the ones that the bundle writes (R582). -/
def findAt (keys fault : List Nat) : Finding := findIf (!fault.isEmpty) (keys.filter (fun k => fault.contains k))

/-- Those of some objects whose values lie outside their ranges. -/
def outOfRange (b : Block) (objs : List Nat) : List Nat := objs.filter (fun k => !inRange b k)

/-- The keys of an object range that the bundle writes outside their ranges. -/
def rangeFault (b : Block) (lo hi : Nat) (keys : List Nat) : Finding :=
  let l := keys.filter (fun k => inObj lo hi k && !inRange b k)
  findIf (!l.isEmpty) l

/-- A key that assigns a port to a unit, or sets its switching multiple (R19). -/
def isUnitKey (k : Nat) : Bool := inObj 0x3000 0x31FF k && [1, 3, 4, 0x1C].contains (keySub k)

/-- A check over the ports: runs where the bundle changes unit assignments. -/
def unitCheck (keys fault : List Nat) : Finding := if keys.any isUnitKey then findAt keys fault else none

namespace Block

/-- R19, CFG_UNIT_MISSING. -/
def checkUnitMissing (b : Block) (keys : List Nat) : Finding :=
  unitCheck keys (allPorts.flatMap (fun p =>
    faultIf (b.isPhase p && decide (64 ≤ b.groupOf p)) [Obj.PortRecord.Group p] ++
    faultIf (b.classOf p == 4 && (decide (256 ≤ b.memberOf p) || decide (64 ≤ b.groupOf p))) [Obj.PortRecord.Group p, Obj.PortRecord.Member p]))

/-- R19, CFG_UNIT_SPURIOUS. -/
def checkUnitSpurious (b : Block) (keys : List Nat) : Finding :=
  unitCheck keys (allPorts.flatMap (fun p =>
    faultIf ((b.classOf p == 5 || b.classOf p == 0) && (b.groupOf p != 0xFF || b.memberOf p != 0xFFFF)) [Obj.PortRecord.Group p, Obj.PortRecord.Member p]))

/-- R19, CFG_GROUP_MIXED: one class and one switching multiple per group. -/
def checkGroupMixed (b : Block) (keys : List Nat) : Finding :=
  let phases := allPorts.filter b.isPhase
  unitCheck keys (phases.flatMap (fun p => faultIf (phases.any (fun r => b.groupOf r == b.groupOf p &&
    (b.classOf r != b.classOf p || b.rd (Obj.PortRecord.SwitchMult r) != b.rd (Obj.PortRecord.SwitchMult p))))
    [Obj.PortRecord.ConfiguredClass p, Obj.PortRecord.Group p, Obj.PortRecord.SwitchMult p]))

/-- R19, CFG_STRING_GROUP. -/
def checkStringGroup (b : Block) (keys : List Nat) : Finding :=
  let bat := allPorts.filter (fun p => b.classOf p == 3)
  unitCheck keys (bat.flatMap (fun p =>
    faultIf (decide (16 ≤ b.memberOf p) || bat.any (fun r => b.groupOf r == b.groupOf p && b.memberOf r != b.memberOf p)) [Obj.PortRecord.Member p] ++
    faultIf (bat.any (fun r => b.memberOf r == b.memberOf p && b.groupOf r != b.groupOf p)) [Obj.PortRecord.Group p]))

/-- R19, CFG_FEED_PORT. -/
def checkFeedPort (b : Block) (keys : List Nat) : Finding :=
  let brk := allPorts.filter (fun p => b.classOf p == 4)
  unitCheck keys (brk.flatMap (fun p => faultIf (brk.any (fun r => r != p && b.memberOf r == b.memberOf p)) [Obj.PortRecord.Member p]))

/-- R19, CFG_FEED_SOURCE. -/
def checkFeedSource (b : Block) (keys : List Nat) : Finding :=
  unitCheck keys (allPorts.flatMap (fun p => faultIf (b.classOf p == 4 &&
    !(allPorts.any (fun r => b.groupOf r == b.groupOf p && (b.classOf r == 1 || b.classOf r == 2)))) [Obj.PortRecord.Group p]))

/-- R40, CFG_GLADE_RANGE. -/
def checkGladeRange (b : Block) (keys : List Nat) : Finding :=
  let l := keys.filter (inObj 0x2010 0x2010)
  let lo := b.rd Obj.GladeConfig.FreqLow
  let hi := b.rd Obj.GladeConfig.FreqHigh
  let f := b.rd Obj.GladeConfig.NominalFreq
  let nt := b.rd Obj.GladeConfig.TicksPerCycle
  let size := decide (400 ≤ nt) && decide (nt ≤ 2500) && (f == 50 || f == 60)
  let range := decide (4500 ≤ lo) && decide (lo < f * 100) && decide (f * 100 < hi) && decide (hi ≤ 6600)
  if l.isEmpty then none
  else findAt keys (faultIf (!size) [Obj.GladeConfig.TicksPerCycle, Obj.GladeConfig.NominalFreq] ++
    faultIf (!range) [Obj.GladeConfig.NominalFreq, Obj.GladeConfig.FreqLow, Obj.GladeConfig.FreqHigh] ++ outOfRange b l)

/-- The shortest tick is at least `ns` (R40), for the pending N_t and the committed lock range. -/
def tickAtLeast (b : Block) (ns : Nat) : Bool :=
  decide (ns * b.rd Obj.GladeConfig.TicksPerCycle * b.rd Obj.GladeConfig.FreqHigh * 361 ≤ 1000000000 * 100 * 360)

/-- The shortest tick the engine clock floor supports (R26). -/
def floorTick (mhz : Nat) : Nat := if mhz < 450 then 9600 else 8000

/-- R40, R549, CFG_TICK_SHORT: the link's 8.0 µs and the tick the clock floor supports. -/
def checkTickShort (b : Block) (keys : List Nat) : Finding :=
  let l := keys.filter (fun k => inObj 0x2010 0x2010 k || k == Obj.SupplyConfig.ClockFloor)
  if l.isEmpty then none
  else findIf (!b.tickAtLeast 8000 || !b.tickAtLeast (floorTick (b.rd Obj.SupplyConfig.ClockFloor)))
    (l.filter (fun k => k == Obj.SupplyConfig.ClockFloor || [1, 4].contains (keySub k)))

/-- R40, CFG_TICK_LONG: the longest tick is at most 40.0 µs. -/
def checkTickLong (b : Block) (keys : List Nat) : Finding :=
  let l := keys.filter (inObj 0x2010 0x2010)
  if l.isEmpty then none
  else findIf (decide (40000 * b.rd Obj.GladeConfig.TicksPerCycle * b.rd Obj.GladeConfig.FreqLow * 359 < 1000000000 * 100 * 360))
    (l.filter (fun k => [1, 3].contains (keySub k)))

/-- R40, CFG_GLADE_SOURCE. -/
def checkGladeSource (b : Block) (keys : List Nat) : Finding :=
  if keys.contains Obj.GladeConfig.SourcePriority then
    let cs := (List.range 4).map (fun i => b.rd Obj.GladeConfig.SourcePriority / 16 ^ i % 16)
    let ok := cs.count 3 == 1 && decide (cs.count 0 ≤ 1) && decide (cs.count 1 ≤ 1) && decide (cs.count 2 ≤ 1) &&
      cs.all (fun c => decide (c ≤ 3) || c == 15)
    findIf (!ok) [Obj.GladeConfig.SourcePriority]
  else none

end Block

end Sys2Proof.Machine
end

