-- ==== Sys2Proof/Machine/Canopy.lean ====
section
/-! DEFINITION. Canopy (chapter 3): the line directory, cycle snapshots and pins, bundles of staged writes, and memory errors. -/

namespace Sys2Proof.Machine

namespace Block

/-! ### The line directory (R85–R87) -/

/-- A line of the directory. -/
def line (b : Block) (n : Nat) : Line := Tab.look {} b.canopy.lines n

/-- A line's directory entry changes. -/
def setLine (b : Block) (n : Nat) (x : Line) : Block := { b with canopy := { b.canopy with lines := Tab.put {} b.canopy.lines n x } }

/-- READ: a cache without a copy becomes a sharer; an owner's copy is written home (R85). -/
def lineRead (b : Block) (n cache : Nat) : Block :=
  let l := b.line n
  if bitOf l.mask cache then b else b.setLine n { l with state := 1, mask := putBit l.mask cache true }

/-- The next requester in the round robin after the one last granted (R86). -/
def nextGrant (last : Nat) (caches : List Nat) : Option Nat :=
  ((List.range 17).map (fun i => (last + 1 + i) % 17)).find? caches.contains

/-- OWN requests of one clock, granted one at a time: the last one granted ends as the only holder (R85, R86). -/
def grantAll (l : Line) : Nat → List Nat → Line
  | 0, _ => l
  | fuel + 1, caches =>
    match nextGrant l.last caches with
    | none => l
    | some c => grantAll { state := 2, mask := 2 ^ c, last := c } fuel (caches.filter (· != c))

/-- OWN (R85–R87): the longest wait observed is at most (n + 1) × 40 ns; which, the spec leaves open. -/
def lineOwn (b : Block) (n : Nat) (caches : List Nat) : Block :=
  let d := b.draw 32
  let wait := d.1 % ((caches.length + 1) * 40 + 1)
  let b := d.2.setLine n (grantAll (b.line n) 17 caches)
  b.wr Obj.CanopyStatus.DirectoryMaxWait (max wait (b.rd Obj.CanopyStatus.DirectoryMaxWait))

/-- WRITEBACK by the owner; OWN requests of the same clock are granted after it (R85, R86). -/
def lineWriteback (b : Block) (n cache : Nat) (caches : List Nat) : Block :=
  let l := b.line n
  let b := if l.state = 2 ∧ l.mask = 2 ^ cache then b.setLine n { l with state := 0, mask := 0 } else b
  if caches.isEmpty then b else b.lineOwn n caches

/-! ### Snapshots (R88–R95) -/

/-- The slots that some session or transfer pins (R90). -/
def pinnedSlots (b : Block) : List Nat :=
  (List.range 8).filter (fun k => b.sessions.any (fun e => e.2.pin == some k || (e.2.transfer.bind (·.slot)) == some k))

/-- The count of pinned slots (R114). -/
def pinCounts (b : Block) : Block := b.wr Obj.CanopyStatus.SlotsPinned b.pinnedSlots.length

/-- The slot a boundary's image goes to: an empty one, else the oldest that nobody pins (R90). -/
def captureSlot (b : Block) : Nat :=
  let free := (List.range 8).filter (fun k => !b.pinnedSlots.contains k)
  let age (k : Nat) : Nat := ((b.canopy.slots.find? (fun e => e.1 == k)).map (fun e => e.2.taken + 1)).getD 0
  free.foldl (fun (best k : Nat) => if age k < age best then k else best) (free.headD 0)

/-- The image of a boundary is taken (R88): the state of tick 0 of the cycle it opens. -/
def capture (b : Block) : Block :=
  let k := b.captureSlot
  let img : Image :=
    { epoch := b.glade.epoch, cycle := b.glade.cycle, taken := b.glade.cycles, dict := b.swapImages.dict, domains := b.domains,
      roots := b.faults.roots, partnerRoots := b.faults.partnerRoots, present := b.faults.present, ram := b.aon.ram }
  { b with canopy := { b.canopy with slots := Tab.set b.canopy.slots k img } }

/-- An image in a slot. -/
def image? (b : Block) (k : Nat) : Option Image := (b.canopy.slots.find? (fun e => e.1 == k)).map (·.2)

/-- The newest complete image (R90). -/
def newestImage (b : Block) : Option (Nat × Image) :=
  (b.canopy.slots.filter (·.2.complete)).foldl (fun best e =>
    match best with
    | some x => if x.2.taken ≤ e.2.taken then some e else best
    | none => some e) none

/-- The objects of the measurement channels belong to the image although they arrive after its boundary (R88). -/
def isResultKey (k : Nat) : Bool :=
  decide (0x3700 ≤ k / 256) && decide (k / 256 ≤ 0x3747) && decide (8 ≤ k % 256) && decide (k % 256 ≤ 0x13) && decide (k < 0x1000000)

/-- The capture is complete by tick 100 (R88): the newest complete image, with the measurement results of the cycle before. -/
def captureDone (b : Block) : Block :=
  let full (e : Nat × Image) : Nat × Image :=
    if e.2.complete then e
    else (e.1, { e.2 with complete := true, dict := (b.dict.filter (fun x => isResultKey x.1)).foldl (fun d x => Tab.set d x.1 x.2)
                                               (e.2.dict.filter (fun x => !isResultKey x.1)) })
  let b := { b with canopy := { b.canopy with slots := b.canopy.slots.map full } }
  match b.newestImage with
  | some e => b.wrs [(Obj.CanopyStatus.NewestEpoch, e.2.epoch), (Obj.CanopyStatus.NewestCycle, e.2.cycle)]
  | none => b

/-- The status of a session's last Pin write or snapshot read (R92). -/
def setPinStatus (b : Block) (n st : Nat) : Block := b.wr (sk n Obj.SnapshotSession.Status) st

/-- A session's pin is released (R91). -/
def unpin (b : Block) (n : Nat) : Block :=
  ((b.setSess n { b.sess n with pin := none, pinLeft := 0 }).wrs
    [(sk n Obj.SnapshotSession.PinnedEpoch, 0xFFFF), (sk n Obj.SnapshotSession.PinnedCycle, 0), (sk n Obj.SnapshotSession.PinRemaining, 0)]).pinCounts

/-- The session's PinLimit, held under its bound (R91, R432). -/
def pinLimit (b : Block) (n : Nat) : Nat := min (b.rd (sk n Obj.SnapshotSession.PinLimit)) (b.glade.fnom * 30)

/-- A slot can take a pin: pinned already, or fewer than 6 pinned (R90, R92). -/
def canPin (b : Block) (k : Nat) : Bool := b.pinnedSlots.contains k || decide (b.pinnedSlots.length < 6)

/-- A session pins the image in a slot (R92–R94). -/
def pinSlot (b : Block) (n k : Nat) (img : Image) : Block :=
  if img.bad then b.setPinStatus n 5
  else if !b.canPin k then b.setPinStatus n 3
  else if (b.sess n).pin = some k then b.setPinStatus n 0
  else
    let lim := b.pinLimit n
    ((b.setSess n { b.sess n with pin := some k, pinLeft := lim, expired := false }).wrs
      [(sk n Obj.SnapshotSession.PinnedEpoch, img.epoch), (sk n Obj.SnapshotSession.PinnedCycle, img.cycle),
       (sk n Obj.SnapshotSession.PinRemaining, lim), (sk n Obj.SnapshotSession.Status, 0)]).pinCounts

/-- Pin 0x01 (R91, R92). -/
def pinNewest (b : Block) (n : Nat) : Block :=
  match b.newestImage with
  | none => b.setPinStatus n 1
  | some e => b.pinSlot n e.1 e.2

/-- Pin 0x02 (R91–R93): the image that RequestEpoch and RequestCycle name. -/
def pinNamed (b : Block) (n : Nat) : Block :=
  let c := b.rd (sk n Obj.SnapshotSession.RequestCycle)
  match b.newestImage with
  | none => b.setPinStatus n 1
  | some _ =>
    match b.resolveEpoch (b.rd (sk n Obj.SnapshotSession.RequestEpoch)) c with
    | none => b.setPinStatus n 2
    | some e =>
      match b.canopy.slots.find? (fun x => x.2.epoch == e && x.2.cycle == c) with
      | some x => if x.2.complete then b.pinSlot n x.1 x.2 else b.setPinStatus n 1
      | none => if 0 < b.cyclesAhead e c then b.setPinStatus n 1 else b.setPinStatus n 2

/-- Pin 0x00. -/
def pinRelease (b : Block) (n : Nat) : Block := (b.unpin n).setPinStatus n 0

/-- A session's pin changes here, and the partner learns of it (R95). -/
def pinMirror (b : Block) (n : Nat) (f : Block → Block) : Block :=
  let c := f b
  if (c.sess n).pin = (b.sess n).pin then c
  else match (c.sess n).pin with
    | some k => c.send 4 [2, n, k]
    | none => c.send 4 [3, n]

/-- A pin's time is up (R94): it is released and the next snapshot read returns SNAP_EXPIRED once; a transfer on it ends. -/
def pinExpiry (b : Block) (n : Nat) : Block :=
  let x := b.sess n
  let b := if x.pin.isSome ∧ x.pinLeft = 0 then
      let onIt := match x.transfer with
        | some t => t.slot == x.pin
        | none => false
      let b := (b.unpin n).report Src.SNAP_PIN_EXPIRED n
      let y := b.sess n
      b.setSess n (if onIt then { y with expired := true, transfer := none, ended := { status := 0x0B, detail := 4 } } else { y with expired := true })
    else b
  let b := match (b.sess n).transfer with
    | some t => if t.slot.isSome ∧ t.left = 0 then
        (b.setSess n { b.sess n with transfer := none, ended := { status := 0x0B, detail := 4 } }).report Src.SNAP_PIN_EXPIRED n
      else b
    | none => b
  b.pinCounts

/-- The pins' remaining time at a cycle boundary (R94). -/
def agePins (b : Block) : Block :=
  b.sessions.foldl (fun b e =>
    let x := b.sess e.1
    let t := x.transfer.map (fun t => { t with left := t.left - 1 })
    let b := b.setSess e.1 { x with pinLeft := x.pinLeft - 1, transfer := t }
    if x.pin.isSome then b.wr (sk e.1 Obj.SnapshotSession.PinRemaining) (x.pinLeft - 1) else b) b

/-! ### Bundles (R96–R106) -/

/-- The value an object has once the bytes are applied to it: a W1C field clears the bits written 1 (R9). -/
def appliedValue (b : Block) (key : Nat) (bytes : List Nat) : Nat :=
  match findSub key with
  | some r => if r.access = .w1c then (List.range 16).foldl (fun v i => putBit v i (bitOf v i && !bitOf (leValue bytes) i)) (b.rd key)
              else leValue bytes
  | none => leValue bytes

/-- A DOMAIN object. -/
def isDomain (key : Nat) : Bool :=
  match findSub key with
  | some r => match r.type with
    | .domain _ _ => true
    | _ => false
  | none => false

/-- The configuration with a bundle's writes in it. -/
def overlay (b : Block) (ws : List (Nat × List Nat)) : Block :=
  ws.foldl (fun b w =>
    if isDomain w.1 then { b with domains := Tab.set b.domains w.1 w.2 } else b.wr w.1 (b.appliedValue w.1 w.2)) b

/-- Bytes of staged data. -/
def stagedBytes (ws : List (Nat × List Nat)) : Nat := (ws.map (fun w => w.2.length)).sum

/-- All bytes in commit staging, open and accepted (R100). -/
def stagingUsed (b : Block) : Nat :=
  (b.sessions.map (fun e => stagedBytes e.2.staged)).sum + (b.canopy.bundles.map (fun x => stagedBytes x.writes)).sum

/-- The counts of commit staging (R99, R114). -/
def stagingCounts (b : Block) : Block :=
  b.wrs [(Obj.CanopyStatus.StagingUsed, b.stagingUsed), (Obj.CanopyStatus.CommitsPending, (b.canopy.bundles.filter (·.accepted)).length)]

/-- The counts of a session's open bundle. -/
def bundleCounts (b : Block) (n : Nat) : Block :=
  (b.wrs [(sk n Obj.CommitSession.Entries, (b.sess n).staged.length), (sk n Obj.CommitSession.Bytes, stagedBytes (b.sess n).staged)]).stagingCounts

/-- A session opens a bundle; an open one is replaced by an empty one (R98, R99). -/
def commitOpen (b : Block) (n : Nat) : Block := (b.setSess n { b.sess n with bundle := true, staged := [] }).bundleCounts n

/-- A session's open bundle is discarded (R99). -/
def commitDiscard (b : Block) (n : Nat) : Block := (b.setSess n { b.sess n with bundle := false, staged := [] }).bundleCounts n

/-- One staged write in a bundle: a second write to the same object replaces the first (R98). -/
def putStaged (ws : List (Nat × List Nat)) (key : Nat) (bytes : List Nat) : List (Nat × List Nat) :=
  ws.filter (fun w => w.1 != key) ++ [(key, bytes)]

/-- A refused submit: the bundle is discarded (R101). -/
def refuseCommit (b : Block) (n st reason key : Nat) : Block :=
  (b.commitDiscard n).wrs [(sk n Obj.CommitSession.Status, st), (sk n Obj.CommitSession.Reason, reason),
    (sk n Obj.CommitSession.FailIndex, keyIndex key), (sk n Obj.CommitSession.FailSub, keySub key)]

/-- The boundary a submit asks for (R99, R100): the first with the lead time, or the one named; `none` where it lies before any time. -/
def commitTarget (b : Block) (n : Nat) : Option (Nat × Nat) :=
  if b.rd (sk n Obj.CommitSession.When) = 0 then
    let t := if b.glade.boundary then 0 else b.glade.tick
    let c1 := nextCycle b.glade.epoch b.glade.cycle
    if t + 400 ≤ b.glade.nt then some c1 else some (nextCycle c1.1 c1.2)
  else
    let c := b.rd (sk n Obj.CommitSession.TargetCycle)
    (b.resolveEpoch (b.rd (sk n Obj.CommitSession.TargetEpoch)) c).map (fun e => (e, c))

/-- Ticks from the tick in progress to the boundary that opens a cycle. -/
def ticksToCycle (b : Block) (e c : Nat) : Int := b.ticksTo (e, c, 0)

/-- The bundles accepted for the same or earlier boundaries, in order of sequence (R102, R103). -/
def bundlesUpTo (b : Block) (e c : Nat) : List Bundle :=
  b.canopy.bundles.filter (fun x => x.accepted && decide (b.cyclesAhead x.epoch x.cycle ≤ b.cyclesAhead e c))

/-- The configuration expected at a boundary with all earlier-accepted bundles applied (R102). -/
def expectedConfig (b : Block) (e c : Nat) : Block := (b.bundlesUpTo e c).foldl (fun b x => b.overlay x.writes) b

/-- A bundle completes with a status and a record (R101, R104). -/
def bundleDone (b : Block) (x : Bundle) (st reason key : Nat) : Block :=
  let b := { b with canopy := { b.canopy with bundles := b.canopy.bundles.filter (fun y => y.seq != x.seq) } }
  let b := b.record 0x0101 (leBytes 4 x.seq ++ [x.session] ++ leBytes 2 x.epoch ++ leBytes 4 x.cycle ++ [st] ++ leBytes 2 reason)
  let b := if b.rd (sk x.session Obj.CommitSession.Sequence) = x.seq then
      b.wrs [(sk x.session Obj.CommitSession.Status, st), (sk x.session Obj.CommitSession.Reason, reason),
        (sk x.session Obj.CommitSession.FailIndex, keyIndex key), (sk x.session Obj.CommitSession.FailSub, keySub key)]
    else b
  b.stagingCounts

/-- A cancel at least 400 ticks before the bundle's boundary (R105). -/
def commitCancel (b : Block) (n seq : Nat) : Block :=
  match b.canopy.bundles.find? (fun x => x.seq == seq && x.session == n) with
  | none => b
  | some x => if b.ticksToCycle x.epoch x.cycle < 400 then b else
    let b := { b with canopy := { b.canopy with bundles := b.canopy.bundles.filter (fun y => y.seq != seq) } }
    (if b.rd (sk n Obj.CommitSession.Sequence) = seq then b.wr (sk n Obj.CommitSession.Status) 8 else b).stagingCounts.send 2 [1, seq]

/-- The partner did not confirm a bundle within 2 ms (R101, R104). -/
def commitConfirmTimeout (b : Block) (seq : Nat) : Block :=
  match b.canopy.bundles.find? (fun x => x.seq == seq && !x.accepted) with
  | none => b
  | some x =>
    let b := { b with canopy := { b.canopy with bundles := b.canopy.bundles.filter (fun y => y.seq != seq) } }
    (if b.rd (sk x.session Obj.CommitSession.Sequence) = seq then b.wr (sk x.session Obj.CommitSession.Status) 6 else b).stagingCounts

/-! ### Memory errors (R112) -/

/-- The region of a Canopy line (R79), by the order of its table. -/
def lineRegion (n : Nat) : Nat :=
  if n < 32768 then 0 else if n < 36864 then 1 else if n < 38912 then 2 else if n < 40960 then 3 else if n < 43008 then 4
  else if n < 51200 then 5 else if n < 53248 then 6 else 7

/-- An uncorrectable line's reaction by region (R112). -/
def lineLost (b : Block) (n : Nat) : Block :=
  match lineRegion n with
  | 0 =>
    let k := n / 4096
    let spoil (e : Nat × Image) : Nat × Image := if e.1 = k then (k, { e.2 with bad := true }) else e
    let b := { b with canopy := { b.canopy with slots := b.canopy.slots.map spoil } }
    b.report Src.CANOPY_UNCORRECTABLE 0
  | 1 =>
    let p := (n - 32768) / 4 % 512
    let b := { b with canopy := { b.canopy with portHold := p :: b.canopy.portHold } }
    { b with faults := { b.faults with reports := b.faults.reports ++ [{ src := Src.CANOPY_UNCORRECTABLE, inst := p, scope := some 1 }] } }
  | 2 =>
    let d := b.draw 32
    ({ d.2 with canopy := { d.2.canopy with unitHold := d.1 % 336 :: d.2.canopy.unitHold } }).report Src.CANOPY_UNCORRECTABLE 2
  | 3 => ({ b with canopy := { b.canopy with discard := true } }).report Src.CANOPY_UNCORRECTABLE 3
  | 4 => ({ b with canopy := { b.canopy with cfgBad := true } }).report Src.CANOPY_UNCORRECTABLE 4
  | 5 =>
    let d := b.draw 32
    let b := d.2.report Src.CANOPY_UNCORRECTABLE 5
    match b.canopy.bundles[d.1 % (b.canopy.bundles.length + 1)]? with
    | some x => b.bundleDone x 9 0xFFFF 0
    | none => b
  | r => (b.report Src.CANOPY_UNCORRECTABLE r).report Src.SUPERVISOR_FAULT 0

/-- A read of a line finds no error (0), a corrected one (1) or an uncorrectable one (2) (R112). -/
def lineError (b : Block) (n err : Nat) : Block :=
  match err with
  | 0 => b
  | 1 => (b.bump Obj.CanopyStatus.Corrected).report Src.CANOPY_CORRECTED 0
  | _ => ((b.bump Obj.CanopyStatus.Uncorrectable).wr Obj.CanopyStatus.LastErrorLine n).lineLost n

/-- A read of a line, with the check bits inverted where an injection is armed on it (R358, R364): one bit gives a corrected error, two an
uncorrectable one, and what it raises is marked. -/
def readLine (b : Block) (n err : Nat) : Block :=
  if b.faults.sramArmed && b.rd Obj.FaultInject.InjectEnable == 1 && b.rd Obj.FaultInject.SramTarget == 1 &&
      b.rd Obj.FaultInject.SramAddress / 64 == n then
    let m := b.rd Obj.FaultInject.SramMask
    let bits := ((List.range 8).filter (bitOf m)).length
    let old := b.faults.reports.length
    let b := ({ b with faults := { b.faults with sramArmed := false } }).wr Obj.FaultInject.Armed (putBit (b.rd Obj.FaultInject.Armed) 0 false)
    let b := b.lineError n (max err bits)
    let mark (r : Report) : Report := { r with injected := true }
    { b with faults := { b.faults with reports := b.faults.reports.take old ++ (b.faults.reports.drop old).map mark } }
  else b.lineError n err

/-- The scrubber reads one line per tick (R112). -/
def scrubTick (b : Block) (err : Nat) : Block :=
  let n := b.canopy.scrub
  let b := b.readLine n err
  let b := { b with canopy := { b.canopy with scrub := (n + 1) % 65536 } }
  if n = 65535 then b.bump Obj.CanopyStatus.ScrubPasses else b

/-- A configuration line is restored from the partner's copy or from Heartwood before the next tick (R112). -/
def restoreConfig (b : Block) : Block :=
  if b.canopy.cfgBad then ({ b with canopy := { b.canopy with cfgBad := false } }).report Src.CANOPY_CFG_RESTORED 0 else b

/-- The boundary entry of the cycle digest (R107): CRC-32C over epoch:cycle as 6 bytes. -/
def cycleDigest (b : Block) : Block :=
  { b with canopy := { b.canopy with digest := crc32c (leBytes 2 b.glade.epoch ++ leBytes 4 b.glade.cycle) } }

/-- What power-up or RST_N leaves of Canopy (R115): nothing. -/
def clearCanopy (b : Block) : Block := { b with canopy := {}, actions := {}, sessions := [] }

end Block

/-- DIRECTORY_READ (R85, R112): `err` is what the check bits show. -/
def execDirectoryRead (line cache err : Nat) (s : State) : Host.Outcome State Fault Refusal :=
  s.actOn (decide (line < 65536)) .line line (fun b => (b.lineRead line cache).readLine line err)

/-- DIRECTORY_OWN (R85–R87). -/
def execDirectoryOwn (line : Nat) (caches : List Nat) (s : State) : Host.Outcome State Fault Refusal :=
  s.actOn (decide (line < 65536)) .line line (·.lineOwn line caches)

/-- DIRECTORY_WRITEBACK (R85, R86). -/
def execDirectoryWriteback (line cache : Nat) (caches : List Nat) (s : State) : Host.Outcome State Fault Refusal :=
  s.actOn (decide (line < 65536)) .line line (·.lineWriteback line cache caches)

/-- SNAPSHOT_CAPTURE_DONE (R88). -/
def execSnapshotCaptureDone (s : State) : Host.Outcome State Fault Refusal := s.act Block.captureDone

/-- PIN_NEWEST (R93). -/
def execPinNewest (n : Nat) (s : State) : Host.Outcome State Fault Refusal := s.actOn (decide (n < 32)) .session n (·.pinMirror n (·.pinNewest n))

/-- PIN_NAMED (R92). -/
def execPinNamed (n : Nat) (s : State) : Host.Outcome State Fault Refusal := s.actOn (decide (n < 32)) .session n (·.pinMirror n (·.pinNamed n))

/-- PIN_RELEASE (R91). -/
def execPinRelease (n : Nat) (s : State) : Host.Outcome State Fault Refusal := s.actOn (decide (n < 32)) .session n (·.pinMirror n (·.pinRelease n))

/-- PIN_EXPIRY (R94). -/
def execPinExpiry (n : Nat) (s : State) : Host.Outcome State Fault Refusal := s.actOn (decide (n < 32)) .session n (·.pinExpiry n)

/-- COMMIT_OPEN (R98). -/
def execCommitOpen (n : Nat) (s : State) : Host.Outcome State Fault Refusal := s.actOn (decide (n < 32)) .session n (·.commitOpen n)

/-- COMMIT_DISCARD (R99). -/
def execCommitDiscard (n : Nat) (s : State) : Host.Outcome State Fault Refusal := s.actOn (decide (n < 32)) .session n (·.commitDiscard n)

/-- COMMIT_CANCEL (R105). -/
def execCommitCancel (n seq : Nat) (s : State) : Host.Outcome State Fault Refusal :=
  s.actOn (decide (n < 32)) .session n (·.commitCancel n seq)

/-- COMMIT_CONFIRM_TIMEOUT (R104). -/
def execCommitConfirmTimeout (seq : Nat) (s : State) : Host.Outcome State Fault Refusal := s.act (·.commitConfirmTimeout seq)

end Sys2Proof.Machine
end

