-- ==== Sys2Proof/Machine/Link.lean ====
section
/-! DEFINITION. The stage link (chapter 4): frames and slots, replies, one-shots, head registers, training, injection. -/

namespace Sys2Proof.Machine

/-- Frame types (R128). -/
def ftCOMMAND : Nat := 1
def ftCFG_WRITE : Nat := 2
def ftCFG_READ : Nat := 3
def ftTRAIN : Nat := 4
def ftSAFE_BCAST : Nat := 5
def ftMAINT : Nat := 6

/-- Port states (R18). -/
def psOFF : Nat := 0
def psABSENT : Nat := 1
def psTRAINING : Nat := 2
def psMISMATCH : Nat := 3
def psADMITTED : Nat := 4
def psIN_SERVICE : Nat := 5
def psSAFE : Nat := 6
def psFAILED : Nat := 7

/-- One-shot operations (R138). -/
def osSAFE : Nat := 1
def osLATCH_RESET : Nat := 2
def osBRK_CLOSE : Nat := 3
def osBRK_OPEN : Nat := 4
def osZERO_CAL : Nat := 5

/-- The reply type that answers a downstream type (R128); 0 where there is none. -/
def replyType (t : Nat) : Nat :=
  match t with
  | 1 | 6 => 9
  | 2 | 3 => 0xA
  | 4 => 0xC
  | _ => 0

/-- The next one-shot tag, skipping 0 (R137). -/
def nextTag (t : Nat) : Nat := if 255 ≤ t then 1 else t + 1

/-- A 16-bit word, high byte first, at a place of a payload. -/
def beWord (l : List Nat) (i : Nat) : Nat := l.getD i 0 % 256 * 256 + l.getD (i + 1) 0 % 256

namespace Block

/-- A port's link record. -/
def port (b : Block) (p : Nat) : Port := Tab.look {} b.ports p

/-- A port's link record changes. -/
def setPort (b : Block) (p : Nat) (x : Port) : Block := { b with ports := Tab.put {} b.ports p x }

/-- A port's link record, changed by a function. -/
def modPort (b : Block) (p : Nat) (f : Port → Port) : Block := b.setPort p (f (b.port p))

/-- The head status of a port as the state of the tick holds it (R133, R154), and one bit of it. -/
def headStatus (b : Block) (p : Nat) : Nat := b.rd (Obj.PortRecord.HeadStatus p)
def headBit (b : Block) (p n : Nat) : Bool := bitOf (b.headStatus p) n

/-- The head reports SAFE (R133). -/
def headSafe (b : Block) (p : Nat) : Bool := b.headBit p 7

/-- A head has completed training on the port (R17). -/
def trained (b : Block) (p : Nat) : Bool := b.rd (Obj.PortRecord.ReportedClass p) != 0xFF

/-- The port trains, or its link layer retrains underneath (R148, R150). -/
def inTraining (b : Block) (p : Nat) : Bool := b.portState p == psTRAINING || (b.port p).retrain

/-- The counts of R154 run: the port is TRAINING, or has completed training and is in one of the states after it. -/
def linkCounts (b : Block) (p : Nat) : Bool :=
  let st := b.portState p
  st == psTRAINING || (decide (3 ≤ st) && b.trained p)

/-- Power commands may be driven: not after SEAT_MISMATCH (R22). -/
def mayCommand (b : Block) : Bool := !b.isPresent Src.SEAT_MISMATCH 0

/-- The controller transmits on its ports: Glade runs, and it has neither yielded nor entered GRAVE. -/
def transmits (b : Block) : Bool := b.glade.running && !b.inGrave && !b.masks.silent

/-- The retry slot exists (R28, R42). -/
def hasRetrySlot (b : Block) : Bool := b.rd Obj.GladeStatus.RetrySlot == 1

/-- TICK_TAG of the tick in progress (R129). -/
def tickTag (b : Block) : Nat := b.glade.cycle % 16 * 4096 + b.glade.tick % 4096

/-! ### One-shots (R137, R138) -/

/-- The first one-shot of the queue fires: its tag is taken and its time starts with the tick that opens next. -/
def startShot (b : Block) (p : Nat) : Block :=
  b.modPort p (fun x => if x.active || x.shots.isEmpty then x else { x with active := true, tag := nextTag x.tag, since := b.glade.ticks + 1 })

/-- A host's entry completes when its one-shot ends (R146); its record holds how it ended, 0 done, 1 refused, 2 failed. It fired
`ago` ticks back. -/
def shotEntry (b : Block) (h outcome ago : Nat) : Block :=
  match b.entry? h with
  | none => b
  | some a => b.completeEntry h a actFIRED [outcome] (some ago)

/-- The first one-shot of a port's queue ends. -/
def endShot (b : Block) (p outcome : Nat) : Block :=
  let x := b.port p
  match x.shots with
  | [] => b
  | o :: rest =>
    let host := o.handle.isSome && o.op == osSAFE && outcome == 0
    let b := b.setPort p { x with shots := rest, active := false, result := some (o.op, outcome), hostSafe := x.hostSafe || host }
    let b := if outcome = 0 then b else b.report Src.ONESHOT_FAIL p [o.op, outcome]
    let b := match o.handle with
      | some h => b.shotEntry h outcome (if x.active then b.glade.ticks - x.since else 0)
      | none => b
    b.startShot p

/-- Every one-shot of a port that starts training ends as failed (R137). -/
def failShots (b : Block) (p : Nat) : Block := (b.port p).shots.foldl (fun b _ => b.endShot p 2) b

/-- A one-shot fires on a port (R137); on a port that trains it ends as failed at once. -/
def fireShot (b : Block) (p op : Nat) (handle : Option Nat := none) : Block :=
  let b := b.modPort p (fun x => { x with shots := x.shots ++ [{ op, handle }], result := none })
  if b.inTraining p then b.failShots p else b.startShot p

/-- A one-shot of this operation is pending or waits on the port. -/
def shotPending (b : Block) (p op : Nat) : Bool := (b.port p).shots.any (fun o => o.op == op)

/-- ONESHOT_TIMEOUT (R137): HoldLimit ticks have passed from the firing tick. -/
def shotTimeout (b : Block) (p : Nat) : Block :=
  let x := b.port p
  if x.active && decide (x.since + b.rd (Obj.PortRecord.HoldLimit p) ≤ b.glade.ticks) then b.endShot p 2 else b

/-! ### Head registers (R151–R155) -/

/-- CfgWriteResult follows the write at the front of the queue: 0xFE while it waits (R155). -/
def cfgFront (b : Block) (p : Nat) : Block :=
  match (b.port p).cfg with
  | c :: _ => if c.write then b.wr (Obj.PortRecord.CfgWriteResult p) (c.addr % 256 * 256 + 0xFE) else b
  | [] => b

/-- A register write that the configuration calls for; a later value for the same register replaces one that waits (R151). -/
def cfgWrite (b : Block) (p addr data : Nat) : Block :=
  (b.modPort p (fun x => { x with cfg := x.cfg.filter (fun c => !(c.write && c.addr == addr)) ++ [{ write := true, addr, data }] })).cfgFront p

/-- A register read. -/
def cfgRead (b : Block) (p addr : Nat) : Block :=
  b.modPort p (fun x => if x.cfg.any (fun c => !c.write && c.addr == addr) then x else { x with cfg := x.cfg ++ [{ write := false, addr }] })

/-- A write to this register waits or is being sent. -/
def cfgWaiting (b : Block) (p addr : Nat) : Bool := (b.port p).cfg.any (fun c => c.write && c.addr == addr)

/-- A head register as last read or written; its reset value before (R152, R162). -/
def headReg (b : Block) (p addr : Nat) : Nat :=
  Tab.look (match addr with | 0x10 => 8 | 0x11 => 1 | 0x34 => 0xF000 | 0x35 => 0x7FFF | _ => 0) (b.port p).regs addr

/-- The first access of the queue is a write that the holder sends: the standby leaves the slot idle (R378). -/
def cfgIdle (b : Block) (p : Nat) : Bool :=
  match (b.port p).cfg with
  | c :: _ => c.write && !b.isHolder && b.linkUp && b.pair.role == 1
  | [] => false

/-- The access that a slot of the port can carry next: the cause of a safe state first (R610), then the queue in its order (R151). A
controller without the token issues only reads. -/
def cfgNext (b : Block) (p : Nat) : Option Cfg :=
  let x := b.port p
  if x.causeWanted && b.isHolder then some { write := false, addr := 0x23 }
  else if b.isHolder then x.cfg.head?
  else if b.cfgIdle p then none
  else x.cfg.find? (fun c => !c.write)

/-- The port record shows the registers that chapter 5 names (R188). -/
def showReg (b : Block) (p addr v : Nat) : Block :=
  let b := b.modPort p (fun x => { x with regs := Tab.set x.regs addr v })
  match addr with
  | 0x30 => b.wr (Obj.PortRecord.Inductance p) v
  | 0x31 => b.wr (Obj.PortRecord.Turns p) v
  | 0x32 => b.wr (Obj.PortRecord.SenseTol p) v
  | 0x36 => b.wr (Obj.PortRecord.ZeroCalOffset p) v
  | _ => b

/-- A CFG_RESP to the access of a frame (R152, R153, R155, R610). -/
def cfgAnswer (b : Block) (p : Nat) (write : Bool) (addr data value status : Nat) : Block :=
  let b := if status = 0 then b.showReg p addr value else b.report Src.HEAD_CFG_REFUSED p [addr, status]
  let b := if write then (b.wr (Obj.PortRecord.CfgWriteResult p) (addr % 256 * 256 + status % 256)).send 1 [10, p] else b
  let b := if addr = 0x23 ∧ !write ∧ status = 0 then
      (b.modPort p (fun x => { x with causeWanted := false, causeNext := some value })).send 1 [9, p, value]
    else b
  let b := b.modPort p (fun x => { x with cfg := x.cfg.eraseP (fun c => c.write == write && c.addr == addr && (!write || c.data == data)) })
  if write then (match (b.port p).cfg with | c :: _ => if c.write then b.cfgFront p else b | [] => b) else b

/-! ### Frames (R128–R136, R149) -/

/-- A frame with the fields every frame has; a new frame takes the next SEQ (R134). -/
def newFrame (b : Block) (p type : Nat) : Frame :=
  let x := b.port p
  { type, resync := x.resync && type != ftTRAIN, seq := if type = ftTRAIN then x.seq else (x.seq + 1) % 256, tag := b.tickTag,
    token := b.isHolder, gen := b.rd Obj.EventOrder.Generation }

/-- The one-shot fields of a COMMAND or MAINT frame (R137); a frame with RESYNC carries none (R149). -/
def withShot (x : Port) (f : Frame) : Frame :=
  match x.shots with
  | o :: _ => if x.active && !f.resync then { f with osOp := o.op, osTag := x.tag } else f
  | [] => f

/-- The command words of a COMMAND frame; a LATCH_RESET frame carries MODE OFF (R144). -/
def commandWords (x : Port) (f : Frame) : List Nat :=
  match x.cmd with
  | c :: r => if f.osOp = osLATCH_RESET then c % 4096 :: r else x.cmd
  | [] => [0, 0, 0, 0]

/-- A CFG frame. -/
def cfgFrame (b : Block) (p : Nat) (c : Cfg) : Frame :=
  { b.newFrame p (if c.write then ftCFG_WRITE else ftCFG_READ) with osOp := c.addr, words := [if c.write then c.data else 0, 0, 0, 0] }

/-- The port as its frames show it: a one-shot whose HoldLimit has passed is no longer pending (R137). -/
def framePort (b : Block) (p : Nat) : Port :=
  let x := b.port p
  { x with active := x.active && decide (b.glade.ticks < x.since + b.rd (Obj.PortRecord.HoldLimit p)) }

/-- The primary frame of a port in the tick that has begun (R147–R151, R610); `none` where the port sends nothing. -/
def primaryFrame (b : Block) (p : Nat) : Option Frame :=
  let x := b.framePort p
  let st := b.portState p
  if st = psOFF then none
  else if st = psABSENT then (if b.glade.tick % 16 = 0 then some (b.newFrame p ftTRAIN) else none)
  else if b.inTraining p then (if x.delayUntil.isSome then none else some (b.newFrame p ftTRAIN))
  else if (st = psIN_SERVICE ∨ st = psSAFE) ∧ b.mayCommand then
    if x.causeWanted && b.isHolder && b.headSafe p && !x.resync then some (b.cfgFrame p { write := false, addr := 0x23 })
    else
      let f := withShot x (b.newFrame p ftCOMMAND)
      some { f with words := commandWords x f }
  else if x.resync then some (b.newFrame p ftMAINT)
  else if (st = psIN_SERVICE ∨ st = psSAFE) then some (withShot x (b.newFrame p ftMAINT))
  else match b.cfgNext p with
    | some c => if x.active then some (withShot x (b.newFrame p ftMAINT)) else some (b.cfgFrame p c)
    | none => if b.cfgIdle p && !x.active then none else some (withShot x (b.newFrame p ftMAINT))

/-- The CRC of a downstream frame is inverted in this slot (R156). -/
def injectsDown (b : Block) (p : Nat) (retry : Bool) : Bool :=
  let v := b.rd (Obj.PortRecord.InjectCrc p)
  (b.port p).inject && bitOf v 1 && (!retry || bitOf v 2)

/-- The CRC of an upstream frame is inverted at the checker in this slot (R156). -/
def injectsUp (b : Block) (p : Nat) (retry : Bool) : Bool :=
  let v := b.rd (Obj.PortRecord.InjectCrc p)
  (b.port p).inject && bitOf v 0 && (!retry || bitOf v 2)

/-- A frame goes out: SEQ advances with a new frame, RESYNC is no longer owed. -/
def sent (b : Block) (p : Nat) (retry fresh : Bool) (f : Frame) : Block :=
  let f := { f with badCrc := b.injectsDown p retry }
  b.modPort p (fun x =>
    let x := if retry then { x with retry := some f } else { x with frame := some f }
    if fresh ∧ f.type ≠ ftTRAIN then { x with seq := f.seq, resync := false } else x)

/-- The start of a tick on one port: injection and the primary exchange (R119, R120). -/
def portTickStart (b : Block) (p : Nat) : Block :=
  let b := b.modPort p (fun x => { x with
    inject := decide (0 < x.injectLeft), counted := false, shut := false, heard0 := false, heard1 := false })
  if !b.transmits || b.portState p == psOFF then b
  else
    let b := b.modPort p (fun x => { x with counted := b.linkCounts p })
    if 0 < (b.port p).locked then b.modPort p (fun x => { x with locked := x.locked - 1, shut := true })
    else match b.primaryFrame p with
      | some f =>
        let b := b.sent p false true f
        if f.type = ftCOMMAND then
          (b.wrs [(Obj.PortRecord.Mode p, f.words.getD 0 0 / 4096)]).wrs
            (if b.isPhase p then [(Obj.PortRecord.IpkRef p, f.words.getD 1 0), (Obj.PortRecord.Slope p, f.words.getD 2 0),
              (Obj.PortRecord.PhaseOffset p, f.words.getD 0 0 % 4096)] else [])
        else b
      | none => b

/-- RETRY_SLOT on one port (R136, R151): a failed primary is repeated unchanged, otherwise a CFG frame uses the slot on a port IN_SERVICE or
SAFE; the other states put theirs in the primary slot (assumption 70). -/
def retrySlot (b : Block) (p : Nat) : Block :=
  let x := b.port p
  if !b.transmits || !b.hasRetrySlot || b.glade.boundary || x.retry.isSome || decide (b.portState p < psMISMATCH) || x.retrain then b
  else if 0 < x.locked then b.modPort p (fun x => { x with locked := x.locked - 1, shut := true })
  else match x.frame with
    | none => b
    | some f =>
      if !x.okPrimary then b.sent p true false f
      else if x.resync ∨ !(b.portState p = psIN_SERVICE ∨ b.portState p = psSAFE) then b
      else match b.cfgNext p with
        | some c => b.sent p true true (b.cfgFrame p c)
        | none => b

/-! ### Sample sets (R126, R379) -/

/-- The port is shared in this tick (R379). -/
def shared (b : Block) (p : Nat) : Bool := b.linkUp && (b.port p).okBefore && bitOf b.masks.okBefore p

/-- A sample set may enter the state (R379): the port is not shared, the partner received the same set in the same slot, or the partner's
MASK part has not come by its deadline (`final`). -/
def entersFrom (b : Block) (p : Nat) (final : Bool) (r : Received) : Bool :=
  let came := if r.slot = 0 then b.masks.came0 else b.masks.came1
  let mask := if r.slot = 0 then b.masks.sets0 else b.masks.sets1
  !b.shared p || (if came then bitOf mask p else final)

/-- The one-shot judged on a reply whose set enters the state (R137). -/
def judgeShot (b : Block) (p : Nat) (r : Received) : Block :=
  let x := b.port p
  if x.active ∧ r.osLast = x.tag then b.endShot p (b2n r.refused) else b

/-- A received set enters the state of the next tick as soon as nothing more can keep it out (R379). -/
def tryEnter (b : Block) (p : Nat) (final : Bool) : Block :=
  let x := b.port p
  if x.entered.isSome then b
  else match x.received.find? (fun r => b.entersFrom p final r) with
    | some r => (b.setPort p { x with entered := some r }).judgeShot p r
    | none => b

/-! ### Replies (R122, R130, R141, R147, R157) -/

/-- The faults of the status byte: each is present while its bit is set (R133, R157). -/
def statusFaults (b : Block) (p st : Nat) : Block :=
  [(5, Src.HEAD_OC_TRIP), (4, Src.HEAD_OVP), (3, Src.HEAD_OT), (2, Src.HEAD_UVLO), (1, Src.HEAD_GATE), (0, Src.HEAD_CFG)].foldl
    (fun b e => b.condition e.2 p (bitOf st e.1) [st]) b

/-- SAFE in a reply (R610): its first showing calls for the cause. -/
def safeShown (b : Block) (p : Nat) (safe : Bool) : Block :=
  let x := b.port p
  if safe = x.safeSeen then b
  else if safe then b.setPort p { x with safeSeen := true, causeWanted := true, cause := none, causeNext := none }
  else (b.setPort p { x with safeSeen := false, causeWanted := false, cause := none, causeNext := none, causeNew := false }).condition
    Src.HEAD_HOLD_EXPIRED p false

/-- The fields every valid reply carries (R130, R154): status, holder, the last tag, RX_ERR, and the window's answer. -/
def replyFields (b : Block) (p : Nat) (f : Frame) (data : List Nat) : Block :=
  let byte (i : Nat) : Nat := data.getD i 0 % 256
  let holder := byte 2 / 8 % 4
  let letter := if holder = 1 then 0x41 else if holder = 2 then 0x42 else 0
  let b := (b.wrN (Obj.PortRecord.HeadStatus p) (byte 3)).wr (Obj.PortRecord.OneShotLast p) (byte 22)
  let b := if holder = 3 then b else b.wr (Obj.PortRecord.HeadHolder p) letter
  let x := b.port p
  let rx := match x.rxErr with
    | some v => (byte 23 + 256 - v) % 256
    | none => 0
  let b := if x.counted then b.bump (Obj.PortRecord.HeadRxErrors p) 32 rx else b
  let b := b.modPort p (fun x => { x with rxErr := some (byte 23) })
  let b := (b.statusFaults p (byte 3)).safeShown p (bitOf (byte 3) 7)
  if f.type = ftTRAIN then b
  else
    let b := if bitOf (byte 2) 5 then
        let b := if x.counted then b.bump (Obj.PortRecord.SeqRejects p) else b
        (b.modPort p (fun x => { x with resync := true })).report Src.SEQ_RESYNC p
      else b
    let other := if b.seat = 0x41 then 0x42 else 0x41
    let b := if bitOf (byte 3) 6 ∧ letter = other ∧ !b.pair.held.contains p then
        { b with pair := { b.pair with held := p :: b.pair.held } } else b
    let b := if f.token ∧ letter = other then
        { b.report Src.TOKEN_REJECTED p with pair := { (b.report Src.TOKEN_REJECTED p).pair with rejected := true } } else b
    if !f.token ∧ letter = b.seat ∧ letter ≠ 0 then b.report Src.TOKEN_STRAY p else b

/-- A training run starts on the port (R148, R150). -/
def startTraining (b : Block) (p : Nat) : Block :=
  (b.modPort p (fun x => { x with trainRun := 0, trainAt := b.glade.cycles, delayUntil := none })).bump (Obj.PortRecord.TrainAttempts p) 16

/-- A TRAIN_RESP (R147, R148). -/
def trainAnswer (b : Block) (p sofNs : Nat) (data : List Nat) : Block :=
  let b := b.modPort p (fun x => { x with
    trainClass := data.getD 0 0 % 8, trainWords := (List.range 8).map (fun i => beWord data (6 + 2 * i)), trainOsLast := data.getD 22 0 % 256, sofNs })
  if b.portState p = psABSENT then ((b.setPortState p psTRAINING).startTraining p).failShots p
  else b.modPort p (fun x => { x with trainRun := x.trainRun + 1 })

/-- A valid reply to the frame `f` (R122): it may succeed as an exchange, and it delivers its sample set whether or not it does. -/
def reply (b : Block) (p : Nat) (retry : Bool) (sofNs : Nat) (f : Frame) (data : List Nat) : Block :=
  let type := data.getD 0 0 % 256 / 16
  let own := if b.seat = 0x42 then 1 else 0
  let b := if data.getD 0 0 / 8 % 2 ≠ own ∧ 3 ≤ b.portState p then b.condition Src.SEAT_MISMATCH 0 true [p] else b
  let b := b.replyFields p f data
  let ack := data.getD 1 0 % 256
  let ok := decide (type = replyType f.type) && (f.type == ftTRAIN || ack == f.seq)
  let b := if type = 9 ∧ f.type ≠ ftTRAIN then
      b.modPort p (fun x => { x with received := x.received ++ [{
        slot := b2n retry, words := (List.range 8).map (fun i => beWord data (6 + 2 * i)), status := data.getD 3 0 % 256,
        osLast := data.getD 22 0 % 256, refused := bitOf (data.getD 2 0) 2, tag := beWord data 4 }] })
    else b
  let b := b.tryEnter p false
  if ok then
    let b := b.modPort p (fun x => if retry then { x with okRetry := true } else { x with okPrimary := true })
    if f.type = ftTRAIN then b.trainAnswer p sofNs data
    else if f.type = ftCFG_WRITE ∨ f.type = ftCFG_READ then
      b.cfgAnswer p (f.type == ftCFG_WRITE) f.osOp (f.words.headD 0) (beWord data 8) (beWord data 10)
    else b
  else b

/-- A count of R154 in a slot that counts. -/
def linkCount (b : Block) (p key : Nat) : Block := if (b.port p).counted then b.bump key else b

/-- UPSTREAM_FRAME (R117, R118, R122): window, code, CRC and type, in that order; `sofNs` is the end of its SOF after the slot's start. -/
def upstream (b : Block) (p : Nat) (retry : Bool) (sofNs : Nat) (codeOk crcOk : Bool) (data : List Nat) : Block :=
  let x := b.port p
  match (if retry then x.retry else x.frame) with
  | none => b
  | some f =>
    if b.portState p = psOFF ∨ f.type = ftSAFE_BCAST ∨ (if retry then x.heard1 else x.heard0) then b
    else
      let b := b.setPort p (if retry then { x with heard1 := true } else { x with heard0 := true })
      let type := data.getD 0 0 % 256 / 16
      if sofNs < 2176 ∨ 2400 < sofNs then b.linkCount p (Obj.PortRecord.NoResponse p)
      else if !codeOk ∨ data.length ≠ 24 then b.linkCount p (Obj.PortRecord.CodeErrors p)
      else if crcOk = b.injectsUp p retry then b.linkCount p (Obj.PortRecord.CrcErrors p)
      else if type ≠ 9 ∧ type ≠ 0xA ∧ type ≠ 0xC then b.linkCount p (Obj.PortRecord.CodeErrors p)
      else b.reply p retry sofNs f data

/-- UPSTREAM_WINDOW_END (R122): no SOF came in the window of the slot. -/
def windowEnd (b : Block) (p : Nat) (retry : Bool) : Block :=
  let x := b.port p
  if (if retry then x.retry else x.frame).isNone ∨ (if retry then x.heard1 else x.heard0) then b
  else (b.setPort p (if retry then { x with heard1 := true } else { x with heard0 := true })).linkCount p (Obj.PortRecord.NoResponse p)

/-! ### The end of a tick (R136, R146, R150, R157, R379) -/

/-- The samples of the tick that ends enter the state of the next, or go stale (R126, R379). -/
def enterSamples (b : Block) (p : Nat) : Block :=
  let b := b.tryEnter p true
  let x := b.port p
  match x.entered with
  | some r => b.setPort p { x with sample := r.words, stale := 0, everFresh := true, entered := none }
  | none =>
    let other := (b.masks.came0 && bitOf b.masks.sets0 p) || (b.masks.came1 && bitOf b.masks.sets1 p)
    let b := b.setPort p { x with stale := x.stale + 1 }
    if b.shared p && (!x.received.isEmpty || other) then b.bump Obj.RedundancyStatus.SamplesDiscarded else b

/-- PortState SAFE after a host PORT_SAFE (R146): taken with SAFE = 1, left with SAFE = 0. A phase goes back to ADMITTED, the spec
giving it no other state (DESIGN CHOICE, assumption 34); a BRK or SNS port to IN_SERVICE (R273). -/
def hostSafeStep (b : Block) (p : Nat) : Block :=
  let x := b.port p
  let safe := bitOf (b.rdN (Obj.PortRecord.HeadStatus p)) 7
  if x.hostSafe ∧ safe ∧ b.portState p ≠ psSAFE then (b.setPort p { x with hostSafe := false }).setPortState p psSAFE
  else if b.portState p = psSAFE ∧ !safe then b.setPortState p (if b.isPhase p then psADMITTED else psIN_SERVICE)
  else b

/-- A cause of a safe state learned in one tick is acted on in the next (R610, R157). -/
def causeStep (b : Block) (p : Nat) : Block :=
  let x := b.port p
  let b := if x.causeNew && x.cause == some 2 && b.portState p == psIN_SERVICE then b.condition Src.HEAD_HOLD_EXPIRED p true else b
  match x.causeNext with
  | none => b.setPort p { x with causeNew := false }
  | some c => b.setPort p { x with cause := some c, causeNew := true, causeNext := none, causeWanted := false }

/-- The link's counts at the end of a tick (R136, R150, R154, R157). -/
def tickCounts (b : Block) (p : Nat) : Block :=
  let x := b.port p
  let used := x.frame.isSome || x.shut
  if !x.counted || !used then b
  else
    let ok := x.okPrimary || x.okRetry
    let b := if x.okPrimary then b else
      let b := b.bump (Obj.PortRecord.PrimaryFails p)
      let b := b.modPort p (fun x => { x with cycleFails := x.cycleFails + 1 })
      let b := if b.rd (Obj.PortRecord.DegradeThreshold p) < (b.port p).cycleFails then b.condition Src.LINK_DEGRADED p true [] x.inject else b
      if x.okRetry then b.bump (Obj.PortRecord.RetryRecovered p) else b
    if ok then (b.wr (Obj.PortRecord.ConsecutiveFailed p) 0).condition Src.LINK_LOST p false
    else
      let b := if b.inTraining p then b.modPort p (fun x => { x with trainRun := 0 }) else b
      ((b.bump (Obj.PortRecord.TicksFailed p)).bump (Obj.PortRecord.ConsecutiveFailed p)).raise Src.LINK_TICK_LOST p [] x.inject

/-- CRC injection over the tick that ends (R156). -/
def injectStep (b : Block) (p : Nat) : Block :=
  let x := b.port p
  if !x.inject then b
  else
    let n := x.injectLeft - 1
    let b := b.setPort p { x with injectLeft := n, inject := false }
    if n = 0 then b.wr (Obj.PortRecord.InjectCrc p) 0 else b

/-- An SNS port passes from ADMITTED to IN_SERVICE at the next tick (R149). -/
def sensePort (b : Block) (p : Nat) : Block :=
  if b.portState p = psADMITTED ∧ b.classOf p = 5 ∧ b.trained p ∧ !(b.port p).retrain then b.setPortState p psIN_SERVICE else b

/-- The end of a tick on one port. -/
def portTickEnd (b : Block) (p : Nat) : Block :=
  if b.portState p = psOFF then b
  else
    let b := ((b.tickCounts p).enterSamples p).hostSafeStep p
    let b := ((b.causeStep p).injectStep p).sensePort p
    b.modPort p (fun x => { x with
      okBefore := x.okPrimary || x.okRetry, okPrimary := false, okRetry := false, frame := none, retry := none, received := [] })

/-- The end of a tick on every port; the partner's masks of the tick are used up. -/
def linkTickEnd (b : Block) : Block :=
  let b := allPorts.foldl portTickEnd b
  { b with masks := { b.masks with okBefore := b.masks.okNow, okNow := 0, sets0 := 0, sets1 := 0, came0 := false, came1 := false } }

/-- The start of a tick on every port. -/
def linkTickStart (b : Block) : Block := allPorts.foldl portTickStart b

/-- A cycle's failures are counted afresh (R157). -/
def linkCycle (b : Block) : Block :=
  allPorts.foldl (fun b p =>
    let b := if (b.port p).cycleFails ≤ b.rd (Obj.PortRecord.DegradeThreshold p) then b.condition Src.LINK_DEGRADED p false else b
    b.modPort p (fun x => { x with cycleFails := 0 })) b

/-- SAFE_BCAST on every port that is not OFF (R145): the retry slot of this tick and the primary slot of the next go unused
(DESIGN CHOICE, assumption 35). -/
def safeBcast (b : Block) : Block :=
  allPorts.foldl (fun b p =>
    if b.portState p = psOFF then b
    else b.modPort p (fun x => { x with bcast := some (b.rd Obj.EventOrder.Generation), locked := if b.hasRetrySlot then 2 else 1 })) b

/-! ### Training (R147–R150) -/

/-- The class a head may have (R15): equal to the configured one, and a class of R14. -/
def classOk (b : Block) (p : Nat) : Bool :=
  let c := b.rd (Obj.PortRecord.ReportedClass p)
  c == b.classOf p && decide (1 ≤ c) && decide (c ≤ 5)

/-- The port's state follows the class its head reported (R15). -/
def admitByClass (b : Block) (p : Nat) : Block :=
  let st := b.portState p
  if b.classOk p then
    let b := b.condition Src.CLASS_MISMATCH p false
    if st = psTRAINING ∨ st = psMISMATCH then b.setPortState p psADMITTED else b
  else (b.setPortState p psMISMATCH).condition Src.CLASS_MISMATCH p true [b.rd (Obj.PortRecord.ReportedClass p), b.classOf p]

/-- The register accesses a training calls for (R148): HOLD_LIMIT where it differs, SAFE_BRK on a BRK port, and a read of the registers
the controller computes with (DESIGN CHOICE, assumption 36). -/
def trainingAccesses (b : Block) (p holdLimit : Nat) : Block :=
  let b := if holdLimit = b.rd (Obj.PortRecord.HoldLimit p) then b else b.cfgWrite p 0x10 (b.rd (Obj.PortRecord.HoldLimit p))
  let b := if b.classOf p = 4 then b.cfgWrite p 0x12 (b.rd (Obj.PortRecord.SafeBreaker p)) else b
  let cls := (b.port p).trainClass
  ([0x08, 0x09, 0x0A, 0x0B, 0x0C] ++ (if cls < 4 then [0x11] else []) ++ (if cls = 5 then [] else [0x30, 0x31, 0x32, 0x33, 0x34]) ++
    (if cls < 4 then [0x35] else [])).foldl (fun b a => b.cfgRead p a) b

/-- The one-way delay a training derives, in ns (R123). -/
def derivedDelay (sofNs : Nat) : Nat := (sofNs - 2256) / 2

/-- TRAINING_COMPLETE (R148): 32 consecutive successes. -/
def trainingComplete (b : Block) (p : Nat) : Block :=
  let x := b.port p
  if !b.inTraining p || decide (x.trainRun < 32) || x.delayUntil.isSome then b
  else
    let w := derivedDelay x.sofNs
    let b := b.wr (Obj.PortRecord.WireDelay p) (min w 255)
    if 40 < w then
      (b.setPort p { x with delayUntil := some (b.glade.cycles + 50), trainRun := 0 }).report Src.LINK_DELAY p [w]
    else
      let word (i : Nat) : Nat := x.trainWords.getD i 0
      let b := b.wrs [(Obj.PortRecord.ReportedClass p, x.trainClass), (Obj.PortRecord.HeadVendor p, word 0),
        (Obj.PortRecord.HeadRevision p, word 1),
        (Obj.PortRecord.HeadSerial p, word 2 * 2 ^ 48 + word 3 * 2 ^ 32 + word 4 * 2 ^ 16 + word 5),
        (Obj.PortRecord.HeadCaps p, word 6)]
      let b := b.setPort p { x with
        tag := x.trainOsLast, retrain := false, resync := true, trainRun := 0, cfg := x.cfg.filter (·.write), regs := [(0x10, word 7)] }
      (b.admitByClass p).trainingAccesses p (word 7)

/-- TRAINING_TIMEOUT (R148, R150): no completion within 100 cycles. -/
def trainingTimeout (b : Block) (p : Nat) : Block :=
  let x := b.port p
  if !b.inTraining p || x.delayUntil.isSome || decide (b.glade.cycles < x.trainAt + 100) then b
  else
    let b := b.report Src.LINK_TRAIN_FAIL p
    let st := b.portState p
    if st = psIN_SERVICE ∨ st = psSAFE ∨ st = psFAILED then b.startTraining p
    else (b.setPort p { x with retrain := false, trainRun := 0 }).setPortState p psABSENT

/-- LINK_DELAY_RETRAIN (R148): 50 cycles after a LINK_DELAY. -/
def delayRetrain (b : Block) (p : Nat) : Block :=
  match (b.port p).delayUntil with
  | some c => if c ≤ b.glade.cycles ∧ b.inTraining p then b.startTraining p else b
  | none => b

/-- The exchanges of the tick in progress have ended, and none succeeded (R122, R150). -/
def tickLost (b : Block) (p : Nat) : Bool :=
  let x := b.port p
  x.counted && x.frame.isSome && x.heard0 && (!b.hasRetrySlot || (x.retry.isSome && x.heard1)) && !x.okPrimary && !x.okRetry

/-- LINK_LOST (R150): the count takes in the tick in progress as soon as that tick is lost. -/
def linkLost (b : Block) (p : Nat) : Block :=
  if b.linkCounts p && decide (b.rd (Obj.PortRecord.HoldLimit p) ≤ b.rd (Obj.PortRecord.ConsecutiveFailed p) + b2n (b.tickLost p)) then
    b.condition Src.LINK_LOST p true [] (b.port p).inject else b

/-- LINK_RETRAIN (R150): after 100 cycles' worth of failed ticks, without a change of PortState. -/
def linkRetrain (b : Block) (p : Nat) : Block :=
  let st := b.portState p
  if (st = psIN_SERVICE ∨ st = psSAFE ∨ st = psADMITTED ∨ st = psFAILED) ∧ !(b.port p).retrain ∧
      100 * b.glade.nt ≤ b.rd (Obj.PortRecord.ConsecutiveFailed p) then
    ((b.modPort p (fun x => { x with retrain := true })).startTraining p).failShots p
  else b

/-- INJECT_CRC (R156, R358): acts only while InjectEnable is 1 in force. -/
def injectCrc (b : Block) (p v : Nat) : Block :=
  if b.rd Obj.FaultInject.InjectEnable ≠ 1 then b
  else (b.modPort p (fun x => { x with injectLeft := v / 256 % 256 })).wr (Obj.PortRecord.InjectCrc p) (v % 65536)

/-! ### Commits (R15, R16, R151) -/

/-- A commit has changed the port's configured class. -/
def classCommitted (b : Block) (p : Nat) : Block :=
  let b := b.modPort p (fun x => { x with trim := 0 })
  if b.classOf p = 0 then ((b.setPort p {}).setPortState p psOFF).condition Src.CLASS_MISMATCH p false
  else if b.portState p = psOFF then b.setPortState p psABSENT
  else if b.trained p ∧ 3 ≤ b.portState p then b.admitByClass p
  else b

/-- A commit has changed what the head's registers hold: the holder writes them at the first opportunity (R151). -/
def linkCommitted (b : Block) (keys : List Nat) : Block :=
  (keys.filter (inObj 0x3000 0x31FF)).foldl (fun b k =>
    let p := keyIndex k - 0x3000
    match keySub k with
    | 0x01 => b.classCommitted p
    | 0x13 => if 3 ≤ b.portState p then b.cfgWrite p 0x10 (b.rd k) else b
    | 0x1B => if 3 ≤ b.portState p ∧ b.classOf p = 4 then b.cfgWrite p 0x12 (b.rd k) else b
    | 0x1C => if 3 ≤ b.portState p ∧ b.isPhase p then b.cfgWrite p 0x11 (b.rd k) else b
    | _ => b) b

end Block

/-- RETRY_SLOT (R136). -/
def execRetrySlot (p : Nat) (s : State) : Host.Outcome State Fault Refusal := s.actOn (decide (p < 512)) .port p (·.retrySlot p)

/-- UPSTREAM_WINDOW_END (R122). -/
def execUpstreamWindowEnd (p : Nat) (retry : Bool) (s : State) : Host.Outcome State Fault Refusal :=
  s.actOn (decide (p < 512)) .port p (·.windowEnd p retry)

/-- TRAINING_COMPLETE (R148). -/
def execTrainingComplete (p : Nat) (s : State) : Host.Outcome State Fault Refusal := s.actOn (decide (p < 512)) .port p (·.trainingComplete p)

/-- TRAINING_TIMEOUT (R148). -/
def execTrainingTimeout (p : Nat) (s : State) : Host.Outcome State Fault Refusal := s.actOn (decide (p < 512)) .port p (·.trainingTimeout p)

/-- LINK_DELAY_RETRAIN (R148). -/
def execLinkDelayRetrain (p : Nat) (s : State) : Host.Outcome State Fault Refusal := s.actOn (decide (p < 512)) .port p (·.delayRetrain p)

/-- LINK_RETRAIN (R150). -/
def execLinkRetrain (p : Nat) (s : State) : Host.Outcome State Fault Refusal := s.actOn (decide (p < 512)) .port p (·.linkRetrain p)

/-- INJECT_CRC (R156). -/
def execInjectCrc (p value : Nat) (s : State) : Host.Outcome State Fault Refusal := s.actOn (decide (p < 512)) .port p (·.injectCrc p value)

/-- PORT_SAFE (R71, R146): the entry completes when its one-shot ends. -/
def Block.hostShot (b : Block) (h op actOp : Nat) : Block :=
  match b.entry? h with
  | none => b
  | some a =>
    if a.accepted && a.op == actOp && decide (b.pastNext (b.entryPlace a) ≤ 0) && !(b.port a.target).shots.any (fun o => o.handle == some h) then
      if b.superseded h a then b.completeEntry h a actSUPERSEDED else b.fireShot a.target op (some h)
    else b

/-- PORT_SAFE (R146). -/
def execPortSafe (handle : Nat) (s : State) : Host.Outcome State Fault Refusal := s.act (·.hostShot handle osSAFE 6)

/-- LATCH_RESET (R146). -/
def execLatchReset (handle : Nat) (s : State) : Host.Outcome State Fault Refusal := s.act (·.hostShot handle osLATCH_RESET 7)

end Sys2Proof.Machine
end

