-- ==== Sys2Proof/Machine/Math.lean ====
section
/-! DEFINITION. The functions of real analysis the rules name, in fixed point (assumption 37): root, sine, angle, logarithm, exponential. -/

namespace Sys2Proof.Machine

/-- The bits of a square root from bit `i` down: the largest r with r² ≤ n that extends `r`. -/
def isqrtBits (n : Nat) : Nat → Nat → Nat
  | 0, r => if (r + 1) * (r + 1) ≤ n then r + 1 else r
  | i + 1, r => isqrtBits n i (if (r + 2 ^ (i + 1)) * (r + 2 ^ (i + 1)) ≤ n then r + 2 ^ (i + 1) else r)

/-- The square root of a number below 2^128, rounded down. -/
def isqrt (n : Nat) : Nat := isqrtBits n 63 0

/-- π/2 and ln 2 in 2^-60. -/
def halfPi60 : Nat := 1811004864519280711
def ln2x60 : Nat := 799144290325165979

/-- Terms of the sine series from the term `t` on, in 2^-60; `x2` is the squared argument. -/
def sinTerms (x2 : Nat) : Nat → Nat → Int → Int
  | 0, _, _ => 0
  | n + 1, k, t => t + sinTerms x2 n (k + 2) (-(t * x2 / 2 ^ 60 / ((k + 1) * (k + 2) : Nat)))

/-- The sine of an angle of the first quadrant, 0 to 2^30, in 2^-30. -/
def sinQuarter (a : Nat) : Nat :=
  let x := a * halfPi60 / 2 ^ 30
  min (2 ^ 30) (((sinTerms (x * x / 2 ^ 60) 12 1 x + 2 ^ 29) / 2 ^ 30).toNat)

/-- The sine of an angle, 2^32 to the turn, in 2^-30. -/
def sinTurn (a : Nat) : Int :=
  let q := a / 2 ^ 30 % 4
  let r := a % 2 ^ 30
  match q with
  | 0 => sinQuarter r
  | 1 => sinQuarter (2 ^ 30 - r)
  | 2 => -(sinQuarter r : Int)
  | _ => -(sinQuarter (2 ^ 30 - r) : Int)

/-- The cosine of an angle. -/
def cosTurn (a : Nat) : Int := sinTurn (a + 2 ^ 30)

/-- Angles whose tangents are 2^-i, 2^40 to the turn. -/
def atanTable : List Nat :=
  [137438953472, 81134951838, 42869480287, 21761217566, 10922836750, 5466743129, 2734038620, 1367102738, 683561799, 341782203,
   170891265, 85445653, 42722829, 21361415, 10680707, 5340354, 2670177, 1335088, 667544, 333772, 166886, 83443, 41722, 20861, 10430,
   5215, 2608, 1304, 652, 326, 163, 81]

/-- Rotations that bring a vector of the right half-plane onto the axis; the angle turned, 2^40 to the turn. -/
def rotate : List Nat → Nat → Int → Int → Int → Int
  | [], _, _, _, a => a
  | t :: r, i, x, y, a =>
    if 0 ≤ y then rotate r (i + 1) (x + y / (2 ^ i : Nat)) (y - x / (2 ^ i : Nat)) (a + t)
    else rotate r (i + 1) (x - y / (2 ^ i : Nat)) (y + x / (2 ^ i : Nat)) (a - t)

/-- The angle of a vector, signed, 2^32 to the turn; 0 for the zero vector. -/
def angleOf (x y : Int) : Int :=
  if x = 0 ∧ y = 0 then 0
  else
    let k : Int := 2 ^ 40
    let a := if x < 0 then rotate atanTable 0 (-x * k) (-y * k) (2 ^ 39) else rotate atanTable 0 (x * k) (y * k) 0
    (roundDiv a 256 + 2 ^ 31) % 2 ^ 32 - 2 ^ 31

/-- Terms of the series of ln((1 + z) / (1 - z)) / 2 from z^k on. -/
def atanhTerms (z2 : Int) : Nat → Nat → Int → Int
  | 0, _, _ => 0
  | n + 1, k, p => p / (k : Int) + atanhTerms z2 n (k + 2) (p * z2 / 2 ^ 60)

/-- The number of halvings that bring n below 2·d. -/
def halvings (n d : Nat) : Nat → Nat
  | 0 => 0
  | k + 1 => if n < 2 * d then 0 else 1 + halvings n (2 * d) k

/-- ln(n / d) in 2^-60 for n at least d. -/
def lnUp (n d : Nat) : Int :=
  let k := halvings n d 128
  let e := d * 2 ^ k
  let z : Int := (n - e : Nat) * 2 ^ 60 / (n + e : Nat)
  2 * atanhTerms (z * z / 2 ^ 60) 24 1 z + k * ln2x60

/-- ln(n / d) in 2^-60, for positive n and d. -/
def lnRatio (n d : Nat) : Int := if d ≤ n then lnUp n d else -(lnUp d n)

/-- Terms of the exponential series. -/
def expTerms (x : Nat) : Nat → Nat → Nat → Nat
  | 0, _, _ => 0
  | n + 1, k, t => t + expTerms x n (k + 1) (t * x / 2 ^ 60 / k)

/-- e^x in 2^-60 for x in 2^-60, 0 where it falls below the resolution. -/
def expFix (x : Int) : Nat :=
  let k := x / (ln2x60 : Nat)
  let r := (x - k * (ln2x60 : Nat)).toNat
  let m := expTerms r 24 1 (2 ^ 60)
  if 0 ≤ k then m * 2 ^ min k.toNat 256 else m / 2 ^ min (-k).toNat 256

/-- The median of three or fewer values as R224 takes it: of two their mean. -/
def medianOf (l : List Int) : Option Int :=
  match l with
  | [] => none
  | [a] => some a
  | [a, b] => some (roundDiv (a + b) 2)
  | a :: b :: c :: _ => some (max (min a b) (min (max a b) c))

/-- Insertion into a rising list. -/
def insertInt (x : Int) : List Int → List Int
  | [] => [x]
  | y :: r => if x ≤ y then x :: y :: r else y :: insertInt x r

/-- The median of a list: the middle value, or the mean of the two middle values. -/
def medianAll (l : List Int) : Option Int :=
  let s := l.foldl (fun s x => insertInt x s) []
  let n := s.length
  if n = 0 then none
  else if n % 2 = 1 then s[n / 2]?
  else some (roundDiv (s.getD (n / 2 - 1) 0 + s.getD (n / 2) 0) 2)

end Sys2Proof.Machine
end

