-- ==== Sys2Proof/Machine/Phase.lean ====
section
/-! DEFINITION. The phase kernel's arithmetic (chapter 5): samples as physical values, duty and down-slope, the command words.
Voltages are in µV, currents in nA, times in ps (DESIGN CHOICE, assumption 38). -/

namespace Sys2Proof.Machine

/-- MODE codes of a phase (R131, R161). -/
def mdOFF : Nat := 0
def mdRUN : Nat := 1
def mdSOFT : Nat := 2
def mdSHED : Nat := 3

/-- Group states (R180). -/
def gsSTOPPED : Nat := 0
def gsSTARTING : Nat := 1
def gsRUNNING : Nat := 2
def gsOV_LATCHED : Nat := 3
def gsHALTED : Nat := 4

/-- Hold-up states (R227). -/
def huSTOPPED : Nat := 0
def huMAINS : Nat := 1
def huTRANSFER : Nat := 2
def huBATTERY : Nat := 3
def huWALK_IN : Nat := 4

/-- Mains feed states (R226). -/
def mfLOST : Nat := 1
def mfQUALIFYING : Nat := 2
def mfAVAILABLE : Nat := 3
def mfCARRYING : Nat := 4
def mfRIDING : Nat := 5

/-- String modes (R246). -/
def smOFF : Nat := 0
def smREST : Nat := 1
def smCHARGE : Nat := 2
def smSUPPORT : Nat := 3
def smTEST : Nat := 4

namespace Block

/-- A group's, a feed's, a string's and a sequence's record beside the dictionary. -/
def group (b : Block) (g : Nat) : Group := Tab.look {} b.groupTab g
def setGroup (b : Block) (g : Nat) (x : Group) : Block := { b with groupTab := Tab.put {} b.groupTab g x }
def feed (b : Block) (f : Nat) : Feed := Tab.look {} b.feedTab f
def setFeed (b : Block) (f : Nat) (x : Feed) : Block := { b with feedTab := Tab.put {} b.feedTab f x }
def bat (b : Block) (n : Nat) : BatString := Tab.look {} b.stringTab n
def setBat (b : Block) (n : Nat) (x : BatString) : Block := { b with stringTab := Tab.put {} b.stringTab n x }
def seq (b : Block) (q : Nat) : Seq := Tab.look {} b.seqTab q
def setSeq (b : Block) (q : Nat) (x : Seq) : Block := { b with seqTab := Tab.put {} b.seqTab q x }

/-- The state of a group, of the hold-up function, of a mains feed, and the mode of a string. -/
def groupState (b : Block) (g : Nat) : Nat := b.rd (Obj.GroupRecord.State g)
def holdupState (b : Block) : Nat := b.rd Obj.HoldupStatus.State
def mainsState (b : Block) (f : Nat) : Nat := b.rd (Obj.MainsFeed.State f)
def stringMode (b : Block) (n : Nat) : Nat := b.rd (Obj.StringRecord.Mode n)

/-- Ticks a second, in 1/65,536 (R41): N_t times the Glade frequency. -/
def tickRate (b : Block) : Nat :=
  let f := b.rd Obj.GladeStatus.Frequency
  b.glade.nt * (if f = 0 then b.glade.fnom * 65536 else f)

/-- The measured tick length in ps. -/
def tickPs (b : Block) : Nat := roundDivN (10 ^ 12 * 65536) b.tickRate

/-- ceil(µs / T), exactly. -/
def ticksOf (b : Block) (us : Nat) : Nat := ceilDiv (us * b.tickRate) (65536 * 10 ^ 6)

/-- So many ticks in whole µs, rounded down. -/
def microsOf (b : Block) (n : Nat) : Nat := n * 65536 * 10 ^ 6 / b.tickRate

/-! ### Samples (R132) -/

/-- A sample word of a port as a signed number. -/
def sampleI (b : Block) (p i : Nat) : Int := toI 16 ((b.port p).sample.getD i 0)

/-- A fresh sample set is in the state of the tick. -/
def fresh (b : Block) (p : Nat) : Bool := (b.port p).stale == 0

/-- A head's full-scale current in nA and voltages in µV (R152). -/
def ifsNa (b : Block) (p : Nat) : Nat := b.headReg p 0x08 * 10 ^ 8
def vfsIn (b : Block) (p : Nat) : Nat := b.headReg p 0x09 * 10 ^ 5
def vfsOut (b : Block) (p : Nat) : Nat := b.headReg p 0x0A * 10 ^ 5

/-- A sample word scaled by a full scale. -/
def scaled (b : Block) (p i fs : Nat) : Int := roundDiv (b.sampleI p i * fs) 32768

/-- The phase's average current in nA. -/
def phaseCurrent (b : Block) (p : Nat) : Int := b.scaled p 0 (b.ifsNa p)

/-- The voltage word S1: V_IN of a REC phase, V_OUT of a CNV phase, V_STR of a BAT phase. -/
def ownVolts (b : Block) (p : Nat) : Int := b.scaled p 1 (if b.classOf p = 2 then b.vfsOut p else b.vfsIn p)

/-- The bus voltage word S2. -/
def busVolts (b : Block) (p : Nat) : Int := b.scaled p 2 (if b.classOf p = 2 then b.vfsIn p else b.vfsOut p)

/-- The feedback voltage a phase gives its group (R167, R244). -/
def fbVolts (b : Block) (p : Nat) : Int := if b.classOf p = 1 then b.busVolts p else b.ownVolts p

/-! ### Duty, down-slope and the command words (R164, R165) -/

/-- Duty in 2^-30 and m2 × T_sw in nA; `charge` is DIR = 1. The third is whether the duty comes from a positive V_BUS. -/
def dutySlope (b : Block) (p : Nat) (charge : Bool) : Int × Int × Bool :=
  let tsw : Int := b.tickPs / max 1 (b.rd (Obj.PortRecord.SwitchMult p))
  let l : Int := 100 * b.headReg p 0x30
  let bus := b.busVolts p
  let own := b.ownVolts p
  let one : Int := 2 ^ 30
  let m2 (v : Int) : Int := max 0 (roundDiv (v * tsw) l)
  let dmax : Int := b.headReg p 0x34 * 2 ^ 14
  let d :=
    match b.classOf p with
    | 2 => roundDiv (own * b.headReg p 0x31 * one) (256 * bus)
    | 1 => one - roundDiv (own.natAbs * one) bus
    | _ => if charge then roundDiv (own * one) bus else one - roundDiv (own * one) bus
  let m := m2 (match b.classOf p with
    | 2 => own
    | 1 => bus - own.natAbs
    | _ => if charge then own else bus - own)
  if 0 < bus then (clampI 0 dmax d, m, true) else (clampI 0 dmax (b.port p).lastD, m, false)

/-- The command words of a switching phase for a current reference in nA (R131, R165), and the port with its duty kept. -/
def switchWords (b : Block) (p mode offset : Nat) (iref : Int) (charge : Bool) (ival : Nat) : List Nat × Block :=
  let g := b.groupOf p
  let (d, m, good) := b.dutySlope p charge
  let fs : Int := b.ifsNa p
  let slope := roundDiv (b.rd (Obj.GroupRecord.SlopeFactor g) * m) 1024
  let ipk := iref + roundDiv (slope * d) (2 ^ 30) + roundDiv (m * (2 ^ 30 - d)) (2 ^ 31)
  let top : Int := 9 * b.headReg p 0x0C / 10
  let ref := clampI 0 top (roundDiv (ipk * 65536) fs)
  let sl := clampI 0 0xFFFF (roundDiv (slope * 65536) fs)
  let b := if good then b.modPort p (fun x => { x with lastD := d }) else b
  ([mode * 4096 + offset % 4096, ref.toNat, sl.toNat, if b.classOf p = 3 then b2n charge * 32768 else ival], b)

/-- The words of a phase that does not switch. -/
def idleWords (b : Block) (p mode : Nat) (charge : Bool) : List Nat :=
  [mode * 4096 + (b.port p).cmd.getD 0 0 % 4096, 0, 0, if b.classOf p = 3 then b2n charge * 32768 else 0]

/-- The MODE of a port in the state of the tick. -/
def mode (b : Block) (p : Nat) : Nat := (b.port p).cmd.getD 0 0 / 4096

/-- The phase switches: RUN or SOFT. -/
def switching (b : Block) (p : Nat) : Bool := b.mode p == mdRUN || b.mode p == mdSOFT

/-- The next tick's command words of a port. -/
def setWords (b : Block) (p : Nat) (w : List Nat) : Block := b.modPort p (fun x => { x with cmdN := w })

/-- A phase that stops switching: MODE OFF forgets the duty estimate (R164). -/
def offPhase (b : Block) (p : Nat) : Block := b.modPort p (fun x => { x with cmdN := [0, 0, 0, 0], lastD := 0, armed := [] })

/-- IVAL_MIN of a CNV phase that switches (R131, R187). -/
def ivalMin (b : Block) (p : Nat) : Nat :=
  if b.classOf p = 2 then ofI 16 (clampI (-32768) 32767 (roundDiv (b.rdI 32 (Obj.GroupRecord.SoftValley (b.groupOf p)) * 10 ^ 6 * 32768) (b.ifsNa p)))
  else 0

/-! ### Interleave (R175, R217) -/

/-- The interleave set of a phase: its group, for a REC phase the phases on its line. -/
def setKey (b : Block) (p : Nat) : Nat := if b.classOf p = 1 then b.rd (Obj.PortRecord.MainsLine p) else 0x100 + b.groupOf p

/-- The target offset of a phase among the switching phases `run` (in port order). -/
def targetOffset (b : Block) (run : List Nat) (p : Nat) : Nat :=
  let l := run.filter (fun q => b.setKey q == b.setKey p)
  let r := (l.filter (fun q => decide (q < p))).length
  roundDivN (4096 * r) l.length % 4096

/-- A switching phase moves at most 512 units towards its target, forward at exactly half a turn; others take it at once. -/
def nextOffset (b : Block) (run : List Nat) (p : Nat) : Nat :=
  let t := b.targetOffset run p
  if !b.switching p then t
  else
    let o := (b.port p).cmd.getD 0 0 % 4096
    let d := (t + 4096 - o) % 4096
    if d ≤ 2048 then (o + min d 512) % 4096 else (o + 4096 - min (4096 - d) 512) % 4096

/-! ### Units (R217, R290) -/

/-- The feed a REC port draws from (R216). -/
def recFeed (b : Block) (p : Nat) : Nat := b.rd (Obj.PortRecord.MainsLine p) / 16

/-- The REC ports of one line of one feed, in port order. -/
def lineRecs (b : Block) (f x : Nat) : List Nat :=
  allPorts.filter (fun p => b.classOf p == 1 && b.rd (Obj.PortRecord.MainsLine p) == f * 16 + x)

/-- The units of a group (R290): single phases, and triples on a three-phase feed of a REC group. -/
def units (b : Block) (g : Nat) : List (List Nat) :=
  if b.groupClass g = 1 then
    [0, 1].flatMap (fun f =>
      if b.rd (Obj.MainsFeed.Phases f) = 3 then
        (((b.lineRecs f 1).zip ((b.lineRecs f 2).zip (b.lineRecs f 3))).map (fun t => [t.1, t.2.1, t.2.2])).filter
          (fun u => u.any (fun p => b.groupOf p == g))
      else (b.lineRecs f 1).filter (fun p => b.groupOf p == g) |>.map (fun p => [p]))
  else (b.groupPorts g).map (fun p => [p])

/-- The lowest port of a unit. -/
def unitPort (u : List Nat) : Nat := u.foldl min (u.headD 0)

/-- A unit's rating in nA. -/
def unitRating (b : Block) (g : Nat) (u : List Nat) : Nat := u.length * b.rd (Obj.GroupRecord.PhaseCurrentRating g) * 10 ^ 6

/-- The sum of a unit's RunCycles (R178, R219). -/
def unitCycles (b : Block) (u : List Nat) : Nat := (u.map (fun p => b.rd (Obj.PortRecord.RunCycles p))).sum

/-- A unit's condition (R291): 0 out, 1 available, 2 held. -/
def unitCond (b : Block) (u : List Nat) : Nat :=
  let st := b.portState
  if u.any (fun p => [psOFF, psABSENT, psTRAINING, psMISMATCH, psFAILED].contains (st p)) then 0
  else if u.all (fun p => (st p == psADMITTED || st p == psIN_SERVICE) && !b.headSafe p) then 1 else 2

/-- A unit's role (R292): 0 none, 1 member, 2 spare, 3 out. -/
def unitRole (b : Block) (u : List Nat) : Nat := b.rd (Obj.PortRecord.Role (unitPort u))
def setRole (b : Block) (u : List Nat) (r : Nat) : Block := u.foldl (fun b p => b.wr (Obj.PortRecord.Role p) r) b

/-- All ports of a unit are in service. -/
def unitServes (b : Block) (u : List Nat) : Bool := u.all (fun p => b.portState p == psIN_SERVICE && (b.port p).offUntil.isNone)

/-- A unit is available to thinning (R178, R218, R219, R292). -/
def unitUsable (b : Block) (g : Nat) (u : List Nat) : Bool :=
  b.unitServes u && b.unitCond u == 1 && b.unitRole u == 1 &&
    (b.groupClass g != 1 || decide (mfAVAILABLE ≤ b.mainsState (b.recFeed (unitPort u))))

/-- The feedback voltage of a group (R167): the loop owner's sample, else the lowest fresh phase's; `none` where no phase is fresh. -/
def feedback (b : Block) (g : Nat) : Option Int :=
  ((b.groupPorts g).find? (fun p => b.portState p == psIN_SERVICE && b.fresh p)).map b.fbVolts

/-- The loop owner (R25): the lowest-numbered phase in service. -/
def loopOwner (b : Block) (g : Nat) : Option Nat := (b.groupPorts g).find? (fun p => b.portState p == psIN_SERVICE)

/-- The REC group (R217): the group of the first REC port. -/
def recGroup (b : Block) : Option Nat := (allPorts.find? (fun p => b.classOf p == 1)).map b.groupOf

/-- A port enters service in the state of the next tick. -/
def serveN (b : Block) (p : Nat) : Block :=
  { b.wrN (Obj.PortRecord.PortState p) psIN_SERVICE with glade := { b.glade with everInService := true } }

/-- RunCycles is floor(ticks / N_t) (R188). -/
def showRunCycles (b : Block) (p : Nat) : Block :=
  let v := min ((b.port p).runTicks / b.glade.nt) 0xFFFFFFFF
  if v = b.rd (Obj.PortRecord.RunCycles p) then b else b.wr (Obj.PortRecord.RunCycles p) v

/-- The sums of a cycle take in the state of a tick (R169, R172, R255). -/
def sumTick (b : Block) (p : Nat) : Block :=
  if !b.isPhase p then b
  else
    let i := b.phaseCurrent p
    let fr := b.fresh p
    let run := b.mode p == mdRUN
    b.modPort p (fun x => { x with
      runTicks := if b.switching p then x.runTicks + 1 else x.runTicks
      acc := { x.acc with
        iAll := x.acc.iAll + i, ticks := x.acc.ticks + 1
        iFresh := if fr then x.acc.iFresh + i else x.acc.iFresh
        v := if fr then x.acc.v + b.fbVolts p else x.acc.v
        fresh := if fr then x.acc.fresh + 1 else x.acc.fresh
        full := x.acc.full && fr && run } })
      |>.showRunCycles p

end Block

end Sys2Proof.Machine
end

