-- ==== Sys2Proof/Machine/Capacity.lean ====
section
/-! DEFINITION. Capacity (chapter 10) in every tick: roles, supply states, limits, spares brought in, contingency allocations. -/

namespace Sys2Proof.Machine

/-- Supply states (R293). -/
def ssUNUSED : Nat := 0
def ssCOVERED : Nat := 1
def ssNO_SPARE : Nat := 2
def ssSHORT : Nat := 3
def ssBELOW_MIN : Nat := 4

/-- Cap states (R302). -/
def csNONE : Nat := 0
def csUNCAPPED : Nat := 1
def csCAPPED : Nat := 2
def csBELOW_FLOOR : Nat := 3
def csSHUT : Nat := 4

/-- Unit roles (R292). -/
def rlMEMBER : Nat := 1
def rlSPARE : Nat := 2
def rlOUT : Nat := 3

namespace Block

/-! ### Caps (R302, R306) -/

/-- A feed takes part in allocation (R299): WAIT_INPUT, CLOSING, CLOSED or NO_LINK. -/
def takesPart (b : Block) (f : Nat) : Bool := [2, 3, 4, 8].contains (b.rd (Obj.FeedRecord.State f))

/-- The Setpoint of a feed's group, mV. -/
def feedSetpoint (b : Block) (f : Nat) : Nat := ((b.feedGroup f).map (fun g => b.rd (Obj.GroupRecord.Setpoint g))).getD 0

/-- The CapState of an allocation a against a request q and a floor (R302). -/
def capState (a q floor : Nat) : Nat :=
  if a = q then csUNCAPPED else if floor ≤ a ∧ 0 < a then csCAPPED else if 0 < a then csBELOW_FLOOR else csSHUT

/-- The cap current of an allocation, mA; 0xFFFFFFFF for none (R302). -/
def capCurrent (a state setpoint : Nat) : Nat :=
  if state = csCAPPED ∨ state = csBELOW_FLOOR then roundDivN (a * 10 ^ 6) setpoint else 0xFFFFFFFF

/-- An allocation comes into force for a feed in the next tick. -/
def putAllocation (b : Block) (f a state : Nat) : Block :=
  let b := ((b.wrN (Obj.FeedRecord.Allocation f) a).wrN (Obj.FeedRecord.CapState f) state).wrN (Obj.FeedRecord.CapCurrent f)
    (capCurrent a state (b.feedSetpoint f))
  b.condition Src.FEED_FLOOR_BREACH f (state == csBELOW_FLOOR || state == csSHUT) [a]

/-- An event of R306 on a feed: counted, recorded, and an alert where NotifyMask has its bit. -/
def capNotice (b : Block) (f bit old new : Nat) : Block :=
  if bitOf (b.rd (Obj.FeedRecord.NotifyMask f)) bit then
    let b := (b.bump (Obj.FeedRecord.CapNotices f)).report Src.FEED_CAP_NOTICE f [old, new]
    { b with events := b.events ++ [(1, f, bit)] }
  else b

/-- The contingency allocations of a group come into force (R297, R303); a loss that follows in the same cycle scales the caps. -/
def contingency (b : Block) (g : Nat) : Block :=
  let b := ((b.groupFeeds g).filter b.takesPart).foldl (fun b f =>
    let a := b.rd (Obj.FeedRecord.ContingencyAllocation f)
    let old := b.rd (Obj.FeedRecord.Allocation f)
    (b.putAllocation f a (capState a (b.rd (Obj.FeedRecord.Request f)) (b.rd (Obj.FeedRecord.Floor f)))).capNotice f 5 old a) b
  b.setGroup g { b.group g with shortAt := some b.glade.cycles }

/-- Caps in force among a group's feeds scaled by RatedLimit after a loss over before (R297). -/
def scaleCaps (b : Block) (g after before : Nat) : Block :=
  ((b.groupFeeds g).filter (fun f => b.rdN (Obj.FeedRecord.CapCurrent f) != 0xFFFFFFFF)).foldl (fun b f =>
    b.wrN (Obj.FeedRecord.CapCurrent f) (roundDivN (b.rdN (Obj.FeedRecord.CapCurrent f) * after) before)) b

/-! ### Roles and spares (R292, R295, R296) -/

/-- The group has warm spares; a REC group always (R292). -/
def warm (b : Block) (g : Nat) : Bool := b.rd (Obj.GroupRecord.SpareMode g) == 1 || b.groupClass g == 1

/-- Insertion by lowest port. -/
def insertUnit (u : List Nat) : List (List Nat) → List (List Nat)
  | [] => [u]
  | v :: r => if unitPort u ≤ unitPort v then u :: v :: r else v :: insertUnit u r

/-- Units in ascending order of their lowest ports. -/
def byPort (l : List (List Nat)) : List (List Nat) := l.foldl (fun s u => insertUnit u s) []

/-- The roles a start assigns (R292). -/
def assignRoles (b : Block) (g : Nat) : Block :=
  let us := byPort (b.units g)
  let ok := us.filter (fun u => b.unitCond u != 0)
  let n := if b.warm g then ok.length else b.rd (Obj.GroupRecord.RequiredPhases g)
  let b := (us.filter (fun u => b.unitCond u == 0)).foldl (fun b u => b.setRole u rlOUT) b
  let b := (ok.take n).foldl (fun b u => b.setRole u rlMEMBER) b
  (ok.drop n).foldl (fun b u => b.setRole u rlSPARE) b

/-- The unit that comes first by RunCycles, then by port (R178, R295). -/
def leastRun (b : Block) (l : List (List Nat)) : Option (List Nat) :=
  (byPort l).foldl (fun best u =>
    match best with
    | none => some u
    | some v => if b.unitCycles u < b.unitCycles v then some u else best) none

/-- The unit that comes last by RunCycles, then by port (R178). -/
def mostRun (b : Block) (l : List (List Nat)) : Option (List Nat) :=
  (byPort l).foldl (fun best u =>
    match best with
    | none => some u
    | some v => if b.unitCycles v ≤ b.unitCycles u then some u else best) none

/-- A unit is brought in as a member: its LATCH_RESET fires in the next tick (R295). -/
def bringIn (b : Block) (g : Nat) (u : List Nat) : Block :=
  let b := b.setRole u rlMEMBER
  let b := b.setGroup g { b.group g with bringing := (b.group g).bringing ++ [unitPort u] }
  u.foldl (fun b p => b.fireShot p osLATCH_RESET) b

/-- One member is replaced by a spare, where there is one that is not out (R295, assumption 71). -/
def replaceOne (b : Block) (g lost : Nat) : Block :=
  match b.leastRun ((b.units g).filter (fun u => b.unitRole u == rlSPARE && b.unitCond u != 0)) with
  | none => b
  | some u => ((b.bringIn g u).bump (Obj.GroupRecord.SpareUsedCount g)).report Src.SPARE_USED g [lost, unitPort u]

/-- The confirmation of a unit being brought in is in the state, or it has failed (R295). -/
def bringStep (b : Block) (g : Nat) (u : List Nat) : Block :=
  let res := u.map (fun p => (b.port p).result)
  let done := res.all (fun r => match r with | some (2, _) => true | _ => false)
  if !done then b
  else
    let x := b.group g
    let b := b.setGroup g { x with bringing := x.bringing.filter (· != unitPort u) }
    if res.all (· == some (2, 0)) && u.all (fun p => !b.headSafe p) then
      u.foldl (fun b p => (b.serveN p).setWords p (b.idleWords p mdSHED false)) b
    else
      let b := u.foldl (fun b p => b.report Src.SPARE_FAILED p) (b.setRole u rlOUT)
      let b := b.setGroup g { b.group g with spent := unitPort u :: (b.group g).spent }
      if b.warm g then b else b.setGroup g { b.group g with owed := (b.group g).owed + 1 }

/-- The number of a group's units that are not out, and of its members that serve (R293). -/
def unitsOk (b : Block) (g : Nat) : Nat := ((b.units g).filter (fun u => b.unitCond u != 0)).length
def membersServing (b : Block) (g : Nat) : Nat :=
  ((b.units g).filter (fun u => b.unitRole u == rlMEMBER && b.unitCond u == 1 && b.unitServes u)).length

/-- Units that have come or gone while the group runs (R292, R295, R296). -/
def roleStep (b : Block) (g : Nat) : Block :=
  let us := byPort (b.units g)
  let cold := !b.warm g
  let owed := (b.group g).owed
  let lost := us.filter (fun u => b.unitCond u == 0 && b.unitRole u == rlMEMBER)
  let back := us.filter (fun u => b.unitCond u != 0 && b.unitRole u == rlOUT && !(b.group g).spent.contains (unitPort u))
  let b := (us.filter (fun u => b.unitCond u == 0 && b.unitRole u != 0)).foldl (fun b u =>
    let x := b.group g
    (b.setRole u rlOUT).setGroup g { x with
      bringing := x.bringing.filter (· != unitPort u), spent := x.spent.filter (· != unitPort u) }) b
  let b := b.setGroup g { b.group g with owed := 0 }
  let b := if cold then (lost.map unitPort ++ List.replicate owed 0xFFFF).foldl (fun b p => b.replaceOne g p) b else b
  back.foldl (fun b u =>
    if cold ∧ b.rd (Obj.GroupRecord.RequiredPhases g) ≤ b.membersServing g + (b.group g).bringing.length then b.setRole u rlSPARE
    else b.bringIn g u) b

/-- The state a supply count gives (R293). -/
def supplyState (b : Block) (g : Nat) : Nat :=
  let n := b.unitsOk g
  let req := b.rd (Obj.GroupRecord.RequiredPhases g)
  if (b.units g).isEmpty then ssUNUSED
  else if req < n then ssCOVERED
  else if n = req then ssNO_SPARE
  else if b.rd (Obj.GroupRecord.MinPhases g) ≤ n then ssSHORT
  else ssBELOW_MIN

/-- Insertion into a rising list of numbers. -/
def insertNat (x : Nat) : List Nat → List Nat
  | [] => [x]
  | y :: r => if x ≤ y then x :: y :: r else y :: insertNat x r

/-- The sum of the n lowest ratings of some units, mA (R294). -/
def lowestRatings (b : Block) (g n : Nat) (us : List (List Nat)) : Nat :=
  ((us.foldl (fun l u => insertNat (u.length * b.rd (Obj.GroupRecord.PhaseCurrentRating g)) l) []).take n).sum

/-- RatedLimit and AllocLimit, mA (R294). -/
def ratedLimit (b : Block) (g : Nat) : Nat :=
  let us := (b.units g).filter (fun u => b.unitRole u == rlMEMBER && b.unitCond u == 1 && b.unitServes u)
  b.lowestRatings g (min us.length (b.rd (Obj.GroupRecord.RequiredPhases g))) us * b.rd (Obj.GroupRecord.Derate g) / 1024
def allocLimit (b : Block) (g : Nat) : Nat :=
  let r := b.rd Obj.CappingConfig.RackInputLimit
  let v := b.rd (Obj.GroupRecord.Setpoint g)
  if b.groupClass g ≠ 1 ∨ r = 0 ∨ v = 0 then 0xFFFFFFFF else min (r * 10 ^ 6 / v) 0xFFFFFFFF

/-- GROUP_SHORT with the contingency allocations (R297). -/
def raiseShort (b : Block) (g : Nat) : Block :=
  ((b.setGroup g { b.group g with short := true }).condition Src.GROUP_SHORT g true [b.unitsOk g]).contingency g

/-- A group's supply in one tick (R293–R298), into the state of the next. -/
def supplyTick (b : Block) (g : Nat) : Block :=
  let st := b.groupState g
  let active := st == gsSTARTING || st == gsRUNNING
  let b := if active then
      let b := ((b.units g).filter (fun u => (b.group g).bringing.contains (unitPort u))).foldl (fun b u => b.bringStep g u) b
      b.roleStep g
    else b
  let old := b.rd (Obj.GroupRecord.SupplyState g)
  let was := b.rd (Obj.GroupRecord.UnitsOk g)
  let n := b.unitsOk g
  let new := b.supplyState g
  let rated := b.ratedLimit g
  let before := b.rd (Obj.GroupRecord.RatedLimit g)
  let b := b.wrs [(Obj.GroupRecord.SupplyState g, new), (Obj.GroupRecord.UnitsOk g, n),
    (Obj.GroupRecord.SparesLeft g, n - b.rd (Obj.GroupRecord.RequiredPhases g))]
  let b := ((b.wrN (Obj.GroupRecord.RatedLimit g) rated).wrN (Obj.GroupRecord.AllocLimit g) (b.allocLimit g)).wrN
    (Obj.GroupRecord.CurrentLimit g) (min rated (b.allocLimit g))
  let b := if active ∧ new = ssSHORT ∧ old ≠ ssSHORT then b.raiseShort g
    else if active ∧ new = ssSHORT ∧ n < was ∧ (b.group g).shortAt = some b.glade.cycles then b.scaleCaps g rated before
    else b
  let b := if new = ssSHORT then b else b.condition Src.GROUP_SHORT g false
  let b := if (new = ssCOVERED ∨ new = ssNO_SPARE) ∧ (b.group g).short then
      (b.setGroup g { b.group g with short := false }).report Src.GROUP_RESTORED g
    else b
  let b := if st = gsRUNNING ∧ new = ssBELOW_MIN ∧ old ≠ ssBELOW_MIN then
      (b.condition Src.GROUP_BELOW_MIN g true [n]).setGroup g { b.group g with emptying := max 1 (b.group g).emptying }
    else b
  if new = ssBELOW_MIN ∧ st = gsRUNNING then b else b.condition Src.GROUP_BELOW_MIN g false

end Block

end Sys2Proof.Machine
end

