-- ==== Sys2Proof/Machine/Control.lean ====
section
/-! DEFINITION. Converter control (chapter 5, with the shaping of chapter 7 and the differences of chapter 8): the group voltage law,
thinning, the phase commands, start and stop of a group. -/

namespace Sys2Proof.Machine

/-- The group law (R168): V_eff and V_fb in µV, I_int and I_max in nA, T in ps; the command and the new integrator. -/
def groupLaw (kp ki t : Nat) (veff vfb iint imax : Int) (ov : Bool) : Int × Int :=
  if ov then (0, 0)
  else
    let e := veff - vfb
    let ig := clampI 0 imax (iint + kp * e)
    (ig, if (ig = imax ∧ 0 < e) ∨ (ig = 0 ∧ e < 0) then iint else clampI 0 imax (iint + roundDiv (ki * t * e) (10 ^ 9)))

/-- A value moves toward a target by at most a step. -/
def slewTo (v target step : Int) : Int := if v ≤ target then min target (v + step) else max target (v - step)

namespace Block

/-! ### Stop (R183, R612) -/

/-- Every phase of a group receives MODE OFF from the next tick; ports in service become ADMITTED 32 ticks later. -/
def groupOff (b : Block) (g : Nat) : Block :=
  (b.groupPorts g).foldl (fun b p =>
    let serving := b.rdN (Obj.PortRecord.PortState p) == psIN_SERVICE && (b.port p).offUntil.isNone
    let b := b.offPhase p
    if serving then b.modPort p (fun x => { x with offUntil := some (b.glade.ticks + 33) }) else b) b

/-- A group stops, into a state of R180; its string is OFF and out of the support set at once (R183, R246, R251). -/
def groupStop (b : Block) (g state : Nat) : Block :=
  let b := b.groupOff g
  let x := b.group g
  let b := b.setGroup g { x with
    step := 0, phases := [], spares := [], waiting := false, veff := 0, iint := 0, ig := 0, stale := 0, low := 0,
    owed := 0, bringing := [], emptying := 0, short := false, swap := false }
  let b := b.wrs [(Obj.GroupRecord.State g, state), (Obj.GroupRecord.RunPhases g, 0), (Obj.GroupRecord.EffSetpoint g, 0),
    (Obj.GroupRecord.CurrentCommand g, 0), (Obj.GroupRecord.Integrator g, 0)]
  let b := ((b.condition Src.GROUP_SENSE_LOST g false).condition Src.GROUP_OV_WARN g false).condition Src.GROUP_SHORT g false
  let b := b.condition Src.GROUP_OV g (state == gsOV_LATCHED)
  let b := match b.groupString g with
    | some n => (b.setBat n { b.bat n with support := false }).wr (Obj.StringRecord.Mode n) smOFF
    | none => b
  if b.groupClass g == 1 && (b.holdupState == huMAINS || b.holdupState == huWALK_IN) then b.wr Obj.HoldupStatus.State huSTOPPED else b

/-- A start fails (R181, R182, R236). -/
def startFail (b : Block) (g src : Nat) : Block :=
  let b := b.groupStop g gsSTOPPED
  let b := b.wr (Obj.GroupRecord.LastStartResult g) (if src = Src.PREBIAS_HIGH then 3 else 2)
  (b.setGroup g { b.group g with result := 2 }).report src g

/-! ### Start (R181) -/

/-- The value of OVP_LEVEL that a group's configuration calls for (R187). -/
def ovpCode (b : Block) (g p : Nat) : Nat := min (roundDivN (b.rd (Obj.GroupRecord.OvpLevel g) * 32768 * 1000) (b.vfsOut p)) 0xFFFF

/-- The registers of a phase that a start sets (R181 step 2). -/
def startRegs (b : Block) (g p : Nat) : List (Nat × Nat) :=
  [(0x11, b.rd (Obj.PortRecord.SwitchMult p)), (0x34, 0xF000), (0x35, b.ovpCode g p)]

/-- The registers that differ. -/
def regsWrong (b : Block) (g p : Nat) : List (Nat × Nat) := (b.startRegs g p).filter (fun r => b.headReg p r.1 != r.2)

/-- Step 1 of a start: roles, LATCH_RESET to each phase (R181, R292). -/
def startStep1 (b : Block) (g : Nat) : Block :=
  let b := b.assignRoles g
  let us := byPort (b.units g)
  let phases := (us.filter (fun u => b.unitRole u == rlMEMBER)).flatten
  let spares := (us.filter (fun u => b.unitRole u == rlSPARE)).flatten
  let x := b.group g
  let b := b.setGroup g { x with
    step := 1, startAt := b.glade.cycles, phases, spares, waiting := false, result := 0, prebias := false, veff := 0, iint := 0, ig := 0,
    owed := 0, bringing := [], spent := [], low := 0, stale := 0 }
  let b := (b.wr (Obj.GroupRecord.State g) gsSTARTING).condition Src.GROUP_OV g false
  let b := if b.supplyState g = ssSHORT then b.raiseShort g else b
  phases.foldl (fun b p => b.fireShot p osLATCH_RESET) b

/-- GROUP_START (R181): from STOPPED or OV_LATCHED; it waits while ports still carry their 32 ticks of MODE OFF (R612). -/
def groupStart (b : Block) (g : Nat) : Block :=
  let st := b.groupState g
  if (st ≠ gsSTOPPED ∧ st ≠ gsOV_LATCHED) ∨ (b.groupPorts g).isEmpty ∨ b.inGrave then b
  else if (b.groupPorts g).any (fun p => (b.port p).offUntil.isSome) then
    b.setGroup g { b.group g with waiting := true, result := 0, startAt := b.glade.cycles }
  else b.startStep1 g

/-- A one-shot of this operation has ended on every given port. -/
def shotsDone (b : Block) (op : Nat) (ps : List Nat) : Bool :=
  ps.all (fun p => match (b.port p).result with | some (o, _) => o == op | none => false)

/-- It was done on every given port. -/
def shotsOk (b : Block) (op : Nat) (ps : List Nat) : Bool := ps.all (fun p => (b.port p).result == some (op, 0))

/-- Step 3: ZERO_CAL to each phase and spare. -/
def startStep3 (b : Block) (g : Nat) : Block :=
  let x := b.group g
  (x.phases ++ x.spares).foldl (fun b p => b.fireShot p osZERO_CAL) (b.setGroup g { x with step := 3 })

/-- Step 2: the register writes that are needed; none needed, step 3 begins in the same tick. -/
def startStep2 (b : Block) (g : Nat) : Block :=
  let x := b.group g
  let b := b.setGroup g { x with step := 2 }
  let b := (x.phases ++ x.spares).foldl (fun b p => (b.regsWrong g p).foldl (fun b r => b.cfgWrite p r.1 r.2) b) b
  if x.phases.all (fun p => (b.regsWrong g p).isEmpty) then b.startStep3 g else b

/-- Available member units of a start (R181, R290). -/
def startUnits (b : Block) (g : Nat) : Nat :=
  ((b.units g).filter (fun u => u.all (fun p => (b.group g).phases.contains p) && b.unitCond u == 1)).length

/-- The REC group enters RUNNING: the bus is on the mains (R227). -/
def groupRunning (b : Block) (g : Nat) : Block :=
  let b := b.wrs [(Obj.GroupRecord.State g, gsRUNNING), (Obj.GroupRecord.LastStartResult g, 1)]
  let b := b.setGroup g { b.group g with step := 0, result := 1 }
  let b := match b.groupString g with
    | some n => b.wr (Obj.StringRecord.Mode n) smREST
    | none => b
  if b.groupClass g == 1 && b.holdupState == huSTOPPED then b.wr Obj.HoldupStatus.State huMAINS else b

/-- GROUP_START_ADVANCE (R181): the step in progress is complete for every phase, and the next begins. -/
def startAdvance (b : Block) (g : Nat) : Block :=
  let x := b.group g
  if b.groupState g ≠ gsSTARTING then b
  else match x.step with
    | 1 =>
      if !b.shotsDone osLATCH_RESET x.phases then b
      else if !b.shotsOk osLATCH_RESET x.phases then b.startFail g Src.GROUP_START_FAIL
      else
        let safe := x.phases.filter (fun p => bitOf (b.rdN (Obj.PortRecord.HeadStatus p)) 7)
        let b := safe.foldl (fun b p => b.report Src.PHASE_START_EXCLUDED p) b
        let b := b.setGroup g { x with phases := x.phases.filter (fun p => !safe.contains p) }
        let left := ((b.units g).filter (fun u => u.all (fun p => (b.group g).phases.contains p) && b.unitCond u != 0)).length
        if left < b.rd (Obj.GroupRecord.MinPhases g) ∨ left = 0 then b.startFail g Src.GROUP_START_FAIL
        else b.startStep2 g
    | 2 =>
      if x.phases.any (fun p => (b.port p).cfg.any (fun c => c.write)) then b
      else if x.phases.all (fun p => (b.regsWrong g p).isEmpty) then b.startStep3 g
      else b.startFail g Src.GROUP_START_FAIL
    | 3 =>
      if !b.shotsDone osZERO_CAL x.phases then b
      else if !b.shotsOk osZERO_CAL x.phases then b.startFail g Src.GROUP_START_FAIL
      else (x.phases ++ x.spares).foldl (fun b p => b.cfgRead p 0x36) (b.setGroup g { x with step := 4 })
    | 5 =>
      let sp : Int := b.rd (Obj.GroupRecord.Setpoint g) * 1000
      if b.groupClass g = 3 ∨ (x.veff = sp ∧ x.stale = 0 ∧ (x.fb - sp).natAbs * 50 ≤ sp.natAbs) then b.groupRunning g else b
    | _ => b

/-- GROUP_START_TIMEOUT (R181, R182): step 6 has not been reached within StartTimeout cycles. -/
def startTimeout (b : Block) (g : Nat) : Block :=
  let x := b.group g
  if b.groupState g = gsSTARTING ∧ x.startAt + b.rd (Obj.GroupRecord.StartTimeout g) ≤ b.glade.cycles then
    b.startFail g (if x.prebias then Src.PREBIAS_HIGH else Src.GROUP_START_FAIL)
  else b

/-- PORT_ADMIT_AFTER_OFF (R612). -/
def admitAfterOff (b : Block) (p : Nat) : Block :=
  match (b.port p).offUntil with
  | some t =>
    if t ≤ b.glade.ticks + 1 then
      let b := b.modPort p (fun x => { x with offUntil := none })
      if b.portState p = psIN_SERVICE then b.setPortState p psADMITTED else b
    else b
  | none => b

/-! ### Thinning (R176–R179, R219) -/

/-- The rating of a group's first unit, nA: I_ph of the thinning rules (R179, R217). -/
def thinRating (b : Block) (g : Nat) : Nat := ((b.units g).head?.map (b.unitRating g)).getD 0

/-- Running units of each mains feed. -/
def onFeed (b : Block) (f : Nat) (l : List (List Nat)) : List (List Nat) := l.filter (fun u => b.recFeed (unitPort u) == f)

/-- The feed an add takes from first (R219); both feeds in order. -/
def addOrder (b : Block) (run : List (List Nat)) : List Nat :=
  let n0 := (b.onFeed 0 run).length
  let n1 := (b.onFeed 1 run).length
  let c0 := ((b.onFeed 0 run).map b.unitCycles).sum
  let c1 := ((b.onFeed 1 run).map b.unitCycles).sum
  match b.rd Obj.MainsConfig.FeedMode with
  | 1 => [0, 1]
  | 2 => [1, 0]
  | _ => if n0 < n1 ∨ (n0 = n1 ∧ c0 ≤ c1) then [0, 1] else [1, 0]

/-- The feed a shed takes from first. -/
def shedOrder (b : Block) (run : List (List Nat)) : List Nat :=
  let n0 := (b.onFeed 0 run).length
  let n1 := (b.onFeed 1 run).length
  let c0 := ((b.onFeed 0 run).map b.unitCycles).sum
  let c1 := ((b.onFeed 1 run).map b.unitCycles).sum
  match b.rd Obj.MainsConfig.FeedMode with
  | 1 => [1, 0]
  | 2 => [0, 1]
  | _ => if n1 < n0 ∨ (n0 = n1 ∧ c1 < c0) then [0, 1] else [1, 0]

/-- The unit an add takes (R178, R219). -/
def pickAdd (b : Block) (g : Nat) (run cands : List (List Nat)) : Option (List Nat) :=
  if b.groupClass g = 1 then (b.addOrder run).findSome? (fun f => b.leastRun (b.onFeed f cands)) else b.leastRun cands

/-- The unit a shed takes. -/
def pickShed (b : Block) (g : Nat) (run : List (List Nat)) : Option (List Nat) :=
  if b.groupClass g = 1 then (b.shedOrder run).findSome? (fun f => b.mostRun (b.onFeed f run)) else b.mostRun run

/-- Adds, at most n, as many as are available. -/
def addUnits (b : Block) (g : Nat) : Nat → List (List Nat) → List (List Nat) → List (List Nat) × List (List Nat)
  | 0, run, _ => (run, [])
  | n + 1, run, cands =>
    match b.pickAdd g run cands with
    | none => (run, [])
    | some u =>
      let r := b.addUnits g n (run ++ [u]) (cands.filter (· != u))
      (r.1, u :: r.2)

/-- A unit added or shed is recorded and counted (R178). -/
def thinRecord (b : Block) (g src : Nat) (u : List Nat) : Block := (b.bump (Obj.GroupRecord.ThinEvents g)).report src g [unitPort u]

/-- Thinning of a RUNNING group for a command in nA: the units that switch in the next tick. -/
def thin (b : Block) (g : Nat) (ig : Int) (minRun : Nat) : List (List Nat) × Block :=
  let us := b.units g
  let ok := us.filter (b.unitUsable g)
  let run := ok.filter (fun u => u.all b.switching)
  let iph := b.thinRating g
  let need := max minRun (ceilDiv (ig.toNat * 1024) (iph * b.rd (Obj.GroupRecord.AddFraction g)))
  let (run', added) := b.addUnits g (need - run.length) run (ok.filter (fun u => !u.all b.switching))
  let b := added.foldl (fun b u => b.thinRecord g Src.THIN_ADD u) b
  let x := b.group g
  let due := added.isEmpty && decide (minRun < run.length) &&
    decide (ig.toNat * 1024 < (run.length - 1) * iph * b.rd (Obj.GroupRecord.ShedFraction g))
  (run', b.setGroup g { x with low := if due then x.low + 1 else 0 })

/-- One running unit of the other mains feed gives way to one of the preferred feed (R219). -/
def swapUnit (b : Block) (g : Nat) (run : List (List Nat)) : List (List Nat) × Block :=
  if !(b.group g).swap then (run, b)
  else
    let b := b.setGroup g { b.group g with swap := false }
    let pref := b.rd Obj.MainsConfig.FeedMode - 1
    match b.mostRun (b.onFeed (1 - pref) run),
      b.leastRun (b.onFeed pref ((b.units g).filter (fun u => b.unitUsable g u && !run.contains u))) with
    | some u, some w => (run.filter (· != u) ++ [w], (b.thinRecord g Src.THIN_SHED u).thinRecord g Src.THIN_ADD w)
    | _, _ => (run, b)

/-! ### References (R173, R222) -/

/-- The mean of the trims over the switching phases, in nA. -/
def trimMean (b : Block) (run : List Nat) : Int :=
  roundDiv ((run.map (fun p => (b.port p).trim * 1000)).sum) run.length

/-- The peak of the nominal line voltage, µV (R222). -/
def nominalPeak (b : Block) : Nat := isqrt (2 * (b.rd Obj.MainsConfig.NominalVoltage * 1000) ^ 2)

/-- The expected rising-crossing angle of line x (1 to 3) under R49. -/
def lineAngle (b : Block) (x : Nat) : Nat := b.expectedAngle (x - 1) true

/-- The phase error of a mains feed (R221). -/
def feedPhaseError (b : Block) (f : Nat) : Int :=
  let m := b.rdI 32 Obj.GladeStatus.MainsPhaseError
  if b.rd (Obj.MainsFeed.SenseSource f) = 0 ∧ m ≠ -2147483648 then m
  else ((b.holdup.feeds.getD f {}).phase).headD 0

/-- The reference of a switching phase, nA (R173, R222). -/
def phaseRef (b : Block) (g p : Nat) (run : List Nat) (ig vfb : Int) : Int :=
  let share := (b.port p).trim * 1000 - b.trimMean run
  if b.groupClass g ≠ 1 then roundDiv ig run.length + share
  else
    let f := b.recFeed p
    let x := b.rd (Obj.PortRecord.MainsLine p) % 16
    let nt := b.glade.nt
    let k := b.glade.tick + 1
    let a := if k < nt then tickStart nt k else 0
    let theta := ofI 32 (a + (2 ^ 31 / nt : Nat) + b.feedPhaseError f - (b.lineAngle x : Nat))
    let floor : Nat := b.rd Obj.MainsConfig.LossLevel * b.nominalPeak / 1024
    let peak : Int := max (((b.holdup.feeds.getD f {}).peak).getD (x - 1) 0) floor
    let amp := roundDiv (2 * ig * vfb) (run.length * peak)
    max 0 (roundDiv (amp * (sinTurn theta).natAbs) (2 ^ 30) + share)

/-! ### The commands of a group's phases -/

/-- The phases of a group in service in the next tick. -/
def servingN (b : Block) (g : Nat) : List Nat :=
  (b.groupPorts g).filter (fun p => b.rdN (Obj.PortRecord.PortState p) == psIN_SERVICE && (b.port p).offUntil.isNone)

/-- Every phase in service gets its words: the switching ones their reference, the others SHED. -/
def writePhases (b : Block) (g : Nat) (run : List Nat) (md : Nat) (ig vfb : Int) (charge : Bool) : Block :=
  let offs := run.map (fun p => (p, b.nextOffset run p))
  let b := (b.servingN g).foldl (fun b p =>
    match offs.find? (fun o => o.1 == p) with
    | some o =>
      let r := b.switchWords p md o.2 (b.phaseRef g p run ig vfb) charge (b.ivalMin p)
      r.2.setWords p r.1
    | none => b.setWords p (b.idleWords p mdSHED charge)) b
  b.wrN (Obj.GroupRecord.RunPhases g) run.length

/-- The phases that switch in the next tick. -/
def switchingN (b : Block) (p : Nat) : Bool :=
  let md := (b.port p).cmdN.headD 0 / 4096
  md == mdRUN || md == mdSOFT

/-- The unit that a shed takes of those that switch in the next tick (R178). -/
def shedUnit (b : Block) (g : Nat) : Option (List Nat) :=
  b.pickShed g ((b.units g).filter (fun u => u.all (fun p => (b.servingN g).contains p && b.switchingN p)))

/-- THIN_SHED (R177): every tick of ShedDelay cycles saw a low command and no add. One unit is SHED in the next tick, and the others carry
its share from that tick. -/
def thinShed (b : Block) (g : Nat) : Block :=
  let x := b.group g
  if b.groupState g = gsRUNNING ∧ b.rd (Obj.GroupRecord.ShedDelay g) * b.glade.nt ≤ x.low then
    match b.shedUnit g with
    | some u =>
      let left := (b.servingN g).filter (fun p => b.switchingN p && !u.contains p)
      let charge := b.groupClass g == 3
      ((b.setGroup g { x with low := 0 }).thinRecord g Src.THIN_SHED u).writePhases g left (if charge then mdSOFT else mdRUN) x.ig x.fb charge
    | none => b
  else b

/-- The law's values as the group's record shows them in the next tick. -/
def showGroup (b : Block) (g : Nat) : Block :=
  let x := b.group g
  let mil (v : Int) (k : Int) : Int := roundDiv v k
  ((((b.wrN (Obj.GroupRecord.EffSetpoint g) (mil x.veff 1000).toNat).wrNI 32 (Obj.GroupRecord.Feedback g) (mil x.fb 1000)).wrNI 32
    (Obj.GroupRecord.CurrentCommand g) (mil x.ig (10 ^ 6))).wrNI 32 (Obj.GroupRecord.Integrator g) (mil x.iint (10 ^ 6)))

/-- A feed of the mains whose triples run is CARRYING (R226). -/
def feedsCarry (b : Block) (run : List Nat) : Block :=
  [0, 1].foldl (fun b f =>
    if b.mainsState f = mfAVAILABLE ∧ run.any (fun p => b.recFeed p == f) then b.wrN (Obj.MainsFeed.State f) mfCARRYING else b) b

/-! ### The law of each class -/

/-- V_eff of the next tick (R170, R181 step 5). -/
def nextVeff (b : Block) (g : Nat) : Int :=
  let x := b.group g
  let t : Int := b.tickPs
  let sp : Int := b.rd (Obj.GroupRecord.Setpoint g) * 1000
  if b.groupState g = gsSTARTING then
    if sp ≤ x.veff then sp else min sp (x.veff + roundDiv (b.rd (Obj.GroupRecord.SoftStartRate g) * t) (10 ^ 6))
  else slewTo x.veff sp (roundDiv (b.rd (Obj.GroupRecord.SetpointSlew g) * t) (10 ^ 6))

/-- I_max of a CNV or REC group in nA; a REC group's ramps during a walk-in (R168, R234). -/
def lawLimit (b : Block) (g : Nat) : Int :=
  let full : Int := b.rd (Obj.GroupRecord.CurrentLimit g) * 10 ^ 6
  let span := b.rd Obj.MainsConfig.WalkInCycles * b.glade.nt
  if b.groupClass g = 1 ∧ b.holdupState = huWALK_IN ∧ b.holdup.walk < span then full * b.holdup.walk / span else full

/-- Feedback of the tick (R167, R169, R171): the group with its stale count, and the voltage where there is one. -/
def senseStep (b : Block) (g : Nat) : Option Int × Block :=
  match b.feedback g with
  | some v =>
    let b := (b.setGroup g { b.group g with stale := 0, fb := v }).condition Src.GROUP_SENSE_LOST g false
    (some v, b)
  | none => (none, b.setGroup g { b.group g with stale := (b.group g).stale + 1 })

/-- The law of a CNV or REC group in STARTING from step 5 or RUNNING, and its phases' commands (R168–R173). -/
def lawTick (b : Block) (g : Nat) : Block :=
  let (fb, b) := b.senseStep g
  let x := b.group g
  let ovw : Int := b.rd (Obj.GroupRecord.OvWarn g) * 1000
  let (ig, iint, b) := match fb with
    | none => (x.iint, x.iint, b)
    | some v =>
      let ov := decide (ovw < v)
      let r := groupLaw (b.rd (Obj.GroupRecord.Kp g)) (b.rd (Obj.GroupRecord.Ki g)) b.tickPs x.veff v x.iint (b.lawLimit g) ov
      (r.1, r.2, b.condition Src.GROUP_OV_WARN g ov [v])
  let b := b.setGroup g { b.group g with ig, iint, veff := b.nextVeff g }
  let (run, md, b) :=
    if b.groupState g = gsSTARTING then
      ((b.servingN g).filter (fun p => !b.headSafe p && (b.group g).phases.contains p &&
        (b.groupClass g != 1 || decide (mfAVAILABLE ≤ b.mainsState (b.recFeed p)))), mdSOFT, b)
    else
      let t := b.thin g ig (b.rd (Obj.GroupRecord.MinRun g))
      let t := t.2.swapUnit g t.1
      (t.1.flatten, mdRUN, t.2)
  let run := (b.groupPorts g).filter run.contains
  let b := if b.groupClass g = 1 then b.feedsCarry run else b
  (b.writePhases g run md ig x.fb false).showGroup g

/-- The REC group during TRANSFER and BATTERY: every phase SHED, integrator and thinning frozen (R230). -/
def recIdle (b : Block) (g : Nat) : Block :=
  let (_, b) := b.senseStep g
  (b.servingN g).foldl (fun b p => b.setWords p (b.idleWords p mdSHED false)) (b.wrN (Obj.GroupRecord.RunPhases g) 0)

/-! ### Support (R228, R230, R250) -/

/-- The strings in the support set of the tick (R228). -/
def supportSet (b : Block) : List Nat := (List.range 16).filter (fun n => (b.bat n).support)

/-- The sum of the bus-side discharge limits over the support set, nA. -/
def supportLimit (b : Block) : Int := (b.supportSet.map (fun n => (b.bat n).limitBus)).sum

/-- A string's share of a bus current: × w_b × V_bus / V_STR (R230). -/
def supportShare (b : Block) (n : Nat) (i vstr : Int) : Int :=
  roundDiv (i * (b.bat n).limitBus * b.holdup.bus) (b.supportLimit * vstr)

/-- The usable phases of a BAT group. -/
def batPhases (b : Block) (g : Nat) : List Nat := ((b.units g).filter (b.unitUsable g)).flatten

/-- The armed command of each phase of a string in the support set, for the next tick (R228). -/
def armPhases (b : Block) (g n : Nat) : Block :=
  let on := (b.bat n).support && (b.holdupState == huMAINS || b.holdupState == huWALK_IN)
  let ps := (b.servingN g).filter (fun p => !b.headSafe p)
  let i := roundDiv ((b.holdup.recIg + b.holdup.isup) * b.rd Obj.MainsConfig.ArmMargin) 1024
  (b.groupPorts g).foldl (fun b p =>
    if on && ps.contains p then
      let iref := roundDiv (b.supportShare n i (b.ownVolts p)) ps.length
      let r := b.switchWords p mdRUN (b.nextOffset ps p) iref false 0
      r.2.modPort p (fun x => { x with armed := r.1 })
    else b.modPort p (fun x => { x with armed := [] })) b

/-- The charge law of R248: V_eff, the clamp and the limit. -/
def chargeTick (b : Block) (g n : Nat) (v : Option Int) : Block :=
  let x := b.group g
  let cells := b.rd (Obj.StringRecord.CellCount n)
  let target : Int := b.rd (Obj.StringRecord.ChargeVoltage n) * cells * 1000
  let stop : Int := b.rd (Obj.StringRecord.ChargeStopVoltage n) * cells * 1000
  let imax : Int := b.rd (Obj.StringRecord.ChargeLimit n) * 10 ^ 6
  let (ig, iint) := match v with
    | none => (x.iint, x.iint)
    | some v => groupLaw (b.rd (Obj.GroupRecord.Kp g)) (b.rd (Obj.GroupRecord.Ki g)) b.tickPs x.veff v x.iint imax (decide (stop < v))
  let veff := slewTo x.veff target (roundDiv (b.rd (Obj.GroupRecord.SetpointSlew g) * b.tickPs) (10 ^ 6))
  let b := b.setGroup g { b.group g with ig, iint, veff }
  let t := b.thin g ig (b.rd (Obj.GroupRecord.MinRun g))
  let run := (t.2.groupPorts g).filter t.1.flatten.contains
  t.2.writePhases g run mdSOFT ig x.fb true

/-- A BAT group in one tick, by the mode of its string (R246). -/
def batTick (b : Block) (g : Nat) : Block :=
  match b.groupString g with
  | none => b
  | some n =>
    let (v, b) := b.senseStep g
    let x := b.group g
    let all := b.batPhases g
    let b := match b.stringMode n with
      | 2 => b.chargeTick g n v
      | 3 =>
        let vstr := match b.loopOwner g with
          | some p => b.ownVolts p
          | none => x.fb
        let ig := b.supportShare n b.holdup.isup vstr
        (b.setGroup g { x with ig }).writePhases g all mdRUN ig x.fb false
      | 4 => (b.setGroup g { x with ig := (b.bat n).testI }).writePhases g all mdRUN (b.bat n).testI x.fb false
      | _ =>
        let b := b.setGroup g { x with ig := 0, iint := 0, veff := x.fb, low := 0 }
        (b.servingN g).foldl (fun b p => b.setWords p (b.idleWords p mdSHED false)) (b.wrN (Obj.GroupRecord.RunPhases g) 0)
    (b.armPhases g n).showGroup g

/-! ### A group in one tick -/

/-- Step 4 of a start (R181, R182, R236, R244). -/
def startStep4 (b : Block) (g : Nat) : Block :=
  let x := b.group g
  let cls := b.groupClass g
  if cls = 1 ∧ ([0, 1].all (fun f => decide (b.mainsState f < mfAVAILABLE))) then b.startFail g Src.MAINS_NOT_QUALIFIED
  else match x.phases.find? b.fresh with
    | none => if cls = 3 then (x.phases.foldl (fun b p => (b.serveN p).setWords p (b.idleWords p mdSHED false)) b).setGroup g { x with step := 5 } else b
    | some p =>
      let b := x.phases.foldl (fun b p => b.serveN p) b
      if cls = 3 then
        (x.phases.foldl (fun b p => b.setWords p (b.idleWords p mdSHED false)) b).setGroup g { x with step := 5 }
      else
        let v := b.fbVolts p
        let sp : Int := b.rd (Obj.GroupRecord.Setpoint g) * 1000
        let b := b.setGroup g { x with step := 5, veff := min v sp, iint := 0, ig := 0, fb := v, prebias := decide (sp < v) }
        let run := x.phases.filter (fun p => cls != 1 || decide (mfAVAILABLE ≤ b.mainsState (b.recFeed p)))
        let b := if cls = 1 then b.feedsCarry run else b
        (b.writePhases g run mdSOFT 0 v false).showGroup g

/-- A counted phase reports OVP (R185). -/
def ovpSeen (b : Block) (g : Nat) : Bool :=
  (b.groupState g == gsRUNNING || (b.groupState g == gsSTARTING && decide (4 ≤ (b.group g).step))) &&
    (b.groupPorts g).any (fun p => b.portState p == psIN_SERVICE && b.headBit p 4)

/-- A group in one tick: supply, over-voltage, the law and its commands, into the state of the next. -/
def groupTick (b : Block) (g : Nat) : Block :=
  let b := b.supplyTick g
  let b := b.setGroup g { b.group g with veffHeld := (b.group g).veff, iintHeld := (b.group g).iint, igHeld := (b.group g).ig }
  let x := b.group g
  let st := b.groupState g
  let b := b.wrN (Obj.GroupRecord.LoopOwner g) ((b.loopOwner g).getD 0xFFFF)
  if b.ovpSeen g then b.groupStop g gsOV_LATCHED
  else if x.waiting ∧ (st = gsSTOPPED ∨ st = gsOV_LATCHED) then
    if (b.groupPorts g).any (fun p => (b.port p).offUntil.isSome) then b else b.startStep1 g
  else if st = gsSTARTING then
    if b.supplyState g = ssBELOW_MIN then b.startFail g Src.GROUP_START_FAIL
    else if x.step = 4 then b.startStep4 g
    else if x.step = 5 ∧ b.groupClass g ≠ 3 then b.lawTick g
    else b
  else if st = gsRUNNING then
    if b.groupClass g = 3 then b.batTick g
    else if b.groupClass g = 1 ∧ (b.holdupState = huTRANSFER ∨ b.holdupState = huBATTERY) then b.recIdle g
    else b.lawTick g
  else b

/-- GROUP_SENSE_LOST (R169). -/
def senseLost (b : Block) (g : Nat) : Block :=
  if 4 ≤ (b.group g).stale ∧ (b.groupState g = gsRUNNING ∨ b.groupState g = gsSTARTING) then b.condition Src.GROUP_SENSE_LOST g true else b

/-- A Setpoint that passes the checks of R189 against the configuration in force. -/
def setpointOk (b : Block) (g v : Nat) : Bool :=
  let ovp := b.rd (Obj.GroupRecord.OvpLevel g)
  let now := b.rd (Obj.GroupRecord.Setpoint g)
  b.groupClass g != 3 && decide (0 < v) && decide (v * 100 ≤ ovp * 95) && decide (v < b.rd (Obj.GroupRecord.OvWarn g)) &&
    decide (b.rd (Obj.GroupRecord.OvWarn g) < ovp) &&
    (b.groupState g == gsSTOPPED || (decide (now * 9 ≤ v * 10) && decide (v * 10 ≤ now * 11)))

/-- The effect of a GROUP_SETPOINT (R170). -/
def setpointAction (a : Action) (b : Block) : Block :=
  if b.setpointOk a.target a.arg then b.wr (Obj.GroupRecord.Setpoint a.target) a.arg
  else b.report Src.SETPOINT_REFUSED a.target [a.arg]

/-- A port fails (R341): its SAFE one-shot fires and its unit is out. -/
def portFail (b : Block) (p : Nat) : Block :=
  let b := b.fireShot p osSAFE
  let b := b.modPort p (fun x => { x with offUntil := none, cmdN := [0, 0, 0, 0], armed := [] })
  if 3 ≤ b.portState p ∨ b.portState p = psABSENT then b.wrN (Obj.PortRecord.PortState p) psFAILED else b

end Block

/-- GROUP_START (R181). -/
def execGroupStart (g : Nat) (s : State) : Host.Outcome State Fault Refusal := s.actOn (decide (g < 64)) .group g (·.groupStart g)

/-- GROUP_START_ADVANCE (R181). -/
def execGroupStartAdvance (g : Nat) (s : State) : Host.Outcome State Fault Refusal := s.actOn (decide (g < 64)) .group g (·.startAdvance g)

/-- GROUP_START_TIMEOUT (R181). -/
def execGroupStartTimeout (g : Nat) (s : State) : Host.Outcome State Fault Refusal := s.actOn (decide (g < 64)) .group g (·.startTimeout g)

/-- PORT_ADMIT_AFTER_OFF (R612). -/
def execPortAdmitAfterOff (p : Nat) (s : State) : Host.Outcome State Fault Refusal := s.actOn (decide (p < 512)) .port p (·.admitAfterOff p)

/-- THIN_SHED (R177). -/
def execThinShed (g : Nat) (s : State) : Host.Outcome State Fault Refusal := s.actOn (decide (g < 64)) .group g (·.thinShed g)

/-- GROUP_SENSE_LOST (R169). -/
def execGroupSenseLost (g : Nat) (s : State) : Host.Outcome State Fault Refusal := s.actOn (decide (g < 64)) .group g (·.senseLost g)

/-- GROUP_SETPOINT (R170). -/
def execGroupSetpoint (handle : Nat) (s : State) : Host.Outcome State Fault Refusal :=
  s.act (·.fireEntry handle 5 Block.setpointAction)

end Sys2Proof.Machine
end

