-- ==== Sys2Proof/Machine/Mains.lean ====
section
/-! DEFINITION. The mains side and hold-up (chapter 7): the detector, the classes, the feed states, the trigger, support and walk-in. -/

namespace Sys2Proof.Machine

/-- The operation code of the walk-in's reserved entry (assumption 39). -/
def opWALK_IN : Nat := 0x8001

namespace Block

/-! ### The feeds of the rack -/

/-- A mains feed beside its record. -/
def mf (b : Block) (f : Nat) : MainsFeed := b.holdup.feeds.getD f {}
def setMf (b : Block) (f : Nat) (x : MainsFeed) : Block := { b with holdup := { b.holdup with feeds := b.holdup.feeds.set f x } }

/-- The feeds that are configured (R238), and a feed's lines. -/
def mainsFeeds (b : Block) : List Nat := (List.range 2).filter (fun f => decide (f < b.rd Obj.MainsConfig.FeedCount))
def threePhase (b : Block) (f : Nat) : Bool := b.rd (Obj.MainsFeed.Phases f) == 3
def mainsLines (b : Block) (f : Nat) : List Nat := if b.threePhase f then [1, 2, 3] else [1]

/-- The state a feed has in the next tick as far as the detector has decided it. -/
def mainsNext (b : Block) (f : Nat) : Nat := b.rdN (Obj.MainsFeed.State f)

/-- A level of R238 in µV of peak. -/
def mainsLevel (b : Block) (key : Nat) : Nat := b.rd key * b.nominalPeak / 1024

/-! ### Line samples (R224) -/

/-- V_IN of a port as the sample set received in the tick in progress shows it, µV. -/
def enteredVolts (b : Block) (p : Nat) : Option Int :=
  (b.port p).entered.map (fun r => roundDiv (toI 16 (r.words.getD 1 0) * b.vfsIn p) 32768)

/-- V_IN of a port as the state has it, where it is fresh. -/
def freshVolts (b : Block) (p : Nat) : Option Int := if b.fresh p then some (b.ownVolts p) else none

/-- The line sample: the median over the three lowest REC ports of the line that are ADMITTED, IN_SERVICE or SAFE. -/
def lineSample (b : Block) (get : Nat → Option Int) (f x : Nat) : Option Int :=
  medianOf ((((b.lineRecs f x).filter (fun p => [psADMITTED, psIN_SERVICE, psSAFE].contains (b.portState p))).take 3).filterMap get)

/-- The samples of a feed's lines. -/
def feedSamples (b : Block) (get : Nat → Option Int) (f : Nat) : List (Option Int) := (b.mainsLines f).map (b.lineSample get f)

/-- The magnitude m of a three-phase feed, µV (R224). -/
def magnitude (vs : List Int) : Nat := isqrt (2 * (vs.map (fun v => v.natAbs ^ 2)).sum / 3)

/-- The expected sample of a line at the start of the tick in progress (R225). -/
def expectedLine (b : Block) (f x : Nat) : Int :=
  roundDiv (b.nominalPeak * sinTurn (ofI 32 (b.angleNow + b.feedPhaseError f - (b.lineAngle x : Nat)))) (2 ^ 30)

/-- The runs of the detector with one more tick's samples in them (R224, R225). -/
def detect (b : Block) (f : Nat) (vs : List (Option Int)) : MainsFeed :=
  let x := b.mf f
  let lines := (b.mainsLines f).zip vs
  let off := (List.range 3).map (fun i =>
    match lines[i]? with
    | some (l, some v) => if b.nominalPeak * 512 < (v - b.expectedLine f l).natAbs * 1024 then x.lineRun.getD i 0 + 1 else 0
    | _ => 0)
  if vs.any (·.isNone) then { x with blindRun := x.blindRun + 1, lossRun := 0, swellRun := 0, lineRun := off }
  else
    let m := magnitude (vs.filterMap id)
    let three := b.threePhase f
    { x with
      blindRun := 0, lineRun := off
      lossRun := if three && decide (m < b.mainsLevel Obj.MainsConfig.LossLevel) then x.lossRun + 1 else 0
      swellRun := if three && decide (b.mainsLevel Obj.MainsConfig.SwellTrip < m) then x.swellRun + 1 else 0 }

/-! ### Disturbances (R225, R226) -/

/-- A disturbance: recorded, counted, QualCount to 0, and the feed's state where the class does not lose it. -/
def disturb (b : Block) (f code lines : Nat) (extreme : Int) (duration : Nat) : Block :=
  let b := (b.wrs [(Obj.MainsFeed.LastDisturbance f, code), (Obj.MainsFeed.QualCount f, 0)]).bump (Obj.MainsFeed.Disturbances f)
  let b := b.setMf f { b.mf f with dirty := true }
  let st := b.mainsNext f
  let b := if st = mfAVAILABLE then b.wrN (Obj.MainsFeed.State f) mfQUALIFYING
    else if st = mfCARRYING ∧ (code = 3 ∨ code = 4 ∨ code = 6) then b.wrN (Obj.MainsFeed.State f) mfRIDING
    else b
  b.report Src.MAINS_DISTURBANCE f [code, lines, extreme, duration]

/-- A feed enters LOST (R226). -/
def feedLost (b : Block) (f : Nat) : Block :=
  let b := (b.wrN (Obj.MainsFeed.State f) mfLOST).bump (Obj.MainsFeed.Losses f)
  let b := (b.wr (Obj.MainsFeed.QualCount f) 0).setMf f { b.mf f with dirty := true, back := true, moving := false, psiRun := 0 }
  b.condition Src.MAINS_LOSS f true

/-! ### The trigger (R229, R230) -/

/-- The phases of a feed that are available to thinning (R178, R218), but for the feed's own state. -/
def feedPhases (b : Block) (f : Nat) : Nat :=
  match b.recGroup with
  | none => 0
  | some g => (((b.units g).filter (fun u =>
      b.recFeed (unitPort u) == f && b.unitServes u && b.unitCond u == 1 && b.unitRole u == rlMEMBER)).map List.length).sum

/-- Phases of the feeds that can supply the bus. -/
def supplyPhases (b : Block) : Nat := ((b.mainsFeeds.filter (fun f => decide (mfAVAILABLE ≤ b.mainsNext f))).map b.feedPhases).sum

/-- The capacity of those feeds, nA. -/
def feedCapacity (b : Block) : Int :=
  b.supplyPhases * (b.recGroup.map (fun g => b.rd (Obj.GroupRecord.PhaseCurrentRating g))).getD 0 * 10 ^ 6

/-- The state of the hold-up function as decided so far. -/
def holdupNext (b : Block) : Nat := b.rdN Obj.HoldupStatus.State

/-- The REC group's feedback sample, once the samples of the tick are in: of the tick in progress where it has come. -/
def busSample (b : Block) : Int :=
  match b.recGroup with
  | none => b.holdup.bus
  | some g =>
    match (b.groupPorts g).find? (fun p => b.portState p == psIN_SERVICE && ((b.port p).entered.isSome || b.fresh p)) with
    | none => b.holdup.bus
    | some p =>
      match (b.port p).entered with
      | some r => roundDiv (toI 16 (r.words.getD 2 0) * b.vfsOut p) 32768
      | none => b.busVolts p

/-- The trigger fires (R230): cause 1 capacity, 2 bus low. -/
def fireTrigger (b : Block) (cause : Nat) : Block :=
  let set := b.supportSet
  if set.isEmpty then { (b.wrN Obj.HoldupStatus.State huSTOPPED).report Src.HOLDUP_UNAVAILABLE 0 with holdup := { b.holdup with takeDown := Src.HOLDUP_UNAVAILABLE } }
  else
    let h := b.holdup
    let v := b.busSample
    let total := roundDiv ((h.recIg + h.isup) * b.rd Obj.MainsConfig.ArmMargin) 1024
    let back := if cause = 1 then b.rd Obj.MainsConfig.LossTicks - 1 else 0
    let b := { b with holdup := { h with
      isup := total, iint := total, veff := v, trigger := b.glade.ticks + 1, dipBefore := (h.bus :: h.busBefore).getD back h.bus,
      dipLow := v, dipLeft := 100, busLoad := h.recIg, walk := 0, scheduled := false } }
    let b := b.wrN Obj.HoldupStatus.State huTRANSFER
    let b := set.foldl (fun b n =>
      let b := if b.rd (Obj.StringRecord.TestStatus n) = 1 then b.wr (Obj.StringRecord.TestStatus n) 4 else b
      b.wrN (Obj.StringRecord.Mode n) smSUPPORT) b
    let b := (b.bump Obj.HoldupStatus.HandoverCount).wrs [(Obj.HoldupStatus.LastTriggerEpoch, b.glade.epoch),
      (Obj.HoldupStatus.LastTriggerCycle, b.glade.cycle), (Obj.HoldupStatus.LastTriggerTick, b.glade.tick),
      (Obj.HoldupStatus.LastTriggerCause, cause)]
    b.report Src.HANDOVER 0 [cause, b.glade.tick]

/-- The bus is on the mains: the states in which the trigger can fire. -/
def onMains (b : Block) : Bool := b.holdupNext == huMAINS || b.holdupNext == huWALK_IN

/-- The capacity condition of the trigger; `lost` where a feed has just been lost, which a rack that goes on records (R229). -/
def checkCapacity (b : Block) (lost : Bool) : Block :=
  if !b.onMains then b
  else if b.feedCapacity < b.holdup.recIg then b.fireTrigger 1
  else if lost then (b.bump Obj.HoldupStatus.FeedTransfers).report Src.FEED_TRANSFER 0
  else b

/-- The bus-low condition of the trigger, on the feedback sample of the tick. -/
def checkBusLow (b : Block) : Block :=
  let low := b.rd Obj.MainsConfig.BusLowLevel
  if b.onMains && decide (0 < low) && decide (b.busSample < low * 1000) then b.fireTrigger 2 else b

/-- A class whose effect is LOST is found on a feed. -/
def loseFeed (b : Block) (f code lines : Nat) (extreme : Int) (duration : Nat) : Block :=
  let carried := decide (mfAVAILABLE ≤ b.mainsNext f)
  ((b.disturb f code lines extreme duration).feedLost f).checkCapacity carried

/-- A feed that a loss class can take. -/
def losable (b : Block) (f : Nat) : Bool := decide (f < b.rd Obj.MainsConfig.FeedCount) && decide (mfLOST < b.mainsNext f)

/-- The lines of a mask. -/
def lineMask (l : List Bool) : Nat := (l.mapIdx (fun i on => if on then 2 ^ i else 0)).sum

/-- MAINS_LOSS_DETECT (R225). -/
def lossDetect (b : Block) (f : Nat) : Block :=
  let vs := b.feedSamples b.enteredVolts f
  let x := b.detect f vs
  if b.losable f && decide (b.rd Obj.MainsConfig.LossTicks ≤ x.lossRun) && decide (0 < x.lossRun) then
    b.loseFeed f 1 7 (roundDivN (magnitude (vs.filterMap id)) 1000) x.lossRun
  else b

/-- LINE_LOSS_DETECT (R225). -/
def lineLossDetect (b : Block) (f : Nat) : Block :=
  let vs := b.feedSamples b.enteredVolts f
  let x := b.detect f vs
  let hit := x.lineRun.map (fun n => decide (b.rd Obj.MainsConfig.LineLossTicks ≤ n) && decide (0 < n))
  if b.losable f && hit.any id then
    let i := hit.findIdx id
    b.loseFeed f 2 (lineMask hit) (roundDiv ((vs.getD i none).getD 0) 1000) (x.lineRun.getD i 0)
  else b

/-- SWELL_TRIP_DETECT (R225). -/
def swellTripDetect (b : Block) (f : Nat) : Block :=
  let vs := b.feedSamples b.enteredVolts f
  let x := b.detect f vs
  if b.losable f && decide (2 ≤ x.swellRun) then b.loseFeed f 5 7 (roundDivN (magnitude (vs.filterMap id)) 1000) x.swellRun else b

/-- MAINS_SENSE_LOST (R224): a feed blind in two consecutive ticks. -/
def senseLostDetect (b : Block) (f : Nat) : Block :=
  let x := b.detect f (b.feedSamples b.enteredVolts f)
  if decide (f < b.rd Obj.MainsConfig.FeedCount) && decide (2 ≤ x.blindRun) && !b.isPresent Src.MAINS_SENSE_LOST f then
    let b := b.condition Src.MAINS_SENSE_LOST f true
    if b.losable f then
      let carried := decide (mfAVAILABLE ≤ b.mainsNext f)
      (b.feedLost f).checkCapacity carried
    else b
  else b

/-! ### The end of a tick -/

/-- NOTCH (R225): off the half-cycle mean for at most two ticks. -/
def notchTick (b : Block) (f m : Nat) : Block :=
  let x := b.mf f
  let d := ((m : Int) - x.halfMean).natAbs
  if x.halfMean = 0 ∨ !b.threePhase f then b
  else if b.mainsLevel Obj.MainsConfig.NotchLevel < d then b.setMf f { x with notchRun := x.notchRun + 1, notchMax := max x.notchMax d }
  else
    let b := b.setMf f { x with notchRun := 0, notchMax := 0 }
    if 0 < x.notchRun ∧ x.notchRun ≤ 2 ∧ b.losable f then b.disturb f 7 7 (roundDivN x.notchMax 1000) x.notchRun else b

/-- A magnitude in the window of R226. -/
def inWindow (b : Block) (m : Nat) : Bool :=
  decide (b.mainsLevel Obj.MainsConfig.SagLevel ≤ m) && decide (m ≤ b.mainsLevel Obj.MainsConfig.SwellLevel)

/-- A lost feed with the mains back in its window begins to qualify (R226). -/
def beginQualify (b : Block) (f m : Nat) : Block :=
  if b.mainsNext f = mfLOST ∧ b.inWindow m ∧ (b.mf f).seqHold = 0 then
    (b.wrN (Obj.MainsFeed.State f) mfQUALIFYING).condition Src.MAINS_LOSS f false
  else b

/-- The samples of the tick that ends, on one feed: runs, sums, Magnitude, the notch and the way out of LOST. -/
def mainsFeedTick (b : Block) (f : Nat) : Block :=
  let vs := b.feedSamples b.freshVolts f
  let x := b.detect f vs
  let at' (l : List Int) (i : Nat) (d : Int) : List Int := l.set i (l.getD i 0 + d)
  let x := ((b.mainsLines f).zip vs).foldl (fun (x : MainsFeed) e =>
    match e.2 with
    | none => x
    | some v =>
      let i := e.1 - 1
      let a := ofI 32 ((b.angleNow : Int) - (b.lineAngle e.1 : Nat))
      { x with sumS := at' x.sumS i (v * sinTurn a), sumC := at' x.sumC i (v * cosTurn a), sumQ := at' x.sumQ i (v * v),
               ticks := x.ticks.set i (x.ticks.getD i 0 + 1) }) x
  let lost := b.mainsNext f == mfLOST
  if vs.any (·.isNone) then b.setMf f { x with dirty := true }
  else
    let m := magnitude (vs.filterMap id)
    let v := ((vs.getD 0 none).getD 0).natAbs
    let three := b.threePhase f
    let x := { x with halfSum := x.halfSum + (if three then m else v * v), halfTicks := x.halfTicks + 1, dirty := x.dirty || lost }
    let b := (b.setMf f x).condition Src.MAINS_SENSE_LOST f false
    if three then ((b.wrN (Obj.MainsFeed.Magnitude f) (roundDivN m 1000)).notchTick f m).beginQualify f m else b

/-- The detector and the trigger at the end of a tick (R224, R229). -/
def mainsTickEnd (b : Block) : Block := ((b.mainsFeeds.foldl mainsFeedTick b).checkCapacity false).checkBusLow

/-! ### The half-cycle (R225) -/

/-- SAG and SWELL on one feed: recorded when the episode begins, every half-cycle of it disturbs its cycle. -/
def halfFeed (b : Block) (f : Nat) : Block :=
  let x := b.mf f
  if x.halfTicks = 0 then b
  else
    let m := if b.threePhase f then x.halfSum / x.halfTicks else isqrt (2 * x.halfSum / x.halfTicks)
    let code := if m < b.mainsLevel Obj.MainsConfig.SagLevel then 3 else if b.mainsLevel Obj.MainsConfig.SwellLevel < m then 4 else 0
    let n := x.halfTicks
    let b := b.setMf f { x with
      halfSum := 0, halfTicks := 0, halfMean := m, episode := if b.losable f then code else 0, dirty := x.dirty || decide (code ≠ 0) }
    let b := if b.threePhase f then b else (b.wrN (Obj.MainsFeed.Magnitude f) (roundDivN m 1000)).beginQualify f m
    if !b.losable f || code = 0 then b
    else if code ≠ x.episode then b.disturb f code (if b.threePhase f then 7 else 1) (roundDivN m 1000) n
    else
      let b := b.wr (Obj.MainsFeed.QualCount f) 0
      if b.mainsNext f = mfCARRYING then b.wrN (Obj.MainsFeed.State f) mfRIDING else b

/-- HALF_CYCLE_END: Glade's half-cycle (R52), a PHASE_JUMP of Glade on the feed it senses, SAG and SWELL (R225). -/
def halfCycle (b : Block) : Block :=
  let jumps := b.rd Obj.GladeStatus.JumpCount
  let b := b.halfCycleEnd
  let b := if b.rd Obj.GladeStatus.JumpCount = jumps then b
    else (b.mainsFeeds.filter (fun f => b.rd (Obj.MainsFeed.SenseSource f) == 0 && b.losable f)).foldl (fun b f =>
      b.disturb f 6 1 (b.rdI 32 Obj.GladeStatus.MainsPhaseError) 0) b
  b.mainsFeeds.foldl halfFeed b

/-! ### The supervisors' view of a cycle (R220, R223) -/

/-- Peak and phase of a line over the cycle that ended (R220). -/
def lineFundamental (b : Block) (f i : Nat) : Nat × Int :=
  let x := b.mf f
  let n := x.lastTicks.getD i 0
  if n * 10 < 9 * b.glade.nt then (x.peak.getD i 0, x.phase.getD i 0)
  else
    let s := roundDiv (x.lastS.getD i 0) (2 ^ 20)
    let c := roundDiv (x.lastC.getD i 0) (2 ^ 20)
    (2 * isqrt (s.natAbs ^ 2 + c.natAbs ^ 2) / (n * 1024), angleOf s (-c))

/-- Total harmonic distortion of a line, 0.01 %. -/
def lineThd (b : Block) (f i peak : Nat) : Nat :=
  let x := b.mf f
  let n := x.lastTicks.getD i 0
  let fund := peak * peak / 2
  if n * 10 < 9 * b.glade.nt ∨ fund = 0 then 0 else isqrt (((x.lastQ.getD i 0).toNat / n - fund) * 10 ^ 8 / fund)

/-- The check against a RECT channel (R223): a line of the feed disagrees by more than 2 %. -/
def rectDisagrees (b : Block) (f : Nat) (peaks : List Nat) (phases : List Int) : Bool :=
  let ch := b.rd (Obj.MainsFeed.RectChannel f)
  (b.mainsLines f).any (fun x =>
    let c := ch + x - 1
    let rect : Int := (b.rd (Obj.Channel.RectAngle c) : Nat) - (b.lineAngle x : Nat)
    let want := roundDiv (683565276 * peaks.getD (x - 1) 0 * cosTurn (ofI 32 (phases.getD (x - 1) 0 - rect))) (2 ^ 60 * 1000)
    bitOf (b.rd (Obj.Channel.Flags c)) 0 && decide (want.natAbs * 2 < (b.rdI 32 (Obj.Channel.Value c) - want).natAbs * 100))

/-- The mains results of a cycle (R220, R223, R225), to take effect at the next boundary. -/
def superviseMains (b : Block) : Block :=
  let res := (List.range 2).map (fun f => (List.range 3).map (b.lineFundamental f))
  let peaks := res.map (fun l => l.map (·.1))
  let phases := res.map (fun l => l.map (·.2))
  let thd (f : Nat) : Nat := ((b.mainsLines f).map (fun x => b.lineThd f (x - 1) ((peaks.getD f []).getD (x - 1) 0))).foldl max 0
  let b := b.mainsFeeds.foldl (fun b f =>
    let x := b.mf f
    if b.rd (Obj.MainsFeed.RectChannel f) = 0xFF then b
    else
      let n := if b.rectDisagrees f (peaks.getD f []) (phases.getD f []) then min (x.disagree + 1) 3 else 0
      (b.setMf f { x with disagree := n }).condition Src.MAINS_SENSE_DISAGREE f (n == 3)) b
  let writes := b.mainsFeeds.flatMap (fun f =>
    [(Obj.MainsFeed.ThdMax f, min (thd f) 0xFFFF)] ++
    (b.mainsLines f).flatMap (fun x =>
      [(Obj.MainsFeed.LinePeak f (x - 1), roundDivN ((peaks.getD f []).getD (x - 1) 0) 1000),
       (Obj.MainsFeed.LinePhase f (x - 1), ofI 32 ((phases.getD f []).getD (x - 1) 0))]))
  let b := { b with sup := { b.sup with peaks, phases, writes := b.sup.writes ++ writes } }
  if b.holdupState == huBATTERY && b.holdup.cameLast && !b.holdup.scheduled then
    ({ b with holdup := { b.holdup with scheduled := true } }).reserve opWALK_IN 6 0 0 1 0
  else b

/-! ### The cycle boundary (R219, R225, R226) -/

/-- A feed at the end of a cycle: clean or not, qualified, ridden through. -/
def mainsFeedCycle (b : Block) (f : Nat) : Block :=
  let x := b.mf f
  let clean := !x.dirty && b.inLockRange (b.rd (Obj.MainsFeed.Frequency f))
  let st := b.mainsNext f
  let b := b.setMf f { x with
    dirty := false, sumS := [0, 0, 0], sumC := [0, 0, 0], sumQ := [0, 0, 0], ticks := [0, 0, 0],
    lastS := x.sumS, lastC := x.sumC, lastQ := x.sumQ, lastTicks := x.ticks }
  if !clean then b
  else
    let q := min (b.rd (Obj.MainsFeed.QualCount f) + 1) 65535
    let b := b.wr (Obj.MainsFeed.QualCount f) q
    if st = mfQUALIFYING ∧ b.rd Obj.MainsConfig.ReturnCycles ≤ q then
      { b.wr (Obj.MainsFeed.State f) mfAVAILABLE with holdup := { b.holdup with came := true } }
    else if st = mfRIDING then b.wr (Obj.MainsFeed.State f) mfCARRYING
    else b

/-- The classes a cycle's results show (R225): PHASE_JUMP, HARMONIC, FREQ and SEQUENCE. -/
def cycleClasses (b : Block) (f : Nat) (before : List Int) : Block :=
  let x := b.mf f
  let d := signedAngle (x.phase.getD 0 0 - before.getD 0 0)
  let two := decide (2 ≤ x.psiRun)
  let base := b.rd Obj.GladeStatus.Frequency
  let freq := if two then (roundDiv (base * (2 ^ 32 + d)) (2 ^ 32)).toNat else base
  let b := b.wr (Obj.MainsFeed.Frequency f) freq
  let far (i : Nat) : Bool := decide (2 ^ 32 < 6 * (x.phase.getD i 0).natAbs)
  let seqBad := b.threePhase f && far 1 && far 2
  let run := if seqBad then x.seqRun + 1 else 0
  let b := b.setMf f { x with seqRun := run, seqHold := if seqBad ∧ 2 ≤ run then b.rd Obj.MainsConfig.ReturnCycles else x.seqHold - 1 }
  if !b.losable f then b
  else
    let b := if two ∧ 2 ^ 32 < 36 * d.natAbs then b.disturb f 6 1 d 0 else b
    let thd := b.rd (Obj.MainsFeed.ThdMax f)
    let b := if b.rd Obj.MainsConfig.ThdLevel < thd then b.disturb f 8 7 thd b.glade.nt else b
    let b := if !b.inLockRange freq then b.loseFeed f 9 1 freq b.glade.nt else b
    if 2 ≤ run ∧ b.losable f then b.loseFeed f 10 6 (x.phase.getD 1 0) (run * b.glade.nt) else b

/-- The peaks and phases of a cycle come into force, and what they show. -/
def applyMains (b : Block) : Block :=
  if b.sup.peaks.isEmpty then b
  else b.mainsFeeds.foldl (fun b f =>
    let x := b.mf f
    let b := b.setMf f { x with
      peak := b.sup.peaks.getD f x.peak, phase := b.sup.phases.getD f x.phase, phaseBefore := x.phase
      psiRun := if b.mainsNext f = mfLOST ∨ x.lastTicks.getD 0 0 * 10 < 9 * b.glade.nt then 0 else min (x.psiRun + 1) 2 }
    b.cycleClasses f x.phase) b

/-- The preferred feed takes its load back one unit at a boundary (R219). -/
def preferStep (b : Block) : Block :=
  let mode := b.rd Obj.MainsConfig.FeedMode
  if mode = 0 ∨ b.rd Obj.MainsConfig.FeedCount < 2 then b
  else match b.recGroup with
    | none => b
    | some g =>
      let f := mode - 1
      let x := b.mf f
      let carries := b.mainsNext f == mfCARRYING || b.mainsNext f == mfRIDING
      let x := if x.back ∧ carries then { x with back := false, moving := true } else x
      let us := (b.units g).filter (b.unitUsable g)
      let other := us.any (fun u => b.recFeed (unitPort u) != f && u.all b.switching)
      let spare := us.any (fun u => b.recFeed (unitPort u) == f && !u.all b.switching)
      let on := x.moving && other && spare
      let b := b.setMf f { x with moving := on }
      if on then b.setGroup g { b.group g with swap := true } else b

/-- The mains side at a cycle boundary, before the boundary's results and commits. -/
def mainsCycle (b : Block) : Block :=
  let h := b.holdup
  let b := { b with holdup := { h with
    came := false, busSum := 0, busTicks := 0, busMean := if h.busTicks = 0 then h.busMean else roundDiv h.busSum h.busTicks } }
  let b := b.mainsFeeds.foldl mainsFeedCycle b
  let b := { b with holdup := { b.holdup with cameLast := b.holdup.came } }
  let b := if b.holdupState = huBATTERY then b.bump Obj.HoldupStatus.BatteryCycles else b
  b.preferStep

/-! ### Hold-up (R227, R230–R237) -/

/-- TRANSFER_COMPLETE (R231). -/
def transferComplete (b : Block) : Block :=
  if b.holdupState = huTRANSFER ∧ b.glade.boundary ∧ b.holdup.trigger + 98 ≤ b.glade.ticks then
    b.wrs [(Obj.HoldupStatus.State, huBATTERY), (Obj.HoldupStatus.BatteryCycles, 0)]
  else b

/-- The effect of a walk-in (R234). -/
def walkInAction (_ : Action) (b : Block) : Block :=
  let b := { b with holdup := { b.holdup with scheduled := false } }
  match b.recGroup with
  | none => b
  | some g =>
    if b.holdupState ≠ huBATTERY then b
    else
      let b := b.setGroup g { b.group g with veff := b.rd (Obj.GroupRecord.Setpoint g) * 1000, iint := 0, ig := 0, low := 0 }
      { b.wrs [(Obj.HoldupStatus.State, huWALK_IN), (Obj.HoldupStatus.WalkInProgress, 0)] with holdup := { b.holdup with walk := 0 } }

/-- The length of a walk-in in ticks. -/
def walkSpan (b : Block) : Nat := b.rd Obj.MainsConfig.WalkInCycles * b.glade.nt

/-- Every string in SUPPORT leaves it: the support command is 0 and the strings rest until the supervisors decide (R246). -/
def leaveSupport (b : Block) : Block :=
  let b := { b with holdup := { b.holdup with isup := 0, iint := 0, veff := 0 } }
  (List.range 16).foldl (fun b n => if b.stringMode n = smSUPPORT then b.wr (Obj.StringRecord.Mode n) smREST else b) b

/-- WALK_IN_END (R234). -/
def walkInEnd (b : Block) : Block :=
  if b.holdupState = huWALK_IN ∧ b.walkSpan ≤ b.holdup.walk then
    ((b.wrs [(Obj.HoldupStatus.State, huMAINS), (Obj.HoldupStatus.WalkInProgress, 1024)]).leaveSupport).report Src.HOLDUP_RETURN 0
  else b

/-- Support has ended without a source (R227, R235): exhausted where a string stands at its discharge cutoff. -/
def supportEnd (b : Block) : Block :=
  if (b.holdupState = huTRANSFER ∨ b.holdupState = huBATTERY) ∧ b.supportSet.isEmpty then
    let b := (b.wr Obj.HoldupStatus.State huSTOPPED).leaveSupport
    if (List.range 16).any (fun n => b.rd (Obj.StringRecord.DischargeLevel n) == 3) then
      { b.report Src.HOLDUP_EXHAUSTED 0 with holdup := { b.holdup with takeDown := Src.HOLDUP_EXHAUSTED } }
    else b
  else b

/-- BAT ports of the support set send their armed commands in the tick after the trigger (R230). -/
def takeArmed (b : Block) : Block :=
  if b.holdup.trigger = b.glade.ticks ∧ 0 < b.holdup.trigger then
    allPorts.foldl (fun b p => if (b.port p).armed.isEmpty then b else b.modPort p (fun x => { x with cmd := x.armed })) b
  else b

/-- The dip is measured over 100 ticks (R232). -/
def dipTick (b : Block) : Block :=
  let h := b.holdup
  if h.dipLeft = 0 then b
  else
    let low := min h.dipLow h.bus
    let b := { b with holdup := { h with dipLow := low, dipLeft := h.dipLeft - 1 } }
    if 1 < h.dipLeft then b
    else
      let dip := (h.dipBefore - low).toNat
      let c := b.rd Obj.MainsConfig.BusCapacitance
      let ratio := roundDivN (dip * 1024 * c * 10 ^ 9) (h.busLoad.toNat * 2 * b.tickPs)
      b.wrs [(Obj.HoldupStatus.LastDip, roundDivN dip 1000), (Obj.HoldupStatus.LastDipRatio, if c = 0 then 0 else min ratio 0xFFFF)]

/-- The support law in one tick (R230). -/
def supportLaw (b : Block) (v : Option Int) : Block :=
  let h := b.holdup
  let (i, iint) := match v with
    | none => (h.iint, h.iint)
    | some v => groupLaw (b.rd Obj.MainsConfig.HoldupKp) (b.rd Obj.MainsConfig.HoldupKi) b.tickPs h.veff v h.iint b.supportLimit false
  let step := roundDiv (b.rd Obj.MainsConfig.HoldupSlew * b.tickPs) (10 ^ 6)
  { b with holdup := { h with isup := i, iint, veff := slewTo h.veff (b.rd Obj.MainsConfig.HoldupBusSetpoint * 1000) step } }

/-- The power the rack can draw, W (R237). -/
def inputCapacity (b : Block) : Nat :=
  match b.holdupState with
  | 1 | 4 =>
    match b.recGroup with
    | none => 0
    | some g => b.supplyPhases * b.rd (Obj.GroupRecord.PhaseCurrentRating g) * b.rd (Obj.GroupRecord.Setpoint g) / 10 ^ 6
  | 2 | 3 => (b.supportLimit * b.holdup.bus / 10 ^ 15).toNat
  | _ => 0

/-- Hold-up in one tick, before the group laws. -/
def holdupTick (b : Block) : Block :=
  let g := b.recGroup
  let v := match g with
    | some g => b.feedback g
    | none => none
  let h := b.holdup
  let b := { b with holdup := { h with
    bus := v.getD h.bus, busSum := h.busSum + v.getD 0, busTicks := h.busTicks + b2n v.isSome, busBefore := (h.bus :: h.busBefore).take 8, recIg := (g.map (fun g => (b.group g).ig)).getD 0 } }
  let b := b.dipTick.supportEnd
  let st := b.holdupState
  let b := if st = huWALK_IN then { b with holdup := { b.holdup with walk := b.holdup.walk + 1 } } else b
  let b := if (st = huTRANSFER ∨ st = huBATTERY ∨ st = huWALK_IN) ∧ !b.supportSet.isEmpty then b.supportLaw v else b
  let mil (v k : Int) : Int := roundDiv v k
  let h := b.holdup
  let b := (b.wrNI 32 Obj.HoldupStatus.SupportCommand (mil h.isup (10 ^ 6))).wrNI 32 Obj.HoldupStatus.SupportIntegrator (mil h.iint (10 ^ 6))
  let b := (b.wrN Obj.HoldupStatus.SupportEffSetpoint (mil h.veff 1000).toNat).wrN Obj.HoldupStatus.SupportSet
    (b.supportSet.map (fun n => 2 ^ n)).sum
  let b := if st = huWALK_IN then b.wrN Obj.HoldupStatus.WalkInProgress (min 1024 (h.walk * 1024 / max 1 b.walkSpan)) else b
  b.wrN Obj.HoldupStatus.InputCapacity (min b.inputCapacity 0xFFFFFFFF)

/-! ### Commits (R216, R241) -/

/-- A commit has changed the feeds of the rack. -/
def mainsCommitted (b : Block) (keys : List Nat) : Block :=
  if keys.contains Obj.MainsConfig.FeedCount then
    [0, 1].foldl (fun b f =>
      let on := decide (f < b.rd Obj.MainsConfig.FeedCount)
      if !on then ((b.wr (Obj.MainsFeed.State f) 0).setMf f {}).condition Src.MAINS_LOSS f false
      else if b.mainsState f = 0 then b.wr (Obj.MainsFeed.State f) mfLOST
      else b) b
  else b

end Block

/-- HALF_CYCLE_END (R52, R225). -/
def execHalfCycleEnd (s : State) : Host.Outcome State Fault Refusal := s.act Block.halfCycle

/-- MAINS_LOSS_DETECT (R225). -/
def execMainsLossDetect (m : Nat) (s : State) : Host.Outcome State Fault Refusal := s.actOn (decide (m < 2)) .mains m (·.lossDetect m)

/-- LINE_LOSS_DETECT (R225). -/
def execLineLossDetect (m : Nat) (s : State) : Host.Outcome State Fault Refusal := s.actOn (decide (m < 2)) .mains m (·.lineLossDetect m)

/-- SWELL_TRIP_DETECT (R225). -/
def execSwellTripDetect (m : Nat) (s : State) : Host.Outcome State Fault Refusal := s.actOn (decide (m < 2)) .mains m (·.swellTripDetect m)

/-- MAINS_SENSE_LOST (R224). -/
def execMainsSenseLost (m : Nat) (s : State) : Host.Outcome State Fault Refusal := s.actOn (decide (m < 2)) .mains m (·.senseLostDetect m)

/-- TRANSFER_COMPLETE (R231). -/
def execTransferComplete (s : State) : Host.Outcome State Fault Refusal := s.act Block.transferComplete

/-- WALK_IN (R234): the reserved entry fires. -/
def execWalkIn (handle : Nat) (s : State) : Host.Outcome State Fault Refusal := s.act (·.fireEntry handle opWALK_IN Block.walkInAction)

/-- WALK_IN_END (R234). -/
def execWalkInEnd (s : State) : Host.Outcome State Fault Refusal := s.act Block.walkInEnd

end Sys2Proof.Machine
end

