-- ==== Sys2Proof/Machine/Measure.lean ====
section
/-! DEFINITION. Measurement (chapter 6): windows, correction, delivery, averaging, calibration, the reference and the comparators. -/

namespace Sys2Proof.Machine

/-- Bits of a channel's Flags (R201). -/
def mfVALID : Nat := 0
def mfAVG_VALID : Nat := 1
def mfDISABLED : Nat := 2
def mfCLAMPED : Nat := 3
def mfOVERRANGE : Nat := 4
def mfCAL : Nat := 5
def mfREF_SETTLING : Nat := 6
def mfIRREGULAR : Nat := 7
def mfNOT_TRACK : Nat := 8
def mfLOCAL : Nat := 9

/-- States of the reference buffer (R213). -/
def rsSETTLING : Nat := 1
def rsREADY : Nat := 2
def rsFAULT : Nat := 3

/-- The channels 0–71. -/
def allChannels : List Nat := List.range 72

/-- Full scale of a range in nV (R195). -/
def fsNv (range : Nat) : Int := if range = 1 then 3 * 10 ^ 8 else 12 * 10 ^ 8

/-- Bit `n` as a number where `on`. -/
def flag (n : Nat) (on : Bool) : Nat := if on then 2 ^ n else 0

namespace Block

/-- A calibration and an averaging block. -/
def cal (b : Block) (c : Nat) : Cal := Tab.look {} b.meas.cals c
def setCal (b : Block) (c : Nat) (x : Cal) : Block := { b with meas := { b.meas with cals := Tab.put {} b.meas.cals c x } }
def avg (b : Block) (c : Nat) : Avg := Tab.look {} b.meas.avgs c
def setAvg (b : Block) (c : Nat) (x : Avg) : Block := { b with meas := { b.meas with avgs := Tab.put {} b.meas.avgs c x } }

/-- The result of a channel is usable (R201). -/
def valid (b : Block) (c : Nat) : Bool := bitOf (b.rd (Obj.Channel.Flags c)) mfVALID

/-- Its Value. -/
def value (b : Block) (c : Nat) : Int := b.rdI 32 (Obj.Channel.Value c)

/-- The length of a cycle at the frequency in force, in Glade clock edges of 5 ns (R193). -/
def cycleEdges (b : Block) : Nat :=
  let f := b.rd Obj.GladeStatus.Frequency
  roundDivN (200000000 * 65536) (if f = 0 then b.glade.fnom * 65536 else f)

/-- Glade is in neither TRACK nor SLAVED. -/
def offTrack (b : Block) : Bool := b.gState != gladeTRACK && b.gState != gladeSLAVED

/-- A discard event on a channel (R200). -/
def discardAvg (b : Block) (c : Nat) : Block :=
  b.setAvg c { b.avg c with badAt := 2 * b.glade.cycles + b2n (!b.glade.boundary) }

/-! ### Windows (R191–R194, R205, R206) -/

/-- The range a window of a channel runs on: a calibration keeps the one in force when it began (R206). -/
def windowRange (b : Block) (c : Nat) : Nat :=
  let x := b.cal c
  if x.window ≠ 0 then x.range else b.rd (Obj.Channel.Range c)

/-- A calibration's course over a boundary: the window that ended, the one that opens. -/
def calBoundary (b : Block) (settling : Bool) (c : Nat) : Block :=
  let x := b.cal c
  let next := if x.window = 0 ∨ x.window = 4 then
      match x.due with
      | some t => if t ≤ b.glade.ticks + 1 ∧ !settling then 1 else 0
      | none => 0
    else x.window + 1
  b.setCal c { x with
    ended := x.window, window := next
    due := if next = 1 then none else x.due
    range := if next = 1 then b.rd (Obj.Channel.Range c) else x.range }

/-- The windows close and the next ones open, before the boundary's commits (R191, R205). -/
def measClose (b : Block) : Block :=
  let m := b.meas
  if !b.glade.running then b
  else
    let w : Window72 := {
      epoch := b.glade.epoch, cycle := b.glade.cycle, no := b.glade.cycles, edges := b.cycleEdges
      irregular := m.irregular || b.glade.moved, notTrack := m.notTrack || b.offTrack, settling := m.settling
      enabled := allChannels.map (fun c => b.rd (Obj.Channel.Enable c) == 1), ranges := allChannels.map b.windowRange }
    { b with meas := { m with
      ended := if m.running then some w else none, running := true, delivered := false, partnerCame := false
      irregular := false, notTrack := false } }

/-- The next windows open under what the boundary's commits left (R205, R206). -/
def measOpen (b : Block) : Block :=
  let left := b.rd Obj.Channel.RefLeadRemaining
  let b := if b.rd Obj.Channel.RefState = rsFAULT then
      (b.wrs [(Obj.Channel.RefState, rsSETTLING), (Obj.Channel.RefLeadRemaining, b.rd Obj.Channel.RefLeadCycles)]).condition Src.REF_FAULT 0 false
    else b.wr Obj.Channel.RefLeadRemaining (left - 1)
  let settling := decide (0 < b.rd Obj.Channel.RefLeadRemaining) || b.rd Obj.Channel.RefState == 0
  let b := (Tab.keys b.meas.cals).foldl (fun b c => b.calBoundary settling c) b
  { b with meas := { b.meas with settling, notTrack := b.offTrack } }

/-- In every tick: Glade's state and a move of the angle mark the open windows (R194, R201). -/
def measTick (b : Block) : Block :=
  { b with meas := { b.meas with notTrack := b.meas.notTrack || b.offTrack, irregular := b.meas.irregular || b.glade.moved } }

/-! ### Results (R196, R198, R200, R201) -/

/-- The offset and gain in force for a range. -/
def calFactors (b : Block) (c range : Nat) : Int × Nat :=
  if range = 1 then (b.rdI 32 (Obj.Channel.CalOffset1 c), b.rd (Obj.Channel.CalGain1 c))
  else (b.rdI 32 (Obj.Channel.CalOffset0 c), b.rd (Obj.Channel.CalGain0 c))

/-- The corrected code before the clamp (R196). -/
def corrected (b : Block) (c range : Nat) (q : Int) : Int :=
  let f := b.calFactors c range
  roundDiv ((q - f.1) * f.2) (2 ^ 30)

/-- A code in engineering units (R212); the die temperatures' constants are not given, so theirs is a free value (assumption 2). -/
def engValue (b : Block) (c range : Nat) (x : Int) : Int × Block :=
  if c = 69 ∨ c = 70 then
    let d := b.draw 32
    (toI 32 d.1, d.2)
  else (clampI (-(2 ^ 31)) (2 ^ 31 - 1) (roundDiv (x * fsNv range * b.rdI 32 (Obj.Channel.Scale c)) (2 ^ 23 * 10 ^ 9)), b)

/-- This controller's own result of a channel: its code and its flags but for AVG_VALID and LOCAL. -/
def localResult (b : Block) (w : Window72) (past : Nat) (c : Nat) (q : Int) : Int × Nat :=
  let on := w.enabled.getD c false
  let range := w.ranges.getD c 0
  let calib := (b.cal c).ended != 0
  let x := b.corrected c range q
  let clamped := decide (x < -(2 ^ 23)) || decide (2 ^ 23 - 1 < x)
  let past := bitOf past c
  let bad := !on || calib || w.settling || w.irregular || past
  let prior := b.rdI 32 (Obj.Channel.LocalResult c)
  (if !on then 0 else if calib then prior else clampI (-(2 ^ 23)) (2 ^ 23 - 1) x,
   flag mfVALID (!bad) + flag mfDISABLED (!on) + flag mfCLAMPED (on && clamped) + flag mfOVERRANGE (on && past) +
    flag mfCAL (on && calib) + flag mfREF_SETTLING w.settling + flag mfIRREGULAR w.irregular + flag mfNOT_TRACK w.notTrack)

/-- A rack result joins its averaging block (R200): whether the block just completed counts, `none` where none completed. -/
def average (b : Block) (w : Window72) (c : Nat) (x : Int) (ok : Bool) : Block :=
  let k := b.rd (Obj.Channel.AvgShift c)
  let a := b.avg c
  let a := if w.cycle % 2 ^ k = 0 then { a with sum := 0, n := 0, first := w.no } else a
  let a := if ok then { a with sum := a.sum + x, n := a.n + 1 } else a
  if (w.cycle + 1) % 2 ^ k ≠ 0 then b.setAvg c a
  else
    let good := decide (a.n = 2 ^ k) && decide (a.badAt ≤ 2 * a.first)
    let b := b.setAvg c { a with sum := 0, n := 0 }
    let fl := b.rd (Obj.Channel.Flags c)
    if good then
      let mean := a.sum / (2 ^ k : Nat)
      let v := b.engValue c (w.ranges.getD c 0) mean
      ((((v.2.wrI 32 (Obj.Channel.AvgSum c) a.sum).wrI 32 (Obj.Channel.Average c) mean).wrI 32 (Obj.Channel.AvgValue c) v.1).wr
        (Obj.Channel.AvgCycle c) w.cycle).wr (Obj.Channel.Flags c) (putBit fl mfAVG_VALID true)
    else (b.bump (Obj.Channel.AvgDiscarded c)).wr (Obj.Channel.Flags c) (putBit fl mfAVG_VALID false)

/-- A rack result is delivered (R197, R198, R201): a calibrating channel keeps the last value that was valid. -/
def deliver (b : Block) (w : Window72) (c : Nat) (x : Int) (fl : Nat) : Block :=
  let keep := bitOf fl mfCAL
  let avgOk := bitOf (b.rd (Obj.Channel.Flags c)) mfAVG_VALID
  let b := b.wrs [(Obj.Channel.Flags c, putBit fl mfAVG_VALID avgOk), (Obj.Channel.ResultEpoch c, w.epoch), (Obj.Channel.ResultCycle c, w.cycle)]
  let b := if keep then b
    else
      let v := b.engValue c (w.ranges.getD c 0) x
      (v.2.wrI 32 (Obj.Channel.Result c) x).wrI 32 (Obj.Channel.Value c) v.1
  b.average w c x (bitOf fl mfVALID)

/-- The reference fault (R205): the windows open now carry REF_SETTLING, the buffer restarts at the next boundary. -/
def refFault (b : Block) : Block :=
  if b.rd Obj.Channel.RefState = 0 then b
  else
    let b := { b with meas := { b.meas with settling := true, icBad := 0 } }
    (b.wr Obj.Channel.RefState rsFAULT).condition Src.REF_FAULT 0 true

/-- The checks on the internal channels (R203). -/
def internalChecks (b : Block) : Block :=
  let v := b.value 64
  let bad := b.valid 64 && decide (6 < 5 * (v - 600).natAbs)
  let n := if bad then b.meas.icBad + 1 else if b.valid 64 then 0 else b.meas.icBad
  let b := { b with meas := { b.meas with icBad := min n 2 } }
  let b := if 2 ≤ n then b.refFault else b
  let b := if b.valid 71 then b.condition Src.GROUND_CHECK_FAIL 0 (decide (350 < (b.rdI 32 (Obj.Channel.Result 71)).natAbs)) else b
  let hot (c : Nat) : Bool := b.valid c && decide (115000 ≤ b.value c)
  if b.valid 69 || b.valid 70 then b.condition Src.DIE_TEMP_HIGH 0 (hot 69 || hot 70) else b

/-- The raw codes of the calibration windows (R206). -/
def calCapture (b : Block) (c : Nat) (q : Int) : Block :=
  let x := b.cal c
  match x.ended with
  | 2 => b.setCal c { x with zero := q }
  | 4 => b.setCal c { x with gain := some q }
  | _ => b

/-- The own results of the windows that ended (R196–R198): the holder's are the rack's. -/
def ownResults (b : Block) (raw : List Nat) (past : Nat) : Block :=
  match b.meas.ended with
  | none => b
  | some w =>
    if b.meas.delivered then b
    else
      let b := { b with meas := { b.meas with delivered := true, ownFlags := [] } }
      let b := allChannels.foldl (fun b c =>
        let q := toI 24 (raw.getD c 0)
        let r := b.localResult w past c q
        let b := b.wrI 32 (Obj.Channel.LocalResult c) r.1
        let b := if bitOf r.2 mfOVERRANGE then b.bump (Obj.Channel.OverRangeCount c) else b
        let b := if bitOf r.2 mfOVERRANGE || bitOf r.2 mfCLAMPED then b.report Src.MEAS_OVERRANGE c [r.1] else b
        let b := { b with meas := { b.meas with ownFlags := b.meas.ownFlags ++ [r.2] } }
        (if b.isHolder then b.deliver w c r.1 r.2 else b).calCapture c q) b
      let b := allChannels.foldl (fun b c => b.setCal c { b.cal c with ended := 0 }) b
      if b.isHolder then b.internalChecks else b

/-- The partner's set (R198): its results, and on the standby the rack's. -/
def partnerResults (b : Block) (results flags : List Nat) : Block :=
  let b := { b with meas := { b.meas with partnerCame := true, partnerFlags := flags } }
  let b := allChannels.foldl (fun b c => b.wrI 32 (Obj.Channel.PartnerResult c) (toI 24 (results.getD c 0))) b
  match b.meas.ended with
  | none => b
  | some w =>
    if b.isHolder then b
    else
      let b := allChannels.foldl (fun b c => b.deliver w c (toI 24 (results.getD c 0)) (flags.getD c 0 % 512)) b
      (b.condition Src.MEAS_LOCAL 0 false).internalChecks

/-- The holder's set has not come by tick 50 (R198): the standby uses its own. -/
def resultsMissing (b : Block) : Block :=
  match b.meas.ended with
  | none => b
  | some w =>
    if !b.meas.delivered || b.isHolder || b.meas.partnerCame || b.glade.boundary || decide (b.glade.tick < 50) then b
    else
      let b := allChannels.foldl (fun b c =>
        b.deliver w c (b.rdI 32 (Obj.Channel.LocalResult c)) (b.meas.ownFlags.getD c 0 + 2 ^ mfLOCAL)) b
      (b.condition Src.MEAS_LOCAL 0 true).internalChecks

/-- The cross-check of a cycle (R199). -/
def crossCheck (b : Block) : Block :=
  allChannels.foldl (fun b c =>
    let tol := b.rd (Obj.Channel.CrossTol c)
    let both := b.meas.partnerCame && b.valid c && bitOf (b.meas.partnerFlags.getD c 0) mfVALID
    let d := (b.rdI 32 (Obj.Channel.Result c) - b.rdI 32 (Obj.Channel.PartnerResult c)).natAbs * (fsNv (b.rd (Obj.Channel.Range c))).natAbs
    let n := if both ∧ tol ≠ 0 ∧ tol * 2 ^ 23 < d then min (Tab.look 0 b.meas.cross c + 1) 3 else 0
    let b := { b with meas := { b.meas with cross := Tab.put 0 b.meas.cross c n } }
    b.condition Src.MEAS_CROSS_DISAGREE c (n == 3)) b

/-! ### Calibration and reference (R205–R207) -/

/-- A request for calibration (R206): the first boundary at least 400 ticks later. -/
def calibrate (b : Block) (c : Nat) : Block :=
  let x := b.cal c
  if x.due.isSome then b else b.setCal c { x with due := some (b.glade.ticks + 400) }

/-- The factors of a finished calibration are adopted or refused (R207). -/
def calibrationDone (b : Block) (c : Nat) : Block :=
  let x := b.cal c
  match x.gain with
  | none => b
  | some q =>
    let b := b.setCal c { x with gain := none }
    let d := q - x.zero
    let gain := if d ≤ 0 then 0 else roundDiv (2 ^ 30 * 6990507) d
    if x.zero.natAbs ≤ 8389 ∧ 98 * 2 ^ 30 ≤ gain * 100 ∧ gain * 100 ≤ 102 * 2 ^ 30 then
      let b := if x.range = 1 then (b.wrI 32 (Obj.Channel.CalOffset1 c) x.zero).wr (Obj.Channel.CalGain1 c) gain.toNat
        else (b.wrI 32 (Obj.Channel.CalOffset0 c) x.zero).wr (Obj.Channel.CalGain0 c) gain.toNat
      (b.wr (Obj.Channel.CalSource c) 1).discardAvg c
    else b.report Src.MEAS_CAL_FAIL c [x.zero, gain]

/-- REF_READY (R205). -/
def refReady (b : Block) : Block :=
  if b.rd Obj.Channel.RefState = rsSETTLING ∧ b.rd Obj.Channel.RefLeadRemaining = 0 then b.wr Obj.Channel.RefState rsREADY else b

/-- The buffer starts (R204, R205). -/
def refStart (b : Block) : Block :=
  b.wrs [(Obj.Channel.RefState, rsSETTLING), (Obj.Channel.RefLeadRemaining, b.rd Obj.Channel.RefLeadCycles)]

/-! ### Comparators (R208, R209) -/

/-- ZERO_CROSSING: outside the blanking it is counted and reported to Glade. -/
def zeroCrossing (b : Block) (phase : Nat) (rising : Bool) (stamp clk : Nat) : Block :=
  let blank := b.rd (Obj.Channel.ZcBlank phase) * 2 ^ 32 / 360
  let hidden := match b.meas.lastZc.find? (fun e => e.1 == phase) with
    | some (_, s, k) => decide ((stamp + 2 ^ 32 - s) % 2 ^ 32 < blank) && decide (clk < k + b.cycleEdges)
    | none => false
  if hidden then b
  else
    let b := { b with meas := { b.meas with lastZc := Tab.set b.meas.lastZc phase (stamp, clk) } }
    (b.bump (Obj.Channel.ZcCount phase)).gladeCrossing phase rising stamp clk

/-! ### Commits (R200, R214) -/

/-- A commit has changed channels (R200, R212). -/
def measCommitted (b : Block) (keys : List Nat) : Block :=
  (keys.filter (fun k => inObj 0x3700 0x3747 k && [2, 3, 4, 5].contains (keySub k))).foldl (fun b k => b.discardAvg (keyIndex k - 0x3700)) b

/-- A renumbering discards every block (R200). -/
def measRenumbered (b : Block) : Block := allChannels.foldl discardAvg b

end Block

/-- ZERO_CROSSING (R208). -/
def execZeroCrossing (phase : Nat) (rising : Bool) (stamp clk : Nat) (s : State) : Host.Outcome State Fault Refusal :=
  s.actOn (decide (phase < 3)) .channel phase (·.zeroCrossing phase rising stamp clk)

/-- CALIBRATE (R206). -/
def execCalibrate (ch : Nat) (s : State) : Host.Outcome State Fault Refusal := s.actOn (decide (ch < 72)) .channel ch (·.calibrate ch)

/-- CALIBRATE_ALL (R206). -/
def execCalibrateAll (s : State) : Host.Outcome State Fault Refusal := s.act (fun b => allChannels.foldl Block.calibrate b)

/-- REF_READY (R205). -/
def execRefReady (s : State) : Host.Outcome State Fault Refusal := s.act Block.refReady

/-- REF_FAULT (R205). -/
def execRefFault (s : State) : Host.Outcome State Fault Refusal := s.act Block.refFault

end Sys2Proof.Machine
end

