-- ==== Sys2Proof/Machine/Sha.lean ====
section
/-! DEFINITION. SHA-256 and HMAC-SHA-256 over bytes, as the pack authentication of R263 uses them. -/

namespace Sys2Proof.Machine

/-- The round constants of SHA-256. -/
def shaK : List Nat :=
  [0x428a2f98, 0x71374491, 0xb5c0fbcf, 0xe9b5dba5, 0x3956c25b, 0x59f111f1, 0x923f82a4, 0xab1c5ed5,
   0xd807aa98, 0x12835b01, 0x243185be, 0x550c7dc3, 0x72be5d74, 0x80deb1fe, 0x9bdc06a7, 0xc19bf174,
   0xe49b69c1, 0xefbe4786, 0x0fc19dc6, 0x240ca1cc, 0x2de92c6f, 0x4a7484aa, 0x5cb0a9dc, 0x76f988da,
   0x983e5152, 0xa831c66d, 0xb00327c8, 0xbf597fc7, 0xc6e00bf3, 0xd5a79147, 0x06ca6351, 0x14292967] ++
  [0x27b70a85, 0x2e1b2138, 0x4d2c6dfc, 0x53380d13, 0x650a7354, 0x766a0abb, 0x81c2c92e, 0x92722c85,
   0xa2bfe8a1, 0xa81a664b, 0xc24b8b70, 0xc76c51a3, 0xd192e819, 0xd6990624, 0xf40e3585, 0x106aa070,
   0x19a4c116, 0x1e376c08, 0x2748774c, 0x34b0bcb5, 0x391c0cb3, 0x4ed8aa4a, 0x5b9cca4f, 0x682e6ff3,
   0x748f82ee, 0x78a5636f, 0x84c87814, 0x8cc70208, 0x90befffa, 0xa4506ceb, 0xbef9a3f7, 0xc67178f2]

/-- A sum of 32 bits. -/
def add32 (a b : Nat) : Nat := (a + b) % 2 ^ 32

/-- Rotation of 32 bits to the right. -/
def ror32 (n x : Nat) : Nat := x / 2 ^ n + x % 2 ^ n * 2 ^ (32 - n)

/-- The message schedule, newest word first, extended by n words. -/
def shaSchedule : Nat → List Nat → List Nat
  | 0, l => l
  | n + 1, l =>
    let w (i : Nat) : Nat := l.getD (i - 1) 0
    let s0 := ror32 7 (w 15) ^^^ ror32 18 (w 15) ^^^ (w 15 / 8)
    let s1 := ror32 17 (w 2) ^^^ ror32 19 (w 2) ^^^ (w 2 / 1024)
    shaSchedule n ((w 16 + s0 + w 7 + s1) % 2 ^ 32 :: l)

/-- The rounds over pairs of constant and schedule word. -/
def shaRounds : List (Nat × Nat) → List Nat → List Nat
  | [], h => h
  | (k, w) :: r, h =>
    match h with
    | [a, b, c, d, e, f, g, i] =>
      let s1 := ror32 6 e ^^^ ror32 11 e ^^^ ror32 25 e
      let ch := (e &&& f) ^^^ ((2 ^ 32 - 1 - e) &&& g)
      let t1 := i + s1 + ch + k + w
      let s0 := ror32 2 a ^^^ ror32 13 a ^^^ ror32 22 a
      let mj := (a &&& b) ^^^ (a &&& c) ^^^ (b &&& c)
      shaRounds r [(t1 + s0 + mj) % 2 ^ 32, a, b, c, (d + t1) % 2 ^ 32, e, f, g]
    | _ => h

/-- A big-endian word of four bytes. -/
def beValue (l : List Nat) : Nat := l.foldl (fun v x => v * 256 + x % 256) 0

/-- Big-endian bytes of a value. -/
def beBytes (n v : Nat) : List Nat := (leBytes n v).reverse

/-- The blocks of a padded message run through the compression; at most n blocks. -/
def shaBlocks : Nat → List Nat → List Nat → List Nat
  | 0, _, h => h
  | n + 1, m, h =>
    match m with
    | [] => h
    | _ =>
      let first := (List.range 16).map (fun i => beValue ((m.drop (4 * i)).take 4))
      let w := (shaSchedule 48 first.reverse).reverse
      let r := shaRounds (shaK.zip w) h
      shaBlocks n (m.drop 64) (List.zipWith add32 h r)

/-- SHA-256 of a byte string. -/
def sha256 (m : List Nat) : List Nat :=
  let pad := (119 - m.length % 64) % 64
  let p := m ++ [0x80] ++ List.replicate pad 0 ++ beBytes 8 (m.length * 8)
  (shaBlocks (p.length / 64) p
    [0x6a09e667, 0xbb67ae85, 0x3c6ef372, 0xa54ff53a, 0x510e527f, 0x9b05688c, 0x1f83d9ab, 0x5be0cd19]).flatMap (beBytes 4)

/-- HMAC-SHA-256 under a key of at most 64 bytes. -/
def hmac256 (key m : List Nat) : List Nat :=
  let k := (key ++ List.replicate 64 0).take 64
  sha256 (k.map (· ^^^ 0x5c) ++ sha256 (k.map (· ^^^ 0x36) ++ m))

end Sys2Proof.Machine
end

