-- ==== Sys2Proof/Machine/Battery.lean ====
section
/-! DEFINITION. Battery strings (chapter 8): presence, estimation, levels, limits, modes, tests and identity. Charge is counted in
units of mA × 5 ns / 1,024. -/

namespace Sys2Proof.Machine

/-- Presence (R266). -/
def prABSENT : Nat := 1
def prPRESENT : Nat := 2
def prTHERM_SHORT : Nat := 3

/-- Identity (R265). -/
def idNOT_CHECKED : Nat := 0
def idPENDING : Nat := 1
def idAUTHENTICATED : Nat := 2
def idAUTH_FAILED : Nat := 3
def idPACK_ID_CONFLICT : Nat := 4
def idNO_RESPONSE : Nat := 5
def idNOT_FITTED : Nat := 6

/-- Bits of EstFlags (R269). -/
def efEST_HEADS : Nat := 0
def efQ_CLAMPED : Nat := 1
def efSOC_COARSE : Nat := 2
def efSOH_UNLEARNED : Nat := 3
def efPACK_UNIDENTIFIED : Nat := 4

/-- One mAh in units of charge. -/
def unitsPerMah : Nat := 3600 * 200000000 * 1024

namespace Block

/-! ### Supervisor results on their way to the next boundary (R31) -/

def supWr (b : Block) (key v : Nat) : Block := { b with sup := { b.sup with writes := b.sup.writes ++ [(key, v)] } }
def supWrI (b : Block) (w key : Nat) (v : Int) : Block := b.supWr key (ofI w v)

/-- The value an object will have after the boundary as far as this computation has decided it. -/
def supRd (b : Block) (key : Nat) : Nat := ((b.sup.writes.reverse.find? (fun e => e.1 == key)).map (·.2)).getD (b.rd key)

/-! ### Records -/

/-- A string that BAT ports name (R267). -/
def stringOn (b : Block) (n : Nat) : Bool := decide (n < 16) && !(b.stringPorts n).isEmpty

def estFlag (b : Block) (n i : Nat) : Bool := bitOf (b.rd (Obj.StringRecord.EstFlags n)) i
def setEstFlag (b : Block) (n i : Nat) (on : Bool) : Block :=
  b.wr (Obj.StringRecord.EstFlags n) (putBit (b.rd (Obj.StringRecord.EstFlags n)) i on)

/-- An event whose bit in WarnInterruptMask is set forms an alert (R254). -/
def stringEvent (b : Block) (n bit : Nat) : Block :=
  if bitOf (b.rd (Obj.StringRecord.WarnInterruptMask n)) bit then { b with events := b.events ++ [(2, n, bit)] } else b

/-- Soc, RemainingCharge, CapacityEstimate and Soh as the estimate gives them (R255, R257). -/
def showEstimate (b : Block) (n : Nat) : Block :=
  let x := b.bat n
  b.wrs [(Obj.StringRecord.Soc n, min (roundDivN (x.q * 10000) x.cap) 10000), (Obj.StringRecord.RemainingCharge n, roundDivN x.q unitsPerMah),
    (Obj.StringRecord.CapacityEstimate n, roundDivN x.cap unitsPerMah),
    (Obj.StringRecord.Soh n, min (roundDivN (x.cap * 10000) (b.rd (Obj.StringRecord.RatedCapacity n) * unitsPerMah)) 0xFFFF)]

/-- Q is set from a Soc in 0.01 %. -/
def setSoc (b : Block) (n soc : Nat) : Block :=
  let x := b.bat n
  ((b.setBat n { x with q := x.cap * soc / 10000 }).showEstimate n).wr (Obj.StringRecord.Soc n) soc

/-- RatedCapacity in units of charge. -/
def ratedUnits (b : Block) (n : Nat) : Nat := b.rd (Obj.StringRecord.RatedCapacity n) * unitsPerMah

/-- The string values are stored in Heartwood (R258). -/
def storeString (b : Block) (n : Nat) : Block :=
  let x := b.bat n
  if b.heartwoodRefuses (setAddress 8) then b.storeSet 8 {}
  else b.setBat n { x with
    storedAt := b.glade.cycles
    storeBefore := x.store
    store := {
      q := x.q, cap := x.cap, soh := b.rd (Obj.StringRecord.Soh n), flags := b.rd (Obj.StringRecord.EstFlags n)
      packId := b.rd (Obj.StringRecord.PackId n), dischargedAh := b.rd (Obj.StringRecord.DischargedAh n)
      anchorSoc := b.rd (Obj.StringRecord.LastAnchorSoc n)
      absent := x.absentSeen || (x.store.absent && b.rd (Obj.StringRecord.Presence n) != prPRESENT), held := x.held } }

/-- A power-up resumes the stored values (R258). -/
def recallString (b : Block) (n : Nat) (st : StringStore) : Block :=
  let b := b.setBat n { store := st, q := st.q, cap := st.cap, held := st.held }
  (b.wrs [(Obj.StringRecord.EstFlags n, st.flags - st.flags % 2), (Obj.StringRecord.PackId n, st.packId),
    (Obj.StringRecord.DischargedAh n, st.dischargedAh), (Obj.StringRecord.LastAnchorSoc n, st.anchorSoc)]).showEstimate n

/-! ### Inhibit and the support set (R228, R247, R250, R251, R268) -/

/-- The Inhibit bits, from a reading of the objects. -/
def inhibitBits (b : Block) (n : Nat) (get : Nat → Nat) : Nat :=
  let t := toI 16 (get (Obj.StringRecord.Temperature n))
  let known := get (Obj.StringRecord.Temperature n) != 0x8000
  let lim (k : Nat) : Int := toI 16 (get k)
  let outside (lo hi : Nat) : Bool := known && (decide (t < lim lo) || decide (lim hi < t))
  flag 0 (get (Obj.StringRecord.Presence n) != prPRESENT) +
    flag 1 (outside (Obj.StringRecord.DischargeTempLow n) (Obj.StringRecord.DischargeTempHigh n)) +
    flag 2 (get (Obj.StringRecord.DischargeLevel n) == 3) +
    flag 3 (outside (Obj.StringRecord.ChargeTempLow n) (Obj.StringRecord.ChargeTempHigh n)) +
    flag 4 (get (Obj.StringRecord.ChargeLevel n) == 2) +
    flag 5 (get (Obj.StringRecord.AuthPolicy n) == 1 && get (Obj.StringRecord.Identity n) != idAUTHENTICATED) +
    flag 6 (get (Obj.ChargeAllocation.Entry n) == 0) + flag 7 (b.holdupState != huMAINS) + flag 8 (get (Obj.StringRecord.TestStatus n) == 1)

/-- Inhibit as it stands now. -/
def showInhibit (b : Block) (n : Nat) : Block :=
  let v := b.inhibitBits n b.rd
  if v = b.rd (Obj.StringRecord.Inhibit n) then b else b.wr (Obj.StringRecord.Inhibit n) v

/-- A string's group is RUNNING. -/
def stringRuns (b : Block) (n : Nat) : Bool :=
  match b.stringGroup n with
  | some g => b.groupState g == gsRUNNING
  | none => false

/-- Discharge is allowed (R250). -/
def mayDischarge (b : Block) (n : Nat) : Bool := b.rd (Obj.StringRecord.Inhibit n) % 8 == 0 && b.stringRuns n

/-- A string leaves the support set, and SUPPORT with it (R251). -/
def leaveSet (b : Block) (n : Nat) : Block :=
  let b := b.setBat n { b.bat n with support := false, limitBus := 0 }
  let b := b.wrs [(Obj.StringRecord.DischargeLimit n, 0), (Obj.StringRecord.SupportWeight n, 0)]
  if b.stringMode n = smSUPPORT then b.wr (Obj.StringRecord.Mode n) smREST else b

/-- SupportWeight over the support set (R250). -/
def showWeights (b : Block) : Block :=
  let sum := b.supportLimit
  b.supportSet.foldl (fun b n =>
    b.wr (Obj.StringRecord.SupportWeight n) (min (roundDiv ((b.bat n).limitBus * 32768) sum).toNat 0xFFFF)) b

/-- In every tick: strings whose discharge is no longer allowed leave the set, the others' weights are rescaled (R251). -/
def supportTick (b : Block) : Block :=
  let gone := b.supportSet.filter (fun n => !b.mayDischarge n)
  if gone.isEmpty then b else (gone.foldl leaveSet b).showWeights

/-- A test is abandoned (R252). -/
def abandonTest (b : Block) (n : Nat) : Block :=
  if b.rd (Obj.StringRecord.TestStatus n) = 1 then
    let b := (b.wr (Obj.StringRecord.TestStatus n) 4).setBat n { b.bat n with testLeft := 0, nextMode := none }
    if b.stringMode n = smTEST then b.wr (Obj.StringRecord.Mode n) smREST else b
  else b

/-! ### The open-circuit voltage (R256, R258) -/

/-- The table's segment that holds a cell voltage in µV: its index and its ends in mV. -/
def ocvSegment (b : Block) (n : Nat) (v : Int) : Option (Nat × Nat × Nat) :=
  let t (i : Nat) : Nat := b.rd (Obj.StringRecord.OcvTable n i)
  ((List.range 10).find? (fun i => decide ((t i * 1000 : Nat) ≤ v) && decide (v ≤ (t (i + 1) * 1000 : Nat)))).map (fun i => (i, t i, t (i + 1)))

/-- The present cell voltage, µV. -/
def cellVolts (b : Block) (n : Nat) : Int :=
  roundDiv (b.rdI 32 (Obj.StringRecord.Voltage n) * 1000) (b.rd (Obj.StringRecord.CellCount n))

/-- Soc within a segment, 0.01 %. -/
def ocvSoc (v : Int) (s : Nat × Nat × Nat) : Nat :=
  (s.1 * 1000 + roundDiv ((v - (s.2.1 * 1000 : Nat)) * 1000) ((s.2.2 - s.2.1) * 1000 : Nat)).toNat

/-- Soc from the table at an insertion; outside it, and on a segment that does not rise, the spec gives no value: a free one. -/
def insertionSoc (b : Block) (n : Nat) : Nat × Block :=
  let v := b.cellVolts n
  match b.ocvSegment n v with
  | some s => if s.2.1 < s.2.2 then (ocvSoc v s, b) else let d := b.draw 14; (min d.1 10000, d.2)
  | none => let d := b.draw 14; (min d.1 10000, d.2)

/-- An anchor (R257). -/
def anchor (b : Block) (n soc : Nat) : Block :=
  let x := b.bat n
  let last := b.rd (Obj.StringRecord.LastAnchorSoc n)
  let d := ((soc : Int) - last).natAbs
  let rated := b.ratedUnits n
  let b :=
    if x.anchored ∧ 4000 ≤ d ∧ !b.estFlag n efPACK_UNIDENTIFIED then
      let c := x.dq.natAbs * 10000 / d
      if rated ≤ 2 * c ∧ 10 * c ≤ 11 * rated then
        ((b.setBat n { x with cap := ((x.cap : Int) + roundDiv ((c : Int) - x.cap) 8).toNat }).setEstFlag n efSOH_UNLEARNED false).report
          Src.CAPACITY_LEARNED n [c / unitsPerMah]
      else b.report Src.CAPACITY_IMPLAUSIBLE n [c / unitsPerMah]
    else b
  let b := b.setBat n { b.bat n with dq := 0, anchored := true }
  let b := (b.setEstFlag n efSOC_COARSE false).setEstFlag n efQ_CLAMPED false
  ((b.wr (Obj.StringRecord.LastAnchorSoc n) soc).setSoc n soc).storeString n

/-- OCV_ANCHOR (R256). -/
def ocvAnchor (b : Block) (n : Nat) : Block :=
  let x := b.bat n
  if x.ocvDone ∨ x.rest < b.rd (Obj.StringRecord.RestCycles n) then b
  else
    let b := b.setBat n { x with ocvDone := true }
    let v := b.cellVolts n
    match b.ocvSegment n v with
    | some s => if s.2.1 < s.2.2 ∧ b.rd (Obj.StringRecord.OcvMinSlope n) ≤ s.2.2 - s.2.1 then b.anchor n (ocvSoc v s) else b
    | none => b

/-! ### Presence (R260–R262) -/

/-- The temperature of a thermistor voltage in mV, 0.1 °C (R260); where the formula has no value, a free one. -/
def thermistor (b : Block) (n : Nat) (v : Int) : Int × Block :=
  let bias : Int := b.rd (Obj.StringRecord.ThermBias n)
  let up : Int := b.rd (Obj.StringRecord.ThermPullup n)
  let nom : Int := b.rd (Obj.StringRecord.ThermNominal n)
  let top := (up * v).toNat
  let low := ((bias - v) * nom).toNat
  let inv := roundDiv (2 ^ 60 * 100) 29815 + roundDiv (lnRatio top low) (b.rd (Obj.StringRecord.ThermBeta n))
  if top = 0 ∨ low = 0 ∨ inv = 0 then let d := b.draw 16; (toI 16 d.1, d.2)
  else (clampI (-32767) 32767 (roundDiv (20 * 2 ^ 60 - 5463 * inv) (2 * inv)), b)

/-- Presence leaves PRESENT, or goes from ABSENT to THERM_SHORT or back (R261, R262). -/
def presenceLost (b : Block) (n v : Nat) : Block :=
  let old := b.rd (Obj.StringRecord.Presence n)
  let b := b.setBat n { b.bat n with inBand := 0, absentSeen := (b.bat n).absentSeen || decide (v = prABSENT), startWanted := false }
  if old = v then b
  else
    let b := b.wrs [(Obj.StringRecord.Presence n, v), (Obj.StringRecord.Temperature n, 0x8000)]
    let b := if old = prPRESENT then b.condition Src.STRING_ABSENT n true else b
    let b := (b.condition Src.STRING_THERM_SHORT n (v == prTHERM_SHORT)).stringEvent n 5
    let b := (b.abandonTest n).showInhibit n
    let b := match b.stringGroup n with
      | some g => if old = prPRESENT ∧ (b.groupState g = gsRUNNING ∨ b.groupState g = gsSTARTING) then b.groupStop g gsSTOPPED else b
      | none => b
    (b.leaveSet n).storeString n

/-- A delivery of a string's results: Voltage, Current, Temperature and Presence (R261, R266). -/
def stringResults (b : Block) (n : Nat) : Block :=
  if !b.stringOn n then b
  else
    let take (b : Block) (key ch : Nat) : Block := if ch < 64 ∧ b.valid ch then b.wrI 32 key (b.value ch) else b
    let b := (take b (Obj.StringRecord.Voltage n) (b.rd (Obj.StringRecord.VoltageChannel n)))
    let b := take b (Obj.StringRecord.Current n) (b.rd (Obj.StringRecord.CurrentChannel n))
    let c := b.rd (Obj.StringRecord.ThermChannel n)
    if 64 ≤ c then b
    else
      let v := b.value c
      let fl := b.rd (Obj.Channel.Flags c)
      if bitOf fl mfOVERRANGE ∨ (b.rd (Obj.StringRecord.ThermOpenLevel n) : Int) < v then b.presenceLost n prABSENT
      else if !bitOf fl mfVALID then b
      else if v < (b.rd (Obj.StringRecord.ThermShortLevel n) : Int) then b.presenceLost n prTHERM_SHORT
      else
        let b := b.setBat n { b.bat n with inBand := min ((b.bat n).inBand + 1) 255 }
        if b.rd (Obj.StringRecord.Presence n) = prPRESENT then
          let t := b.thermistor n v
          t.2.wrI 16 (Obj.StringRecord.Temperature n) t.1
        else b

/-- Identity changes (R254, R265, R271). -/
def setIdentity (b : Block) (n v : Nat) : Block :=
  if b.rd (Obj.StringRecord.Identity n) = v then b
  else
    let b := b.wr (Obj.StringRecord.Identity n) v
    let b := if v = idPENDING then b
      else ((b.condition Src.PACK_AUTH_FAIL n (v == idAUTH_FAILED)).condition Src.PACK_ID_CONFLICT n (v == idPACK_ID_CONFLICT)).condition
        Src.PACK_NO_RESPONSE n (v == idNO_RESPONSE)
    (b.stringEvent n 6).showInhibit n

/-- An attempt falls due at the next boundary (R262, R265). -/
def authDue (b : Block) (n : Nat) : Block :=
  let x := b.bat n
  if !b.isHolder || b.rd (Obj.StringRecord.AuthPort n) == 0 || x.auth != 0 then b
  else (b.setBat n { x with auth := 1, identityBefore := b.rd (Obj.StringRecord.Identity n), nextAuth := none }).setIdentity n idPENDING

/-- A new pack (R258): C_est is the rated capacity, unlearned. -/
def newPack (b : Block) (n : Nat) : Block :=
  let x := b.bat n
  let cap := b.ratedUnits n
  let soc := b.rd (Obj.StringRecord.Soc n)
  ((b.setBat n { x with cap, q := cap * soc / 10000, anchored := false, dq := 0, held := none }).setEstFlag n efSOH_UNLEARNED true).showEstimate n

/-- What every insertion does (R258): Soc from the table, coarse. -/
def insertion (b : Block) (n : Nat) : Block :=
  let s := b.insertionSoc n
  let b := s.2.setBat n { s.2.bat n with anchored := false, dq := 0 }
  (b.setSoc n s.1).setEstFlag n efSOC_COARSE true

/-- PRESENCE_GAIN (R258, R261, R262). -/
def presenceGain (b : Block) (n : Nat) : Block :=
  let x := b.bat n
  if !b.stringOn n || b.rd (Obj.StringRecord.Presence n) == prPRESENT || decide (x.inBand < b.rd (Obj.StringRecord.PresenceCycles n)) then b
  else
    let b := b.wr (Obj.StringRecord.Presence n) prPRESENT
    let t := b.thermistor n (b.value (b.rd (Obj.StringRecord.ThermChannel n)))
    let b := t.2.wrI 16 (Obj.StringRecord.Temperature n) t.1
    let b := ((b.condition Src.STRING_ABSENT n false).condition Src.STRING_THERM_SHORT n false).report Src.PACK_INSERTED n
    let b := (b.stringEvent n 5).showInhibit n
    let port := b.rd (Obj.StringRecord.AuthPort n)
    let ins := if port = 0 then x.absentSeen else x.store.absent || x.absentSeen
    let b := if ins then b.insertion n else b
    let b := b.setBat n { b.bat n with
      absentSeen := false, store := { (b.bat n).store with absent := false }, inserting := ins && port != 0, gained := port != 0, startWanted := true }
    let b := if port = 0 then
        let b := b.setIdentity n idNOT_FITTED
        if ins then (b.newPack n).report Src.PACK_NEW n else b
      else ((List.range 16).filter (fun m => b.stringOn m && b.rd (Obj.StringRecord.AuthPort m) == port)).foldl authDue b
    b.storeString n

/-! ### Identity (R258, R263, R265) -/

/-- The AuthKey of a string (R266). -/
def authKey (b : Block) (n : Nat) : List Nat := Tab.look [] b.domains (objKey (0x3600 + n) 0x34)

/-- What the PackId of an ended attempt decides for the estimate (R258). -/
def packDecided (b : Block) (n : Nat) (id : Option Nat) : Block :=
  let x := b.bat n
  let stored := b.rd (Obj.StringRecord.PackId n)
  let b := b.setBat n { x with inserting := false, gained := false }
  match id, x.held with
  | some i, some (cap, unlearned, old) =>
    let b := b.wr (Obj.StringRecord.PackId n) i
    let b := (b.setBat n { b.bat n with held := none }).setEstFlag n efPACK_UNIDENTIFIED false
    if i = old then
      let soc := b.rd (Obj.StringRecord.Soc n)
      ((b.setBat n { b.bat n with cap, q := cap * soc / 10000 }).setEstFlag n efSOH_UNLEARNED unlearned).showEstimate n
    else b.report Src.PACK_NEW n
  | some i, none =>
    let b := b.wr (Obj.StringRecord.PackId n) i
    if i ≠ stored ∧ (x.inserting ∨ x.gained) then
      let b := if x.inserting then b else b.insertion n
      (b.newPack n).report Src.PACK_NEW n
    else b
  | none, held =>
    if x.inserting ∧ held.isNone then
      let keep := (x.cap, b.estFlag n efSOH_UNLEARNED, stored)
      let b := (b.newPack n).setEstFlag n efPACK_UNIDENTIFIED true
      b.setBat n { b.bat n with held := some keep }
    else b

/-- An attempt ends (R263, R265). -/
def authOutcome (b : Block) (n v : Nat) (id : Option Nat) : Block :=
  let next := if v = idAUTHENTICATED then b.rd (Obj.StringRecord.AuthInterval n) else 500
  let b := b.setBat n { b.bat n with auth := 0, nonce := [], retried := false, nextAuth := some (b.glade.cycles + next) }
  let b := b.wrs [(Obj.StringRecord.LastAuthEpoch n, b.glade.epoch), (Obj.StringRecord.LastAuthCycle n, b.glade.cycle)]
  let b := if v = idAUTHENTICATED then b else b.bump (Obj.StringRecord.AuthFailures n)
  ((b.setIdentity n v).packDecided n id).storeString n

/-- The strings of an attempt's port that come before it or are being served. -/
def authFree (b : Block) (n : Nat) : Bool :=
  let port := b.rd (Obj.StringRecord.AuthPort n)
  (List.range 16).all (fun m => m == n || b.rd (Obj.StringRecord.AuthPort m) != port ||
    (decide ((b.bat m).auth < 3) && ((b.bat m).auth != 2 || decide (n < m))))

/-- A nonce of the device's random source: 16 free values. -/
def drawNonce (b : Block) : Nat → List Nat × Block
  | 0 => ([], b)
  | k + 1 => let d := b.draw 8; let r := d.2.drawNonce k; (d.1 :: r.1, r.2)

/-- AUTH_START (R263): the nonce is written; `ok` where the pack took it. -/
def authStart (b : Block) (n : Nat) (ok : Bool) : Block :=
  let x := b.bat n
  if !b.isHolder || x.auth != 2 || !b.authFree n then b
  else
    let r := b.drawNonce 16
    (r.2.setBat n { x with nonce := r.1, auth := if ok then 3 else 4 }).bump (Obj.StringRecord.AuthAttempts n)

/-- AUTH_NACK_RETRY (R263): the write is repeated once. -/
def authRetry (b : Block) (n : Nat) (ok : Bool) : Block :=
  let x := b.bat n
  if x.auth ≠ 4 then b
  else if ok then b.setBat n { x with auth := 3 }
  else b.authOutcome n idNO_RESPONSE none

/-- A response read (R263): `ok` where it came with a good PEC, `data` the bytes after the count. -/
def authResponse (b : Block) (n : Nat) (again ok : Bool) (data : List Nat) : Block :=
  let x := b.bat n
  if x.auth ≠ (if again then 5 else 3) then b
  else if !ok ∨ data.length ≠ 41 then
    if again then b.authOutcome n idPACK_ID_CONFLICT none else b.setBat n { x with auth := 5 }
  else if data.getD 0 0 % 2 = 1 then b.authOutcome n idPACK_ID_CONFLICT none
  else
    let id := (data.drop 1).take 8
    if hmac256 (b.authKey n) (x.nonce ++ id) = data.drop 9 then b.authOutcome n idAUTHENTICATED (some (beValue id))
    else b.authOutcome n idAUTH_FAILED none

/-- An ABORT of a string's authentication (R263): Identity as it was, no failure counted. -/
def authAbort (b : Block) (n : Nat) : Block :=
  let x := b.bat n
  if x.auth = 0 then b
  else
    let wait := if x.identityBefore = idAUTHENTICATED then b.rd (Obj.StringRecord.AuthInterval n) else 500
    (b.setBat n { x with auth := 0, nonce := [], nextAuth := some (b.glade.cycles + wait) }).setIdentity n x.identityBefore

/-- AUTH_INTERVAL_EXPIRY (R265). -/
def authExpiry (b : Block) (n : Nat) : Block :=
  match (b.bat n).nextAuth with
  | some c => if c ≤ b.glade.cycles then b.authDue n else b
  | none => b

/-! ### Levels (R253) -/

/-- The discharge level a Soc gives, from the level before. -/
def nextDischarge (b : Block) (n soc : Nat) : Nat :=
  let lim (k : Nat) : Nat := b.rd k
  let w1 := lim (Obj.StringRecord.W1Soc n)
  let w2 := lim (Obj.StringRecord.W2Soc n)
  let bySoc := if soc ≤ w2 then 2 else if soc ≤ w1 then 1 else 0
  match b.rd (Obj.StringRecord.DischargeLevel n) with
  | 3 => if (b.bat n).charged ∧ lim (Obj.StringRecord.RecoverSoc n) ≤ soc then bySoc else 3
  | lvl =>
    if soc ≤ lim (Obj.StringRecord.CutoffSoc n) then 3
    else if soc ≤ w2 then 2
    else if lvl = 2 then if soc < w2 + 200 then 2 else if soc < w1 + 200 then 1 else 0
    else if soc ≤ w1 then 1
    else if lvl = 1 ∧ soc < w1 + 200 then 1
    else 0

/-- The charge level, from the results of the cycle. -/
def nextCharge (b : Block) (n : Nat) : Nat :=
  let cells : Int := b.rd (Obj.StringRecord.CellCount n)
  let v := b.rdI 32 (Obj.StringRecord.Voltage n)
  let t := b.rdI 16 (Obj.StringRecord.Temperature n)
  let known := b.rd (Obj.StringRecord.Temperature n) != 0x8000
  let lo := b.rdI 16 (Obj.StringRecord.ChargeTempLow n)
  let hi := b.rdI 16 (Obj.StringRecord.ChargeTempHigh n)
  let band : Int := b.rd (Obj.StringRecord.DerateBand n)
  let out := known && (decide (t < lo) || decide (hi < t))
  let near := known && (decide (((t - lo).natAbs : Int) ≤ band) || decide (((t - hi).natAbs : Int) ≤ band))
  let past (k : Nat) : Bool := decide ((b.rd k : Int) * cells ≤ v)
  let stop := past (Obj.StringRecord.ChargeStopVoltage n) || out
  let held := b.rd (Obj.StringRecord.ChargeLevel n) == 2 && (decide ((b.rd (Obj.StringRecord.ChargeVoltage n) : Int) * cells < v) || out)
  if stop || held then 2 else if past (Obj.StringRecord.ChargeWarnVoltage n) || near then 1 else 0

/-- Levels change: their conditions and alerts (R253, R254, R271). -/
def levelsChanged (b : Block) (n old new oldC newC : Nat) : Block :=
  let b := ((b.condition Src.BAT_W1 n (new == 1)).condition Src.BAT_W2 n (new == 2)).condition Src.BAT_CUTOFF n (new == 3)
  let b := (b.condition Src.BAT_CHG_WARN n (newC == 1)).condition Src.BAT_CHG_STOP n (newC == 2)
  let b := if new ≠ old ∧ 0 < new then b.stringEvent n (new - 1) else b
  if newC ≠ oldC ∧ 0 < newC then b.stringEvent n (newC + 2) else b

/-- V_STR of a string in a tick (R253): the median over its phases in service. -/
def tickVoltage (b : Block) (n : Nat) : Option Int :=
  medianAll (((b.stringPorts n).filter (fun p => b.portState p == psIN_SERVICE && b.fresh p)).map b.ownVolts)

/-- The cutoff voltage test of a tick. -/
def cutoffTick (b : Block) (n : Nat) : Block :=
  let md := b.stringMode n
  let x := b.bat n
  if md ≠ smSUPPORT ∧ md ≠ smTEST then if x.cutTicks = 0 then b else b.setBat n { x with cutTicks := 0 }
  else match b.tickVoltage n with
    | none => b
    | some v =>
      let low : Int := b.rd (Obj.StringRecord.CutoffVoltage n) * b.rd (Obj.StringRecord.CellCount n) * 1000
      b.setBat n { x with cutTicks := if v ≤ low then x.cutTicks + 1 else 0 }

/-- CUTOFF_VOLTAGE (R253). -/
def cutoffVoltage (b : Block) (n : Nat) : Block :=
  let x := b.bat n
  let old := b.rd (Obj.StringRecord.DischargeLevel n)
  if x.cutTicks < b.rd (Obj.StringRecord.CutoffTicks n) ∨ old = 3 then b
  else
    let cut := b.rd (Obj.StringRecord.CutoffSoc n)
    let b := if cut < b.rd (Obj.StringRecord.Soc n) then b.setSoc n cut else b
    let b := (b.setEstFlag n efSOC_COARSE true).wr (Obj.StringRecord.DischargeLevel n) 3
    let b := b.setBat n { b.bat n with charged := false, cutTicks := 0 }
    let b := { b with sup := { b.sup with
      writes := b.sup.writes.filter (fun e => e.1 != Obj.StringRecord.DischargeLevel n && e.1 != Obj.StringRecord.EstFlags n && e.1 != Obj.StringRecord.Soc n) } }
    let lvl := b.rd (Obj.StringRecord.ChargeLevel n)
    let b := ((b.levelsChanged n old 3 lvl lvl).showInhibit n).abandonTest n
    (b.leaveSet n).showWeights

/-! ### The supervisors' cycle (R247, R249, R250, R255, R259) -/

/-- The mean of the sum of the heads' I_AVG over the cycle, nA; and whether every sample of it was fresh. -/
def headsCurrent (b : Block) (n : Nat) : Int × Bool :=
  let ps := b.stringPorts n
  ((ps.map (fun p => roundDiv ((b.port p).last.iAll) (b.port p).last.ticks)).sum,
   ps.all (fun p => decide (0 < (b.port p).last.ticks) && (b.port p).last.fresh == (b.port p).last.ticks))

/-- The charge of a cycle (R255). -/
def countCharge (b : Block) (n : Nat) : Block :=
  match b.meas.ended with
  | none => b
  | some w =>
    let c := b.rd (Obj.StringRecord.CurrentChannel n)
    let ok := decide (c < 64) && b.valid c
    let x := b.bat n
    let i : Int := if ok then b.value c * 10 ^ 6 else (b.headsCurrent n).1
    let eff : Int := if i < 0 then b.rd (Obj.StringRecord.ChargeEfficiency n) else 1024
    let d := roundDiv (i * w.edges * eff) (10 ^ 6)
    let q := (x.q : Int) - d
    let clamped := decide (q < 0) || decide ((x.cap : Int) < q)
    let dis := x.discharged + d.toNat
    let ah := unitsPerMah * 1000
    let b := b.setBat n { x with q := (clampI 0 x.cap q).toNat, dq := x.dq + d, discharged := dis % ah }
    let b := if dis / ah = 0 then b else b.bump (Obj.StringRecord.DischargedAh n) 32 (dis / ah)
    let fl := putBit (b.rd (Obj.StringRecord.EstFlags n)) efEST_HEADS (!ok)
    let b := b.supWr (Obj.StringRecord.EstFlags n) (if clamped then putBit fl efQ_CLAMPED true else fl)
    let x := b.bat n
    ((b.supWr (Obj.StringRecord.Soc n) (min (roundDivN (x.q * 10000) x.cap) 10000)).supWr (Obj.StringRecord.RemainingCharge n)
      (roundDivN x.q unitsPerMah))

/-- STRING_CURRENT_DISAGREE (R259). -/
def currentCheck (b : Block) (n : Nat) : Block :=
  let c := b.rd (Obj.StringRecord.CurrentChannel n)
  let h := b.headsCurrent n
  let x := b.bat n
  if 64 ≤ c ∨ !b.valid c ∨ !h.2 then b
  else
    let bad := decide (b.rd (Obj.StringRecord.MaxDischargeCurrent n) * 5 * 10 ^ 4 < (b.value c * 10 ^ 6 - h.1).natAbs)
    let k := if bad then min (x.disagree + 1) 3 else 0
    (b.setBat n { x with disagree := k }).condition Src.STRING_CURRENT_DISAGREE n (k == 3)

/-- Rest and taper runs (R249, R256). -/
def restRuns (b : Block) (n : Nat) : Block :=
  let x := b.bat n
  let i := (b.rdI 32 (Obj.StringRecord.Current n)).natAbs
  let md := b.stringMode n
  let resting := md == smREST && decide (i ≤ b.rd (Obj.StringRecord.RestCurrent n))
  let target : Int := b.rd (Obj.StringRecord.ChargeVoltage n) * b.rd (Obj.StringRecord.CellCount n) * 1000
  let veff := match b.stringGroup n with
    | some g => (b.group g).veff
    | none => 0
  let taper := md == smCHARGE && veff == target && decide (i ≤ b.rd (Obj.StringRecord.TaperCurrent n))
  b.setBat n { x with
    rest := if resting then x.rest + 1 else 0, ocvDone := resting && x.ocvDone, taper := if taper then x.taper + 1 else 0
    charged := x.charged || (md == smCHARGE) }

/-- The estimate and the levels of a string. -/
def stringEstimate (b : Block) (n : Nat) : Block :=
  let b := (((b.countCharge n).currentCheck n).restRuns n)
  let old := b.rd (Obj.StringRecord.DischargeLevel n)
  let oldC := b.rd (Obj.StringRecord.ChargeLevel n)
  let new := b.nextDischarge n (b.supRd (Obj.StringRecord.Soc n))
  let newC := b.nextCharge n
  let b := if new = 3 ∧ old ≠ 3 then b.setBat n { b.bat n with charged := false } else b
  ((b.supWr (Obj.StringRecord.DischargeLevel n) new).supWr (Obj.StringRecord.ChargeLevel n) newC).levelsChanged n old new oldC newC

/-- Inhibit as the coming boundary will have it. -/
def supInhibit (b : Block) (n : Nat) : Nat := b.inhibitBits n b.supRd

/-- Charging is allowed apart from CHG_NO_ALLOC, and altogether (R247, R300). -/
def mayChargeBut (b : Block) (n : Nat) : Bool :=
  let v := b.supInhibit n
  b.stringOn n && [0, 3, 4, 5, 7, 8].all (fun i => !bitOf v i)
def mayCharge (b : Block) (n : Nat) : Bool := b.mayChargeBut n && !bitOf (b.supInhibit n) 6

/-- A value × the derating factors of a temperature window (R247, R250). -/
def derate (b : Block) (n v lo hi : Nat) : Nat :=
  if b.rd (Obj.StringRecord.Temperature n) = 0x8000 then 0
  else
    let t := b.rdI 16 (Obj.StringRecord.Temperature n)
    let band : Int := b.rd (Obj.StringRecord.DerateBand n)
    let a := t - b.rdI 16 lo
    let z := b.rdI 16 hi - t
    if band = 0 then if 0 ≤ a ∧ 0 ≤ z then v else 0
    else (roundDiv (v * clampI 0 band a * clampI 0 band z) (band * band)).toNat

/-- Phases of a string that could carry current, times their rating, mA. -/
def stringCurrent (b : Block) (n : Nat) : Nat :=
  match b.stringGroup n with
  | none => 0
  | some g => ((b.stringPorts n).filter (fun p => b.portState p == psIN_SERVICE && !b.headSafe p)).length *
      b.rd (Obj.GroupRecord.PhaseCurrentRating g)

/-- Limits and mode of a string for the next boundary (R247, R249, R250). -/
def stringDecide (b : Block) (n : Nat) : Block :=
  let most := b.stringCurrent n
  let cl := b.derate n (min (min (b.rd (Obj.StringRecord.MaxChargeCurrent n)) most) (b.supRd (Obj.ChargeAllocation.Entry n)))
    (Obj.StringRecord.ChargeTempLow n) (Obj.StringRecord.ChargeTempHigh n)
  let allowed := b.supInhibit n % 8 == 0 && b.stringRuns n
  let dl := b.derate n (min (b.rd (Obj.StringRecord.MaxDischargeCurrent n)) most) (Obj.StringRecord.DischargeTempLow n) (Obj.StringRecord.DischargeTempHigh n)
  let dl := if b.supRd (Obj.StringRecord.DischargeLevel n) = 2 then roundDivN (dl * b.rd (Obj.StringRecord.W2Derate n)) 1024 else dl
  let dl := if allowed then dl else 0
  let lb := roundDiv (dl * 10 ^ 9 * b.rdI 32 (Obj.StringRecord.Voltage n)) b.holdup.busMean
  let b := (b.supWr (Obj.StringRecord.ChargeLimit n) cl).supWr (Obj.StringRecord.DischargeLimit n) dl
  let b := { b with sup := { b.sup with limits := b.sup.limits ++ [(n, max 0 lb)] } }
  let md := b.stringMode n
  let ok := b.mayCharge n
  let go := md == smREST && ok &&
    (decide (b.supRd (Obj.StringRecord.Soc n) ≤ b.rd (Obj.StringRecord.RechargeSoc n)) || bitOf (b.supRd (Obj.StringRecord.EstFlags n)) efSOC_COARSE)
  if go then { b with sup := { b.sup with modes := b.sup.modes ++ [(n, smCHARGE)] } }
  else if md == smCHARGE && !ok then { b with sup := { b.sup with modes := b.sup.modes ++ [(n, smREST)] } }
  else b

/-- STRING_FULL (R249): the string rests from the next boundary, with an anchor at 100 %. -/
def stringFull (b : Block) (n : Nat) : Block :=
  let x := b.bat n
  if b.stringMode n ≠ smCHARGE ∨ x.taper < b.rd (Obj.StringRecord.TaperCycles n) then b
  else
    let b := { b with sup := { b.sup with
      writes := b.sup.writes.filter (fun e => e.1 != Obj.StringRecord.EstFlags n && e.1 != Obj.StringRecord.Soc n && e.1 != Obj.StringRecord.RemainingCharge n) } }
    (b.setBat n { x with nextMode := some smREST, taper := 0 }).anchor n 10000

/-! ### The cycle boundary (R246, R249–R252, R262) -/

/-- A mode that takes effect at a boundary. -/
def setMode (b : Block) (n v : Nat) : Block :=
  let md := b.stringMode n
  if md = v ∨ (md ≠ smREST ∧ md ≠ smCHARGE ∧ md ≠ smTEST) then b
  else
    let b := b.wr (Obj.StringRecord.Mode n) v
    match b.stringGroup n with
    | some g => if v = smCHARGE then b.setGroup g { b.group g with veff := (b.group g).fb, iint := 0, ig := 0, low := 0 }
        else b.setGroup g { b.group g with iint := 0, ig := 0 }
    | none => b

/-- The supervisors' decisions on a string come into force; a string joins the support set (R251). -/
def stringBoundary (b : Block) (n : Nat) : Block :=
  if !b.stringOn n then b
  else
    let x := b.bat n
    let lim := ((b.sup.limits.find? (fun (e : Nat × Int) => e.1 == n)).map (·.2)).getD x.limitBus
    let b := b.setBat n { x with limitBus := lim, testLeft := x.testLeft - 1, auth := if x.auth = 1 then 2 else x.auth, nextMode := none }
    let b := b.showInhibit n
    let b := match x.nextMode with
      | some m => b.setMode n m
      | none =>
        match b.sup.modes.find? (fun (e : Nat × Nat) => e.1 == n) with
        | some e => b.setMode n e.2
        | none => b
    let b := if b.mayDischarge n then
        let b := b.setBat n { b.bat n with support := true }
        if x.support then b
        else if b.holdupState = huTRANSFER ∨ b.holdupState = huBATTERY ∨ b.holdupState = huWALK_IN then
          (b.abandonTest n).wr (Obj.StringRecord.Mode n) smSUPPORT
        else b
      else b.leaveSet n
    let b : Block := if b.rd (Obj.StringRecord.Identity n) == idNOT_CHECKED then
        if b.rd (Obj.StringRecord.AuthPort n) == 0 then b.setIdentity n idNOT_FITTED else b.authDue n
      else b
    if (b.bat n).startWanted && b.rd (Obj.StringRecord.Identity n) != idPENDING then
      let b := b.setBat n { b.bat n with startWanted := false }
      match b.stringGroup n with
      | some g => b.groupStart g
      | none => b
    else b

/-- Every string at a cycle boundary. -/
def stringsBoundary (b : Block) : Block := ((List.range 16).foldl stringBoundary b).showWeights

/-- STRING_STORE (R258). -/
def stringStore (b : Block) (n : Nat) : Block :=
  if b.stringOn n ∧ (b.bat n).storedAt + 3000 ≤ b.glade.cycles then b.storeString n else b

/-! ### The test (R252) -/

/-- The effect of a STRING_TEST. -/
def testAction (a : Action) (b : Block) : Block :=
  let n := a.target
  let md := b.stringMode n
  let lvl := b.rd (Obj.StringRecord.DischargeLevel n)
  let v := b.rdI 32 (Obj.StringRecord.Voltage n)
  let rec' : Int := (b.recGroup.map (fun g => (b.group g).ig)).getD 0
  let refused := b.holdupState != huMAINS || (md != smREST && md != smCHARGE) || decide (2 ≤ lvl) ||
    decide (b.rd (Obj.StringRecord.DischargeLimit n) < a.arg * 1000) ||
    decide (8 * rec' * b.holdup.busMean < 10 * (a.arg * 10 ^ 9 : Nat) * (v * 1000)) || b.rd (Obj.StringRecord.TestStatus n) == 1
  if refused then (b.wr (Obj.StringRecord.TestStatus n) 3).report Src.STRING_TEST_REFUSED n
  else
    let b := b.wrs [(Obj.StringRecord.TestStatus n, 1), (Obj.StringRecord.Mode n, smTEST)]
    (b.setBat n { b.bat n with
      testI := a.arg * 10 ^ 9, testV := v, testPre := b.rdI 32 (Obj.StringRecord.Current n)
      testLeft := b.rd (Obj.StringRecord.StringTestCycles n) + 1 }).showInhibit n

/-- STRING_TEST_END (R252): the resistance in µΩ, a free value where the current has not changed. -/
def testEnd (b : Block) (n : Nat) : Block :=
  let x := b.bat n
  if b.rd (Obj.StringRecord.TestStatus n) ≠ 1 ∨ 0 < x.testLeft ∨ !b.meas.delivered then b
  else
    let di := b.rdI 32 (Obj.StringRecord.Current n) - x.testPre
    let dv := x.testV - b.rdI 32 (Obj.StringRecord.Voltage n)
    let b := if di = 0 then b.wrFree 32 (Obj.StringRecord.InternalResistance n)
      else b.wr (Obj.StringRecord.InternalResistance n) (clampI 0 0xFFFFFFFF (roundDiv (dv * 10 ^ 6) di)).toNat
    ((b.setBat n { b.bat n with nextMode := some smREST }).wr (Obj.StringRecord.TestStatus n) 2).report Src.STRING_TEST_DONE n

/-- Strings in one tick, before the group laws. -/
def stringsTick (b : Block) : Block := ((List.range 16).foldl (fun b n => if b.stringOn n then b.cutoffTick n else b) b).supportTick

/-- A commit names strings anew (R267): one that BAT ports name is ABSENT until its thermistor shows it. -/
def stringsCommitted (b : Block) : Block :=
  (List.range 16).foldl (fun b n =>
    let pr := b.rd (Obj.StringRecord.Presence n)
    if b.stringOn n then if pr = 0 then (b.wr (Obj.StringRecord.Presence n) prABSENT).showInhibit n else b
    else if pr = 0 then b
    else b.wr (Obj.StringRecord.Presence n) 0) b

end Block

/-- PRESENCE_GAIN (R261). -/
def execPresenceGain (str : Nat) (s : State) : Host.Outcome State Fault Refusal := s.actOn (decide (str < 16)) .string str (·.presenceGain str)

/-- STRING_TEST (R252). -/
def execStringTest (handle : Nat) (s : State) : Host.Outcome State Fault Refusal := s.act (·.fireEntry handle 10 Block.testAction)

/-- STRING_TEST_END (R252). -/
def execStringTestEnd (str : Nat) (s : State) : Host.Outcome State Fault Refusal := s.actOn (decide (str < 16)) .string str (·.testEnd str)

/-- STRING_FULL (R249). -/
def execStringFull (str : Nat) (s : State) : Host.Outcome State Fault Refusal := s.actOn (decide (str < 16)) .string str (·.stringFull str)

/-- OCV_ANCHOR (R256). -/
def execOcvAnchor (str : Nat) (s : State) : Host.Outcome State Fault Refusal := s.actOn (decide (str < 16)) .string str (·.ocvAnchor str)

/-- CUTOFF_VOLTAGE (R253). -/
def execCutoffVoltage (str : Nat) (s : State) : Host.Outcome State Fault Refusal := s.actOn (decide (str < 16)) .string str (·.cutoffVoltage str)

/-- STRING_STORE (R258). -/
def execStringStore (str : Nat) (s : State) : Host.Outcome State Fault Refusal := s.actOn (decide (str < 16)) .string str (·.stringStore str)

/-- AUTHENTICATE (R265). -/
def execAuthenticate (str : Nat) (s : State) : Host.Outcome State Fault Refusal := s.actOn (decide (str < 16)) .string str (·.authDue str)

/-- AUTH_INTERVAL_EXPIRY (R265). -/
def execAuthIntervalExpiry (str : Nat) (s : State) : Host.Outcome State Fault Refusal :=
  s.actOn (decide (str < 16)) .string str (·.authExpiry str)

end Sys2Proof.Machine
end

