-- ==== Sys2Proof/Machine/Feeds.lean ====
section
/-! DEFINITION. Feeds and breakers (chapter 9): closing, the curve and the fault timer, openings, trips and retries, link loss. -/

namespace Sys2Proof.Machine

/-- Feed states (R272). -/
def fsOPEN : Nat := 1
def fsWAIT_INPUT : Nat := 2
def fsCLOSING : Nat := 3
def fsCLOSED : Nat := 4
def fsTRIPPED : Nat := 5
def fsLOCKED_OUT : Nat := 6
def fsSUSPECT : Nat := 7
def fsNO_LINK : Nat := 8

/-- Causes of an opening (R282). -/
def ocCURVE : Nat := 1
def ocTIMER : Nat := 2
def ocHEAD_OC : Nat := 3
def ocHEAD_OT : Nat := 4
def ocHEAD_UVLO : Nat := 5
def ocHOLD_EXPIRED : Nat := 6
def ocCLOSE_TIMEOUT : Nat := 7
def ocGATE : Nat := 8
def ocPASS_SHORT : Nat := 9
def ocINPUT : Nat := 0xA
def ocGROUP_STOPPED : Nat := 0xB
def ocCOMMANDED : Nat := 0xC
def ocCLOSE_FAILED : Nat := 0xD

namespace Block

/-- The BRK ports, in port order. -/
def brkPorts (b : Block) : List Nat := allPorts.filter (fun p => b.classOf p == 4 && decide (b.memberOf p < 256))

/-- A feed's state in this tick, and the one written for the next. -/
def feedState (b : Block) (f : Nat) : Nat := b.rd (Obj.FeedRecord.State f)
def feedNext (b : Block) (f : Nat) : Nat := b.rdN (Obj.FeedRecord.State f)

/-- The head's status as far as it is known in this tick. -/
def statusN (b : Block) (p n : Nat) : Bool := bitOf (b.rdN (Obj.PortRecord.HeadStatus p)) n

/-! ### Command words (R274, R281) -/

/-- The linear limit of a feed without its cap, mA (R280). -/
def linearLimit (b : Block) (f : Nat) : Nat :=
  if b.rd (Obj.FeedRecord.CurveMode f) = 1 then b.rd (Obj.FeedRecord.TimerLimit f) else b.rd (Obj.FeedRecord.LinearLimit f)

/-- ILIM of a state, mA (R281). -/
def feedIlim (b : Block) (f st : Nat) : Nat :=
  if st = fsCLOSED then min (b.linearLimit f) (b.rdN (Obj.FeedRecord.CapCurrent f)) else b.rd (Obj.FeedRecord.InrushLimit f)

/-- The command words of a feed's port in the next tick: ARMED while the transistors may be on. -/
def feedWords (b : Block) (p f : Nat) : Block :=
  let st := b.feedNext f
  let armed := st == fsCLOSING || st == fsCLOSED || st == fsNO_LINK
  let ilim := b.feedIlim f st
  let code := min (roundDivN (ilim * 65536) (b.headReg p 0x08 * 100)) 0xFFFF
  (b.setWords p [b2n armed * 4096, code, b.rd (Obj.FeedRecord.GateRamp f), b.rd (Obj.FeedRecord.TGate f)]).wrN (Obj.FeedRecord.IlimInForce f) ilim

/-- A feed that comes to take part in allocation is UNCAPPED until the next one; one that ceases to has allocation 0 (R299, R302). -/
def capMove (b : Block) (f st : Nat) : Block :=
  let part (v : Nat) : Bool := [2, 3, 4, 8].contains v
  if part st = part (b.feedNext f) then b
  else
    let b := ((b.wrN (Obj.FeedRecord.CapState f) (if part st then csUNCAPPED else csNONE)).wrN (Obj.FeedRecord.CapCurrent f) 0xFFFFFFFF).condition
      Src.FEED_FLOOR_BREACH f false
    if part st then b else b.wrN (Obj.FeedRecord.Allocation f) 0

/-- A feed's state in the next tick; the conditions of the states it leaves end. -/
def setFeedState (b : Block) (f st : Nat) : Block :=
  let b := b.capMove f st
  let b := (b.wrN (Obj.FeedRecord.State f) st).condition Src.FEED_LOCKED_OUT f (st == fsLOCKED_OUT)
  if st = fsSUSPECT then b else (b.condition Src.BRK_GATE_SUSPECT f false).condition Src.BRK_PASS_SHORT f false

/-! ### Openings, trips (R282, R283) -/

/-- An opening that the controller decides: its cause and time, MODE OPEN, and BRK_OPEN where the head is not already safe. -/
def openFeed (b : Block) (p f cause st : Nat) : Block :=
  let b := b.setFeed f { b.feed f with step := 0, retryAt := none, gateWant := false, held := false }
  let b := ((b.wrN (Obj.FeedRecord.LastOpenCause f) cause).wrN (Obj.FeedRecord.LastOpenEpoch f) b.glade.epoch).wrN
    (Obj.FeedRecord.LastOpenCycle f) b.glade.cycle
  let b := (b.wrN (Obj.FeedRecord.LastOpenTick f) b.glade.tick).setFeedState f st
  let b := if b.statusN p 7 then b else b.fireShot p osBRK_OPEN
  b.feedWords p f

/-- A trip: TRIPPED with its back-off while retries are left, LOCKED_OUT after that. -/
def tripFeed (b : Block) (p f cause : Nat) : Block :=
  let used := b.rdN (Obj.FeedRecord.RetriesUsed f)
  let more := decide (used < b.rd (Obj.FeedRecord.RetryLimit f))
  let b := (b.bump (Obj.FeedRecord.TripCount f)).report Src.FEED_TRIP f [cause]
  let b := b.openFeed p f cause (if more then fsTRIPPED else fsLOCKED_OUT)
  if more then
    b.setFeed f { b.feed f with retryAt := some (b.glade.ticks + b.rd (Obj.FeedRecord.RetryBackoff f) * 2 ^ used * b.glade.nt) }
  else b

/-- A damaged pass transistor (R278). -/
def suspectFeed (b : Block) (p f cause : Nat) : Block :=
  (b.openFeed p f cause fsSUSPECT).condition (if cause = ocGATE then Src.BRK_GATE_SUSPECT else Src.BRK_PASS_SHORT) f true

/-! ### Closing (R276, R277, R284) -/

/-- The input is qualified (R276). -/
def inputQualified (b : Block) (f : Nat) : Bool := decide (b.rd (Obj.FeedRecord.InsertionDelay f) * b.glade.nt ≤ (b.feed f).inOk)

/-- The close frame of the next tick (R277 step 3); the sample that the gate check reads (R278). -/
def closeFrame (b : Block) (p f : Nat) : Block :=
  let at' := b.glade.ticks + 1
  let b := b.setFeed f { b.feed f with
    step := 4, closeAt := at', gateWant := true, gateAt := at' + 1 + b.ticksOf (b.rd (Obj.FeedRecord.TGate f)), retryAt := none }
  ((b.setFeedState f fsCLOSING).fireShot p osBRK_CLOSE).feedWords p f

/-- A close under R277; a feed that was SHUT is UNCAPPED until the next allocation (R307). -/
def closeFeed (b : Block) (p f : Nat) : Block :=
  let b := if b.rdN (Obj.FeedRecord.CapState f) = csSHUT then
      ((b.wrN (Obj.FeedRecord.CapState f) csUNCAPPED).wrN (Obj.FeedRecord.CapCurrent f) 0xFFFFFFFF).condition Src.FEED_FLOOR_BREACH f false
    else b
  if !b.inputQualified f then (b.setFeed f { b.feed f with step := 0, retryAt := none }).setFeedState f fsWAIT_INPUT |>.feedWords p f
  else if b.statusN p 7 then (b.setFeed f { b.feed f with step := 2, retryAt := none }).fireShot p osLATCH_RESET
  else b.closeFrame p f

/-- The head in this tick (R277, R278, R282, R285, R286): how the one-shots of a close ended, and the trips its status byte reports. -/
def feedHead (b : Block) (p f : Nat) : Block :=
  let st := b.feedState f
  let sn := b.feedNext f
  let x := b.feed f
  let r := (b.port p).result
  if x.step = 2 ∧ r = some (osLATCH_RESET, 0) then b.closeFrame p f
  else if x.step = 2 ∧ (r = some (osLATCH_RESET, 1) ∨ r = some (osLATCH_RESET, 2)) then b.openFeed p f ocCLOSE_FAILED fsOPEN
  else if x.step = 5 ∧ r = some (osLATCH_RESET, 0) ∧ sn = fsNO_LINK then
    ((b.setFeed f { x with step := 0, held := false, closedAt := b.glade.ticks }).setFeedState f fsCLOSED).report Src.FEED_RESUMED f |>.feedWords p f
  else if x.step = 5 ∧ (r = some (osLATCH_RESET, 1) ∨ r = some (osLATCH_RESET, 2)) then b.setFeed f { x with step := 0 }
  else if x.step = 4 ∧ sn = fsCLOSING ∧ (r = some (osBRK_CLOSE, 1) ∨ r = some (osBRK_CLOSE, 2)) then b.openFeed p f ocCLOSE_FAILED fsOPEN
  else if st ≠ fsCLOSING ∧ st ≠ fsCLOSED then b
  else
    let cause := b.rdN (Obj.FeedRecord.LastOpenCause f)
    let open' := decide (sn = st) || (st == fsCLOSING && sn == fsCLOSED)
    let trip := if b.statusN p 5 then ocHEAD_OC else if b.statusN p 3 then ocHEAD_OT else if b.statusN p 2 then ocHEAD_UVLO else 0
    if b.statusN p 1 ∧ open' then b.suspectFeed p f ocGATE
    else if trip = 0 then b
    else if open' ∨ ((sn = fsWAIT_INPUT ∨ sn = fsOPEN) ∧ cause = ocINPUT) then b.tripFeed p f trip
    else if (sn = fsTRIPPED ∨ sn = fsLOCKED_OUT) ∧ (cause = ocCURVE ∨ cause = ocTIMER ∨ cause = ocCLOSE_TIMEOUT) then
      b.wrN (Obj.FeedRecord.LastOpenCause f) trip
    else b

/-- RetriesUsed returns to 0 (R283). -/
def resetRetries (b : Block) (f : Nat) : Block := b.wrN (Obj.FeedRecord.RetriesUsed f) 0

/-- FEED_CLOSE, or a close from a sequence, by the state of the feed (R284); trips from the samples of earlier ticks count first (R285). -/
def feedCloseAct (b : Block) (f : Nat) (sequence : Bool) : Block :=
  match b.feedPort f with
  | none => b
  | some p =>
    let b := b.feedHead p f
    match b.feedNext f with
    | 1 => if (b.feed f).step = 2 then b else (b.resetRetries f).closeFeed p f
    | 5 => (b.resetRetries f).closeFeed p f
    | 6 => if sequence then b else ((b.resetRetries f).setFeedState f fsOPEN).closeFeed p f
    | 7 => b.report Src.FEED_CLOSE_REFUSED f
    | 8 => (b.resetRetries f).setFeed f { b.feed f with held := true }
    | _ => b.resetRetries f

/-- FEED_OPEN, a sequence's off, an R341 reaction: from any state (R284). -/
def feedOpenAct (b : Block) (f : Nat) : Block :=
  match b.feedPort f with
  | none => b
  | some p =>
    let b := b.resetRetries f
    let b := b.setFeed f { b.feed f with held := false, retryAt := none, step := if (b.feed f).step = 2 then 0 else (b.feed f).step }
    match b.feedNext f with
    | 1 => b
    | 5 => (b.setFeedState f fsOPEN).feedWords p f
    | 6 => (b.setFeedState f fsOPEN).feedWords p f
    | 7 => b.feedWords p f
    | 0 => b
    | _ => b.openFeed p f ocCOMMANDED fsOPEN

/-- A feed locked out by a reaction (R341): it opens and becomes LOCKED_OUT. -/
def feedLockout (b : Block) (f : Nat) : Block :=
  match b.feedPort f with
  | none => b
  | some p =>
    if b.feedNext f = 0 then b
    else
    let b := b.wrN (Obj.FeedRecord.RetriesUsed f) (b.rd (Obj.FeedRecord.RetryLimit f))
    if b.feedNext f = fsSUSPECT then b.feedWords p f
    else if (b.feedNext f = fsOPEN ∨ b.feedNext f = fsTRIPPED ∨ b.feedNext f = fsLOCKED_OUT) then
      ((b.setFeed f { b.feed f with step := 0, retryAt := none, held := false }).setFeedState f fsLOCKED_OUT).feedWords p f
    else b.openFeed p f ocCOMMANDED fsLOCKED_OUT

/-! ### The curve (R279) -/

/-- The trip time at x = num / den times 1/1,024 of the rating, in 2^-60 µs; `none` below the curve. -/
def curveTime (b : Block) (f num den : Nat) : Option Nat :=
  let i (n : Nat) : Nat := b.rd (Obj.FeedRecord.CurveI f n)
  let t (n : Nat) : Nat := b.rd (Obj.FeedRecord.CurveT f n)
  if num < i 0 * den then none
  else if i 7 * den ≤ num then some (t 7 * 2 ^ 60)
  else
    let n := ((List.range 7).filter (fun n => decide (i n * den ≤ num))).foldl max 0
    some (t n * expFix (roundDiv (lnRatio num (i n * den) * lnRatio (t (n + 1)) (t n)) (lnRatio (i (n + 1)) (i n))))

/-- The accumulator cools by T / (CoolTime × T_cycle). -/
def coolStep (b : Block) (f acc : Nat) : Nat := acc - roundDivN (2 ^ 30) (b.rd (Obj.FeedRecord.CoolTime f) * b.glade.nt)

/-- The accumulator after a tick in which the curve runs, for |I| in nA. With no rating and no current the multiple is 0 / 0, which the
rule gives no value (assumption 49): a free one. -/
def curveStep (b : Block) (f i : Nat) : Nat × Block :=
  let rated := b.rd (Obj.FeedRecord.RatedCurrent f) * 10 ^ 6
  let acc := (b.feed f).acc
  let d := b.draw 32
  let (num, den, b) := if rated = 0 ∧ i = 0 then (d.1, 1, d.2) else if rated = 0 then (1, 0, b) else (1024 * i, rated, b)
  match b.curveTime f num den with
  | none => (b.coolStep f acc, b)
  | some t => (min (acc + roundDivN (b.tickPs * 2 ^ 90) (t * 10 ^ 6)) 0xFFFFFFFF, b)

/-! ### A feed in one tick -/

/-- BRK_STATE bits of the last sample (R132). -/
def brkBit (b : Block) (p n : Nat) : Bool := bitOf ((b.port p).sample.getD 6 0) n

/-- Samples, counts, curve, timer and power of a feed (R276, R278–R280, R287, R299). -/
def feedSense (b : Block) (p f : Nat) : Block :=
  let st := b.feedState f
  let fr := b.fresh p
  let i := b.phaseCurrent p
  let vin := b.ownVolts p
  let vout := b.busVolts p
  let uv : Int := b.rd (Obj.FeedRecord.InputUv f) * 1000
  let ov : Int := b.rd (Obj.FeedRecord.InputOv f) * 1000
  let inside := decide (uv ≤ vin) && decide (vin ≤ ov)
  let x := b.feed f
  let b := (((b.wrNI 32 (Obj.FeedRecord.Current f) (roundDiv i (10 ^ 6))).wrNI 32 (Obj.FeedRecord.InputVoltage f) (roundDiv vin 1000)).wrNI 32
    (Obj.FeedRecord.OutputVoltage f) (roundDiv vout 1000)).wrNI 16 (Obj.FeedRecord.GateVoltage f) (b.sampleI p 3)
  let closed := st == fsCLOSED
  let timed := b.rd (Obj.FeedRecord.CurveMode f) == 1
  let r := if closed && !timed then b.curveStep f i.natAbs
    else if st == fsNO_LINK then (x.acc, b)
    else (b.coolStep f x.acc, b)
  let b := r.2
  let timer := if closed && timed then
      (if decide (b.rd (Obj.FeedRecord.TimerLimit f) * 95 * 10 ^ 4 ≤ i.natAbs) then x.timer + ceilDiv (10 ^ 12 * 65536) b.tickRate else 0)
    else if st == fsNO_LINK then x.timer
    else 0
  let short := (st == fsOPEN || st == fsTRIPPED || st == fsLOCKED_OUT) && !b.brkBit p 0 && (b.port p).everFresh &&
    decide ((b.rd (Obj.FeedRecord.RatedCurrent f) * 10 ^ 6 : Nat) < i * 50) && decide (vin < 2 * vout)
  let pw := if fr then (roundDiv (vout * i) (10 ^ 9)).toNat else x.power
  let b := b.setFeed f { x with
    acc := r.1, timer
    inOk := if b.portState p ≠ psIN_SERVICE then 0 else if !fr then x.inOk else if inside then x.inOk + 1 else 0
    inBad := if closed && (b.port p).everFresh && !inside then x.inBad + 1 else 0
    shortTicks := if short then x.shortTicks + 1 else 0
    power := pw, powAcc := x.powAcc + pw, ticks := x.ticks + 1 }
  b.wrN (Obj.FeedRecord.CurveAccumulator f) (min (r.1 / 2 ^ 15) 0xFFFF)

/-- The close completes (R277 step 4). -/
def closeDone (b : Block) (p f : Nat) : Block :=
  let x := b.feed f
  if b.fresh p && decide (x.closeAt < b.glade.ticks) && x.step == 4 && b.brkBit p 1 &&
      decide (b.ownVolts p * b.rd (Obj.FeedRecord.CloseFraction f) ≤ b.busVolts p * 1024) then
    (((b.setFeed f { x with step := 0, closedAt := b.glade.ticks }).setFeedState f fsCLOSED).bump (Obj.FeedRecord.CloseCount f)).report Src.FEED_CLOSED f
  else b

/-- A cause of a safe state learned under R610, while the feed is CLOSING or CLOSED (R282). -/
def causeOpens (b : Block) (p f : Nat) : Block :=
  let x := b.port p
  match (if x.causeNew then x.cause else none) with
  | some 2 => if b.brkBit p 0 then b else b.tripFeed p f ocHOLD_EXPIRED
  | some 3 => b.openFeed p f ocCOMMANDED fsOPEN
  | some 4 => b.openFeed p f ocCOMMANDED fsOPEN
  | _ => b

/-- The link of a NO_LINK feed exchanges frames again (R286). -/
def resumeFeed (b : Block) (p f : Nat) : Block :=
  let x := b.port p
  let y := b.feed f
  if !x.okBefore || !b.fresh p || y.step == 5 then b
  else
    let trip (b : Block) (c : Nat) : Block := b.tripFeed p f c
    let b :=
      if b.headSafe p then
        match x.cause, b.brkBit p 0 with
        | none, _ => b
        | some 2, true => (b.setFeed f { y with step := 5 }).fireShot p osLATCH_RESET
        | some 4, true => (b.setFeed f { y with step := 5 }).fireShot p osLATCH_RESET
        | some 8, _ => trip b ocHEAD_OT
        | some 6, _ => trip b ocHEAD_UVLO
        | some 5, false => trip b ocHEAD_OC
        | some 2, false => trip b ocHOLD_EXPIRED
        | some 7, false => b.suspectFeed p f ocGATE
        | _, _ => b.openFeed p f ocCOMMANDED fsOPEN
      else if b.brkBit p 0 then
        ((b.setFeed f { y with held := false, closedAt := b.glade.ticks }).setFeedState f fsCLOSED).report Src.FEED_RESUMED f
      else b.openFeed p f ocCOMMANDED fsOPEN
    if y.held && b.feedNext f != fsNO_LINK && b.feedNext f != fsCLOSED then b.feedCloseAct f false else b

/-- Cycles until the next retry (R283). -/
def retryRemaining (b : Block) (f : Nat) : Nat :=
  match (b.feed f).retryAt with
  | some t => ceilDiv (t - b.glade.ticks) b.glade.nt
  | none => 0

/-- A feed in one tick, into the state of the next. -/
def feedTick (b : Block) (p : Nat) : Block :=
  let f := b.memberOf p
  let b := b.feedSense p f
  let st := b.feedState f
  let run := b.groupState (b.groupOf p) == gsRUNNING
  let ran := (b.feed f).groupRan
  let b := b.setFeed f { b.feed f with groupRan := run }
  let b :=
    if ran && !run && [2, 3, 4, 5, 8].contains (b.feedNext f) then b.openFeed p f ocGROUP_STOPPED fsOPEN
    else if b.feedNext f ≠ st then b
    else match st with
      | 3 => let c := b.closeDone p f; if c.feedNext f = st then c.causeOpens p f else c
      | 4 => b.causeOpens p f
      | 8 => b.resumeFeed p f
      | _ => b
  (b.feedWords p f).wrN (Obj.FeedRecord.RetryRemaining f) (b.retryRemaining f)

/-- Every feed in one tick, and at the end of one. -/
def feedsTick (b : Block) : Block := b.brkPorts.foldl feedTick b
def feedsTickEnd (b : Block) : Block := b.brkPorts.foldl (fun b p => b.feedHead p (b.memberOf p)) b

/-- The sums of the cycle are complete (R299); cycles under a cap are counted (R309). -/
def feedsCycle (b : Block) : Block :=
  b.feeds.foldl (fun b f =>
    let x := b.feed f
    let part := [2, 3, 4, 8].contains (b.feedNext f)
    let b := b.setFeed f { x with powLast := x.powAcc, ticksLast := x.ticks, powAcc := 0, ticks := 0, part }
    if part && decide (csCAPPED ≤ b.rdN (Obj.FeedRecord.CapState f)) then b.bump (Obj.FeedRecord.CappedCycles f) else b) b

/-! ### The commands -/

/-- The feed's port, for a command that acts on a feed in a state. -/
def onFeedIn (b : Block) (f : Nat) (states : List Nat) (act : Block → Nat → Block) : Block :=
  match b.feedPort f with
  | some p => if states.contains (b.feedState f) && b.feedNext f == b.feedState f then act b p else b
  | none => b

/-- FEED_INPUT_QUALIFIED (R276, R277): a waiting close proceeds. -/
def inputQualify (b : Block) (f : Nat) : Block :=
  b.onFeedIn f [fsWAIT_INPUT] (fun b p => if b.inputQualified f && (b.feed f).step == 0 then b.closeFeed p f else b)

/-- CLOSE_TIMEOUT (R277 step 5). -/
def closeTimeout (b : Block) (f : Nat) : Block :=
  b.onFeedIn f [fsCLOSING] (fun b p =>
    if (b.feed f).closeAt + b.rd (Obj.FeedRecord.CloseTimeout f) ≤ b.glade.ticks then b.tripFeed p f ocCLOSE_TIMEOUT else b)

/-- GATE_CHECK (R278): the sample of tick k + 1 + ceil(TGate / T), as received or as the state of the next tick holds it. -/
def gateCheck (b : Block) (f : Nat) : Block :=
  b.onFeedIn f [fsCLOSING, fsCLOSED] (fun b p =>
    let x := b.feed f
    let word : Option Nat :=
      if b.glade.ticks = x.gateAt then (b.port p).entered.map (fun r => r.words.getD 6 0)
      else if b.glade.ticks = x.gateAt + 1 ∧ b.fresh p then some ((b.port p).sample.getD 6 0)
      else none
    match word with
    | some w =>
      if !x.gateWant then b
      else if bitOf w 1 then b.setFeed f { x with gateWant := false }
      else b.suspectFeed p f ocGATE
    | none => b)

/-- PASS_SHORT (R278). -/
def passShort (b : Block) (f : Nat) : Block :=
  b.onFeedIn f [fsOPEN, fsTRIPPED, fsLOCKED_OUT] (fun b p => if 100 ≤ (b.feed f).shortTicks then b.suspectFeed p f ocPASS_SHORT else b)

/-- FEED_CURVE_TRIP (R279). -/
def curveTrip (b : Block) (f : Nat) : Block :=
  b.onFeedIn f [fsCLOSED] (fun b p =>
    if 2 ^ 30 ≤ (b.feed f).acc ∧ b.rd (Obj.FeedRecord.CurveMode f) = 0 then b.tripFeed p f ocCURVE else b)

/-- FEED_TIMER_TRIP (R280). -/
def timerTrip (b : Block) (f : Nat) : Block :=
  b.onFeedIn f [fsCLOSED] (fun b p =>
    if b.rd (Obj.FeedRecord.FaultTimer f) * 10 ^ 6 ≤ (b.feed f).timer ∧ b.rd (Obj.FeedRecord.CurveMode f) = 1 then b.tripFeed p f ocTIMER else b)

/-- FEED_INPUT_FAULT (R282). -/
def inputFault (b : Block) (f : Nat) : Block :=
  b.onFeedIn f [fsCLOSED] (fun b p =>
    if b.rd (Obj.FeedRecord.InputFaultTicks f) ≤ (b.feed f).inBad then
      (b.openFeed p f ocINPUT (if b.rd (Obj.FeedRecord.AutoReclose f) = 1 then fsWAIT_INPUT else fsOPEN)).report Src.FEED_INPUT_FAULT f
    else b)

/-- FEED_RETRY (R283): the back-off expires with the tick that opens next. -/
def feedRetry (b : Block) (f : Nat) : Block :=
  b.onFeedIn f [fsTRIPPED] (fun b p =>
    match (b.feed f).retryAt with
    | some t =>
      if t ≤ b.glade.ticks + 1 then
        (b.wrN (Obj.FeedRecord.RetriesUsed f) (b.rdN (Obj.FeedRecord.RetriesUsed f) + 1)).closeFeed p f
      else b
    | none => b)

/-- RETRY_RESET (R283). -/
def retryReset (b : Block) (f : Nat) : Block :=
  b.onFeedIn f [fsCLOSED] (fun b _ =>
    if (b.feed f).closedAt + b.rd (Obj.FeedRecord.RetryResetCycles f) * b.glade.nt ≤ b.glade.ticks then b.resetRetries f else b)

/-- CLEAR_SUSPECT (R278, R283): a write of 0x01. -/
def clearSuspect (b : Block) (f : Nat) : Block :=
  match b.feedPort f with
  | none => b
  | some p =>
    let b := b.resetRetries f
    if b.feedNext f = fsSUSPECT then (b.setFeedState f fsOPEN).feedWords p f else b

/-- LINK_LOST on a port (R150) whose feed is CLOSING or CLOSED (R286). -/
def portLost (b : Block) (p : Nat) : Block :=
  let b := b.linkLost p
  let f := b.memberOf p
  if b.isPresent Src.LINK_LOST p ∧ b.classOf p = 4 ∧ f < 256 then
    b.onFeedIn f [fsCLOSING, fsCLOSED] (fun b p =>
      ((b.setFeed f { b.feed f with step := 0, gateWant := false }).setFeedState f fsNO_LINK).feedWords p f)
  else b

/-! ### Checks (R288) -/

/-- The longest tick of R40, times a count of ticks, is at most so many µs. -/
def ticksWithin (b : Block) (n us : Nat) : Bool :=
  decide (n * (10 ^ 9 * 36000) ≤ us * 1000 * (b.rd Obj.GladeConfig.TicksPerCycle * b.rd Obj.GladeConfig.FreqLow * 359))

/-- The rows of R288's table for one feed on the head of its port, each with the objects at fault: input, limit, curve, safe-operating area,
gate, safe breaker. -/
def feedFaults (b : Block) (p f : Nat) : List (List Nat) :=
  let g k := b.rd (k f)
  let uv := g Obj.FeedRecord.InputUv
  let ov := g Obj.FeedRecord.InputOv
  let sp := b.rd (Obj.GroupRecord.Setpoint (b.groupOf p))
  let lin := g Obj.FeedRecord.LinearLimit
  let top (ma : Nat) : Bool := decide (ma * 655360 ≤ 9 * b.headReg p 0x0C * b.headReg p 0x08 * 100)
  let i (n : Nat) : Nat := b.rd (Obj.FeedRecord.CurveI f n)
  let t (n : Nat) : Nat := b.rd (Obj.FeedRecord.CurveT f n)
  let soa := b.headReg p 0x34
  let row (ok : Bool) (objs : List Nat) : List Nat := faultIf (!ok) objs
  [row (decide (0 < uv) && decide (uv < sp) && decide (sp < ov)) [Obj.PortRecord.Group p, Obj.FeedRecord.InputUv f, Obj.FeedRecord.InputOv f] ++
     row (decide (ov * 10 ^ 5 ≤ 98 * b.vfsIn p)) [Obj.FeedRecord.InputOv f],
   row (decide (0 < g Obj.FeedRecord.InrushLimit) && decide (g Obj.FeedRecord.InrushLimit ≤ lin) && decide (g Obj.FeedRecord.RatedCurrent < lin))
       [Obj.FeedRecord.RatedCurrent f, Obj.FeedRecord.LinearLimit f, Obj.FeedRecord.InrushLimit f] ++
     row (top lin && top (g Obj.FeedRecord.TimerLimit)) [Obj.FeedRecord.LinearLimit f, Obj.FeedRecord.TimerLimit f],
   row (decide (1024 ≤ i 0) && (List.range 7).all (fun n => decide (i n < i (n + 1)) && decide (t (n + 1) < t n)) && decide (100 ≤ t 7))
     ((List.range 8).map (Obj.FeedRecord.CurveI f) ++ (List.range 8).map (Obj.FeedRecord.CurveT f)),
   row ((if g Obj.FeedRecord.CurveMode = 1 then decide (g Obj.FeedRecord.FaultTimer ≤ soa)
      else match b.curveTime f (1024 * lin) (g Obj.FeedRecord.RatedCurrent) with
        | some t => decide (t ≤ soa * 2 ^ 60)
        | none => false) && b.ticksWithin (g Obj.FeedRecord.CloseTimeout) soa)
     [Obj.FeedRecord.LinearLimit f, Obj.FeedRecord.CloseTimeout f, Obj.FeedRecord.CurveMode f, Obj.FeedRecord.FaultTimer f],
   row (decide (3 * g Obj.FeedRecord.GateRamp * b.headReg p 0x32 ≤ 2 * g Obj.FeedRecord.TGate * b.headReg p 0x33))
     [Obj.FeedRecord.GateRamp f, Obj.FeedRecord.TGate f],
   row (!(b.rd (Obj.PortRecord.SafeBreaker p) == 1 && !bitOf (b.rd (Obj.PortRecord.HeadCaps p)) 3)) [Obj.PortRecord.SafeBreaker p]]

/-- The keys of a bundle that concern a feed: its R287 sub-indexes, and SafeBreaker and Group of its port. -/
def feedKeys (keys : List Nat) (p f : Nat) : List Nat :=
  keys.filter (fun k => (keyIndex k == 0x3400 + f && decide (1 ≤ keySub k) && decide (keySub k ≤ 0x23)) ||
    (keyIndex k == 0x3000 + p && (keySub k == 0x03 || keySub k == 0x1B)))

/-- CFG_FEED_RANGE. -/
def checkFeedRange (b : Block) (keys : List Nat) : Finding :=
  rangeFault b 0x3400 0x34FF (keys.filter (fun k => decide (1 ≤ keySub k) && decide (keySub k ≤ 0x23)))

/-- One row of R288's table over the feeds that the bundle changes, each against its trained head. -/
def checkFeed (b : Block) (row : Nat) (keys : List Nat) : Finding :=
  findAt keys (b.brkPorts.flatMap (fun p =>
    if !(feedKeys keys p (b.memberOf p)).isEmpty && b.trained p then (b.feedFaults p (b.memberOf p)).getD row [] else []))

/-- A BRK port enters service in the tick that has begun (R273) once its head's registers are read and pass R288; a head that fails them
raises HEAD_CFG_REFUSED. -/
def brkAdmit (b : Block) (p : Nat) : Block :=
  let f := b.memberOf p
  let read := !(b.port p).cfg.any (fun c => !c.write && [0x08, 0x09, 0x0A, 0x0C, 0x32, 0x33, 0x34].contains c.addr)
  if b.portState p = psADMITTED ∧ b.trained p ∧ !(b.port p).retrain ∧ read ∧ !(b.feed f).refused then
    if (b.feedFaults p f).any (fun l => !l.isEmpty) then (b.setFeed f { b.feed f with refused := true }).report Src.HEAD_CFG_REFUSED p
    else b.setPortState p psIN_SERVICE
  else b

/-- Every BRK port at the start of a tick. -/
def feedsTickStart (b : Block) : Block :=
  b.brkPorts.foldl (fun b p =>
    let f := b.memberOf p
    let b := if b.inTraining p ∧ (b.feed f).refused then b.setFeed f { b.feed f with refused := false } else b
    b.brkAdmit p) b

/-- A commit has named feeds anew, or changed what their heads are checked against (R272, R288). -/
def feedsCommitted (b : Block) (keys : List Nat) : Block :=
  let changed := keys.any (fun k => inObj 0x3000 0x31FF k || inObj 0x3400 0x34FF k)
  if !changed then b
  else
    let on := b.brkPorts.map b.memberOf
    (List.range 256).foldl (fun b f =>
      let st := b.feedState f
      if on.contains f then
        let b := if st = 0 then b.wr (Obj.FeedRecord.State f) fsOPEN else b
        if (b.feed f).refused then b.setFeed f { b.feed f with refused := false } else b
      else if st = 0 then b
      else (b.setFeed f {}).wr (Obj.FeedRecord.State f) 0) b

end Block

/-- FEED_CLOSE (R277, R284). -/
def execFeedClose (handle : Nat) (s : State) : Host.Outcome State Fault Refusal :=
  s.act (·.fireEntry handle 1 (fun a b => b.feedCloseAct a.target false))

/-- FEED_OPEN (R284). -/
def execFeedOpen (handle : Nat) (s : State) : Host.Outcome State Fault Refusal :=
  s.act (·.fireEntry handle 2 (fun a b => b.feedOpenAct a.target))

/-- FEED_INPUT_QUALIFIED (R276). -/
def execFeedInputQualified (f : Nat) (s : State) : Host.Outcome State Fault Refusal := s.actOn (decide (f < 256)) .feed f (·.inputQualify f)

/-- CLOSE_TIMEOUT (R277). -/
def execCloseTimeout (f : Nat) (s : State) : Host.Outcome State Fault Refusal := s.actOn (decide (f < 256)) .feed f (·.closeTimeout f)

/-- GATE_CHECK (R278). -/
def execGateCheck (f : Nat) (s : State) : Host.Outcome State Fault Refusal := s.actOn (decide (f < 256)) .feed f (·.gateCheck f)

/-- PASS_SHORT (R278). -/
def execPassShort (f : Nat) (s : State) : Host.Outcome State Fault Refusal := s.actOn (decide (f < 256)) .feed f (·.passShort f)

/-- FEED_CURVE_TRIP (R279). -/
def execFeedCurveTrip (f : Nat) (s : State) : Host.Outcome State Fault Refusal := s.actOn (decide (f < 256)) .feed f (·.curveTrip f)

/-- FEED_TIMER_TRIP (R280). -/
def execFeedTimerTrip (f : Nat) (s : State) : Host.Outcome State Fault Refusal := s.actOn (decide (f < 256)) .feed f (·.timerTrip f)

/-- FEED_INPUT_FAULT (R282). -/
def execFeedInputFault (f : Nat) (s : State) : Host.Outcome State Fault Refusal := s.actOn (decide (f < 256)) .feed f (·.inputFault f)

/-- FEED_RETRY (R283). -/
def execFeedRetry (f : Nat) (s : State) : Host.Outcome State Fault Refusal := s.actOn (decide (f < 256)) .feed f (·.feedRetry f)

/-- RETRY_RESET (R283). -/
def execRetryReset (f : Nat) (s : State) : Host.Outcome State Fault Refusal := s.actOn (decide (f < 256)) .feed f (·.retryReset f)

/-- CLEAR_SUSPECT (R278). -/
def execClearSuspect (f : Nat) (s : State) : Host.Outcome State Fault Refusal := s.actOn (decide (f < 256)) .feed f (·.clearSuspect f)

/-- LINK_LOST (R150, R286). -/
def execLinkLost (p : Nat) (s : State) : Host.Outcome State Fault Refusal := s.actOn (decide (p < 512)) .port p (·.portLost p)

/-- ONESHOT_TIMEOUT (R137); what follows for a feed is decided at the end of the tick. -/
def execOneshotTimeout (p : Nat) (s : State) : Host.Outcome State Fault Refusal := s.actOn (decide (p < 512)) .port p (·.shotTimeout p)

end Sys2Proof.Machine
end

