-- ==== Sys2Proof/Machine/Allocation.lean ====
section
/-! DEFINITION. What the supervisors compute for the converters and the feeds in each cycle (chapters 5 and 10): sharing trims, the
feedback comparison, the allocation of power to feeds and strings. -/

namespace Sys2Proof.Machine

/-- A share in a pass of R301: unit, priority, efficiency × 1,024 of its group, its floor and its amount, powers in 2^-20 W. -/
structure Share where
  f : Nat
  group : Nat
  prio : Nat
  eff : Nat
  floor : Nat
  a : Nat
  deriving DecidableEq, Repr

/-- One watt. -/
def watt : Nat := 2 ^ 20

/-- What a reduction of a share saves: itself, or referred to the bus (R301). -/
def Share.saving (bus : Bool) (e : Share) (d : Nat) : Nat := if bus then d * 1024 / max 1 e.eff else d

/-- The reduction that saves an amount. -/
def Share.reduction (bus : Bool) (e : Share) (x : Nat) : Nat := if bus then x * e.eff / 1024 else x

/-- X shared in proportion to weights, none below its bound, by water-filling (R301); answers the shares and what is left of X. -/
def fill (bus : Bool) (weight bound : Share → Nat) : Nat → List Share → Nat → List Share × Nat
  | 0, l, x => (l, x)
  | fuel + 1, l, x =>
    let act := l.filter (fun e => decide (0 < weight e) && decide (bound e < e.a))
    if x = 0 ∨ act.isEmpty then (l, x)
    else
      let w := (act.map weight).sum
      let cap (e : Share) : Nat := e.saving bus (e.a - bound e)
      let full := act.filter (fun e => decide (cap e * w ≤ x * weight e))
      if full.isEmpty then (l.map (fun e => if act.contains e then { e with a := e.a - e.reduction bus (x * weight e / w) } else e), 0)
      else fill bus weight bound fuel (l.map (fun e => if full.contains e then { e with a := bound e } else e)) (x - (full.map cap).sum)

/-- One pass of R301 over the shares. -/
def pass (bus : Bool) (l : List Share) (x : Nat) : List Share × Nat :=
  let prios := (List.range 16).reverse
  let n := l.length + 1
  let r := prios.foldl (fun r p =>
    let r := fill bus (fun e => b2n (e.prio == p && e.floor == 0)) (fun _ => 0) n r.1 r.2
    fill bus (fun e => if e.prio = p then e.floor else 0) (fun e => e.floor) n r.1 r.2) (l, x)
  prios.foldl (fun r p => fill bus (fun e => if e.prio = p then e.floor else 0) (fun _ => 0) n r.1 r.2) r

/-- A share's amount in whole watts. -/
def Share.watts (e : Share) : Nat := roundDivN e.a watt

namespace Block

/-! ### Sharing and feedback (R169, R172, R174) -/

/-- The mean current of a phase over the last cycle, µA. -/
def meanMicro (b : Block) (p : Nat) : Int := let s := (b.port p).last; roundDiv s.iAll (s.ticks * 1000)

/-- The trims of a group's qualified phases, and its sharing error (R172, R174). -/
def shareGroup (b : Block) (g : Nat) : Block :=
  let q := (b.groupPorts g).filter (fun p => (b.port p).last.full && decide (0 < (b.port p).last.ticks))
  if q.isEmpty then b
  else
    let iph : Int := b.rd (Obj.GroupRecord.PhaseCurrentRating g) * 1000
    let mean := roundDiv ((q.map b.meanMicro).sum) q.length
    let err := q.foldl (fun m p => max m (mean - b.meanMicro p).natAbs) 0
    let b := b.supWr (Obj.GroupRecord.SharingError g) (clampI 0 0xFFFF (roundDiv (err * 10000) iph)).toNat
    if q.length < 2 ∨ mean * 20 < iph then b
    else
      let lim := roundDiv (b.rd (Obj.GroupRecord.TrimLimit g) * iph) 1024
      let ts := q.map (fun p => clampI (-lim) lim ((b.port p).trim + roundDiv (b.rd (Obj.GroupRecord.TrimGain g) * (mean - b.meanMicro p)) 1024))
      let off := roundDiv ts.sum ts.length
      { b with sup := { b.sup with trims := b.sup.trims ++ q.zip (ts.map (· - off)) } }

/-- A phase whose mean feedback voltage lies more than 2 % from the median of its group (R169). -/
def senseCompare (b : Block) (g : Nat) : Block :=
  let ps := (b.groupPorts g).filter (fun p => b.portState p == psIN_SERVICE && decide (0 < (b.port p).last.fresh))
  let v (p : Nat) : Int := let s := (b.port p).last; roundDiv s.v s.fresh
  match medianAll (ps.map v) with
  | none => b
  | some m => ps.foldl (fun b p => b.condition Src.GROUP_SENSE_DISAGREE p (decide (m.natAbs < (v p - m).natAbs * 50)) [v p, m]) b

/-! ### Allocation (R299–R304) -/

/-- The supply of every group as the boundary leaves it (R300, R303). -/
def supplyBoundary (b : Block) : Block :=
  b.groups.foldl (fun b g =>
    let us := (b.units g).filter (fun u => b.unitRole u == rlMEMBER && b.unitCond u == 1 && b.unitServes u)
    let req := b.rd (Obj.GroupRecord.RequiredPhases g)
    b.setGroup g { b.group g with
      rated0 := b.rdN (Obj.GroupRecord.RatedLimit g)
      rated1 := b.lowestRatings g (min (us.length - 1) req) us * b.rd (Obj.GroupRecord.Derate g) / 1024
      members0 := us.length, supply0 := b.rd (Obj.GroupRecord.SupplyState g) }) b

/-- Demand and request of a feed, W (R299). -/
def feedDemand (b : Block) (f : Nat) : Nat := let x := b.feed f; roundDivN x.powLast (x.ticksLast * 10 ^ 6)
def feedRequest (b : Block) (f : Nat) : Nat :=
  let cap := b.rd (Obj.FeedRecord.ContractCap f)
  let c := if cap ≠ 0 then cap else roundDivN (b.linearLimit f * b.feedSetpoint f) (10 ^ 6)
  min c (max (b.rd (Obj.FeedRecord.Floor f)) (roundDivN (b.feedDemand f * (1024 + b.rd Obj.CappingConfig.Headroom)) 1024))

/-- The share of a feed before the passes. -/
def feedShare (b : Block) (f : Nat) : Share :=
  let g := (b.feedGroup f).getD 0
  { f, group := g, prio := b.rd (Obj.FeedRecord.Priority f), eff := b.rd (Obj.GroupRecord.Efficiency g),
    floor := b.rd (Obj.FeedRecord.Floor f) * watt, a := b.feedRequest f * watt }

/-- A group's own budget, W, for a RatedLimit in mA (R300). -/
def groupBudget (b : Block) (g rated : Nat) : Nat := roundDivN (rated * b.rd (Obj.GroupRecord.Setpoint g)) (10 ^ 6)

/-- The group pass of one group with a budget (R301). -/
def groupPass (b : Block) (g rated : Nat) (l : List Share) : List Share :=
  let mine := l.filter (fun e => e.group == g)
  (pass false mine ((mine.map (·.a)).sum - b.groupBudget g rated * watt)).1

/-- A string may charge but for want of an allocation. -/
def chargers (b : Block) : List Nat := (List.range 16).filter b.mayChargeBut

/-- The rack budget, W (R300). -/
def rackBudget (b : Block) : Nat :=
  let lim := b.rd Obj.CappingConfig.RackInputLimit
  let cap := b.rd Obj.HoldupStatus.InputCapacity
  let v := if lim = 0 then cap else min lim cap
  if (b.holdupState = huMAINS ∨ b.holdupState = huWALK_IN) ∧ !b.chargers.isEmpty then v - b.rd Obj.CappingConfig.ChargeReserve else v

/-- Charge power shared among the strings that may charge (R304). -/
def chargeAllocation (b : Block) (left : Nat) : Block :=
  let on := b.holdupState == huMAINS
  let pch := if on then b.rd Obj.CappingConfig.ChargeReserve + left else 0
  let b := b.supWr Obj.CappingStatus.ChargeGranted pch
  let strings := if on then b.chargers else []
  let volts (n : Nat) : Nat := (b.rdI 32 (Obj.StringRecord.Voltage n)).toNat
  let eff (n : Nat) : Nat := ((b.stringGroup n).map (fun g => b.rd (Obj.GroupRecord.Efficiency g))).getD 1024
  let most (n : Nat) : Nat := b.rd (Obj.StringRecord.MaxChargeCurrent n) * volts n * watt / 10 ^ 6
  let items := strings.map (fun n =>
    ({ f := n, group := 0, prio := 0, eff := eff n, floor := most n, a := most n * 1024 / max 1 (eff n) } : Share))
  let left' := (fill false (fun e => e.floor) (fun _ => 0) (items.length + 1) items (pch * watt)).1
  (List.range 16).foldl (fun b n =>
    let given := match items.find? (fun e => e.f == n), left'.find? (fun e => e.f == n) with
      | some e, some r => (e.a - r.a) * e.eff / 1024
      | _, _ => 0
    b.supWr (Obj.ChargeAllocation.Entry n) (min (roundDivN (given * 10 ^ 6) (watt * volts n)) 0xFFFFFFFF)) b

/-- The events of R306 at publication. -/
def publish (b : Block) (f a st : Nat) : Block :=
  let was := b.rd (Obj.FeedRecord.NextCapState f)
  let old := b.rd (Obj.FeedRecord.Allocation f)
  let b := b.wrs [(Obj.FeedRecord.NextAllocation f, a), (Obj.FeedRecord.NextCapState f, st)]
  let b := if st = was then b else match st with
    | 2 => b.capNotice f 0 old a
    | 3 => b.capNotice f 1 old a
    | 4 => b.capNotice f 2 old a
    | 1 => if csCAPPED ≤ was then b.capNotice f 3 old a else b
    | _ => b
  if b.rd (Obj.FeedRecord.CapState f) = csCAPPED ∧ old ≤ 8 * ((a : Int) - old).natAbs then b.capNotice f 4 old a else b

/-- The allocation of a cycle (R299–R304): the group pass of every group, the rack pass, the contingency pass, the charge power. -/
def allocate (b : Block) : Block :=
  let fs := b.feeds
  let l := (fs.filter (fun f => (b.feed f).part)).map b.feedShare
  let gs := (l.map (·.group)).eraseDups
  let l := gs.flatMap (fun g => b.groupPass g (b.group g).rated0 l)
  let bus (l : List Share) : Nat := (l.map (fun e => e.saving true e.a)).sum
  let budget := b.rackBudget
  let total := bus l
  let limited := decide (budget * watt < total)
  let l := (pass true l (total - budget * watt)).1
  let spare := gs.flatMap (fun g =>
    let x := b.group g
    if (x.supply0 = ssNO_SPARE ∨ x.supply0 = ssSHORT) ∧ b.rd (Obj.GroupRecord.MinPhases g) + 1 ≤ x.members0 then b.groupPass g x.rated1 l
    else l.filter (fun e => e.group == g))
  let find (l : List Share) (f : Nat) : Nat := ((l.find? (fun e => e.f == f)).map Share.watts).getD 0
  let b := fs.foldl (fun b f =>
    if (b.feed f).part then
      let a := find l f
      let q := b.feedRequest f
      let st := capState a q (b.rd (Obj.FeedRecord.Floor f))
      let b := (((b.supWr (Obj.FeedRecord.Demand f) (b.feedDemand f)).supWr (Obj.FeedRecord.Request f) q).supWr
        (Obj.FeedRecord.ContingencyAllocation f) (find spare f)).publish f a st
      { b with sup := { b.sup with allocs := b.sup.allocs ++ [(f, a, st)] } }
    else
      (((b.supWr (Obj.FeedRecord.Demand f) 0).supWr (Obj.FeedRecord.Request f) 0).supWr (Obj.FeedRecord.ContingencyAllocation f) 0).publish f 0 csNONE) b
  let b := b.groups.foldl (fun b g =>
    let mine := (l.filter (fun e => e.group == g)).map (·.f)
    let capped := (b.sup.allocs.filter (fun e => mine.contains e.1 && decide (csCAPPED ≤ e.2.2))).length
    ((b.supWr (Obj.GroupRecord.GroupDemand g) ((mine.map b.feedDemand).sum)).supWr (Obj.GroupRecord.GroupAllocation g)
      ((mine.map (find l)).sum)).supWr (Obj.GroupRecord.FeedsCapped g) capped) b
  let n (p : Nat → Bool) : Nat := (b.sup.allocs.filter (fun e => p e.2.2)).length
  let b := ((((b.supWr Obj.CappingStatus.Budget budget).supWr Obj.CappingStatus.Allocated (roundDivN (bus l) watt)).supWr
    Obj.CappingStatus.FeedsCapped (n (fun s => decide (csCAPPED ≤ s)))).supWr Obj.CappingStatus.FeedsBelowFloor (n (fun s => s == csBELOW_FLOOR))).supWr
    Obj.CappingStatus.RackLimited (b2n limited)
  b.chargeAllocation (budget - (bus l + watt - 1) / watt)

/-- The trims and allocations of the last computation come into force (R31, R305); answers the feeds that are newly SHUT (R321). -/
def applyAllocation (b : Block) : List Nat × Block :=
  let b := b.sup.trims.foldl (fun b e => (b.modPort e.1 (fun x => { x with trim := e.2 })).wrI 32 (Obj.PortRecord.Trim e.1) (roundDiv e.2 1000)) b
  b.sup.allocs.foldl (fun r e =>
    let b := r.2
    if [2, 3, 4, 8].contains (b.feedNext e.1) then
      let shut := e.2.2 == csSHUT && b.rdN (Obj.FeedRecord.CapState e.1) != csSHUT
      let b := b.putAllocation e.1 e.2.1 e.2.2
      (if shut then r.1 ++ [e.1] else r.1, match b.feedPort e.1 with | some p => b.feedWords p e.1 | none => b)
    else r) ([], b)

/-- What the boundary does to a group's caps: contingency allocations of the cycle are replaced (R297). -/
def shortDone (b : Block) : Block := b.groupTab.foldl (fun b e => b.setGroup e.1 { b.group e.1 with shortAt := none }) b

/-! ### Checks (R311) -/

/-- The bundle changes a staged value of R308, R309 or R310. -/
def capacityKey (k : Nat) : Bool :=
  (inObj 0x3A00 0x3A3F k && decide (0x20 ≤ keySub k) && decide (keySub k ≤ 0x24)) ||
  (inObj 0x3400 0x34FF k && decide (0x40 ≤ keySub k) && decide (keySub k ≤ 0x43)) || inObj 0x3A80 0x3A80 k

/-- CFG_GROUP_SPARES, over the groups that hold a phase: ranges, the order of the counts, the REC group's settings, changes only while STOPPED. -/
def checkGroupSpares (b old : Block) (keys : List Nat) : Finding :=
  let row (g : Nat) : List Nat :=
    let mn := b.rd (Obj.GroupRecord.MinPhases g)
    let rq := b.rd (Obj.GroupRecord.RequiredPhases g)
    let fixed := [Obj.GroupRecord.RequiredPhases g, Obj.GroupRecord.MinPhases g, Obj.GroupRecord.SpareMode g]
    faultIf (!(decide (1 ≤ mn) && decide (mn ≤ rq) && decide (rq ≤ (b.units g).length))) [Obj.GroupRecord.RequiredPhases g, Obj.GroupRecord.MinPhases g] ++
    faultIf (b.groupClass g == 1 && (b.rd (Obj.GroupRecord.SpareMode g) != 1 || b.rd (Obj.GroupRecord.Efficiency g) != 1024))
      [Obj.GroupRecord.SpareMode g, Obj.GroupRecord.Efficiency g] ++
    faultIf (old.groupState g != gsSTOPPED) (fixed.filter (fun k => b.rd k != old.rd k)) ++
    outOfRange b (fixed ++ [Obj.GroupRecord.Derate g, Obj.GroupRecord.Efficiency g])
  let own := outOfRange b (keys.filter (fun k => capacityKey k && inObj 0x3A00 0x3A3F k))
  if keys.any capacityKey then findAt keys (own ++ b.groups.flatMap row) else none

/-- CFG_FEED_CAP, over the configured feeds: priority, floor under the ceiling, the floors of a group under what its lowest-rated required
units carry. -/
def checkFeedCap (b : Block) (keys : List Nat) : Finding :=
  let row (f : Nat) : List Nat :=
    let cap := b.rd (Obj.FeedRecord.ContractCap f)
    let ceil := if cap ≠ 0 then cap else roundDivN (b.linearLimit f * b.feedSetpoint f) (10 ^ 6)
    faultIf (decide (ceil < b.rd (Obj.FeedRecord.Floor f))) [Obj.FeedRecord.Floor f, Obj.FeedRecord.ContractCap f]
  let full (g : Nat) : List Nat :=
    let fs := b.groupFeeds g
    let sreq := b.lowestRatings g (b.rd (Obj.GroupRecord.RequiredPhases g)) (b.units g)
    faultIf (decide (sreq * b.rd (Obj.GroupRecord.Derate g) * b.rd (Obj.GroupRecord.Setpoint g) <
      ((fs.map (fun f => b.rd (Obj.FeedRecord.Floor f))).sum) * 1024 * 10 ^ 6))
      (fs.map Obj.FeedRecord.Floor ++ [Obj.GroupRecord.RequiredPhases g, Obj.GroupRecord.Derate g])
  let own := outOfRange b (keys.filter (fun k => capacityKey k && inObj 0x3400 0x34FF k))
  if keys.any capacityKey then findAt keys (own ++ b.feeds.flatMap row ++ b.groups.flatMap full) else none

/-- CFG_CAPPING. -/
def checkCapping (b : Block) (keys : List Nat) : Finding := rangeFault b 0x3A80 0x3A80 keys

end Block

end Sys2Proof.Machine
end

