-- ==== Sys2Proof/Machine/Sequencing.lean ====
section
/-! DEFINITION. Power sequencing (chapter 11): attempts, members, undo and retry, downs and forced downs, failure snapshots. -/

namespace Sys2Proof.Machine

/-- The operation of the reserved action that starts the next attempt of a sequence (R319, assumption 39). -/
def opSEQ_RETRY : Nat := 0x8002

/-- Sequence states (R317). -/
def sqDOWN : Nat := 1
def sqGOING_UP : Nat := 2
def sqUP : Nat := 3
def sqGOING_DOWN : Nat := 4
def sqUNDOING : Nat := 5
def sqRETRY_WAIT : Nat := 6
def sqFAILED : Nat := 7
def sqHALTED : Nat := 8

/-- Kinds of member (R70). -/
def kdFEED : Nat := 2
def kdGROUP : Nat := 3

/-- Member status (R326). -/
def msWAITING : Nat := 0
def msCOMMANDED : Nat := 1
def msUP : Nat := 2
def msFAILED : Nat := 3
def msDOWN : Nat := 4
def msFORCED : Nat := 5

namespace Block

/-! ### Members and slots (R313, R314) -/

/-- The slot entries of a sequence. -/
def seqEntries (b : Block) (q : Nat) : List Nat :=
  (List.range 128).filter (fun e => b.rd (Obj.SlotEntry.Sequence e) == q && b.rd (Obj.SlotEntry.Kind e) != 0)

/-- The on-slot and the off-slot of the member at a position of an entry, in ticks. -/
def onSlot (b : Block) (e i : Nat) : Nat := b.rd (Obj.SlotEntry.OnDelay e) + i * b.rd (Obj.SlotEntry.Stagger e)
def offSlot (b : Block) (e i : Nat) : Nat :=
  b.rd (Obj.SlotEntry.OffDelay e) + (b.rd (Obj.SlotEntry.Count e) - 1 - i) * b.rd (Obj.SlotEntry.Stagger e)

/-- The members of a sequence in entry order, with their due ticks from a common start. -/
def seqMembers (b : Block) (q start : Nat) (slot : Nat → Nat → Nat) : List Member :=
  (b.seqEntries q).flatMap (fun e => (List.range (b.rd (Obj.SlotEntry.Count e))).map (fun i =>
    { kind := b.rd (Obj.SlotEntry.Kind e), unit := b.rd (Obj.SlotEntry.FirstUnit e) + i, entry := e, due := start + slot e i }))

/-- The state of a sequence as it stands for the next tick. -/
def seqState (b : Block) (q : Nat) : Nat := b.rdN (Obj.SequenceRecord.State q)
def setSeqState (b : Block) (q v : Nat) : Block :=
  (b.wrN (Obj.SequenceRecord.State q) v).condition Src.SEQ_EXHAUSTED q (v == sqFAILED)

/-- A member is up, or down (R315, R320). -/
def memberUp (b : Block) (m : Member) : Bool :=
  if m.kind = kdGROUP then b.groupState m.unit == gsRUNNING else b.feedState m.unit == fsCLOSED
def memberDown (b : Block) (m : Member) : Bool :=
  if m.kind = kdGROUP then b.groupState m.unit != gsSTARTING && b.groupState m.unit != gsRUNNING
  else !([2, 3, 4, 8].contains (b.feedState m.unit))

/-- Up or settled: it no longer holds the attempt up. -/
def settled (m : Member) : Bool := m.status == msUP || m.status == msFAILED || m.status == msFORCED

/-- The counts of an attempt. -/
def showMembers (b : Block) (q : Nat) : Block :=
  let l := (b.seq q).members
  let b := b.wr (Obj.SequenceRecord.MembersUp q) (l.filter settled).length
  (b.seqEntries q).foldl (fun b e => b.wr (Obj.SlotEntry.MembersUp e) (l.filter (fun m => m.entry == e && m.status == msUP)).length) b

/-! ### Runs (R318–R320) -/

/-- A waiting retry of a sequence is cancelled. -/
def cancelRetry (b : Block) (q : Nat) : Block :=
  let mine (e : Nat × Action) : Bool := e.2.session == 0xFF && e.2.op == opSEQ_RETRY && e.2.target == q
  let b := (b.actions.table.filter mine).foldl (fun b e => b.completeEntry e.1 e.2 actCANCELLED) b
  { b with actions := { b.actions with waiting := b.actions.waiting.filter (fun w => !(w.op == opSEQ_RETRY && w.target == q)) } }

/-- What runs on a sequence ends, and decisions on it lapse. -/
def seqClear (b : Block) (q : Nat) : Block :=
  let b := b.setSeq q { b.seq q with members := [], downs := [], fail := none, seen := 0 }
  { b with sup := { b.sup with seqs := b.sup.seqs.filter (fun e => e.1 != q) } }

/-- The same, with a retry that waits. -/
def seqStop (b : Block) (q : Nat) : Block := (b.cancelRetry q).seqClear q

/-- The common start of a run as the record shows it. -/
def showStart (b : Block) (q epoch cycle angle : Nat) : Block :=
  b.wrs [(Obj.SequenceRecord.StartEpoch q, epoch), (Obj.SequenceRecord.StartCycle q, cycle), (Obj.SequenceRecord.StartAngle q, angle)]

/-- An attempt starts with the tick that opens next. -/
def seqAttempt (b : Block) (q epoch cycle angle : Nat) : Block :=
  let b := (b.seqClear q).showStart q epoch cycle angle
  let l := b.seqMembers q (b.glade.ticks + 1) b.onSlot
  let b := b.setSeq q { b.seq q with members := l, angle }
  ((b.wr (Obj.SequenceRecord.MembersTotal q) l.length).showMembers q).setSeqState q sqGOING_UP

/-- A down of every member starts with the tick that opens next. -/
def seqDownRun (b : Block) (q state epoch cycle angle : Nat) : Block :=
  let b := b.showStart q epoch cycle angle
  (b.setSeq q { b.seq q with downs := b.seqMembers q (b.glade.ticks + 1) b.offSlot, seen := 0 }).setSeqState q state

/-- SEQ_UP (R318, R324). -/
def seqUp (a : Action) (b : Block) : Block :=
  ((b.cancelRetry a.target).wr (Obj.SequenceRecord.RetriesUsed a.target) 0).seqAttempt a.target a.epoch a.cycle a.angle

/-- SEQ_DOWN (R320, R324): a running attempt, undo or retry is superseded. -/
def seqDown (b : Block) (q epoch cycle angle : Nat) : Block :=
  let st := b.seqState q
  let b := if st = sqGOING_UP ∨ st = sqUNDOING ∨ st = sqRETRY_WAIT then b.wr (Obj.SequenceRecord.LastResult q) 5 else b
  ((b.seqStop q).wr (Obj.SequenceRecord.RetriesUsed q) 0).seqDownRun q sqGOING_DOWN epoch cycle angle

/-- SEQ_RETRY (R319): the reserved action fires. -/
def seqRetry (a : Action) (b : Block) : Block :=
  if b.seqState a.target = sqRETRY_WAIT then
    (b.bump (Obj.SequenceRecord.RetriesUsed a.target) 8).seqAttempt a.target a.epoch a.cycle a.angle
  else b

/-! ### Members in their ticks (R315, R316, R320) -/

/-- A member's record in a list changes. -/
def putMember (l : List Member) (m : Member) : List Member :=
  l.map (fun x => if x.kind = m.kind ∧ x.unit = m.unit ∧ x.entry = m.entry then m else x)

/-- A member of the running attempt changes its status. -/
def setStatus (b : Block) (q : Nat) (m : Member) (v : Nat) : Block :=
  b.setSeq q { b.seq q with members := putMember (b.seq q).members { m with status := v, since := b.glade.ticks } }

/-- A member fails (R316): counted, and the attempt fails with it where its entry is critical. -/
def memberFail (b : Block) (q : Nat) (m : Member) (reason : Nat) : Block :=
  let b := b.setStatus q m msFAILED
  let e := m.entry
  let b := (b.bump (Obj.SlotEntry.FailCount e)).wrs [(Obj.SlotEntry.LastFailUnit e, m.unit), (Obj.SlotEntry.LastFailReason e, reason),
    (Obj.SlotEntry.LastFailEpoch e, b.glade.epoch), (Obj.SlotEntry.LastFailCycle e, b.glade.cycle), (Obj.SlotEntry.LastFailTick e, b.glade.tick)]
  if b.rd (Obj.SlotEntry.Critical e) = 1 then
    let x := b.seq q
    b.setSeq q { x with fail := some (x.fail.getD
      { entry := e, kind := m.kind, unit := m.unit, reason, epoch := b.glade.epoch, cycle := b.glade.cycle, tick := b.glade.tick }) }
  else b.report Src.SEQ_MEMBER_FAIL e [m.unit, reason]

/-- The member at a position of an entry in a list. -/
def findMember (b : Block) (l : List Member) (e i : Nat) : Option Member :=
  l.find? (fun m => m.entry == e && m.unit == b.rd (Obj.SlotEntry.FirstUnit e) + i)

/-- SEQ_MEMBER_ON_DUE (R315): the due tick is the one that opens next. -/
def memberOn (b : Block) (e i : Nat) : Block :=
  let q := b.rd (Obj.SlotEntry.Sequence e)
  if 16 ≤ q ∨ b.seqState q ≠ sqGOING_UP then b
  else match b.findMember (b.seq q).members e i with
    | none => b
    | some m =>
      if m.status ≠ msWAITING ∨ b.glade.ticks + 1 < m.due then b
      else if b.memberUp m then b.setStatus q m msUP
      else if m.kind = kdGROUP then
        let st := b.groupState m.unit
        if st = gsHALTED ∨ b.rd (Obj.GroupRecord.SupplyState m.unit) = ssBELOW_MIN then b.memberFail q m 5
        else (if st = gsSTARTING then b else b.groupStart m.unit).setStatus q m msCOMMANDED
      else
        let serves := ((b.feedPort m.unit).map b.portState) == some psIN_SERVICE
        let st := b.feedNext m.unit
        if !serves then b.memberFail q m 5
        else if st = fsLOCKED_OUT ∨ st = fsSUSPECT then (b.feedCloseAct m.unit true).memberFail q m 3
        else (b.feedCloseAct m.unit true).setStatus q m msCOMMANDED

/-- A feed taken off by the sequencer (R320). -/
def feedOff (b : Block) (f : Nat) : Block :=
  match b.feedPort f with
  | none => b
  | some p =>
    let idle (b : Block) : Block := b.setFeed f { b.feed f with step := 0, retryAt := none, held := false }
    match b.feedNext f with
    | 0 => b
    | 1 => idle b
    | 5 => ((idle b).setFeedState f fsOPEN).feedWords p f
    | 6 => idle b
    | 7 => b.feedWords p f
    | _ => b.openFeed p f ocCOMMANDED fsOPEN

/-- A member taken off. -/
def memberOff (b : Block) (m : Member) : Block :=
  if m.kind = kdGROUP then
    if b.groupState m.unit = gsSTARTING ∨ b.groupState m.unit = gsRUNNING then b.groupStop m.unit gsSTOPPED else b
  else b.feedOff m.unit

/-- A feed of a forced down counts as settled in an attempt that runs (R321). -/
def settleForced (b : Block) (q f : Nat) : Block :=
  if b.seqState q ≠ sqGOING_UP then b
  else
    let x := b.seq q
    b.setSeq q { x with members := x.members.map (fun m =>
      if m.kind = kdFEED ∧ m.unit = f ∧ (m.status = msWAITING ∨ m.status = msCOMMANDED) then { m with status := msFORCED } else m) }

/-- SEQ_MEMBER_OFF_DUE (R320, R321): in a down of the sequence, or in a forced down. -/
def memberOffDue (b : Block) (e i : Nat) : Block :=
  let q := b.rd (Obj.SlotEntry.Sequence e)
  if 16 ≤ q then b
  else
    let due (m : Member) : Bool := m.status == msWAITING && decide (m.due ≤ b.glade.ticks + 1)
    let b := match b.findMember (b.seq q).downs e i with
      | none => b
      | some m =>
        if due m && (b.seqState q == sqGOING_DOWN || b.seqState q == sqUNDOING) then
          let b := b.memberOff m
          b.setSeq q { b.seq q with downs := putMember (b.seq q).downs { m with status := msCOMMANDED } }
        else b
    match b.findMember (b.seq q).forced e i with
    | none => b
    | some m =>
      if due m then
        let b := (b.memberOff m).settleForced q m.unit
        b.setSeq q { b.seq q with forced := putMember (b.seq q).forced { m with status := msCOMMANDED } }
      else b

/-- SEQ_UP_TIMEOUT (R316). -/
def memberTimeout (b : Block) (e i : Nat) : Block :=
  let q := b.rd (Obj.SlotEntry.Sequence e)
  if 16 ≤ q ∨ b.seqState q ≠ sqGOING_UP then b
  else match b.findMember (b.seq q).members e i with
    | none => b
    | some m =>
      if m.status = msCOMMANDED ∧ m.due + b.rd (Obj.SlotEntry.UpTimeout e) ≤ b.glade.ticks then
        if b.memberUp m then b.setStatus q m msUP else b.memberFail q m 2
      else b

/-- A commanded member in one tick: it has come up, or it has failed (R315, R316). -/
def memberTick (b : Block) (q : Nat) (m : Member) : Block :=
  if m.status ≠ msCOMMANDED ∨ b.glade.ticks ≤ m.since then b
  else if b.memberUp m then b.setStatus q m msUP
  else if m.kind = kdGROUP then
    if (b.group m.unit).result = 2 then b.memberFail q m 1 else b
  else if b.feedState m.unit = fsOPEN ∧ (b.feed m.unit).step = 0 ∧ b.rd (Obj.FeedRecord.LastOpenCause m.unit) = ocCLOSE_FAILED then b.memberFail q m 4
  else b

/-- Commanded members of a down that are down now. -/
def downTick (b : Block) (l : List Member) : List Member :=
  l.map (fun m => if m.status = msCOMMANDED ∧ b.memberDown m then { m with status := msDOWN } else m)

/-- A sequence in one tick. -/
def seqTick (b : Block) (q : Nat) : Block :=
  let st := b.rd (Obj.SequenceRecord.State q)
  let b := if st = sqGOING_UP then ((b.seq q).members.foldl (fun b m => b.memberTick q m) b).showMembers q else b
  let x := b.seq q
  let downs := if st = sqGOING_DOWN ∨ st = sqUNDOING then b.downTick x.downs else x.downs
  let forced := b.downTick x.forced
  let forced := if forced.all (fun m => m.status == msDOWN) then [] else forced
  let b := if st = sqGOING_DOWN ∨ st = sqUNDOING then
      b.wr (Obj.SequenceRecord.MembersUp q) (downs.filter (fun m => m.status != msDOWN)).length else b
  b.setSeq q { x with downs, forced }

/-- A group that is being emptied stops once its last feed is open (R298). -/
def emptyGroup (b : Block) (g : Nat) : Block :=
  if (b.group g).emptying = 2 ∧ (b.groupFeeds g).all (fun f => !([2, 3, 4, 8].contains (b.feedState f))) then b.groupStop g gsSTOPPED else b

/-- Every sequence in one tick. -/
def sequencesTick (b : Block) : Block :=
  let b := (List.range 16).foldl seqTick b
  (b.groupTab.map (·.1)).foldl emptyGroup b

/-! ### Forced downs (R321) -/

/-- A forced down of some feeds, its common start the tick that opens next: slot 0 goes at once. -/
def forcedDown (b : Block) (fs : List Nat) (why : Nat) : Block :=
  if fs.isEmpty then b
  else
    let start := b.glade.ticks + 1
    let b := b.report Src.SEQ_FORCED_DOWN 0 [why, fs.length]
    let all := (List.range 16).map (fun q => (q, (b.seqMembers q 0 b.offSlot).filter (fun m => m.kind == kdFEED && fs.contains m.unit)))
    let inSeq := all.flatMap (fun e => e.2.map (·.unit))
    let b := (fs.filter (fun f => !inSeq.contains f)).foldl feedOff b
    all.foldl (fun b e =>
      match e.2 with
      | [] => b
      | m0 :: _ =>
        let low := (e.2.map (·.due)).foldl min m0.due
        let l := e.2.map (fun m => { m with due := start + m.due - low, status := if m.due = low then msCOMMANDED else msWAITING })
        let b := (l.filter (fun m => m.status == msCOMMANDED)).foldl (fun b m => (b.memberOff m).settleForced e.1 m.unit) b
        b.setSeq e.1 { b.seq e.1 with forced := (b.seq e.1).forced.filter (fun m => !fs.contains m.unit) ++ l }) b

/-- The feeds of the rack that are not down. -/
def feedsUp (b : Block) : List Nat := b.feeds.filter (fun f => [2, 3, 4, 8].contains (b.feedNext f))

/-- The requests of the tick that ends (R298, R321, R235): hold-up faults, groups below their minimum. -/
def downRequests (b : Block) : Block :=
  let why := b.holdup.takeDown
  let b := if why = 0 then b else { b.forcedDown b.feedsUp why with holdup := { (b.forcedDown b.feedsUp why).holdup with takeDown := 0 } }
  b.groupTab.foldl (fun b e =>
    if (b.group e.1).emptying = 1 then
      let b := b.setGroup e.1 { b.group e.1 with emptying := 2 }
      b.forcedDown ((b.groupFeeds e.1).filter (fun f => [2, 3, 4, 8].contains (b.feedNext f))) Src.GROUP_BELOW_MIN
    else b) b

/-- The rack is taken down by a reaction (R341): every feed in its off-slot order, each group after its last feed; a group without feeds
runs on (assumption 50). -/
def rackDown (b : Block) (why : Nat) : Block :=
  let b := b.forcedDown b.feedsUp why
  b.groups.foldl (fun b g =>
    if (b.groupFeeds g).isEmpty ∨ (b.groupState g ≠ gsRUNNING ∧ b.groupState g ≠ gsSTARTING) then b
    else b.setGroup g { b.group g with emptying := 2 }) b

/-! ### The failure snapshot (R325, R326) -/

/-- Zero bytes. -/
def zeros (n : Nat) : List Nat := List.replicate n 0

/-- A value of an image. -/
def imageRd (img : Image) (key : Nat) : Nat := Tab.look (dictDefault key) img.dict key

/-- A member's 32 bytes. -/
def memberBytes (b : Block) (img : Image) (m : Member) : List Nat :=
  let r := imageRd img
  let ahead : Int := (m.due : Int) - (b.glade.ticks + 1 : Nat)
  let nt : Int := b.glade.nt
  let cyc := ofI 32 (b.glade.cycle + ahead / nt)
  let tick := (ahead % nt).toNat
  let u := m.unit
  let body := if m.kind = kdGROUP then
      [r (Obj.GroupRecord.State u), r (Obj.GroupRecord.SupplyState u), r (Obj.GroupRecord.RunPhases u), 0] ++
      leBytes 4 (r (Obj.GroupRecord.Feedback u)) ++ leBytes 4 (r (Obj.GroupRecord.EffSetpoint u)) ++
      leBytes 4 (r (Obj.GroupRecord.CurrentCommand u)) ++ leBytes 4 (r (Obj.GroupRecord.CurrentLimit u))
    else
      [r (Obj.FeedRecord.State u), r (Obj.FeedRecord.LastOpenCause u), r (Obj.FeedRecord.RetriesUsed u), 0] ++
      leBytes 4 (r (Obj.FeedRecord.InputVoltage u)) ++ leBytes 4 (r (Obj.FeedRecord.OutputVoltage u)) ++
      leBytes 4 (r (Obj.FeedRecord.Current u)) ++ leBytes 4 (r (Obj.FeedRecord.IlimInForce u))
  [m.kind, m.status] ++ leBytes 2 u ++ body ++ leBytes 4 cyc ++ leBytes 2 tick ++ zeros 2

/-- The bytes of a snapshot; the number of the SEQ_FAIL record follows when it is written. -/
def snapshotBytes (b : Block) (q : Nat) (f : SeqFail) (img : Image) (l : List Member) : List Nat :=
  let head := [1, q, (b.rd (Obj.SequenceRecord.RetriesUsed q) + 1) % 256, f.reason, f.entry, f.kind] ++ leBytes 2 f.unit ++
    leBytes 2 f.epoch ++ leBytes 4 f.cycle ++ leBytes 2 f.tick ++ leBytes 2 img.epoch ++ leBytes 4 img.cycle ++ zeros 6 ++ leBytes 2 l.length
  let chans := (List.range 72).flatMap (fun c =>
    leBytes 4 (imageRd img (Obj.Channel.Result c)) ++ leBytes 2 (imageRd img (Obj.Channel.Flags c)) ++ zeros 2)
  let body := head ++ zeros (64 - head.length) ++ chans ++ (l.take 492).flatMap (b.memberBytes img)
  (body ++ zeros 16384).take 16384

/-- Where a snapshot area lies in Heartwood (R325, R441). -/
def areaBase (a : Nat) : Nat := 0x200000 + a * 0x4000

/-- A failure snapshot is taken or skipped; answers its area, 0xFF for none. -/
def takeSnapshot (b : Block) (q : Nat) (f : SeqFail) (l : List Member) : Nat × Block :=
  let held := b.rd Obj.SeqSnapshotStatus.AreasHeld
  let skip (why : Nat) : Nat × Block :=
    (0xFF, ((b.bump (Obj.SequenceRecord.SnapshotsSkipped q)).report Src.SEQ_SNAPSHOT_SKIPPED 0 [why]).wr (Obj.SequenceRecord.LastSnapshotArea q) 0xFF)
  let le := b.rd Obj.SeqSnapshotStatus.LastTakenEpoch
  let lc := b.rd Obj.SeqSnapshotStatus.LastTakenCycle
  match (List.range 8).find? (fun a => !bitOf held a) with
  | none => skip 1
  | some a =>
    if le ≠ 0xFFFF ∧ -(b.cyclesAhead le lc) < b.rd Obj.SeqSnapshotStatus.SnapshotInterval then skip 2
    else
      let n := nextCycle f.epoch f.cycle
      let img := ((b.canopy.slots.find? (fun e => e.2.epoch == n.1 && e.2.cycle == n.2)).map (·.2)).getD
        { epoch := n.1, cycle := n.2, dict := b.dict }
      let b := (b.putHeartwood (areaBase a) (b.snapshotBytes q f img l)).closeRows (areaBase a) 16384
      let b := b.setSeq q { b.seq q with area := some a }
      (a, b.wrs [(Obj.SeqSnapshotStatus.AreasHeld, putBit held a true), (Obj.SeqSnapshotStatus.LastTakenEpoch, b.glade.epoch),
        (Obj.SeqSnapshotStatus.LastTakenCycle, b.glade.cycle), (Obj.SequenceRecord.LastSnapshotArea q, a)])

/-- The number of a SEQ_FAIL record enters its snapshot once the collector has written the record. -/
def patchSnapshot (b : Block) (q : Nat) : Block :=
  match (b.seq q).area with
  | none => b
  | some a =>
    let b := b.setSeq q { b.seq q with area := none }
    match (b.rings.buffer ++ b.rings.queue).reverse.find? (fun r => r.code == Src.SEQ_FAIL && r.inst == q) with
    | some r => b.putHeartwood (areaBase a + 22) (leBytes 2 r.gen ++ leBytes 4 r.seq)
    | none => b

/-- Every snapshot that waits for its record. -/
def patchSnapshots (b : Block) : Block := (b.seqTab.map (·.1)).foldl patchSnapshot b

/-- SEQ_SNAPSHOT_RELEASE (R325, R329). -/
def releaseSnapshot (b : Block) (a : Nat) : Block :=
  b.wr Obj.SeqSnapshotStatus.AreasHeld (putBit (b.rd Obj.SeqSnapshotStatus.AreasHeld) a false)

/-! ### Decisions (R318, R319, R323) -/

/-- What the member states of the cycle that ends decide; a failure wins over a completion. -/
def seqClose (b : Block) (q : Nat) : Block :=
  let x := b.seq q
  let st := b.seqState q
  let seen :=
    if st = sqGOING_UP then (if x.fail.isSome then 2 else if x.members.all settled then 1 else 0)
    else if st = sqGOING_DOWN ∨ st = sqUNDOING then (if x.downs.all (fun m => m.status == msDOWN) then 3 else 0)
    else 0
  b.setSeq q { x with seen }

/-- The decisions of the supervisors. -/
def seqDecide (b : Block) : Block :=
  { b with sup := { b.sup with seqs := (b.seqTab.filter (fun e => e.2.seen != 0)).map (fun e => (e.1, e.2.seen)) } }

/-- A failed attempt is undone from the tick that opens next (R319). -/
def seqUndo (b : Block) (q : Nat) : Block :=
  match (b.seq q).fail with
  | none => b
  | some f =>
    let r := b.takeSnapshot q f (b.seq q).members
    let b := r.2.bump (Obj.SequenceRecord.Failures q)
    let b := b.wrs [(Obj.SequenceRecord.LastResult q, 3), (Obj.SequenceRecord.LastFailEntry q, f.entry), (Obj.SequenceRecord.LastFailUnit q, f.unit),
      (Obj.SequenceRecord.LastFailReason q, f.reason)]
    let b := b.report Src.SEQ_FAIL q [f.entry, f.unit, f.reason, r.1]
    let b := b.setSeq q { b.seq q with members := [], fail := none }
    b.seqDownRun q sqUNDOING b.glade.epoch b.glade.cycle 0

/-- An undo is complete: the next attempt is scheduled `RetryDelay` cycles after the cycle of its completion, or none is left. -/
def seqUndone (b : Block) (q : Nat) : Block :=
  if b.rd (Obj.SequenceRecord.RetriesUsed q) < b.rd (Obj.SequenceRecord.RetryLimit q) then
    (b.setSeqState q sqRETRY_WAIT).reserve opSEQ_RETRY 5 q 0 (b.rd (Obj.SequenceRecord.RetryDelay q) - 2) (b.seq q).angle
  else (b.setSeqState q sqFAILED).wr (Obj.SequenceRecord.LastResult q) 3

/-- A decided change of state takes effect at the boundary. -/
def seqApply (b : Block) (q code : Nat) : Block :=
  let st := b.seqState q
  let b := b.setSeq q { b.seq q with seen := 0 }
  if code = 1 ∧ st = sqGOING_UP then
    ((b.setSeqState q sqUP).wr (Obj.SequenceRecord.LastResult q) 1).report Src.SEQ_UP_DONE q
  else if code = 2 ∧ st = sqGOING_UP then b.seqUndo q
  else if code = 3 ∧ st = sqGOING_DOWN then
    ((b.setSeqState q sqDOWN).wr (Obj.SequenceRecord.LastResult q) 2).report Src.SEQ_DOWN_DONE q
  else if code = 3 ∧ st = sqUNDOING then b.seqUndone q
  else b

/-! ### ABORT (R323, R511–R513) -/

/-- Microseconds since an elapsed tick. -/
def microsSince (b : Block) (t : Nat) : Nat := min (b.microsOf (b.glade.ticks + b2n b.glade.boundary - t)) 0xFFFFFFFF

/-- An abort of a session waits for its function to end (R511). -/
def abortWait (b : Block) (n kind target : Nat) : Block :=
  (b.setSess n { b.sess n with abort := some (kind, target, b.glade.ticks) }).wrs [(sk n Obj.Abort.Result, 5), (sk n Obj.Abort.Elapsed, 0)]

/-- An abort of a session that is answered at once. -/
def abortAnswer (b : Block) (n result : Nat) : Block := b.wrs [(sk n Obj.Abort.Result, result), (sk n Obj.Abort.Elapsed, 0)]

/-- Every abort of this kind and target ends with a result. -/
def abortEnds (b : Block) (kind target result : Nat) : Block :=
  b.sessions.foldl (fun b e =>
    match (b.sess e.1).abort with
    | some (k, t, since) =>
      if k = kind ∧ t = target then
        (b.setSess e.1 { b.sess e.1 with abort := none }).wrs [(sk e.1 Obj.Abort.Result, result), (sk e.1 Obj.Abort.Elapsed, b.microsSince since)]
      else b
    | none => b) b

/-- A sequence runs. -/
def seqRuns (b : Block) (q : Nat) : Bool := [sqGOING_UP, sqGOING_DOWN, sqUNDOING, sqRETRY_WAIT].contains (b.seqState q)

/-- ABORT_SEQUENCE (R323): served now, carried out by the first boundary at least 400 ticks later. -/
def abortSequence (b : Block) (n q : Nat) : Block :=
  if !b.seqRuns q then b.abortAnswer n 1
  else
    let x := b.seq q
    (b.setSeq q { x with abortAt := some (x.abortAt.getD (b.glade.ticks + 400)) }).abortWait n 2 q

/-- An ABORT takes effect at a boundary. -/
def seqAbort (b : Block) (q : Nat) : Block :=
  match (b.seq q).abortAt with
  | none => b
  | some t =>
    if b.glade.ticks + 1 < t then b
    else
      let b := b.setSeq q { b.seq q with abortAt := none }
      if b.seqRuns q then
        let b := b.seqStop q
        let b := (b.setSeq q { b.seq q with forced := [] }).setSeqState q sqHALTED
        ((b.wr (Obj.SequenceRecord.LastResult q) 4).report Src.SEQ_ABORTED q).abortEnds 2 q 0
      else b.abortEnds 2 q 2

/-- The boundary: aborts, then the decided changes; the member states of the cycle that ends are taken first. -/
def sequencesBoundary (b : Block) : Block :=
  let qs := List.range 16
  let b := qs.foldl seqAbort b
  let decided := b.sup.seqs
  let b := decided.foldl (fun b e => b.seqApply e.1 e.2) b
  (qs.filter (fun q => !(decided.map (·.1)).contains q)).foldl seqClose b

/-- A commit has changed slot entries: the sequences that are configured (R317). -/
def sequencesCommitted (b : Block) (keys : List Nat) : Block :=
  if !keys.any (inObj 0x3940 0x39BF) then b
  else (List.range 16).foldl (fun b q =>
    let st := b.seqState q
    let es := b.seqEntries q
    let b := b.wr (Obj.SequenceRecord.MembersTotal q) ((es.map (fun e => b.rd (Obj.SlotEntry.Count e))).sum)
    if es.isEmpty then
      if st = 0 then b else (b.seqStop q).setSeqState q 0
    else if st = 0 then b.setSeqState q sqDOWN
    else b) b

/-- AutoStart (R322): SEQ_UP of every such sequence as a reserved action in the first cycle at least 2 cycles ahead. -/
def autoStart (b : Block) : Block :=
  (List.range 16).foldl (fun b q =>
    if b.rd (Obj.SequenceRecord.AutoStart q) = 1 ∧ b.sequenceUsed q then
      let lead := if b.glade.boundary then 2 else 3
      b.reserve 3 5 q 0 lead (b.rd (Obj.SequenceRecord.AutoStartAngle q))
    else b) b

/-! ### Checks (R330) -/

/-- The staged sub-indexes of sequences and slot entries in a bundle. -/
def seqKeys (keys : List Nat) : List Nat := keys.filter (fun k => inObj 0x3900 0x390F k || (inObj 0x3940 0x39BF k && decide (keySub k ≤ 9)))

/-- The objects of an entry whose Sequence, Kind or slots are out of range. -/
def entryFaults (b : Block) (e : Nat) : List Nat :=
  let q := b.rd (Obj.SlotEntry.Sequence e)
  let k := b.rd (Obj.SlotEntry.Kind e)
  let span := (b.rd (Obj.SlotEntry.Count e) - 1) * b.rd (Obj.SlotEntry.Stagger e)
  let most := max (b.rd (Obj.SlotEntry.OnDelay e)) (b.rd (Obj.SlotEntry.OffDelay e)) + span + b.rd (Obj.SlotEntry.UpTimeout e)
  faultIf (decide (16 ≤ q) && q != 0xFF) [Obj.SlotEntry.Sequence e] ++
  faultIf ((decide (q < 16) && k != kdFEED && k != kdGROUP) || (q == 0xFF && k != 0 && k != kdFEED && k != kdGROUP)) [Obj.SlotEntry.Kind e] ++
  faultIf (decide (30000000 < most)) [Obj.SlotEntry.Count e, Obj.SlotEntry.OnDelay e, Obj.SlotEntry.OffDelay e, Obj.SlotEntry.Stagger e,
    Obj.SlotEntry.UpTimeout e]

/-- CFG_SEQ_RANGE. -/
def checkSeqRange (b : Block) (keys : List Nat) : Finding :=
  if (seqKeys keys).isEmpty then none
  else findAt keys (outOfRange b (seqKeys keys) ++ (List.range 128).flatMap b.entryFaults)

/-- The used entries with their units. -/
def usedUnits (b : Block) (e : Nat) : List (Nat × Nat) :=
  if b.rd (Obj.SlotEntry.Sequence e) < 16 then
    (List.range (b.rd (Obj.SlotEntry.Count e))).map (fun i => (b.rd (Obj.SlotEntry.Kind e), b.rd (Obj.SlotEntry.FirstUnit e) + i))
  else []

/-- A unit that may be a member: a configured group of REC or CNV phases, or a configured feed. -/
def memberOk (b : Block) (u : Nat × Nat) : Bool :=
  if u.1 = kdGROUP then decide (u.2 < 64) && (b.groupClass u.2 == 1 || b.groupClass u.2 == 2)
  else decide (u.2 < 256) && (b.feedPort u.2).isSome

/-- CFG_SEQ_MEMBER. -/
def checkSeqMember (b : Block) (keys : List Nat) : Finding :=
  if (seqKeys keys).isEmpty then none
  else
    let all := (List.range 128).map (fun e => (e, b.usedUnits e))
    let bad := (all.filter (fun x => x.2.any (fun u => !b.memberOk u || all.any (fun y => y.1 != x.1 && y.2.contains u)))).map (·.1)
    findAt keys (bad.flatMap (fun e => [Obj.SlotEntry.Kind e, Obj.SlotEntry.FirstUnit e, Obj.SlotEntry.Count e]))

/-- CFG_SEQ_ORDER: a feed comes after its group and goes before it; the slots of both entries. -/
def checkSeqOrder (b : Block) (keys : List Nat) : Finding :=
  if (seqKeys keys).isEmpty then none
  else
    let bad := (List.range 16).flatMap (fun q =>
      let on := b.seqMembers q 0 b.onSlot
      let off := b.seqMembers q 0 b.offSlot
      let both := on.zip off
      both.flatMap (fun m => (both.filter (fun g => m.1.kind == kdFEED && g.1.kind == kdGROUP && b.feedGroup m.1.unit == some g.1.unit &&
        (decide (m.1.due ≤ g.1.due) || decide (g.2.due ≤ m.2.due)))).flatMap (fun g => [m.1.entry, g.1.entry])))
    findAt keys (bad.flatMap (fun e => [Obj.SlotEntry.OnDelay e, Obj.SlotEntry.OffDelay e, Obj.SlotEntry.Stagger e]))

end Block

/-- SEQ_UP (R318). -/
def execSeqUp (handle : Nat) (s : State) : Host.Outcome State Fault Refusal := s.act (·.fireEntry handle 3 Block.seqUp)

/-- SEQ_DOWN (R320). -/
def execSeqDown (handle : Nat) (s : State) : Host.Outcome State Fault Refusal :=
  s.act (·.fireEntry handle 4 (fun a b => b.seqDown a.target a.epoch a.cycle a.angle))

/-- SEQ_RETRY (R319). -/
def execSeqRetry (handle : Nat) (s : State) : Host.Outcome State Fault Refusal := s.act (·.fireEntry handle opSEQ_RETRY Block.seqRetry)

/-- SEQ_MEMBER_ON_DUE (R315). -/
def execSeqMemberOnDue (e pos : Nat) (s : State) : Host.Outcome State Fault Refusal := s.actOn (decide (e < 128)) .slot e (·.memberOn e pos)

/-- SEQ_MEMBER_OFF_DUE (R320). -/
def execSeqMemberOffDue (e pos : Nat) (s : State) : Host.Outcome State Fault Refusal := s.actOn (decide (e < 128)) .slot e (·.memberOffDue e pos)

/-- SEQ_UP_TIMEOUT (R316). -/
def execSeqUpTimeout (e pos : Nat) (s : State) : Host.Outcome State Fault Refusal := s.actOn (decide (e < 128)) .slot e (·.memberTimeout e pos)

/-- SEQ_SNAPSHOT_RELEASE (R329). -/
def execSeqSnapshotRelease (area8 : Nat) (s : State) : Host.Outcome State Fault Refusal :=
  s.actOn (decide (area8 < 8)) .area area8 (·.releaseSnapshot area8)

/-- ABORT_SEQUENCE (R323). -/
def execAbortSequence (n q : Nat) (s : State) : Host.Outcome State Fault Refusal :=
  s.actOn (decide (n < 32) && decide (q < 16)) .sequence q (·.abortSequence n q)

end Sys2Proof.Machine
end

