-- ==== Sys2Proof/Machine/Faults.lean ====
section
/-! DEFINITION. The fault collector (chapter 12): roots, windows, rules, firebreaks, acknowledgement and clearing, injection, alarms. -/

namespace Sys2Proof.Machine

/-- Outcomes of a reaction (R367). -/
def roNONE : Nat := 0
def roPENDING : Nat := 1
def roEXECUTED : Nat := 2
def roWITHHELD : Nat := 3
def roLAPSED : Nat := 4
def roDROPPED : Nat := 5

/-- Reactions (R341). -/
def rxPORT_FAIL : Nat := 1
def rxPORT_SAFE : Nat := 2
def rxPORT_RESET : Nat := 3
def rxGROUP_HALT : Nat := 4
def rxFEED_OPEN : Nat := 5
def rxFEED_LOCKOUT : Nat := 6
def rxSEQ_DOWN : Nat := 7
def rxRACK_DOWN : Nat := 8
def rxRACK_SAFE : Nat := 9
def rxYIELD : Nat := 0xA

/-- Results of FaultControl (R362). -/
def fcOK : Nat := 0
def fcBAD_ROOT : Nat := 1
def fcNOT_ACKNOWLEDGED : Nat := 2
def fcPRESENT : Nat := 3
def fcPENDING : Nat := 4
def fcGRAVE : Nat := 5
def fcTOO_LATE : Nat := 6
def fcNOT_WITHHOLDABLE : Nat := 7
def fcPARTNER_NO_ACK : Nat := 8

/-- Where a source stands in the source order of R110 (DESIGN CHOICE, assumption 51): Glade, ports, engines, measurement, supervisors,
networks, always-on domain. -/
def sourceRank (c : Nat) : Nat :=
  if 0x04 ≤ c ∧ c ≤ 0x10 then 1
  else if c ≤ 0x01 ∨ (0x15 ≤ c ∧ c ≤ 0x25) then 2
  else if c = 0x02 ∨ (0x26 ≤ c ∧ c ≤ 0x2F) ∨ (0x37 ≤ c ∧ c ≤ 0x3F) ∨ (0x52 ≤ c ∧ c ≤ 0x5E) then 3
  else if 0x30 ≤ c ∧ c ≤ 0x36 then 4
  else if 0x9E ≤ c ∧ c ≤ 0xAC then 6
  else if 0xAD ≤ c then 7
  else 5

/-- A report takes its place among those of lower instances. -/
def insertReport (r : Report) : List Report → List Report
  | [] => [r]
  | x :: l => if r.inst < x.inst then r :: x :: l else x :: insertReport r l

/-- The reports of a tick in the order of R110; within a block, as they were made; ports in port order. -/
def orderReports (l : List Report) : List Report :=
  [1, 2, 3, 4, 5, 6, 7].flatMap (fun k =>
    let m := l.filter (fun r => sourceRank r.src == k)
    if k = 2 then m.foldl (fun s r => insertReport r s) [] else m)

/-- The sources a reaction is expected to bring about (R348). -/
def expectedOf (code : Nat) : List Nat :=
  let ports := [Src.ONESHOT_FAIL, Src.GROUP_OV_WARN, Src.GROUP_SENSE_LOST, Src.GROUP_SENSE_DISAGREE, Src.GROUP_SHORT, Src.GROUP_BELOW_MIN,
    Src.SPARE_FAILED, Src.PHASE_START_EXCLUDED, Src.STRING_CURRENT_DISAGREE, Src.FEED_INPUT_FAULT, Src.FEED_FLOOR_BREACH, Src.HANDOVER]
  if code ≤ rxPORT_RESET then ports
  else if code = rxGROUP_HALT then ports ++ [Src.HEAD_UVLO, Src.FEED_TRIP, Src.SEQ_MEMBER_FAIL, Src.SEQ_FAIL, Src.BAT_CHG_STOP]
  else if code ≤ rxFEED_LOCKOUT then [Src.GROUP_OV_WARN, Src.FEED_FLOOR_BREACH, Src.SEQ_MEMBER_FAIL]
  else if code = rxSEQ_DOWN then
    [Src.GROUP_OV_WARN, Src.GROUP_SENSE_DISAGREE, Src.FEED_INPUT_FAULT, Src.SEQ_MEMBER_FAIL, Src.SEQ_FAIL]
  else [Src.TOKEN_REJECTED, Src.TOKEN_STRAY, Src.LINK_TICK_LOST, Src.ONESHOT_FAIL, Src.MEAS_LOCAL, Src.GLADE_SLAVE_LOST]

/-- A window covers a report (R348): an expected source in the scope; a source of controller scope lies in every scope, and a failed
one-shot counts for the ports acted on only, which stand under scope code 16 (DEDUCED, assumption 60). -/
def Firebreak.covers (w : Firebreak) (src scope inst : Nat) : Bool :=
  if w.code = rxRACK_DOWN ∨ w.code = rxRACK_SAFE then [1, 2, 3, 4, 5, 8, 9].contains scope
  else if src = Src.ONESHOT_FAIL ∧ w.code ≤ rxPORT_RESET then w.units.contains (Block.instKey 16 inst)
  else (expectedOf w.code).contains src && (w.code == rxYIELD || scope == 0 || w.units.contains (Block.instKey scope inst))

namespace Block

/-! ### Roots (R337–R340, R353) -/

/-- The scope of a report. -/
def reportScope (r : Report) : Nat := r.scope.getD (sourceRow r.src).scope

/-- Bytes 32–59 of a source's record (R410): the root, then the detail, in 32-bit words where it has at most three values, otherwise in
16-bit words (DESIGN CHOICE, assumption 52). -/
def faultData (r : Root) (link : Nat) : List Nat :=
  leBytes 2 r.number ++ leBytes 4 (min r.count 0xFFFFFFFF) ++ leBytes 2 r.instances.length ++ leBytes 2 r.rule ++ [r.reaction, r.outcome] ++
    leBytes 2 link ++ [0, 0] ++
    (if r.detail.length ≤ 3 then r.detail.flatMap (fun v => leBytes 4 (ofI 32 v)) else (r.detail.take 6).flatMap (fun v => leBytes 2 (ofI 16 v)))

/-- A record of a root (R338, R410, R412). -/
def rootRecord (b : Block) (r : Root) (close : Bool) : Block :=
  let flags := r.cls * 64 + (if close then 4 else 0) + (if r.injected then 2 else 0)
  b.append ⟨r.src, r.scope, r.instances.headD 0, flags, faultData r 0, r.stamp, decide (2 ≤ r.cls)⟩

/-- Every live root, and one of them by number. -/
def liveRoots (b : Block) : List Root := b.faults.roots ++ b.faults.untabled
def root? (b : Block) (n : Nat) : Option Root := b.liveRoots.find? (fun r => r.number == n)

/-- A live root changes. -/
def modRoot (b : Block) (n : Nat) (f : Root → Root) : Block :=
  let g (r : Root) : Root := if r.number = n then f r else r
  { b with faults := { b.faults with roots := b.faults.roots.map g, untabled := b.faults.untabled.map g } }

/-- A root is present (R333): a condition while an instance of it is, an event in the tick of its report. -/
def rootPresent (b : Block) (r : Root) : Bool :=
  r.instances.any (fun i => b.isPresent r.src i || (!(sourceRow r.src).condition && b.faults.reports.any (fun x => x.src == r.src && x.inst == i)))

/-- The instance filters of a rule (R338, R340). -/
def ruleAdmits (b : Block) (i scope inst : Nat) : Bool :=
  decide (b.rd (Obj.ReactionRule.InstanceLow i) ≤ inst) && decide (inst ≤ b.rd (Obj.ReactionRule.InstanceHigh i)) &&
    (scope != 1 || bitOf (b.rd (Obj.ReactionRule.HeadClassMask i)) (b.classOf inst))

/-- A rule matches a root (R340). -/
def ruleFits (b : Block) (r : Root) (i : Nat) : Bool :=
  b.rd (Obj.ReactionRule.Enable i) == 1 && (b.rd (Obj.ReactionRule.Source i) == r.src || b.rd (Obj.ReactionRule.Source i) == 0xFFFF) &&
    decide (b.rd (Obj.ReactionRule.MinClass i) ≤ r.cls) &&
    (b.rd (Obj.ReactionRule.ScopeKind i) == r.scope || b.rd (Obj.ReactionRule.ScopeKind i) == 0xFF) && b.ruleAdmits i r.scope (r.instances.headD 0)

/-- The rule of lowest index that matches a root of class C1 or C2 (R340). -/
def matchRule (b : Block) (r : Root) : Option Nat :=
  if r.cls = 1 ∨ r.cls = 2 then (List.range 256).find? (b.ruleFits r) else none

/-- The reaction window of a class (R334, R343). -/
def reactionWindow (b : Block) (cls : Nat) : Nat := b.rd (if cls = 2 then Obj.FaultClassConfig.WindowC2 else Obj.FaultClassConfig.WindowC1)

/-- The table holds an unacknowledged C1 or C2 root of the source (R339). -/
def escalates (b : Block) (c : Nat) : Bool :=
  b.faults.roots.any (fun r => r.src == c && !r.acknowledged && (r.cls == 1 || r.cls == 2))

/-- The lowest entry of a table that no root holds (R353). -/
def freeEntry (l : List Root) : Nat := ((List.range 256).find? (fun i => !l.any (fun r => r.entry == i))).getD 0

/-- A root enters the table, or replaces the oldest root that may go, C1 before C2 (R353). -/
def tableRoot (b : Block) (r : Root) : Block :=
  if b.faults.roots.length < 256 then { b with faults := { b.faults with roots := b.faults.roots ++ [{ r with entry := freeEntry b.faults.roots }] } }
  else
    let free (x : Root) : Bool := x.acknowledged && !b.rootPresent x && x.outcome != roPENDING
    let old := (b.faults.roots.find? (fun x => x.cls == 1 && free x)).or (b.faults.roots.find? (fun x => x.cls == 2 && free x))
    match old with
    | some x =>
      ({ b with faults := { b.faults with roots := b.faults.roots.filter (fun (y : Root) => y.number != x.number) ++ [{ r with entry := x.entry }] } }).bump
        Obj.FaultSummary.TableReplacements
    | none =>
      let b := { b with faults := { b.faults with untabled := b.faults.untabled ++ [r] } }
      if r.src = Src.FAULT_TABLE_FULL then b else b.report Src.FAULT_TABLE_FULL 0

/-- The next root number, skipping 0 (R361). -/
def nextRoot (b : Block) : Nat :=
  let n := b.rd Obj.FaultSummary.NewestRoot
  if 0xFFFF ≤ n then 1 else n + 1

/-- What is known of a root before its rule is searched (R337, R339). -/
def newRoot (b : Block) (r : Report) : Root :=
  let c := r.src
  let cfg := b.rd (Obj.SourceConfig.Class c)
  let esc := (cfg == 1 || cfg == 2) && b.escalates c
  { number := b.nextRoot, src := c, configured := cfg, instances := [r.inst], stamp := b.now, gen := 0, seq := 0,
    cls := if esc && (cfg == 1 || b.rd (Obj.SourceConfig.GraveEscalation c) == 1) then cfg + 1 else cfg,
    escalated := esc, injected := r.injected, seat := b.seat, scope := reportScope r, detail := r.detail }

/-- The rule gives a root its reaction (R340, R343); on a controller without the token it stays without effect (R346). -/
def giveReaction (b : Block) (r : Root) : Root × Block :=
  match b.matchRule r with
  | none => (r, b)
  | some i =>
    let x := b.rd (Obj.ReactionRule.Reaction i)
    let live := x != 0 && b.isHolder
    ({ r with rule := i, reaction := x, outcome := if live then roPENDING else roNONE, decideAt := b.glade.ticks + 1 + b.reactionWindow r.cls },
      (b.bump (Obj.ReactionRule.Matches i)).wr (Obj.ReactionRule.LastRoot i) r.number)

/-- A root is created (R337–R340, R353, R356): its record, its entry, its window, its counts. -/
def createRoot (b : Block) (rep : Report) : Block :=
  let gr := b.giveReaction (b.newRoot rep)
  let r := gr.1
  let e := gr.2.rd Obj.EventOrder.EventSequence
  let b := gr.2.rootRecord r false
  let done := b.rd Obj.EventOrder.EventSequence != e
  let r := if done then { r with gen := b.rd Obj.EventOrder.Generation, seq := b.rd Obj.EventOrder.EventSequence } else r
  let b := (((b.wr Obj.FaultSummary.NewestRoot r.number).bump Obj.FaultSummary.RootsCreated).bump (Obj.SourceConfig.Roots r.src)).wr
    (Obj.SourceConfig.LastRoot r.src) r.number
  let b := if r.escalated then (b.bump Obj.FaultSummary.Escalations).bump (Obj.SourceConfig.Escalations r.src) else b
  let b := { b with faults := { b.faults with windows := Tab.set b.faults.windows r.src { root := r, opened := b.glade.ticks } } }
  let b := if r.cls = 0 then b else (b.tableRoot r).send 1 [0, r.number]
  let b := if 2 ≤ r.cls then b.flushTrigger else b
  if r.cls = 3 ∧ !b.faults.grave then { b with faults := { b.faults with gravePending := some r.src } } else b

/-- A windthrow window closes (R338): the root's second record. -/
def closeWindow (b : Block) (c : Nat) (w : Window) : Block :=
  let r := match b.root? w.root.number with
    | some x => if x.src = c then x else w.root
    | none => w.root
  let b := { b with faults := { b.faults with windows := Tab.drop b.faults.windows c } }
  b.rootRecord r true

/-- A report joins the root of its source's open window (R337, R338). -/
def joinRoot (b : Block) (rep : Report) (w : Window) : Block :=
  let isNew := !w.root.instances.contains rep.inst
  let add (r : Root) : Root :=
    if r.src = rep.src then { r with count := r.count + 1, instances := if r.instances.contains rep.inst then r.instances else r.instances ++ [rep.inst] } else r
  let b := { b with faults := { b.faults with windows := Tab.set b.faults.windows rep.src { w with root := add w.root } } }
  let b := (b.modRoot w.root.number add).bump Obj.FaultSummary.ReportsCoalesced
  match b.root? w.root.number with
  | some r =>
    if isNew ∧ r.src = rep.src ∧ r.outcome = roEXECUTED ∧ b.ruleAdmits r.rule r.scope rep.inst then
      ({ b with faults := { b.faults with late := b.faults.late ++ [instKey r.number rep.inst] } }).send 1 [5, r.number]
    else b
  | none => b

/-- The open firebreak that covers a report, of the lowest-numbered root (R348). -/
def firebreakFor (b : Block) (rep : Report) : Option Firebreak :=
  (b.faults.firebreaks.filter (fun w => decide (w.openAt ≤ b.glade.ticks) && decide (b.glade.ticks < w.closeAt) &&
    w.covers rep.src (reportScope rep) rep.inst)).foldl (fun best w =>
      match best with
      | none => some w
      | some v => if w.root < v.root then some w else best) none

/-- A linked consequence (R348). -/
def linkReport (b : Block) (rep : Report) (w : Firebreak) : Block :=
  let key := instKey rep.src rep.inst
  let note (x : Firebreak) : Firebreak :=
    if x.root = w.root ∧ x.seat = w.seat ∧ (sourceRow rep.src).condition ∧ !x.linked.contains key then { x with linked := x.linked ++ [key] } else x
  let b := { b with faults := { b.faults with firebreaks := b.faults.firebreaks.map note } }
  let b := ((b.modRoot w.root (fun r => { r with linked := r.linked + 1 })).bump (Obj.SourceConfig.Linked rep.src)).bump Obj.FaultSummary.LinkedTotal
  let data := leBytes 12 0 ++ leBytes 2 w.root ++ leBytes 2 0 ++ leBytes 4 rep.src ++ leBytes 4 (reportScope rep) ++ leBytes 4 rep.inst
  b.append ⟨Src.LINKED, 0, 0, if rep.injected then 2 else 0, data, b.now, false⟩

/-- One report of the tick that ends (R336–R339, R348, R351): the firebreak comes before the windthrow window (R360). -/
def collect (b : Block) (rep : Report) : Block :=
  let c := rep.src
  let b := (b.wr (Obj.SourceConfig.Sticky c) 1).bump (Obj.SourceConfig.Reports c)
  match b.firebreakFor rep with
  | some w => b.linkReport rep w
  | none =>
    match b.faults.windows.find? (fun e => e.1 == c) with
    | none => b.createRoot rep
    | some (_, w) => if b.glade.ticks ≤ w.opened + 3 then b.joinRoot rep w else (b.closeWindow c w).createRoot rep

/-! ### Acknowledge, withhold, clear (R342, R344, R350) -/

/-- A session's Result. -/
def faultResult (b : Block) (n v : Nat) : Block := if n < 32 then b.wr (sk n Obj.FaultControl.Result) v else b

/-- Why a root cannot be cleared, the first condition in R350's order; 0 where it can. -/
def clearRefused (b : Block) (r : Root) : Nat :=
  if !r.acknowledged then fcNOT_ACKNOWLEDGED
  else if b.rootPresent r then fcPRESENT
  else if r.outcome = roPENDING then fcPENDING
  else if r.cls = 3 then fcGRAVE
  else fcOK

/-- The mark of a root in the lists of failed ports and halted groups. -/
def rootMark (seat n : Nat) : Nat := n + (if seat = 0x42 then 65536 else 0)

/-- A root's entry is freed; the units its reaction failed or halted are held by it no longer (R342, R350). -/
def freeRoot (b : Block) (seat n : Nat) : Block :=
  let keep (k : Nat) : Bool := k % 131072 != rootMark seat n
  let f := b.faults
  { b with faults := { f with
    roots := f.roots.filter (fun r => r.number != n || seat != b.seat), untabled := f.untabled.filter (fun r => r.number != n || seat != b.seat),
    failedBy := f.failedBy.filter keep, haltedBy := f.haltedBy.filter keep } }

/-- A write to FaultControl takes effect (R350). -/
def serveFault (b : Block) (c : FaultCmd) : Block :=
  match c.op with
  | 4 => { b with faults := { b.faults with roots := b.faults.roots.map (fun (r : Root) => if r.cls = 3 then r else { r with acknowledged := true }) } }.send 1 [4]
  | 5 => (b.liveRoots.filter (fun r => b.clearRefused r == fcOK)).foldl (fun b r => (b.freeRoot b.seat r.number).send 1 [3, r.number]) b
  | 3 =>
    match b.root? c.root with
    | none => b.faultResult c.session fcBAD_ROOT
    | some r =>
      let v := b.clearRefused r
      let b := b.faultResult c.session v
      if v = fcOK then (b.freeRoot b.seat c.root).send 1 [3, c.root] else b
  | _ => (b.modRoot c.root (fun r => { r with acknowledged := true })).send 1 [1, c.root]

/-- A write to Acknowledge, Withhold or Clear that names a root of this controller; a Withhold before the deciding boundary cancels a pending
reaction (R344). -/
def ownRootWrite (b : Block) (n op root : Nat) : Block :=
  match b.root? root with
  | none => b.faultResult n fcBAD_ROOT
  | some r =>
    let b := { b with faults := { b.faults with commands := b.faults.commands ++ [(⟨n, op, root⟩ : FaultCmd)] } }
    if op = 3 then b
    else if op = 1 ∨ r.outcome = roNONE ∨ r.outcome = roWITHHELD then b.faultResult n fcOK
    else if r.outcome ≠ roPENDING ∨ r.acts.isSome then b.faultResult n fcTOO_LATE
    else if b.rd (Obj.ReactionRule.Withholdable r.rule) ≠ 1 then b.faultResult n fcNOT_WITHHOLDABLE
    else
      let b := b.modRoot root (fun r => { r with outcome := roWITHHELD, withheld := true })
      let b := (b.append ⟨Src.REACTION_WITHHELD, 0, 0, 0, faultData { r with outcome := roWITHHELD } 0, b.now, false⟩).send 1 [2, root]
      b.faultResult n fcOK

/-- A write of a root's name (R361, R362): the roots of the other seat are the partner's (R350). -/
def faultWrite (b : Block) (n op name : Nat) : Block :=
  let seat := name / 2 ^ 24 % 256
  let root := name % 65536
  if seat = b.seat then b.ownRootWrite n op root
  else if seat ≠ 0x41 ∧ seat ≠ 0x42 then b.faultResult n fcBAD_ROOT
  else if b.linkUp then b.send 1 [8, op, root, n]
  else b.faultResult n fcPARTNER_NO_ACK

/-- AcknowledgeAll, ClearAll (R362): every root in both controllers. -/
def faultAll (b : Block) (n op : Nat) : Block :=
  let b := { b with faults := { b.faults with commands := b.faults.commands ++ [(⟨n, op, 0⟩ : FaultCmd)] } }
  (b.send 1 [8, op, 0, n]).faultResult n fcOK

/-- Every Sticky of this controller is cleared (R351). -/
def stickyOff (b : Block) : Block := (List.range 224).foldl (fun b c => b.wr (Obj.SourceConfig.Sticky c) 0) b

/-- Ports and groups that no root holds any longer return (R342): a port once its link exchanges again. -/
def releaseUnits (b : Block) : Block :=
  let failed := (allPorts.filter (fun p => b.portState p == psFAILED)).filter (fun p => !b.faults.failedBy.any (fun k => k / 131072 == p))
  let b := failed.foldl (fun b p =>
    if b.rd (Obj.PortRecord.ConsecutiveFailed p) = 0 ∧ b.trained p ∧ !(b.port p).retrain then b.setPortState p psADMITTED else b) b
  let halted := (List.range 64).filter (fun g => b.groupState g == gsHALTED && !b.faults.haltedBy.any (fun k => k / 131072 == g))
  halted.foldl (fun b g => b.wr (Obj.GroupRecord.State g) gsSTOPPED) b

/-! ### The pass over a tick (R336, R343, R352, R361) -/

/-- A reaction whose window ends with this boundary: the instances it acts on (R343); it lapses where all of a condition's are absent. -/
def decideRoot (b : Block) (r : Root) : Block :=
  if r.outcome = roPENDING ∧ r.acts.isNone ∧ r.decideAt ≤ b.glade.ticks + 1 ∧ b.isHolder then
    let cond := (sourceRow r.src).condition
    let l := r.instances.filter (fun i => b.ruleAdmits r.rule r.scope i && (!cond || b.isPresent r.src i))
    let k := b.glade.tick + 1
    let n := nextCycle b.glade.epoch b.glade.cycle
    let at_ : Stamp := if k < b.glade.nt then ⟨b.glade.epoch, b.glade.cycle, k⟩ else ⟨n.1, n.2, 0⟩
    (b.modRoot r.number (fun r => { r with acts := some l, decided := at_, outcome := if l.isEmpty then roLAPSED else roPENDING })).send 1 [5, r.number]
  else b

/-- Untabled roots stay until the table has room and their reaction is done (R353). -/
def dropUntabled (b : Block) : Block :=
  if b.faults.roots.length < 256 then
    { b with faults := { b.faults with untabled := b.faults.untabled.filter (fun r => r.outcome == roPENDING) } }
  else b

/-- FAULT_N is driven low (R352). -/
def faultLow (b : Block) : Bool := !b.faults.passed || !b.faults.roots.isEmpty || !b.faults.untabled.isEmpty || b.faults.grave || b.faults.lrsFault

/-- FaultSummary (R361). -/
def faultCounts (b : Block) : Block :=
  let l := b.faults.roots
  let n (f : Root → Bool) : Nat := (l.filter f).length
  b.wrs [(Obj.FaultSummary.RootsHeld, l.length), (Obj.FaultSummary.Unacknowledged, n (fun r => !r.acknowledged)),
    (Obj.FaultSummary.Present, n b.rootPresent), (Obj.FaultSummary.Pending, n (fun r => r.outcome == roPENDING)),
    (Obj.FaultSummary.HeldC 0, n (fun r => r.cls == 1)), (Obj.FaultSummary.HeldC 1, n (fun r => r.cls == 2)),
    (Obj.FaultSummary.HeldC 2, n (fun r => r.cls == 3)), (Obj.FaultSummary.Grave, b2n b.faults.grave),
    (Obj.FaultSummary.FaultN, b2n b.faultLow), (Obj.FaultSummary.FirebreaksOpen, b.faults.firebreaks.length)]

/-- The collector at the boundary that ends a tick (R336, R350): first what hosts asked for, with that tick's presence, then its reports. -/
def collectTick (b : Block) : Block :=
  let b := b.faults.commands.foldl serveFault b
  let rs := orderReports b.faults.reports
  let b := { b with faults := { b.faults with commands := [], reports := [] } }
  let b := rs.foldl collect b.dropUntabled
  let b := b.liveRoots.foldl decideRoot b
  let f := { b.faults with passed := true }
  let b : Block := { b with faults := f }
  b.releaseUnits.faultCounts

/-- Windows in the order in which their roots were created. -/
def insertWindow (e : Nat × Window) : List (Nat × Window) → List (Nat × Window)
  | [] => [e]
  | y :: l => if ahead 16 y.2.root.number e.2.root.number then e :: y :: l else y :: insertWindow e l

/-- WINDTHROW_WINDOW_CLOSE (R337, R338): the windows whose four ticks have passed. -/
def closeWindows (b : Block) : Block :=
  ((b.faults.windows.filter (fun e => decide (e.2.opened + 3 < b.glade.ticks))).foldl (fun l e => insertWindow e l) []).foldl (fun b e => b.closeWindow e.1 e.2) b

/-- FIREBREAK_CLOSE (R349): what is still present becomes a report of the closing tick. -/
def closeFirebreaks (b : Block) : Block :=
  let past := b.faults.firebreaks.filter (fun w => decide (w.closeAt ≤ b.glade.ticks))
  let b := { b with faults := { b.faults with firebreaks := b.faults.firebreaks.filter (fun w => decide (b.glade.ticks < w.closeAt)) } }
  (past.flatMap (fun w => w.linked.filter b.faults.present.contains)).foldl (fun b k => b.report (k / 65536) (k % 65536)) b

/-! ### Injection and alarms (R358, R359, R364) -/

/-- Injection acts (R358): InjectEnable is 1 in force. -/
def mayInject (b : Block) : Bool := b.rd Obj.FaultInject.InjectEnable == 1

/-- Armed, as it stands. -/
def armed (b : Block) : Block :=
  b.wr Obj.FaultInject.Armed (if b.mayInject then
    b2n b.faults.sramArmed + 2 * b2n (b.faults.partnerCrcLeft != 0) + 4 * b2n (b.faults.pecLeft != 0) else 0)

/-- An arming write for this controller. -/
def inject (b : Block) (f : Faults → Faults) : Block :=
  if b.mayInject && b.rd Obj.FaultInject.TargetSeat == b.seat then ({ b with faults := f b.faults }).armed else b

/-- ALARM_INPUT (R359, R365): an input has been at its active level for AlarmDebounce ms, or leaves it. -/
def alarmInput (b : Block) (a : Nat) (active : Bool) : Block :=
  (b.wr Obj.AlarmInputs.AlarmState (putBit (b.rd Obj.AlarmInputs.AlarmState) a active)).condition (Src.ALARM0 + a) 0 active

/-! ### Checks (R369) -/

/-- CFG_FAULT_CLASS. -/
def checkFaultClass (b : Block) (keys : List Nat) : Finding :=
  let l := keys.filter (fun k => inObj 0x4010 0x40EF k && (keySub k == 1 || keySub k == 4))
  let bad := l.filter (fun k => !inRange b k || (keySub k == 1 &&
    [Src.COLLECTOR_WEDGED, Src.SUPERVISOR_WEDGED, Src.SUPERVISOR_LOCKSTEP, Src.STAND_WEDGED].contains (keyIndex k - 0x4010) && b.rd k != 3))
  findIf (!bad.isEmpty) bad

/-- CFG_FAULT_WINDOW: the values of R363, R364 and R365 in their ranges; WindowC2 at most WindowC1. -/
def checkFaultWindow (b : Block) (keys : List Nat) : Finding :=
  let l := keys.filter (inObj 0x4002 0x4005)
  let bad := l.filter (fun k => !inRange b k)
  if !bad.isEmpty then some bad
  else findIf (!l.isEmpty && decide (b.rd Obj.FaultClassConfig.WindowC1 < b.rd Obj.FaultClassConfig.WindowC2)) (l.filter (inObj 0x4002 0x4002))

/-- The scope kinds from which a reaction finds a unit (R341); the rack and this controller from any. -/
def reactionScopes (x : Nat) : List Nat :=
  if x = 0 ∨ rxRACK_DOWN ≤ x then [0, 1, 2, 3, 4, 5, 7, 8, 9, 0xA, 0xB, 0xC, 0xD]
  else if x ≤ rxPORT_RESET then [1, 2]
  else if x = rxGROUP_HALT then [1, 2, 3, 4]
  else if x ≤ rxFEED_LOCKOUT then [1, 2, 3]
  else [1, 2, 3, 5]

/-- The objects of a reaction rule that R369 finds at fault. -/
def ruleFaults (b : Block) (i : Nat) : List Nat :=
  let sc := b.rd (Obj.ReactionRule.ScopeKind i)
  let x := b.rd (Obj.ReactionRule.Reaction i)
  let kind := b.rd (Obj.ReactionRule.TargetKind i)
  let unit := decide (1 ≤ x) && decide (x ≤ rxSEQ_DOWN)
  faultIf (!(sc == 0xFF || [0, 1, 2, 3, 4, 5, 7, 8, 9, 0xA, 0xB, 0xC, 0xD].contains sc)) [Obj.ReactionRule.ScopeKind i] ++
  faultIf (decide (b.rd (Obj.ReactionRule.InstanceHigh i) < b.rd (Obj.ReactionRule.InstanceLow i)))
    [Obj.ReactionRule.InstanceLow i, Obj.ReactionRule.InstanceHigh i] ++
  faultIf (!(sc == 0xFF || (sc == 0 && unit) || (reactionScopes x).contains sc)) [Obj.ReactionRule.ScopeKind i, Obj.ReactionRule.Reaction i] ++
  faultIf (sc == 0 && unit && !((reactionScopes x).contains kind && b.targetOk kind (b.rd (Obj.ReactionRule.TargetIndex i))))
    [Obj.ReactionRule.ScopeKind i, Obj.ReactionRule.Reaction i, Obj.ReactionRule.TargetKind i, Obj.ReactionRule.TargetIndex i]

/-- The bundle changes a staged value of R363 to R368. -/
def faultKey (k : Nat) : Bool := inObj 0x4002 0x4006 k || inObj 0x4010 0x40EF k || inObj 0x4100 0x41FF k

/-- CFG_FAULT_RULE. -/
def checkFaultRule (b : Block) (keys : List Nat) : Finding :=
  if keys.any faultKey then findAt keys (outOfRange b (keys.filter (inObj 0x4100 0x41FF)) ++ (List.range 256).flatMap b.ruleFaults) else none

/-- CFG_FAULT_LRS. -/
def checkFaultLrs (b : Block) (keys : List Nat) : Finding := rangeFault b 0x4006 0x4006 keys

end Block

/-- WINDTHROW_WINDOW_CLOSE (R338). -/
def execWindthrowWindowClose (s : State) : Host.Outcome State Fault Refusal := s.act Block.closeWindows

/-- FIREBREAK_CLOSE (R349). -/
def execFirebreakClose (s : State) : Host.Outcome State Fault Refusal := s.act Block.closeFirebreaks

/-- FAULT_ACKNOWLEDGE (R350). -/
def execFaultAcknowledge (n name : Nat) (s : State) : Host.Outcome State Fault Refusal :=
  s.actOn (decide (n < 32)) .session n (·.faultWrite n 1 name)

/-- FAULT_WITHHOLD (R344). -/
def execFaultWithhold (n name : Nat) (s : State) : Host.Outcome State Fault Refusal :=
  s.actOn (decide (n < 32)) .session n (·.faultWrite n 2 name)

/-- FAULT_CLEAR (R350). -/
def execFaultClear (n name : Nat) (s : State) : Host.Outcome State Fault Refusal :=
  s.actOn (decide (n < 32)) .session n (·.faultWrite n 3 name)

/-- ACKNOWLEDGE_ALL (R350, R362). -/
def execAcknowledgeAll (n : Nat) (s : State) : Host.Outcome State Fault Refusal :=
  s.actOn (decide (n < 32)) .session n (·.faultAll n 4)

/-- CLEAR_ALL (R350, R362). -/
def execClearAll (n : Nat) (s : State) : Host.Outcome State Fault Refusal :=
  s.actOn (decide (n < 32)) .session n (·.faultAll n 5)

/-- CLEAR_STICKY (R351, R362). -/
def execClearSticky (n : Nat) (s : State) : Host.Outcome State Fault Refusal :=
  s.actOn (decide (n < 32)) .session n (fun b => (b.stickyOff.send 1 [8, 6, 0, n]).faultResult n fcOK)

/-- STICKY_W1C (R351, R10): a report of the same tick sets the bit again at the boundary. -/
def execStickyW1c (c : Nat) (s : State) : Host.Outcome State Fault Refusal :=
  s.actOn (decide (c < 224)) .source c (·.wr (Obj.SourceConfig.Sticky c) 0)

/-- SRAM_ARM (R358, R364). -/
def execSramArm (s : State) : Host.Outcome State Fault Refusal := s.act (·.inject (fun f => { f with sramArmed := true }))

/-- PARTNER_CRC_INJECT (R358, R364). -/
def execPartnerCrcInject (value : Nat) (s : State) : Host.Outcome State Fault Refusal :=
  s.act (·.inject (fun f => { f with partnerCrcLeft := value / 256 % 256, partnerCrcSel := value % 4 }))

/-- TWO_WIRE_PEC_INJECT (R358, R364). -/
def execTwoWirePecInject (value : Nat) (s : State) : Host.Outcome State Fault Refusal :=
  s.act (·.inject (fun f => { f with pecLeft := value / 256 % 256, pecSel := value % 16 }))

/-- ALARM_INPUT (R359). -/
def execAlarmInput (alm : Nat) (active : Bool) (s : State) : Host.Outcome State Fault Refusal :=
  s.actOn (decide (alm < 2)) .source alm (·.alarmInput alm active)

end Sys2Proof.Machine
end

