-- ==== Sys2Proof/Machine/Redundancy.lean ====
section
/-! DEFINITION. The pair of controllers (chapter 13): the partner link, the token and its takes, shadowing and resynchronisation, swaps and drills, the partner kill. -/

namespace Sys2Proof.Machine

/-- Readiness (R382). -/
def rdALONE : Nat := 0
def rdRESYNC : Nat := 1
def rdVERIFY : Nat := 2
def rdREADY : Nat := 3
def rdDIVERGED : Nat := 4
def rdBARRED : Nat := 5
def rdHOLDING : Nat := 0x10

/-- Classes of TOKEN_IN (R373, R402). -/
def tkNOT_READY : Nat := 0
def tkREADY : Nat := 1
def tkHOLDING : Nat := 2

/-- Triggers of a take (R402). -/
def ttRELEASE : Nat := 1
def ttHEAD_HOLD : Nat := 2
def ttCOLD : Nat := 3
def ttSWAP : Nat := 4

namespace Block

/-- The pair's own record changes. -/
def modPair (b : Block) (f : Pair → Pair) : Block := { b with pair := f b.pair }

/-- Readiness and TOKEN_IN of this controller. -/
def readiness (b : Block) : Nat := b.rd Obj.RedundancyStatus.Readiness
def tokenIn (b : Block) : Nat := b.rd Obj.RedundancyStatus.TokenIn

/-- What TOKEN_OUT shows (R372): HOLDING, READY or NOT_READY. -/
def tokenOut (b : Block) : Nat :=
  if b.inGrave then tkNOT_READY else if b.isHolder then tkHOLDING else if b.readiness = rdREADY then tkREADY else tkNOT_READY

/-- The seat letter of the partner. -/
def otherSeat (b : Block) : Nat := if b.seat = 0x41 then 0x42 else 0x41

/-! ### Messages (R374–R377) -/

/-- Lane states and LinkState (R377, R406). -/
def laneUp (b : Block) (lane : Nat) (up : Bool) : Block :=
  let b := b.wr (if lane = 0 then Obj.PartnerLink.Lane0Up else Obj.PartnerLink.Lane1Up) (b2n up)
  let n := b.rd Obj.PartnerLink.Lane0Up + b.rd Obj.PartnerLink.Lane1Up
  if b.linkUp ∧ 0 < n then b.wr Obj.PartnerLink.LinkState (if n = 2 then 1 else 2) else b

/-- A sequence lies in a range of applied ones. -/
def inRangeOf (s : Nat) (r : Nat × Nat) : Bool := decide ((s + 2 ^ 32 - r.1) % 2 ^ 32 ≤ (r.2 + 2 ^ 32 - r.1) % 2 ^ 32)

/-- The ranges with a sequence added; what lies 2^31 or more behind it is forgotten (R376). -/
def addSeen (l : List (Nat × Nat)) (s : Nat) : List (Nat × Nat) :=
  let l := l.filter (fun r => decide ((s + 2 ^ 32 - r.2) % 2 ^ 32 < 2 ^ 31) || decide ((r.2 + 2 ^ 32 - s) % 2 ^ 32 < 2 ^ 31))
  let l := l.map (fun r => if 2 ^ 31 ≤ (r.2 + 2 ^ 32 - r.1) % 2 ^ 32 then ((r.2 + 2 ^ 31 + 1) % 2 ^ 32, r.2) else r)
  if l.any (fun r => (r.2 + 1) % 2 ^ 32 == s) then l.map (fun r => if (r.2 + 1) % 2 ^ 32 = s then (r.1, s) else r) else (s, s) :: l

/-- A frame of the partner link on a lane (R374, R376, R358): its CRC, then the copy that comes first is applied. -/
def arrive (b : Block) (lane mseq : Nat) (crcOk : Bool) (f : Block → Block) : Block :=
  let inj := b.faults.partnerCrcLeft != 0 && bitOf b.faults.partnerCrcSel 0
  let b := if inj then ({ b with faults := { b.faults with partnerCrcLeft := b.faults.partnerCrcLeft - 1 } }).armed else b
  if crcOk = inj then b.bump (if lane = 0 then Obj.PartnerLink.CrcErrors0 else Obj.PartnerLink.CrcErrors1)
  else
    let b := (b.modPair (fun x => { x with heard := if x.heard.contains lane then x.heard else lane :: x.heard })).laneUp lane true
    let b := b.condition Src.PARTNER_LANE_DOWN 0 (b.rd Obj.PartnerLink.Lane0Up = 0 || b.rd Obj.PartnerLink.Lane1Up = 0)
    if b.pair.seen.any (inRangeOf (mseq % 2 ^ 32)) then b.bump Obj.PartnerLink.Duplicates
    else f (b.modPair (fun x => { x with seen := addSeen x.seen (mseq % 2 ^ 32) }))

/-- A message with a deadline (R375, R376): a late copy is discarded and counted. -/
def inTime (late : Bool) (f : Block → Block) (b : Block) : Block := if late then b.bump Obj.PartnerLink.LateMessages else f b

/-- A request of session n that waited for the partner is answered (R491). -/
def requestDone (b : Block) (n id : Nat) (f : Reply → Reply) : Block :=
  let x := b.sess n
  match x.cache.find? (fun r => r.id == id && r.waiting) with
  | none => b
  | some r =>
    let mark (q : Request) : Request := if q.id = id then { q with reply := f r.reply, waiting := false } else q
    b.setSess n { x with cache := x.cache.map mark, reply := f r.reply }

/-- Every request that waits for the partner is answered: as it was served, or with DICT_PARTNER_NO_ACK. -/
def requestsDone (b : Block) (f : Reply → Reply) : Block :=
  let done (e : Nat × Session) : Nat × Session :=
    let last := (e.2.cache.filter (·.waiting)).getLast?
    (e.1, { e.2 with
      reply := match last with
        | some r => f r.reply
        | none => e.2.reply
      cache := e.2.cache.map (fun (q : Request) => if q.waiting then { q with reply := f q.reply, waiting := false } else q) })
  { b with sessions := b.sessions.map done }

/-- The partner confirms a message (R69, R104, R376); `result` is what a passed-on write to FaultControl answers. -/
def confirmed (b : Block) (m : Msg) (result : Nat) : Block :=
  match m.kind, m.ref with
  | 3, [0, h] => { b with actions := { b.actions with table := b.actions.table.map (fun (e : Nat × Action) => if e.1 = h then (h, { e.2 with accepted := true }) else e) } }
  | 2, [0, q] =>
    let ok (x : Bundle) : Bundle := if x.seq = q then { x with accepted := true } else x
    ({ b with canopy := { b.canopy with bundles := b.canopy.bundles.map ok } }).stagingCounts.send 2 [2, q]
  | 1, [8, _, _, n] => b.faultResult n result
  | 4, [4, n, id] => b.requestDone n id (fun r => r)
  | 4, [1, _, _] => { b with net := { b.net with reply := {} } }
  | _, _ => b

/-- PARTNER_ACK (R376). -/
def partnerAck (b : Block) (mseq result : Nat) : Block :=
  match b.pair.out.find? (fun m => m.seq == mseq) with
  | none => b
  | some m => (b.modPair (fun x => { x with out := x.out.filter (fun m => m.seq != mseq) })).confirmed m result

/-- PARTNER_RETRANSMIT (R376): what has waited 2 ticks goes out again. -/
def retransmit (b : Block) : Block :=
  let due (m : Msg) : Bool := decide (m.sent + 2 ≤ b.glade.ticks)
  let n := (b.pair.out.filter due).length
  (b.modPair (fun x => { x with out := x.out.map (fun m => if due m then { m with sent := b.glade.ticks } else m) })).bump
    Obj.PartnerLink.Retransmits 32 n

/-- A message is given up: its partner did not confirm it in time. -/
def unsend (b : Block) (kind : Nat) (ref : List Nat) : Block :=
  b.modPair (fun x => { x with out := x.out.filter (fun m => m.kind != kind || m.ref != ref) })

/-! ### Giving up the token (R387, R388) -/

/-- SEAT_MISMATCH and the grave latch bar a controller from the token (R22, R382). -/
def barred (b : Block) : Bool := b.inGrave || b.isPresent Src.SEAT_MISMATCH 0

/-- The token is released (R372, R387): no frame leaves the ports any more, and the controller goes on as a standby that is to
resynchronise (R394). -/
def releaseToken (b : Block) : Block :=
  let b := b.wrs [(Obj.RedundancyStatus.Role, 0), (Obj.RedundancyStatus.Readiness, if b.barred then rdBARRED else rdDIVERGED)]
  let b := { b.syncOutStop with masks := { b.masks with silent := true } }
  let b := b.requestsDone (fun _ => { status := 0x10 })
  b.modPair (fun x => { x with claim := none, resync := 1, resyncFrom := b.glade.cycles, waitFrom := b.glade.cycles, sawReady := b.tokenIn == tkREADY })

/-- The holder yields for a cause, only while TOKEN_IN reads READY (R387). -/
def yieldToken (b : Block) (cause : Nat) : Block :=
  if !b.isHolder then b
  else if b.tokenIn = tkREADY then (b.releaseToken.bump Obj.RedundancyStatus.Yields).report Src.YIELDED 0 [cause]
  else b.report Src.YIELD_NO_PARTNER 0 [cause]

/-- The holder concedes to a better claim (R388). -/
def concede (b : Block) : Block :=
  if b.isHolder then
    (b.releaseToken.modPair (fun x => { x with roleAt := some b.glade.cycles })).report Src.TOKEN_CONCEDED 0
  else b

/-- AutoYield at a tick boundary (R387): YIELD_NO_PARTNER is recorded once per spell (DESIGN CHOICE, assumption 54). -/
def autoYield (b : Block) : Block :=
  let bad := b.isPresent Src.SEAT_LINKS_WORSE 0 || b.isPresent Src.REF_FAULT 0 || b.isPresent Src.REFCLK_FAIL 0
  if !b.isHolder || !bad || b.rd Obj.RedundancyConfig.AutoYield != 1 then b.modPair (fun x => { x with yieldNoted := false })
  else if b.tokenIn = tkREADY then b.yieldToken 2
  else if b.pair.yieldNoted then b
  else (b.yieldToken 2).modPair (fun x => { x with yieldNoted := true })

/-! ### Shadowing (R380, R381, R394, R395) -/

/-- A standby's run of resynchronisation ends early (R395): it starts again 50 cycles later. -/
def endRun (b : Block) : Block :=
  if b.rd Obj.RedundancyStatus.ResyncPhase = 0 then b
  else ((b.wr Obj.RedundancyStatus.ResyncPhase 0).bump Obj.RedundancyStatus.ResyncFailures).modPair
    (fun x => { x with resync := 2, resyncFrom := b.glade.cycles + 50 })

/-- A shadow mismatch (R380, R395): stands or entries by number. -/
def mismatch (b : Block) (what : List Nat) : Block :=
  let b := (b.bump Obj.RedundancyStatus.Mismatches).report Src.SHADOW_MISMATCH 0 (what.map Int.ofNat)
  let inRun := b.rd Obj.RedundancyStatus.ResyncPhase != 0
  let b := if inRun then
      (b.endRun).modPair (fun x => { x with fails := b.glade.cycles :: x.fails.filter (fun c => decide (b.glade.cycles < c + 180000)) })
    else if b.readiness = rdREADY then b.modPair (fun x => { x with resync := 1, resyncFrom := b.glade.cycles })
    else b
  let b := b.modPair (fun x => { x with claim := match x.claim with | some (t, k, n) => if k = b.glade.ticks then none else some (t, k, n) | none => none })
  if b.readiness = rdBARRED then b
  else if inRun ∧ b.rd Obj.RedundancyConfig.ResyncLimit ≤ b.pair.fails.length then
    ((b.wr Obj.RedundancyStatus.Readiness rdBARRED).modPair (fun x => { x with unstable := true, resync := 0 })).condition Src.SHADOW_UNSTABLE 0 true
  else b.wr Obj.RedundancyStatus.Readiness rdDIVERGED

/-- The stand whose engines write a record (R24, R380): that of the port, or of the unit's lowest port. -/
def recordStand (b : Block) (key : Nat) : Nat :=
  let u := key % 65536
  let low (l : List Nat) : Nat := (l.headD 0) / 32
  match key / 65536 with
  | 1 => u / 32
  | 2 => low (b.feedPort u).toList
  | 3 => low (b.groupPorts u)
  | 4 => low (b.stringPorts u)
  | _ => 16

/-- PARTNER_TICK_DIGEST (R380): the stands whose digests differ, those with unshadowed records at either controller left out. -/
def tickDigest (b : Block) (differ unshadowed : List Nat) : Block :=
  if b.isHolder ∨ b.pair.role ≠ 1 ∨ b.readiness ≠ rdREADY ∧ b.readiness ≠ rdVERIFY then b
  else
    let free := (b.pair.unshadowed ++ unshadowed).map b.recordStand
    let l := differ.filter (fun s => !free.contains s)
    if l.isEmpty then b else b.mismatch l

/-- PARTNER_CYCLE_DIGEST (R107, R380): the boundary entry is compared here, the other entries by the device over records whose layout the
spec does not give (assumption 55). -/
def cycleCompare (b : Block) (boundary : Nat) (differ : List Nat) : Block :=
  if b.isHolder ∨ b.pair.role ≠ 1 ∨ b.readiness ≠ rdREADY ∧ b.readiness ≠ rdVERIFY then b
  else
    let l := differ.filter (fun k => !b.pair.unshadowed.contains k)
    if l.isEmpty ∧ boundary = b.canopy.digest then
      if b.readiness = rdVERIFY then b.modPair (fun x => { x with verified := x.verified + 1 }) else b
    else b.mismatch l

/-- Records become unshadowed (R381). -/
def unshadow (b : Block) (keys : List Nat) : Block :=
  let b := b.modPair (fun x => { x with unshadowed := x.unshadowed ++ keys.filter (fun k => !x.unshadowed.contains k) })
  b.wr Obj.RedundancyStatus.Unshadowed b.pair.unshadowed.length

/-- A record is repaired (R381). -/
def reshadow (b : Block) (key : Nat) : Block :=
  let b := b.modPair (fun x => { x with unshadowed := x.unshadowed.filter (· != key) })
  b.wr Obj.RedundancyStatus.Unshadowed b.pair.unshadowed.length

/-- The records that depend on a port (R381). -/
def portRecords (b : Block) (p : Nat) : List Nat :=
  let m := b.memberOf p
  [instKey 1 p] ++ (if b.groupOf p < 64 then [instKey 3 (b.groupOf p)] else []) ++
    (if b.classOf p = 4 then [instKey 2 m] else if b.classOf p = 3 then [instKey 4 m] else [])

/-- At the end of a tick the standby finds the ports of which only one controller received a set without their being shared (R381). -/
def findUnshadowed (b : Block) : Block :=
  if b.isHolder ∨ !b.linkUp ∨ b.readiness ≠ rdREADY then b
  else
    let odd := allPorts.filter (fun p =>
      let own := !(b.port p).received.isEmpty
      let his := (b.masks.came0 && bitOf b.masks.sets0 p) || (b.masks.came1 && bitOf b.masks.sets1 p)
      !b.shared p && own != his)
    if odd.isEmpty then b else b.unshadow (odd.flatMap b.portRecords)

/-- A run of resynchronisation starts at a cycle boundary (R394). -/
def startResync (b : Block) : Block :=
  if b.isHolder ∨ !b.linkUp ∨ b.tokenIn ≠ tkHOLDING ∨ b.readiness = rdBARRED then b
  else (b.wrs [(Obj.RedundancyStatus.Readiness, rdRESYNC), (Obj.RedundancyStatus.ResyncPhase, 1)]).modPair
    (fun x => { x with resync := 0, verified := 0 })

/-! ### Taking the token (R383–R386) -/

/-- A warm trigger in this tick (R383, R400): the earlier claiming tick counts, and RELEASE where both fall in one tick. -/
def warmTrigger (b : Block) (trigger claimTick : Nat) : Block :=
  if b.isHolder ∨ b.readiness ≠ rdREADY then b
  else b.modPair (fun x => { x with claim :=
    match x.claim with
    | none => some (trigger, b.glade.ticks, claimTick)
    | some (t, k, n) => some (if k = b.glade.ticks ∧ (t = ttRELEASE ∨ trigger = ttRELEASE) then ttRELEASE else t, k, min n claimTick) })

/-- TOKEN_IN is classified (R373); `fits` where the pattern is one of the three, `early` where the class is read 0.5 µs before the boundary. -/
def tokenInChange (b : Block) (cls : Nat) (fits early : Bool) : Block :=
  let new := if fits then min cls 2 else tkNOT_READY
  let old := b.tokenIn
  let b := (b.wr Obj.RedundancyStatus.TokenIn new).condition Src.TOKEN_LINE_FAULT 0 (!fits)
  if old = new then b
  else
    let b := if old = tkHOLDING then
        (b.modPair (fun x => { x with waitFrom := b.glade.cycles, sawReady := false })).warmTrigger ttRELEASE (b.glade.ticks + (if early then 1 else 2))
      else b
    let b := if new = tkREADY then b.modPair (fun x => { x with sawReady := true }) else b
    if new = tkHOLDING ∧ !b.isHolder then
      let b := if b.inGrave then b else { b with masks := { b.masks with silent := false } }
      let start := b.pair.resync = 0 ∧ b.readiness ≠ rdREADY ∧ b.rd Obj.RedundancyStatus.ResyncPhase = 0
      b.modPair (fun x => { x with waitFrom := b.glade.cycles, resync := if start then 1 else x.resync })
    else b

/-- The gap of a warm take (R385): ticks up to the claiming one in which a head counted in the trigger had no command. -/
def takeGap (b : Block) : Nat :=
  match b.pair.claim with
  | some (_, k, n) => (n - k - 1) + (if b.pair.heldRun = 0 then 0 else b.pair.heldRun + 1)
  | none => 0

/-- The generation advances with a take of the token (R108, R109). -/
def advanceGeneration (b : Block) (g : Nat) : Block := b.wr Obj.EventOrder.Generation ((g + 1) % 65536)

/-- A drill ends (R397). -/
def drillOver (b : Block) (result : Nat) : Block :=
  let b := b.wrs [(Obj.SwapDrill.DrillState, 0), (Obj.SwapDrill.LastResult, result), (Obj.SwapDrill.LastDrillEpoch, b.glade.epoch),
    (Obj.SwapDrill.LastDrillCycle, b.glade.cycle)]
  let b := b.modPair (fun x => { x with drillEnd := b.glade.cycles })
  if result = 1 then (b.bump Obj.SwapDrill.DrillsPassed).report Src.DRILL_PASSED 0
  else (b.bump Obj.SwapDrill.DrillsFailed).report Src.DRILL_FAILED 0 [result]

/-- The first claiming tick is the one that opens next (R384). -/
def takeToken (b : Block) (trigger gap : Nat) : Block :=
  let t := if b.glade.boundary then 0 else b.glade.tick + 1
  let b := b.wrs [(Obj.RedundancyStatus.Role, 1), (Obj.RedundancyStatus.Readiness, rdHOLDING), (Obj.RedundancyStatus.LastTrigger, trigger),
    (Obj.RedundancyStatus.LastTakeEpoch, b.glade.epoch), (Obj.RedundancyStatus.LastTakeCycle, b.glade.cycle), (Obj.RedundancyStatus.LastTakeTick, t),
    (Obj.RedundancyStatus.LastGap, min gap 255), (Obj.RedundancyStatus.MaxGap, max (b.rd Obj.RedundancyStatus.MaxGap) (min gap 255)),
    (Obj.RedundancyStatus.ResyncPhase, 0)]
  let b := { (b.bump Obj.RedundancyStatus.Takeovers).gladeTake with masks := { b.masks with silent := false } }
  let b := { b with faults := { b.faults with carried := b.faults.partnerRoots.filter (fun r => r.outcome == roPENDING) } }
  let b := (b.canopy.bundles.filter (fun x => !x.accepted)).foldl (fun b x => b.commitConfirmTimeout x.seq) b
  let at_ := if trigger = ttSWAP then b.pair.roleAt else some b.glade.cycles
  let b : Block := b.markLate.modPair (fun x => { x with
    claim := none, held := [], heldRun := 0, resync := 0, verified := 0, unshadowed := [], holdingRun := 0, roleAt := at_ })
  let b : Block := b.wr Obj.RedundancyStatus.Unshadowed 0
  let usdo (e : Nat × Session) : Nat × Session :=
    if !e.2.onSeat && (e.2.network == 2 || e.2.network == 3) then (e.1, { e.2 with transfer := e.2.transfer.map (fun (t : Transfer) => { t with stale := true }) }) else e
  let b : Block := { b with sessions := b.sessions.map usdo, net := { b.net with garps := b.net.garps + (if b.rd Obj.EthConfig.RackAddress = 0 then 0 else 2) } }
  if trigger ≠ ttSWAP ∧ b.rd Obj.SwapDrill.DrillState ≠ 0 then b.drillOver 4 else b

/-- TOKEN_TAKE (R384). -/
def warmTake (b : Block) : Block :=
  match b.pair.claim with
  | some (t, _, n) =>
    if b.isHolder ∨ b.glade.ticks + 1 < n then b
    else ((b.advanceGeneration (b.rd Obj.EventOrder.Generation)).takeToken t b.takeGap).report Src.TAKEOVER 0 [t]
  | none => b

/-- Port and unit tick state at power-up (R115, R386): zero loop state, configured ports waiting for their heads. -/
def powerUpUnits (b : Block) : Block :=
  let b := { b with wimg := [], ports := [], groupTab := [], feedTab := [], seqTab := [], sup := {}, events := [] }
  let b := allPorts.foldl (fun b p => b.wrs [(Obj.PortRecord.PortState p, if b.classOf p = 0 then psOFF else psABSENT),
    (Obj.PortRecord.HeadStatus p, 0x80), (Obj.PortRecord.Mode p, 0), (Obj.PortRecord.IpkRef p, 0), (Obj.PortRecord.Slope p, 0)]) b
  let b := b.groups.foldl (fun b g => b.wrs [(Obj.GroupRecord.State g, gsSTOPPED), (Obj.GroupRecord.RunPhases g, 0), (Obj.GroupRecord.EffSetpoint g, 0),
    (Obj.GroupRecord.CurrentCommand g, 0), (Obj.GroupRecord.Integrator g, 0)]) b
  let b := b.feeds.foldl (fun b f => b.wrs [(Obj.FeedRecord.State f, fsOPEN), (Obj.FeedRecord.RetriesUsed f, 0), (Obj.FeedRecord.CapState f, csNONE),
    (Obj.FeedRecord.Allocation f, 0), (Obj.FeedRecord.CapCurrent f, 0xFFFFFFFF)]) b
  let b := b.strings.foldl (fun b n => (b.setBat n { b.bat n with support := false, limitBus := 0, nextMode := none }).wr (Obj.StringRecord.Mode n) smOFF) b
  let b := (List.range 16).foldl (fun b q => b.wrs [(Obj.SequenceRecord.State q, if b.sequenceUsed q then sqDOWN else 0),
    (Obj.SequenceRecord.MembersTotal q, ((b.seqEntries q).map (fun e => b.rd (Obj.SlotEntry.Count e))).sum), (Obj.SequenceRecord.MembersUp q, 0)]) b
  { b.wr Obj.HoldupStatus.State huSTOPPED with holdup := {}, faults := { b.faults with present := b.faults.present.filter (fun k => !(
    [1, 2, 3, 4, 5, 9].contains (sourceRow (k / 65536)).scope)) } }

/-- COLD_TAKE (R386, R477). -/
def coldTake (b : Block) : Block :=
  let wait := b.rd Obj.RedundancyConfig.ColdStartWait * (if b.seat = 0x42 then 2 else 1)
  if b.isHolder || b.inGrave || !b.glade.running || b.readiness == rdREADY || b.readiness == rdBARRED || b.pair.sawReady ||
      b.tokenIn != tkNOT_READY || decide (b.glade.cycles < b.pair.waitFrom + wait) then b
  else
    let own := b.rd Obj.EventOrder.Generation
    let g := if ahead 16 b.pair.gen own then b.pair.gen else own
    let b := b.wr Obj.UpdatePolicy.ShadowLevel (b.rd Obj.UpdateStatus.ShadowCompat)
    let b := (((b.advanceGeneration g).powerUpUnits).takeToken ttCOLD 0).report Src.COLD_TAKE 0
    let us := min (b.rd Obj.StartupStatus.GladeStarted + b.microsSince 0) 0xFFFFFFFF
    { b.wr Obj.StartupStatus.TokenTaken us with aon := { b.aon with autoStart := some b.glade.cycles } }

/-- A reply may show a better claim (R388), or complete the quorum of held heads (R383). -/
def replyPair (b : Block) : Block :=
  let b := if b.pair.rejected then (b.modPair (fun x => { x with rejected := false })).concede else b
  if b.rd Obj.RedundancyConfig.HoldQuorum ≤ b.pair.held.length then b.warmTrigger ttHEAD_HOLD (b.glade.ticks + 1) else b

/-- A standby whose SEAT_MISMATCH is new is BARRED (R22, R382). -/
def barSeat (b : Block) (was : Bool) : Block :=
  if was || !b.isPresent Src.SEAT_MISMATCH 0 || b.isHolder then b else b.endRun.wr Obj.RedundancyStatus.Readiness rdBARRED

/-! ### The partner's time (R375, R388, R389) -/

/-- A claim beats another (R139): newer generation, or seat A at equal ones. -/
def beats (g seat h other : Nat) : Bool := ahead 16 g h || (g == h && seat == 0x41 && other != 0x41)

/-- Generation and event sequence as a frame of the partner gives them (R108, R109). -/
def adoptOrder (b : Block) (gen e : Nat) : Block :=
  let own := b.rd Obj.EventOrder.Generation
  let b := b.wr Obj.EventOrder.PartnerSequence e
  if gen = own then b.wr Obj.EventOrder.EventSequence (max (b.rd Obj.EventOrder.EventSequence) e)
  else if ahead 16 gen own then b.wrs [(Obj.EventOrder.Generation, gen), (Obj.EventOrder.EventSequence, e)]
  else b

/-- PARTNER_TIME (R375): position, Glade, MAINS view, Role, generation, E, Readiness, grave latch. -/
def partnerTime (b : Block) (role gen e readiness : Nat) (grave : Bool) : Block :=
  let own := b.rd Obj.EventOrder.Generation
  let both := b.isHolder && role == 1
  let b := b.modPair (fun x => { x with timeSeen := true, role, gen, graveAt := if grave then some (x.graveAt.getD b.glade.ticks) else none })
  let b := if b.linkUp then b.wr Obj.RedundancyStatus.PartnerReadiness readiness else b
  let b := if both then b.report Src.SPLIT_BRAIN 0 [gen] else b
  let b := if both ∧ beats gen b.otherSeat own b.seat then b.concede else b
  b.adoptOrder gen e

/-! ### The link comes and goes (R377) -/

/-- PARTNER_LINK_UP: a valid TIME in each of 50 ticks; `ns` is the lane delay measured. -/
def partnerUp (b : Block) (ns : Nat) : Block :=
  if b.linkUp ∨ b.pair.timeRun + b2n b.pair.timeSeen < 50 then b
  else
    let lanes := b.rd Obj.PartnerLink.Lane0Up + b.rd Obj.PartnerLink.Lane1Up
    let b := (b.wrs [(Obj.PartnerLink.LinkState, if lanes = 2 then 1 else 2), (Obj.PartnerLink.Latency, min ns 65535)]).condition Src.PARTNER_LINK_DOWN 0 false
    if b.isHolder ∨ b.readiness = rdBARRED then b
    else (b.wr Obj.RedundancyStatus.Readiness rdDIVERGED).modPair (fun x => { x with resync := 1, resyncFrom := b.glade.cycles })

/-- PARTNER_LINK_DOWN: no valid frame on either lane for 3 ticks; what waits for the partner is confirmed locally. -/
def partnerDown (b : Block) : Block :=
  if !b.linkUp ∨ b.pair.silent0 < 3 ∨ b.pair.silent1 < 3 then b
  else
    let b := ((b.wrs [(Obj.PartnerLink.LinkState, 0), (Obj.PartnerLink.Lane0Up, 0), (Obj.PartnerLink.Lane1Up, 0),
      (Obj.RedundancyStatus.PartnerReadiness, 0xFF)]).bump Obj.PartnerLink.LinkDowns).condition Src.PARTNER_LINK_DOWN 0 true
    let b := { b with
      actions := { b.actions with table := b.actions.table.map (fun (e : Nat × Action) => (e.1, { e.2 with accepted := true })) }
      canopy := { b.canopy with bundles := b.canopy.bundles.map (fun (x : Bundle) => { x with accepted := true }) } }
    let passed (b : Block) (m : Msg) : Block := match m.kind, m.ref with
      | 1, [8, _, _, n] => b.faultResult n fcPARTNER_NO_ACK
      | _, _ => b
    let b := (b.pair.out.foldl passed b).requestsDone (fun r => r)
    let b := (b.stagingCounts.modPair (fun x => { x with out := [], seen := [], timeRun := 0 })).gladeLinkDown
    if b.isHolder then b
    else if b.readiness = rdBARRED then b.endRun
    else b.endRun.wr Obj.RedundancyStatus.Readiness rdALONE

/-- PARTNER_LANE_DOWN: a lane without a valid frame for 3 ticks while the other still delivers. -/
def laneDown (b : Block) (lane : Nat) : Block :=
  if (if lane = 0 then b.pair.silent0 else b.pair.silent1) < 3 then b
  else (b.laneUp lane false).condition Src.PARTNER_LANE_DOWN 0 true [lane]

/-! ### Swaps and drills (R390–R392, R397) -/

/-- The boundary of a request lies up to SwapMergeCycles after an executed swap's or a pending one's (R390). -/
def swapMerges (b : Block) (e c : Nat) : Bool :=
  let n : Int := (b.rd Obj.RedundancyConfig.SwapMergeCycles : Nat)
  let at_ := b.cyclesAhead e c
  let near (d : Int) : Bool := decide (0 ≤ d) && decide (d ≤ n)
  (match b.pair.swap with | some (pe, pc) => near (at_ - b.cyclesAhead pe pc) | none => false) ||
    (match b.pair.swapAt with | some k => near (at_ + b.glade.cycles - k) | none => false)

/-- The pending swap changes (R403). -/
def setSwap (b : Block) (v : Option (Nat × Nat)) : Block :=
  (b.modPair (fun x => { x with swap := v })).wrs [(Obj.SwapControl.PendingEpoch, (v.map (·.1)).getD 0xFFFF), (Obj.SwapControl.PendingCycle, (v.map (·.2)).getD 0)]

/-- The first boundary at least 200 ticks after the tick in progress (R390). -/
def swapBoundary (b : Block) : Nat × Nat :=
  let n := nextCycle b.glade.epoch b.glade.cycle
  let t := if b.glade.boundary then 0 else b.glade.tick
  if t + 200 ≤ b.glade.nt then n else nextCycle n.1 n.2

/-- A request for a swap (R390, R392): 0 scheduled, 1 merged, 2 no partner. -/
def requestSwap (b : Block) : Nat × Block :=
  if !b.linkUp || b.tokenIn == tkNOT_READY then (2, b)
  else
    let t := b.swapBoundary
    if b.swapMerges t.1 t.2 then (1, b.report Src.SWAP_MERGED 0)
    else (0, (b.setSwap (some t)).send 5 [t.1, t.2])

/-- SWAP_NOW of a session (R390, R392, R403). -/
def swapNow (b : Block) (n : Nat) : Block := let r := b.requestSwap; r.2.wr (sk n Obj.SwapControl.Status) r.1

/-- The conditions of R391 in the state of tick 0. -/
def swapOk (b : Block) : Bool :=
  b.linkUp && (if b.isHolder then b.rd Obj.RedundancyStatus.PartnerReadiness == rdREADY else b.pair.wasReady && b.readiness == rdREADY) &&
    b.holdupState != huTRANSFER && b.pair.claim.isNone && !b.inGrave &&
    (match b.pair.roleAt with | some k => decide (k + 1 < b.glade.cycles) | none => true)

/-- A swap at its boundary (R391, R397): the roles change in tick 0, or it is abandoned. -/
def runSwap (b : Block) : Block :=
  let drill := b.rd Obj.SwapDrill.DrillState
  if b.swapOk then
    let b := ((b.wrs [(Obj.SwapControl.LastSwapEpoch, b.glade.epoch), (Obj.SwapControl.LastSwapCycle, b.glade.cycle), (Obj.SwapControl.LastOutcome, 1)]).bump
      Obj.SwapControl.Swaps).report Src.SWAP_DONE 0
    let b := b.modPair (fun x => { x with swapAt := some b.glade.cycles })
    let b := if b.isHolder then
        let b := b.wrs [(Obj.RedundancyStatus.Role, 0), (Obj.RedundancyStatus.Readiness, rdREADY), (Obj.GladeStatus.State, gladeSLAVED),
          (Obj.GladeStatus.Source, 0x10), (Obj.GladeStatus.SlewRemaining, 0)]
        b.syncOutStop.modPair (fun x => { x with waitFrom := b.glade.cycles, sawReady := false })
      else (b.advanceGeneration (b.rd Obj.EventOrder.Generation)).takeToken ttSWAP 0
    if drill = 1 then
      (b.wr Obj.SwapDrill.DrillState 2).modPair (fun x => { x with drillTick := b.glade.ticks + 1, drillCycle := b.glade.cycles, drillBad := 0 })
    else if drill = 3 then b.drillOver 1 else b
  else
    let b := (b.wr Obj.SwapControl.LastOutcome 2).report Src.SWAP_ABANDONED 0
    if drill = 1 ∨ drill = 3 then b.drillOver 5 else b

/-- SWAP_EXECUTE (R391): the pending swap's boundary has come. -/
def swapExecute (b : Block) : Block :=
  if b.glade.boundary ∧ b.pair.swap = some (b.glade.epoch, b.glade.cycle) then (b.setSwap none).runSwap else b

/-- A ROLE_SWAP entry at its boundary (R390, R392); its record holds 0 executed, 1 merged, 2 abandoned. -/
def roleSwap (b : Block) (h : Nat) : Block :=
  match b.entry? h with
  | none => b
  | some a =>
    if a.accepted && a.op == 9 && decide (b.pastNext (b.entryPlace a) ≤ 0) && b.glade.boundary then
      if b.superseded h a then b.completeEntry h a actSUPERSEDED
      else
        let out := if a.late then actFIRED_LATE else actFIRED
        if b.pair.swap ≠ some (b.glade.epoch, b.glade.cycle) ∧ b.swapMerges b.glade.epoch b.glade.cycle then
          (b.report Src.SWAP_MERGED 0).completeEntry h a out [1]
        else
          let done := b.swapOk
          let b := if b.pair.swap = some (b.glade.epoch, b.glade.cycle) then b.setSwap none else b
          (b.runSwap).completeEntry h a out [if done then 0 else 2]
    else b

/-- A drill starts (R397); a request that finds no partner or merges starts none. -/
def drillStart (b : Block) : Block :=
  if b.rd Obj.SwapDrill.DrillState ≠ 0 then b
  else
    let r := b.requestSwap
    if r.1 = 0 then r.2.wr Obj.SwapDrill.DrillState 1 else r.2.drillOver 5

/-- DRILL_INTERVAL_EXPIRY (R397). -/
def drillInterval (b : Block) : Block :=
  let n := b.rd Obj.SwapDrill.DrillInterval
  if n = 0 ∨ b.glade.cycles < b.pair.drillEnd + n then b else b.drillStart

/-- DRILL_CHECK_END (R397): 100 ticks after the first swap the new holder judges it, and yields on a failure. -/
def drillCheck (b : Block) : Block :=
  if b.rd Obj.SwapDrill.DrillState ≠ 2 ∨ !b.isHolder ∨ b.glade.ticks < b.pair.drillTick + 100 then b
  else
    let claim := allPorts.any (fun p => b.portState p == psIN_SERVICE && b.rd (Obj.PortRecord.HeadHolder p) != b.seat)
    if claim then (b.drillOver 2).yieldToken 3
    else if b.pair.drillBad ≠ 0 ∨ b.tokenIn ≠ tkREADY then (b.drillOver 3).yieldToken 3
    else b

/-- DRILL_SECOND_SWAP (R397). -/
def drillSecond (b : Block) : Block :=
  if b.rd Obj.SwapDrill.DrillState ≠ 2 ∨ b.glade.cycles < b.pair.drillCycle + b.rd Obj.SwapDrill.DrillDuration then b
  else
    let r := b.requestSwap
    if r.1 = 0 then r.2.wr Obj.SwapDrill.DrillState 3 else r.2.drillOver 5

/-- In each of the first 100 ticks the checks of a drill are made (R397). -/
def drillTick (b : Block) : Block :=
  if b.rd Obj.SwapDrill.DrillState = 2 ∧ b.isHolder ∧ b.glade.ticks < b.pair.drillTick + 100 then
    let bad := b.faults.reports.any (fun r => [Src.ONESHOT_FAIL, Src.TOKEN_REJECTED, Src.KERNEL_OVERRUN, Src.HEAD_CFG_REFUSED].contains r.src)
    if bad ∨ b.tokenIn ≠ tkREADY then b.modPair (fun x => { x with drillBad := 3 }) else b
  else b

/-! ### The partner kill (R398, R399) -/

/-- The ports that replied in this tick, and whether their heads confirm this holder (R398). -/
def headsConfirm (b : Block) : Bool :=
  let l := allPorts.filter (fun p => (b.port p).okPrimary || (b.port p).okRetry)
  let own := l.filter (fun p => b.rd (Obj.PortRecord.HeadHolder p) == b.seat)
  own.length == l.length && decide (b.rd Obj.RedundancyConfig.HoldQuorum ≤ own.length)

/-- A refused kill. -/
def killRefused (b : Block) (why : Nat) : Block := (b.wr Obj.PartnerKill.LastResult why).report Src.PARTNER_KILL_REFUSED 0 [why]

/-- A kill is requested (R398); the order of the reasons is a DESIGN CHOICE (assumption 54). -/
def requestKill (b : Block) (okValue : Bool) : Block :=
  let recent := b.pair.kills.filter (fun c => decide (b.glade.cycles < c + 4320000))
  if !okValue then b.killRefused 5
  else if b.rd Obj.PartnerKill.KillEnable ≠ 1 then b.killRefused 2
  else if !b.isHolder then b.killRefused 3
  else if !b.headsConfirm then b.killRefused 6
  else if b.rd Obj.PartnerKill.KillLimit ≤ recent.length then b.killRefused 4
  else
    let b := ((b.wr Obj.PartnerKill.LastResult 1).bump Obj.PartnerKill.Kills).report Src.PARTNER_KILLED 0
    let b := b.wr Obj.LrsStatus.LastOperations (putBit (b.rd Obj.LrsStatus.LastOperations) 5 true)
    b.modPair (fun x => { x with kill := some b.glade.ticks, kills := b.glade.cycles :: recent })

/-- KILL_ON_GRAVE (R398): one request for each KillDelay that the partner's latch stays reported. -/
def killOnGrave (b : Block) : Block :=
  match b.pair.graveAt with
  | some t =>
    if b.rd Obj.PartnerKill.KillOnGrave = 1 ∧ b.rd Obj.PartnerKill.KillDelay * 1000 ≤ b.microsSince t then
      (b.modPair (fun x => { x with graveAt := some b.glade.ticks })).requestKill true
    else b
  | none => b

/-- KILL_PULSE_END (R399). -/
def killEnd (b : Block) : Block :=
  match b.pair.kill with
  | some t => if !b.glade.running ∨ b.rd Obj.PartnerKill.KillPulse * 1000 ≤ b.microsSince t then b.modPair (fun x => { x with kill := none }) else b
  | none => b

/-! ### Every tick and every cycle -/

/-- The end of a tick, before the link's own (R377, R381, R385, R387, R389, R108): `both` holds the ports with which the partner exchanged in this
tick and the one before. -/
def pairTickEnd (b : Block) : Block :=
  let b := b.findUnshadowed.drillTick
  let x := b.pair
  let quiet (n lane : Nat) : Nat := if x.heard.contains lane then 0 else n + 1
  let inj := b.faults.partnerCrcLeft != 0 && !bitOf b.faults.partnerCrcSel 0
  let b := if inj then ({ b with faults := { b.faults with partnerCrcLeft := b.faults.partnerCrcLeft - 1 } }).armed else b
  let run := if b.isHolder ∧ b.tokenIn = tkHOLDING then x.holdingRun + 1 else 0
  let b := b.modPair (fun x => { x with
    heard := [], silent0 := quiet x.silent0 0, silent1 := quiet x.silent1 1, timeSeen := false, timeRun := if x.timeSeen then x.timeRun + 1 else 0,
    held := [], heldRun := if x.held.isEmpty then 0 else x.heldRun + 1, holdingRun := run })
  let b := if run = 2 then b.report Src.SPLIT_BRAIN 0 else b
  if b.isHolder ∧ (0xFFFF0000 ≤ b.rd Obj.EventOrder.EventSequence ∨
      (0xFFFF0000 ≤ b.rd Obj.EventOrder.PartnerSequence ∧ b.pair.gen = b.rd Obj.EventOrder.Generation)) then
    (b.advanceGeneration (b.rd Obj.EventOrder.Generation)).wrs [(Obj.EventOrder.EventSequence, 0), (Obj.EventOrder.PartnerSequence, 0)]
  else b

/-- SEAT_LINKS_WORSE, with the masks as they were before the tick's end (R387). -/
def seatLinks (b : Block) (both : Nat) : Block :=
  let n := (allPorts.filter (fun p => decide (2 ≤ b.rd (Obj.PortRecord.ConsecutiveFailed p)) && bitOf both p)).length
  b.condition Src.SEAT_LINKS_WORSE 0 (decide (b.rd Obj.RedundancyConfig.YieldPortCount ≤ n)) [n]

/-- A cycle boundary (R381, R391, R394): what the standby was at the last tick, and a run that is to start. -/
def pairCycle (b : Block) : Block :=
  let b := b.modPair (fun x => { x with wasReady := b.readiness == rdREADY })
  if b.pair.resync = 1 ∧ b.pair.resyncFrom ≤ b.glade.cycles then b.startResync else b

/-! ### Checks (R407) -/

/-- CFG_REDUNDANCY. -/
def checkRedundancy (b : Block) (keys : List Nat) : Finding :=
  let l := keys.filter (fun k => inObj 0x4A00 0x4A00 k || inObj 0x4A03 0x4A03 k)
  let bad := l.filter (fun k => !inRange b k)
  let i := b.rd Obj.SwapDrill.DrillInterval
  if !bad.isEmpty then some bad
  else if !l.isEmpty ∧ i ≠ 0 ∧ (i < 3000 ∨ 4320000 < i) then some [Obj.SwapDrill.DrillInterval]
  else findIf (!l.isEmpty && decide (b.rd Obj.SwapDrill.DrillDuration ≤ b.rd Obj.RedundancyConfig.SwapMergeCycles))
    (l.filter (fun k => k == Obj.SwapDrill.DrillDuration || k == Obj.RedundancyConfig.SwapMergeCycles))

/-- CFG_PARTNER_KILL. -/
def checkPartnerKill (b : Block) (keys : List Nat) : Finding := rangeFault b 0x4A04 0x4A04 keys

end Block

/-- UPSTREAM_FRAME (R122); what a reply tells of the token follows (R383, R388). -/
def execUpstreamFrame (p : Nat) (retry : Bool) (sofNs : Nat) (codeOk crcOk : Bool) (data : List Nat) (s : State) :
    Host.Outcome State Fault Refusal :=
  s.actOn (decide (p < 512)) .port p (fun b => (b.upstream p retry sofNs codeOk crcOk data).replyPair.barSeat (b.isPresent Src.SEAT_MISMATCH 0))

/-- PARTNER_TIME (R375, R58); a standby follows the holder's renumbering (R68, R200). -/
def execPartnerTime (lane mseq : Nat) (crcOk late : Bool) (epoch cycle angle source freq : Nat) (mainsQual : Bool) (mainsErr : Int) (mainsFreq : Nat)
    (role gen e readiness : Nat) (grave : Bool) (s : State) : Host.Outcome State Fault Refusal :=
  s.actOn (decide (lane < 2)) .lan lane (fun b => b.arrive lane mseq crcOk (Block.inTime late (fun b =>
    let c := (b.partnerTime role gen e readiness grave).gladeTime epoch cycle angle source freq mainsQual mainsErr mainsFreq
    if b.gState = gladeSLAVED ∧ (c.glade.epoch ≠ b.glade.epoch ∨ c.glade.cycle ≠ b.glade.cycle) then c.renumberActions.measRenumbered else c)))

/-- PARTNER_MASK (R379). -/
def execPartnerMask (lane mseq : Nat) (crcOk late retry : Bool) (sets ok : Nat) (s : State) : Host.Outcome State Fault Refusal :=
  s.actOn (decide (lane < 2)) .lan lane (fun b => b.arrive lane mseq crcOk (Block.inTime late (fun b =>
    let m := b.masks
    let m := if retry then { m with sets1 := sets, came1 := true } else { m with sets0 := sets, came0 := true }
    Block.allPorts.foldl (fun b p => b.tryEnter p false) { b with masks := { m with okNow := m.okNow ||| ok } })))

/-- PARTNER_TICK_DIGEST (R380). -/
def execPartnerTickDigest (lane mseq : Nat) (crcOk late : Bool) (differ unshadowed : List Nat) (s : State) : Host.Outcome State Fault Refusal :=
  s.actOn (decide (lane < 2)) .lan lane (fun b => b.arrive lane mseq crcOk (Block.inTime late (·.tickDigest differ unshadowed)))

/-- PARTNER_CYCLE_DIGEST (R380). -/
def execPartnerCycleDigest (lane mseq : Nat) (crcOk late : Bool) (boundary : Nat) (differ : List Nat) (s : State) : Host.Outcome State Fault Refusal :=
  s.actOn (decide (lane < 2)) .lan lane (fun b => b.arrive lane mseq crcOk (Block.inTime late (·.cycleCompare boundary differ)))

/-- PARTNER_ACK (R376). -/
def execPartnerAck (lane : Nat) (crcOk : Bool) (mseq result : Nat) (s : State) : Host.Outcome State Fault Refusal :=
  s.actOn (decide (lane < 2)) .lan lane (fun b =>
    if crcOk then (b.modPair (fun x => { x with heard := if x.heard.contains lane then x.heard else lane :: x.heard })).partnerAck mseq result
    else b.bump (if lane = 0 then Obj.PartnerLink.CrcErrors0 else Obj.PartnerLink.CrcErrors1))

/-- PARTNER_RETRANSMIT (R376). -/
def execPartnerRetransmit (s : State) : Host.Outcome State Fault Refusal := s.act Block.retransmit

/-- PARTNER_LINK_UP (R377). -/
def execPartnerLinkUp (ns : Nat) (s : State) : Host.Outcome State Fault Refusal := s.act (·.partnerUp ns)

/-- PARTNER_LINK_DOWN (R377, R60). -/
def execPartnerLinkDown (s : State) : Host.Outcome State Fault Refusal := s.act Block.partnerDown

/-- PARTNER_LANE_DOWN (R377). -/
def execPartnerLaneDown (lane : Nat) (s : State) : Host.Outcome State Fault Refusal := s.actOn (decide (lane < 2)) .lan lane (·.laneDown lane)

/-- PARTNER_COMMIT (R104–R106): a bundle of the partner's (0), its cancel (1), its acceptance (2). -/
def execPartnerCommit (lane mseq : Nat) (crcOk : Bool) (op seq session epoch cycle : Nat) (writes : List (Nat × List Nat)) (s : State) :
    Host.Outcome State Fault Refusal :=
  s.actOn (decide (lane < 2)) .lan lane (fun b => b.arrive lane mseq crcOk (fun b =>
    let rest := b.canopy.bundles.filter (fun x => x.seq != seq)
    match op with
    | 0 => ({ b with canopy := { b.canopy with bundles := rest ++ [(⟨seq, session, epoch, cycle, writes, false⟩ : Bundle)] } }).wr Obj.EventOrder.CommitSequence seq
    | 1 => { b with canopy := { b.canopy with bundles := rest } }
    | _ => ({ b with canopy := { b.canopy with bundles := b.canopy.bundles.map (fun (x : Bundle) =>
        if x.seq = seq then { x with accepted := true } else x) } }).stagingCounts))

/-- PARTNER_ACTION (R69, R75): an entry of the partner's (0) or its cancel (1). -/
def execPartnerAction (lane mseq : Nat) (crcOk : Bool) (op handle session action kind target arg epoch cycle angle : Nat) (s : State) :
    Host.Outcome State Fault Refusal :=
  s.actOn (decide (lane < 2) && decide (handle < 1024)) .handle handle (fun b => b.arrive lane mseq crcOk (fun b =>
    if op = 0 then b.addEntry handle { session, op := action, kind, target, arg, epoch, cycle, angle, order := 0, accepted := true }
    else match b.entry? handle with
      | some a => b.completeEntry handle a actCANCELLED
      | none => b))

/-- PARTNER_SWAP (R390): the partner's request; of two different boundaries both keep the earlier (DESIGN CHOICE, assumption 54). -/
def execPartnerSwap (lane mseq : Nat) (crcOk : Bool) (epoch cycle : Nat) (s : State) : Host.Outcome State Fault Refusal :=
  s.actOn (decide (lane < 2)) .lan lane (fun b => b.arrive lane mseq crcOk (fun b =>
    match b.pair.swap with
    | some (e, c) => if b.cyclesAhead epoch cycle < b.cyclesAhead e c then b.setSwap (some (epoch, cycle)) else b
    | none => if b.swapMerges epoch cycle then b else b.setSwap (some (epoch, cycle))))

/-- TOKEN_IN_CHANGE (R373). -/
def execTokenInChange (cls : Nat) (fits early : Bool) (s : State) : Host.Outcome State Fault Refusal := s.act (·.tokenInChange cls fits early)

/-- TOKEN_TAKE (R384). -/
def execTokenTake (s : State) : Host.Outcome State Fault Refusal := s.act Block.warmTake

/-- COLD_TAKE (R386). -/
def execColdTake (s : State) : Host.Outcome State Fault Refusal := s.act Block.coldTake

/-- SWAP_NOW (R390, R392). -/
def execSwapNow (n : Nat) (s : State) : Host.Outcome State Fault Refusal := s.actOn (decide (n < 32)) .session n (·.swapNow n)

/-- SWAP_EXECUTE (R391). -/
def execSwapExecute (s : State) : Host.Outcome State Fault Refusal := s.act Block.swapExecute

/-- ROLE_SWAP (R390, R392). -/
def execRoleSwap (handle : Nat) (s : State) : Host.Outcome State Fault Refusal := s.act (·.roleSwap handle)

/-- DRILL_NOW (R397). -/
def execDrillNow (s : State) : Host.Outcome State Fault Refusal := s.act Block.drillStart

/-- DRILL_INTERVAL_EXPIRY (R397). -/
def execDrillIntervalExpiry (s : State) : Host.Outcome State Fault Refusal := s.act Block.drillInterval

/-- DRILL_CHECK_END (R397). -/
def execDrillCheckEnd (s : State) : Host.Outcome State Fault Refusal := s.act Block.drillCheck

/-- DRILL_SECOND_SWAP (R397). -/
def execDrillSecondSwap (s : State) : Host.Outcome State Fault Refusal := s.act Block.drillSecond

/-- Resync (R394, R395): a standby only; it ends BARRED for SHADOW_UNSTABLE. -/
def Block.resyncNow (b : Block) : Block :=
  if b.isHolder then b
  else
    let b := if b.readiness = rdBARRED ∧ b.pair.unstable ∧ !b.barred then (b.wr Obj.RedundancyStatus.Readiness rdDIVERGED).condition Src.SHADOW_UNSTABLE 0 false else b
    b.modPair (fun x => { x with resync := 1, resyncFrom := b.glade.cycles, unstable := false, fails := if x.unstable then [] else x.fails })

/-- RESYNC (R394, R395). -/
def execResync (s : State) : Host.Outcome State Fault Refusal := s.act Block.resyncNow

/-- RESYNC_BULK_DONE (R394): phase 2 starts only while the engine clock is 600 MHz. -/
def execResyncBulkDone (s : State) : Host.Outcome State Fault Refusal :=
  s.act (fun b => if b.rd Obj.RedundancyStatus.ResyncPhase = 1 ∧ b.rd Obj.SupplyStatus.EngineClock = 600 then b.wr Obj.RedundancyStatus.ResyncPhase 2 else b)

/-- RESYNC_REPLAY_DONE (R394). -/
def execResyncReplayDone (s : State) : Host.Outcome State Fault Refusal :=
  s.act (fun b => if b.rd Obj.RedundancyStatus.ResyncPhase = 2 then
    (b.wrs [(Obj.RedundancyStatus.ResyncPhase, 3), (Obj.RedundancyStatus.Readiness, rdVERIFY)]).modPair (fun x => { x with verified := 0 }) else b)

/-- RESYNC_VERIFY_DONE (R394, R372). -/
def execResyncVerifyDone (s : State) : Host.Outcome State Fault Refusal :=
  s.act (fun b => if b.rd Obj.RedundancyStatus.ResyncPhase = 3 ∧ b.rd Obj.RedundancyConfig.ShadowVerifyCycles ≤ b.pair.verified then
    ((b.wrs [(Obj.RedundancyStatus.ResyncPhase, 0), (Obj.RedundancyStatus.Readiness, rdREADY)]).bump Obj.RedundancyStatus.Resyncs).report Src.RESYNC_DONE 0
    else b)

/-- RESYNC_RETRY (R395): at or after the first boundary 50 cycles later. -/
def execResyncRetry (s : State) : Host.Outcome State Fault Refusal :=
  s.act (fun b => if b.pair.resync = 2 ∧ b.pair.resyncFrom ≤ b.glade.cycles then
    (if b.glade.boundary then b.startResync else b.modPair (fun x => { x with resync := 1 })) else b)

/-- KILL_NOW (R398). -/
def execKillNow (value : Nat) (s : State) : Host.Outcome State Fault Refusal := s.act (·.requestKill (value == 0x4B))

/-- KILL_ON_GRAVE (R398). -/
def execKillOnGrave (s : State) : Host.Outcome State Fault Refusal := s.act Block.killOnGrave

/-- KILL_PULSE_END (R399). -/
def execKillPulseEnd (s : State) : Host.Outcome State Fault Refusal := s.act Block.killEnd

end Sys2Proof.Machine
end

