-- ==== Sys2Proof/Machine/Storage.lean ====
section
/-! DEFINITION. Heartwood and the boot flash (chapter 15): stored sets, recall, scrubbing, block protection, the flash manager. -/

namespace Sys2Proof.Machine

/-- FlashStatus:0D (R463). -/
def flOK : Nat := 0
def flNOT_ERASED : Nat := 1
def flOWNER : Nat := 2
def flVERIFY_FAIL : Nat := 3
def flTIMEOUT : Nat := 4
def flABORTED : Nat := 5

namespace Block

/-! ### Stored sets (R441, R446, R447, R451) -/

/-- A key of the stored configuration (R104, R447, R506): staged objects but HeartwoodProtect, and the communication area. -/
def isStoredKey (k : Nat) : Bool :=
  let i := k / 256 % 65536
  k < 0x1000000 && i != 0x4601 && !(decide (0x3800 ≤ i) && decide (i ≤ 0x3802)) &&
    (i == 0x1014 || i == 0x1017 || (decide (0x1800 ≤ i) && decide (i ≤ 0x1A07)) ||
      (match findSub k with
       | some r => r.mode == WriteMode.staged && r.access == Access.rw
       | none => false))

/-- The configuration in force as the image holds it (R447). -/
def configCopy (b : Block) : Copy :=
  { vals := b.dict.filter (fun (e : Nat × Nat) => isStoredKey e.1), bytes := b.domains }

/-- The image write after an applied bundle (R447). -/
def storeImage (b : Block) : Block := b.storeSet 6 b.configCopy

/-- The sets that are stored at every cycle boundary (R38, R111, R417). -/
def storeCycle (b : Block) : Block :=
  let b := b.storeSet 1 { vals := [(0, b.glade.epoch), (1, b.glade.cycle)] }
  let b := b.storeKeys 2 [Obj.EventOrder.Generation, Obj.EventOrder.EventSequence, Obj.EventOrder.CommitSequence]
  if b.glade.cycles % 3000 = 0 then
    let run := b.ports.filter (fun (e : Nat × Port) => e.2.runTicks != 0)
    (b.storeSet 3 { vals := run.map (fun (e : Nat × Port) => (e.1, e.2.runTicks)) }).storeKeys 11
      [Obj.BackupDomain.OperatingHours, Obj.BackupDomain.PowerCycles, Obj.BackupDomain.CellAlarmCount]
  else b

/-- What the recorder keeps in the counters region (R416, R423, R433). -/
def storeRings (b : Block) : Block :=
  let keys := [Obj.RingsStatus.Floor 0, Obj.RingsStatus.Floor 1, Obj.RingsStatus.Floor 2, Obj.RingsStatus.FloorGen 0, Obj.RingsStatus.FloorGen 1,
    Obj.RingsStatus.FloorGen 2, Obj.RingsStatus.NewestGeneration, Obj.RingsStatus.NewestSequence, Obj.RingsStatus.RecordsLost,
    Obj.RingsStatus.ArchiveLost, Obj.RingsStatus.BadSectors]
  b.storeSet 4 { vals := keys.map (fun k => (k, b.rd k)), bytes := [(0, b.rings.badSectors)] }

/-- What the dumps keep there (R430, R437): the states of the areas, among them the ERASED marks, and the counts. -/
def storeDumps (b : Block) : Block :=
  b.storeKeys 5 [Obj.DumpControl.StateD0, Obj.DumpControl.StateD1, Obj.DumpControl.StateReduced, Obj.DumpControl.Dumps, Obj.DumpControl.NotErased]

/-- What the update keeps there (R474, R480). -/
def storeUpdate (b : Block) : Block :=
  b.storeKeys 9 [Obj.UpdateStatus.State, Obj.UpdateStatus.BytesReceived, Obj.UpdateStatus.InService, Obj.UpdateStatus.NextBoot,
    Obj.UpdateStatus.Fallbacks]

/-- The values of a stored set return to the dictionary. -/
def loadSet (b : Block) (n : Nat) : Block := b.wrs (Tab.look {} b.store.sets n).cur.vals

/-! ### Recall and scrubbing (R448, R449) -/

/-- A row and its INDEX take their place in ascending row order. -/
def insertTorn (e : Nat × Nat) : List (Nat × Nat) → List (Nat × Nat)
  | [] => [e]
  | x :: l => if e.1 < x.1 then e :: x :: l else if e.1 = x.1 then e :: l else x :: insertTorn e l

/-- The first copy of a set is not valid (R446): the older one is taken. -/
def fallBack (b : Block) (n : Nat) : Block :=
  let old : Saved := Tab.look {} b.store.sets n
  let b := if n = 8 then { b with stringTab := b.stringTab.map (fun (e : Nat × BatString) => (e.1, { e.2 with store := e.2.storeBefore })) }
    else { b with store := { b.store with sets := Tab.set b.store.sets n { old with cur := old.prev } } }
  (b.bump Obj.HeartwoodStatus.StoreFallbacks).report Src.HW_STORE_FALLBACK 0 [n]

/-- Neither copy of a set is valid: the set is lost. -/
def loseSet (b : Block) (n : Nat) : Block :=
  let b := if n = 8 then { b with stringTab := b.stringTab.map (fun (e : Nat × BatString) => (e.1, { e.2 with store := {}, storeBefore := {} })) }
    else { b with store := { b.store with sets := Tab.drop b.store.sets n } }
  b.report Src.HW_STORE_LOST 0 [n]

/-- A word with a double-bit error (R449). -/
def badRow (b : Block) (r : Nat) : Block :=
  let b := (b.bump Obj.HeartwoodStatus.Uncorrectable).wr Obj.HeartwoodStatus.LastUncorrectableRow r
  ({ b with store := { b.store with voids := if b.store.voids.contains r then b.store.voids else r :: b.store.voids } }).report Src.HW_UNCORRECTABLE 0 [r]

/-- The recall ends (R446, R448, R449): torn rows with their INDEX, rows with an uncorrectable word, sets of which only the older copy or
none is valid. -/
def recallDone (b : Block) (us : Nat) (torn : List (Nat × Nat)) (bad fallback lost : List Nat) : Block :=
  if b.rd Obj.HeartwoodStatus.RecallState ≠ 0 ∨ b.aon.phase < 4 then b
  else
    let all := (b.store.cuts ++ torn).foldl (fun l e => insertTorn (e.1 % 65536, e.2 % 16) l) []
    let first := all.headD (0xFFFF, 0xFF)
    let st := { b.store with torn := all.take 64, cuts := [], voids := b.store.voids ++ (all.map (·.1)).filter (fun r => !b.store.voids.contains r) }
    let b := ({ b with store := st }).wrs
      [(Obj.HeartwoodStatus.RecallState, if 2 ≤ b.rd Obj.HeartwoodProtect.LevelInForce then 2 else 1), (Obj.HeartwoodStatus.RecallTime, min us 65535),
       (Obj.HeartwoodStatus.TornRows, min all.length 65535), (Obj.HeartwoodStatus.TornOverflow, b2n (decide (64 < all.length))),
       (Obj.HeartwoodStatus.FirstTornRow, first.1), (Obj.HeartwoodStatus.FirstTornIndex, first.2)]
    let b := if all.isEmpty then b else b.report Src.HW_TORN 0 [all.length, first.1]
    let b := bad.foldl (fun b r => b.badRow (r % 65536)) b
    let cut := b.store.invalid.filter (fun n => !fallback.contains n && !lost.contains n)
    let b := { b with store := { b.store with invalid := [] } }
    lost.foldl loseSet ((cut ++ fallback).foldl fallBack b)

/-- The scrubber reads one row per cycle boundary (R449): 0 no error, 1 corrected, 2 uncorrectable. -/
def scrubRow (b : Block) (err : Nat) : Block :=
  if b.rd Obj.HeartwoodStatus.RecallState = 0 then b
  else
    let r := b.store.scrub
    let b := match err with
      | 0 => b
      | 1 => b.bump Obj.HeartwoodStatus.Corrected
      | _ => b.badRow r
    let b := { b with store := { b.store with scrub := (r + 1) % 65536 } }
    if r = 65535 then b.bump Obj.HeartwoodStatus.ScrubPasses else b

/-! ### Block protect (R450–R452) -/

/-- A controller that started at level 2 or 3 is ARCHIVED (R451). -/
def archived (b : Block) : Bool := b.rd Obj.HeartwoodStatus.RecallState == 2

/-- The writes of a bundle that this controller applies (R452, R481): HeartwoodProtect and SiteKey only where TargetSeat names it. -/
def ownWrites (b : Block) (ws : List (Nat × List Nat)) : List (Nat × List Nat) :=
  let aim (key : Nat) : Nat := match ws.find? (fun w => w.1 == key) with | some w => leValue w.2 | none => b.rd key
  ws.filter (fun w =>
    (!inObj 0x4601 0x4601 w.1 || aim Obj.HeartwoodProtect.TargetSeat == b.seat) && (!inObj 0x4805 0x4805 w.1 || aim Obj.UpdatePolicy.TargetSeat == b.seat))

/-- A row that the last-resort sequencer writes is in the array (R417, R444). -/
def landRow (b : Block) (e : Nat × List Nat) : Block :=
  ({ b with writes := { b.writes with heartwood := b.writes.heartwood ++ e.2.mapIdx (fun i v => (e.1 * 64 + i, v)) } }).closeRows (e.1 * 64) 64

/-- The rows that the last-resort sequencer has still to write take their place. -/
def finishWork (b : Block) : Block :=
  let b := b.store.work.foldl landRow b
  { b with store := { b.store with work := [] } }

/-- HeartwoodProtect after an applied bundle and its image write (R450, R452). -/
def protectCommitted (b : Block) (keys : List Nat) : Block :=
  if keys.any (inObj 0x4601 0x4601) then
    let new := b.rd Obj.HeartwoodProtect.ProtectLevel
    let b := b.wrs [(Obj.HeartwoodProtect.ProtectUnlock, 0), (Obj.HeartwoodProtect.LevelAtReset, new)]
    if new < 2 ∧ b.rd Obj.HeartwoodProtect.LevelInForce < 2 then
      let b := { b with store := { b.store with refused := if new = b.rd Obj.HeartwoodProtect.LevelInForce then b.store.refused else [] } }
      b.wr Obj.HeartwoodProtect.LevelInForce new
    else b
  else b

/-- CFG_HW_PROTECT (R451, R452). -/
def checkHwProtect (b old : Block) (keys : List Nat) : Finding :=
  let l := keys.filter (inObj 0x4601 0x4601)
  if l.isEmpty then findIf (old.rd Obj.HeartwoodProtect.LevelInForce == 1) keys
  else
    let bad := l.filter (fun k => !inRange b k)
    let new := b.rd Obj.HeartwoodProtect.ProtectLevel
    let unlocked := keys.contains Obj.HeartwoodProtect.ProtectUnlock && b.rd Obj.HeartwoodProtect.ProtectUnlock == 0x4857
    let lower := b.rd Obj.HeartwoodProtect.TargetSeat == b.seat && decide (new < old.rd Obj.HeartwoodProtect.ProtectLevel)
    if !bad.isEmpty then some bad
    else if (lower || (keys.contains Obj.HeartwoodProtect.ProtectLevel && decide (2 ≤ new))) && !unlocked then some l
    else findIf (l.length != keys.length) keys

/-! ### The flash manager (R453–R456, R459) -/

/-- The flash answers requests. -/
def flashReady (b : Block) : Bool := b.rd Obj.FlashStatus.DeviceState == 1

/-- The outcome of a flash operation. -/
def flashOutcome (b : Block) (st addr : Nat) : Block :=
  let b := b.wr Obj.FlashStatus.LastStatus st
  if st = flOK then b else b.wr Obj.FlashStatus.LastAddress addr

/-- The areas of R454, by number: slot A, slot B, staging, D0, D1, archive; 6 beyond. -/
def flashArea (a : Nat) : Nat :=
  if a < 0xC00000 then 0 else if a < 0x1800000 then 1 else if a < 0x2000000 then 2 else if a < 0x2800000 then 3
  else if a < 0x3000000 then 4 else if a < 0x4000000 then 5 else 6

/-- A request lies within one area and comes from its owner (R454); the boot ROM programs the State of a slot (R474). -/
def flashOwns (b : Block) (r : FlashReq) : Bool :=
  let x := flashArea r.addr
  flashArea (r.addr + r.len - 1) == x &&
    (match x with
     | 0 | 1 => r.owner == 2 && (r.kind == 0 || r.kind == 3) || r.owner == 3 && (r.kind == 0 || b.rd Obj.UpdateStatus.InService != x)
     | 2 => r.owner == 3
     | 3 | 4 => r.owner == 1 || r.owner == 5
     | 5 => r.owner == 4
     | _ => false)

/-- A request that the dump and the boot make goes before an erase in progress (R455). -/
def isUrgent (r : FlashReq) : Bool := r.owner == 1 || r.owner == 2

/-- The request the manager takes next: in the order of owners, then of arrival. -/
def nextRequest (l : List FlashReq) : Option FlashReq :=
  [1, 2, 3, 4, 5].findSome? (fun o => l.find? (fun r => r.owner == o))

/-- The operation in progress changes. -/
def flashTake (b : Block) (c : Option FlashReq) : Block :=
  ({ b with flashMan := { b.flashMan with cur := c } }).wr Obj.FlashStatus.Owner ((c.map FlashReq.owner).getD 0)

/-- Nothing is in progress any more: a waiting dump or boot request goes before an erase that is suspended. -/
def flashNext (b : Block) : Block :=
  let m := b.flashMan
  let take (r : FlashReq) : Block := ({ b with flashMan := { m with queue := m.queue.erase r } }).flashTake (some r)
  match m.suspended with
  | some e =>
    match nextRequest (m.queue.filter isUrgent) with
    | some r => take r
    | none => ({ b with flashMan := { m with suspended := none } }).flashTake (some e)
  | none =>
    match nextRequest m.queue with
    | some r => take r
    | none => b.flashTake none

/-- FLASH_REQUEST (R454, R455). -/
def flashRequest (b : Block) (r : FlashReq) : Block :=
  if !b.flashReady then b
  else if !b.flashOwns r ∨ r.len = 0 ∨ (r.kind = 3 ∧ 4096 < r.len) then b.flashOutcome flOWNER r.addr
  else
    let m := b.flashMan
    match m.cur with
    | none => ({ b with flashMan := { m with queue := m.queue ++ [r] } }).flashNext
    | some c =>
      if c.kind = 1 ∧ isUrgent r ∧ m.suspended.isNone then
        (({ b with flashMan := { m with suspended := some c } }).bump Obj.FlashStatus.EraseSuspends).flashTake (some r)
      else { b with flashMan := { m with queue := m.queue ++ [r] } }

/-- The probe ends (R453): the flash does not answer, or does not meet the requirements, or serves. -/
def probeDone (b : Block) (answers suits : Bool) (jedec density mode clock : Nat) : Block :=
  if b.rd Obj.FlashStatus.DeviceState ≠ 0 ∨ b.aon.phase < 4 then b
  else if !answers then (b.wr Obj.FlashStatus.DeviceState 3).report Src.FLASH_UNSUITABLE 0 [3]
  else
    let ok := suits && decide (65536 ≤ density)
    let b := b.wrs [(Obj.FlashStatus.DeviceState, if ok then 1 else 2), (Obj.FlashStatus.JedecId, jedec), (Obj.FlashStatus.DensityKiB, density),
      (Obj.FlashStatus.BusMode, mode), (Obj.FlashStatus.ClockKHz, clock)]
    if ok then b else b.report Src.FLASH_UNSUITABLE 0 [2]

end Block

/-! ### Erase and program (R453, R456) -/

/-- A 64 KiB sector is erased to all ones. -/
def State.eraseSector (s : State) (i : Nat) : State :=
  { s with flash := s.flash.filter (fun (c : Nat × BitVec 8) => c.1 / 65536 != i) }

/-- A sector erase that the manager counts. -/
def State.erase (s : State) (i : Nat) : State := (s.eraseSector i).mapBlk (·.bump Obj.FlashStatus.Erases)

/-- The first byte that would need a bit to go from 0 to 1 (R456). -/
def State.notErased (s : State) (a : Nat) (bytes : List Nat) : Option Nat :=
  (bytes.zipIdx.find? (fun e => decide ((255 - Memory.flashByte s.flash (a + e.2)) &&& (e.1 % 256) ≠ 0))).map (fun e => a + e.2)

/-- Bytes with values the spec leaves open after a page that failed: some bits of the old ones may have gone to 0. -/
def State.spoil (s : State) (a : Nat) : Nat → State
  | 0 => s
  | n + 1 =>
    let s := s.spoil a n
    let d := s.blk.draw 8
    { s with blk := d.2, flash := Memory.write flashFill s.flash [(a + n, Memory.flashByte s.flash (a + n) &&& d.1)] }

/-- A program of bytes (R456), with what the flash answers: 0 programmed, 1 the read-back differs, 2 a page did not finish. -/
def State.program (s : State) (a : Nat) (bytes : List Nat) (fail : Nat := 0) : Nat × State :=
  match s.notErased a bytes with
  | some at_ => (flNOT_ERASED, s.mapBlk (fun b => ((b.bump Obj.FlashStatus.NotErased).report Src.FLASH_NOT_ERASED 0 [at_]).flashOutcome flNOT_ERASED at_))
  | none =>
    let pages := if bytes.isEmpty then 0 else (a + bytes.length - 1) / 256 - a / 256 + 1
    if fail = 1 then
      (flVERIFY_FAIL, (s.spoil a bytes.length).mapBlk (fun b => ((b.bump Obj.FlashStatus.VerifyFailures).report Src.FLASH_VERIFY_FAIL 0 [a]).flashOutcome flVERIFY_FAIL a))
    else if fail = 2 then
      (flTIMEOUT, (s.spoil a bytes.length).mapBlk (fun b => ((b.bump Obj.FlashStatus.Timeouts).report Src.FLASH_TIMEOUT 0 [a]).flashOutcome flTIMEOUT a))
    else
      let s := { s with flash := Memory.write flashFill s.flash (bytes.mapIdx (fun i v => (a + i, v))) }
      (flOK, s.mapBlk (fun b => (b.bump Obj.FlashStatus.Programs 32 pages).flashOutcome flOK a))

/-- The operation in progress takes effect (R455, R456): its status. -/
def State.flashPerform (s : State) (r : FlashReq) (fail : Nat) : Nat × State :=
  match r.kind with
  | 3 => s.program r.addr ((r.data ++ List.replicate r.len 0xFF).take r.len) fail
  | 1 => (flOK, ((List.range ((r.addr + r.len - 1) / 65536 - r.addr / 65536 + 1)).foldl (fun s i => s.erase (r.addr / 65536 + i)) s).mapBlk (·.flashOutcome flOK r.addr))
  | _ => (flOK, s.mapBlk (·.flashOutcome flOK r.addr))

/-- ABORT of the flash manager (R459): the page in progress completes, the rest is abandoned, an erase is abandoned, the queue is empty. -/
def State.flashAbort (s : State) (pages : Nat) : State :=
  let s := match s.blk.flashMan.cur with
    | some r => if r.kind = 3 then (s.program r.addr (r.data.take (pages * 256 - r.addr % 256)) 0).2 else s
    | none => s
  s.mapBlk (fun b => (({ b with flashMan := {} }).flashTake none).flashOutcome flABORTED ((s.blk.flashMan.cur.map FlashReq.addr).getD 0))

/-- HEARTWOOD_RECALL_DONE (R448). -/
def execHeartwoodRecallDone (us : Nat) (torn : List (Nat × Nat)) (bad fallback lost : List Nat) (s : State) : Host.Outcome State Fault Refusal :=
  s.act (·.recallDone us torn bad fallback lost)

/-- FLASH_REQUEST (R455): an owner's request reaches the manager. -/
def execFlashRequest (owner kind addr len : Nat) (data : List Nat) (s : State) : Host.Outcome State Fault Refusal :=
  s.act (·.flashRequest ⟨owner, kind, addr, len, data⟩)

end Sys2Proof.Machine
end

