-- ==== Sys2Proof/Machine/Recorder.lean ====
section
/-! DEFINITION. The Rings recorder and the fatal dump (chapter 14): flushes, the archive, readers, freezes and clears, rate limits, dumps. -/

namespace Sys2Proof.Machine

/-- The 64 bytes of a record (R409). -/
def Rec.bytes (r : Rec) : List Nat :=
  let body := leBytes 4 r.seq ++ leBytes 2 r.gen ++ leBytes 2 r.code ++ leBytes 4 r.hours ++ leBytes 3 r.cycles ++ [r.seat] ++
    leBytes 2 r.stamp.epoch ++ leBytes 4 r.stamp.cycle ++ leBytes 4 r.stamp.angle ++ [r.scope, r.flags] ++ leBytes 2 r.inst ++
    leBytes 2 r.suppressed ++ (r.data ++ List.replicate 28 0).take 28
  body ++ leBytes 4 (crc32c body)

/-- A field of little-endian bytes. -/
def fieldOf (l : List Nat) (a n : Nat) : Nat := leValue ((l.drop a).take n)

/-- The record that 64 bytes hold, where their Check is right (R409, R419). -/
def parseRec (l : List Nat) : Option Rec :=
  if l.length = 64 ∧ fieldOf l 60 4 = crc32c (l.take 60) then
    some (⟨fieldOf l 0 4, fieldOf l 4 2, fieldOf l 6 2, fieldOf l 8 4, fieldOf l 12 3, fieldOf l 15 1,
      ⟨fieldOf l 16 2, fieldOf l 18 4, fieldOf l 22 4⟩, fieldOf l 26 1, fieldOf l 27 1, fieldOf l 28 2, fieldOf l 30 2, (l.drop 32).take 28⟩ : Rec)
  else none

/-- A record takes its place in order; a second copy of it is dropped (R421). -/
def insertRec (r : Rec) : List Rec → List Rec
  | [] => [r]
  | x :: l =>
    if x.gen = r.gen ∧ x.seq = r.seq then x :: l
    else if Block.recBefore r.gen r.seq x.gen x.seq then r :: x :: l else x :: insertRec r l

namespace Block

/-! ### Flushes (R414, R415) -/

/-- How many records of each lower tier a read can return (R433). -/
def heldCounts (b : Block) : Block :=
  (b.wrs [(Obj.RingsStatus.Held 1, (b.rings.ring.filter (b.aboveFloor 1)).length),
    (Obj.RingsStatus.Held 2, ((b.tierRecs 2).filter (b.aboveFloor 2)).length)]).ringsStatus

/-- A record goes into the next row of the Heartwood ring (R413, R415, R444). -/
def ringPush (b : Block) (r : Rec) : Block :=
  let old := b.rings.ring
  let b := if 32768 ≤ old.length then
      let b := match old with | x :: _ => b.overwritten 1 x | [] => b
      if old.length ≤ b.rings.unarchived then
        let b := b.bump Obj.RingsStatus.ArchiveLost
        { b with rings := { b.rings with unarchived := b.rings.unarchived - 1 } }
      else b
    else b
  let a := b.rings.row * 64
  let ring := old ++ [r]
  ({ b with rings := { b.rings with ring := ring.drop (ring.length - 32768), unarchived := b.rings.unarchived + 1, row := (b.rings.row + 1) % 32768 } }).putHeartwood
    a r.bytes |>.closeRows a 64

/-- The next `k` unflushed records, oldest first, without those at or below the buffer's floor (R414, R423). -/
def toFlush (b : Block) (k : Nat) : List Rec :=
  ((b.rings.buffer.drop (b.rings.buffer.length - b.rings.unflushed)).take k).filter (b.aboveFloor 0)

/-- RINGS_LOST after a successful flush (R415). -/
def lostRecord (b : Block) : Block :=
  if b.rings.lost = 0 then b
  else ({ b with rings := { b.rings with lost := 0 } }).record 0x0104 (leBytes 4 b.rings.lost ++ [0])

/-- The flush engine copies the oldest `k` unflushed records, or Heartwood refuses (R414). -/
def flushRecs (b : Block) (k : Nat) : Block :=
  if b.heartwoodRefuses 0 then
    let b := (b.bump Obj.RingsStatus.FlushFailures).bump Obj.HeartwoodStatus.WriteRefusals
    let b := if b.rings.failRaised then b else b.report Src.RINGS_FLUSH_FAIL 0
    { b with rings := { b.rings with flushing := false, retry := true, failRaised := true, covered := 0 } }
  else
    let b := (b.toFlush k).foldl ringPush b
    let b := { b with rings := { b.rings with unflushed := b.rings.unflushed - k, covered := 0, flushing := false, retry := false, failRaised := false } }
    (b.bump Obj.RingsStatus.Flushes).lostRecord.heldCounts.storeRings

/-- FLUSH_COMPLETE (R414): a flush that runs ends; none ends during a freeze (R422). -/
def flushComplete (b : Block) : Block :=
  if b.rings.flushing ∧ b.rings.freezeEnd.isNone then b.flushRecs (min b.rings.covered b.rings.unflushed) else b

/-- FLUSH_RETRY (R414): at a cycle boundary the refused flush starts again, with every record appended until then. -/
def flushRetry (b : Block) : Block :=
  if b.glade.boundary ∧ b.rings.retry ∧ b.rings.freezeEnd.isNone then
    ({ b with rings := { b.rings with retry := false } }).flushTrigger
  else b

/-! ### Freezes (R422) -/

/-- A freeze ends for every freeze reader: the queue is appended in order, and a flush that was due starts. -/
def endFreeze (b : Block) : Block :=
  if b.rings.freezeEnd.isNone then b
  else
    let q := b.rings.queue
    let lost := b.rings.queueLost
    let due := b.rings.flushAfterFreeze
    let b := { b with rings := { b.rings with freezeEnd := none, queue := [], queueLost := 0, flushAfterFreeze := false } }
    let b := q.foldl bufferRec b
    let b := if lost = 0 then b else b.record 0x0104 (leBytes 4 lost ++ [0])
    let note (e : Nat × Session) : Nat × Session :=
      if e.2.readerFreeze then (e.1, { e.2 with readerFreeze := false, readerNote := if e.2.readerNote < 2 then e.2.readerNote + 2 else e.2.readerNote }) else e
    let b := ({ b with sessions := b.sessions.map note }).wr Obj.RingsStatus.FreezeActive 0
    if due then b.flushTrigger else b.fillTrigger

/-- The number of freeze readers has changed; the last one to close ends the freeze. -/
def freezeCount (b : Block) : Block :=
  let n := (b.sessions.filter (fun (e : Nat × Session) => e.2.readerFreeze)).length
  let b := b.wr Obj.RingsStatus.FreezeActive n
  if n = 0 then b.endFreeze else b

/-- FREEZE_LIMIT_EXPIRY (R422, R432). -/
def freezeExpiry (b : Block) : Block :=
  match b.rings.freezeEnd with
  | some c => if c ≤ b.glade.cycles then b.endFreeze else b
  | none => b

/-- The last-resort sequencer flushes everything (R356, R417, R424): a freeze ends first. -/
def flushAll (b : Block) : Block := let b := b.endFreeze; b.flushRecs b.rings.unflushed

/-! ### Readers and clears (R421–R423) -/

/-- The newest record appended; where none is held, the event order's last number. -/
def newestAppended (b : Block) : Nat × Nat :=
  match b.rings.buffer.getLast?, b.rings.ring.getLast?, (b.tierRecs 2).getLast? with
  | some r, _, _ => (r.gen, r.seq)
  | none, some r, _ => (r.gen, r.seq)
  | none, none, some r => (r.gen, r.seq)
  | none, none, none => (b.rd Obj.EventOrder.Generation, b.rd Obj.EventOrder.EventSequence)

/-- What a read of a tier can return (R421, R423): 3 for all tiers, each record once. -/
def visible (b : Block) (tier : Nat) : List Rec :=
  let held (t : Nat) : List Rec := (b.tierRecs t).filter (b.aboveFloor t)
  if tier < 3 then held tier else (held 2 ++ held 1 ++ held 0).foldl (fun l r => insertRec r l) []

/-- A reader of session n closes (R422). -/
def readerClose (b : Block) (n : Nat) : Block :=
  let x := b.sess n
  let b := b.setSess n { x with reader := false, readerFreeze := false, readerNote := 0, readerLost := 0 }
  let b := b.wr (sk n Obj.RingsReader.Status) 5
  if x.readerFreeze then b.freezeCount else b

/-- Open 0x01 (R421, R422). -/
def readerOpen (b : Block) (n : Nat) : Block :=
  let b := if (b.sess n).reader then b.readerClose n else b
  let top := b.newestAppended
  let sg := b.rd (sk n Obj.RingsReader.StartGeneration)
  let ss := b.rd (sk n Obj.RingsReader.StartSequence)
  let l := b.visible (b.rd (sk n Obj.RingsReader.Tier))
  let start := if sg = 0xFFFF ∧ ss = 0xFFFFFFFF then (match l with | r :: _ => (r.gen, r.seq) | [] => (top.1, top.2 + 1)) else (sg, ss)
  let freeze := b.rd (sk n Obj.RingsReader.Mode) == 1
  let b := b.setSess n { b.sess n with
    reader := true, readerFreeze := freeze, cursorGen := start.1, cursorSeq := start.2, readerNote := 0, readerLost := 0 }
  let more := l.any (fun r => !recBefore r.gen r.seq start.1 start.2 && !recBefore top.1 top.2 r.gen r.seq)
  let b := b.wrs [(sk n Obj.RingsReader.BoundGeneration, top.1), (sk n Obj.RingsReader.BoundSequence, top.2),
    (sk n Obj.RingsReader.Status, if more then 0 else 1), (sk n Obj.RingsReader.Returned, 0), (sk n Obj.RingsReader.Skipped, 0)]
  if freeze then
    let limit := min (b.rd Obj.RingsConfig.FreezeLimit) (b.glade.fnom * 30)
    ({ b with rings := { b.rings with freezeEnd := some (b.rings.freezeEnd.getD (b.glade.cycles + limit)) } }).freezeCount
  else b

/-- A read of RingsData (R421): the bytes returned, and the block with the cursor moved. -/
def ringsRead (b : Block) (n : Nat) : List Nat × Block :=
  let x := b.sess n
  if !x.reader then ([], b.wr (sk n Obj.RingsReader.Status) 5)
  else
    let bg := b.rd (sk n Obj.RingsReader.BoundGeneration)
    let bs := b.rd (sk n Obj.RingsReader.BoundSequence)
    let l := (b.visible (b.rd (sk n Obj.RingsReader.Tier))).filter (fun r =>
      !recBefore r.gen r.seq x.cursorGen x.cursorSeq && !recBefore bg bs r.gen r.seq)
    let out := l.take 1024
    let cur := match out.getLast? with | some r => (r.gen, r.seq + 1) | none => (x.cursorGen, x.cursorSeq)
    let cleared := x.readerNote % 2 = 1
    let ended := !cleared && decide (2 ≤ x.readerNote)
    let past := !cleared && !ended && x.readerLost != 0
    let status := if cleared then 3 else if ended then 4 else if past then 2 else if l.length ≤ 1024 then 1 else 0
    let b := b.setSess n { x with
      cursorGen := cur.1, cursorSeq := cur.2, readerNote := if cleared then x.readerNote - 1 else 0, readerLost := if past then 0 else x.readerLost }
    let b := (b.wr (sk n Obj.RingsReader.Status) status).bump (sk n Obj.RingsReader.Returned) 32 out.length
    (out.flatMap Rec.bytes, if past then b.bump (sk n Obj.RingsReader.Skipped) 32 x.readerLost else b)

/-- Clear (R423): the floors of the selected tiers; what lies below them is not flushed and not archived. -/
def ringsClear (b : Block) (n mask : Nat) : Block :=
  let top := b.newestAppended
  let sel (t : Nat) : Bool := bitOf mask t
  let b := ((List.range 3).filter sel).foldl (fun b t =>
    b.wrs [(Obj.RingsStatus.Floor t, top.2), (Obj.RingsStatus.FloorGen t, top.1 * 65536)]) b
  let r := b.rings
  let b := { b with rings := { r with
    unflushed := if sel 0 then 0 else r.unflushed, covered := if sel 0 then 0 else r.covered, unarchived := if sel 1 then 0 else r.unarchived } }
  let hit (e : Nat × Session) : Nat × Session :=
    let tier := b.rd (sk e.1 Obj.RingsReader.Tier)
    let x := e.2
    if x.reader && (sel tier || (tier == 3 && (sel 0 || sel 1 || sel 2))) && !recBefore top.1 top.2 x.cursorGen x.cursorSeq && x.readerNote % 2 == 0 then
      (e.1, { x with readerNote := x.readerNote + 1 })
    else e
  let b := { b with sessions := b.sessions.map hit }
  (b.record 0x0103 ([n, mask] ++ leBytes 2 top.1 ++ leBytes 4 top.2)).heldCounts.storeRings

/-! ### Rate limits (R420) -/

/-- RateLimit of a code in records per second. -/
def rateOf (b : Block) (c : Nat) : Nat :=
  let r := b.rd (Obj.CodeRate.RateLimit c)
  if r = 0xFFFF then b.rd Obj.RingsConfig.DefaultRate else r

/-- Every bucket gains its tokens at a cycle boundary; how long the bucket of a code with suppressed records has stayed full. -/
def refillBuckets (b : Block) : Block :=
  let b := (Tab.keys b.rings.tokens).foldl (fun b c =>
    let t := b.bucketTokens c + b.rateOf c
    { b with rings := { b.rings with tokens := if b.bucketDepth c ≤ t then Tab.drop b.rings.tokens c else Tab.set b.rings.tokens c t } }) b
  (Tab.keys b.rings.suppressed).foldl (fun b c =>
    let full := decide (b.bucketDepth c ≤ b.bucketTokens c)
    { b with rings := { b.rings with full := if full then Tab.set b.rings.full c (Tab.look 0 b.rings.full c + 1) else Tab.drop b.rings.full c } }) b

/-- RATE_SUMMARY (R420): a code with suppressed records whose bucket has stayed full for 50 cycles. -/
def rateSummary (b : Block) (c : Nat) : Block :=
  if Tab.look 0 b.rings.suppressed c ≠ 0 ∧ 50 ≤ Tab.look 0 b.rings.full c then
    b.append { code := c, scope := (sourceRow c).scope, flags := 16, stamp := b.now, always := false }
  else b

/-- A commit that changes a depth (R420): the bucket keeps its tokens, capped at the new depth. -/
def ringsCommitted (b old : Block) (keys : List Nat) : Block :=
  if keys.any (fun k => k == Obj.RingsConfig.DefaultBurst || inObj 0x4420 0x44FF k) then
    (List.range 224).foldl (fun b c =>
      let t := old.bucketTokens c
      if b.bucketDepth c = old.bucketDepth c then b
      else { b with rings := { b.rings with tokens := if b.bucketDepth c ≤ t then Tab.drop b.rings.tokens c else Tab.set b.rings.tokens c t } }) b
  else b

/-- A rate or burst of CodeRate out of range (R436): 1–1,000 or 0xFFFF, 1–254 or 0xFF. -/
def codeRateBad (k v : Nat) : Bool :=
  inObj 0x4420 0x44FF k && (v == 0 || (keySub k == 1 && decide (1000 < v) && v != 0xFFFF))

/-- CFG_RINGS_RANGE (R438): FreezeLimit up to NominalFreq × 30. -/
def checkRings (b : Block) (keys : List Nat) : Finding :=
  let l := keys.filter (fun k => inObj 0x4400 0x4400 k || inObj 0x4420 0x44FF k)
  let bad := l.filter (fun k => !inRange b k || codeRateBad k (b.rd k) || (k == Obj.RingsConfig.FreezeLimit && decide (b.glade.fnom * 30 < b.rd k)))
  findIf (!bad.isEmpty) bad

/-! ### Archive (R416) -/

/-- The next sector that is not marked bad. -/
def archiveSector (b : Block) : Option Nat :=
  ((List.range 256).map (fun i => (b.rings.sector + i) % 256)).find? (fun i => !b.rings.badSectors.contains i)

/-- A dump or an update writes the flash (R416). -/
def flashWritten (b : Block) : Bool :=
  b.dump.due.isSome || b.dump.area.isSome || b.rd Obj.UpdateStatus.State == 1 || b.rd Obj.UpdateStatus.State == 5

/-- A batch can be written. -/
def archiveReady (b : Block) : Bool :=
  b.rd Obj.RingsConfig.ArchiveEnable == 1 && decide (1024 ≤ b.rings.unarchived) && b.rings.freezeEnd.isNone && b.flashReady && !b.flashWritten

/-- The 1,024 archived records of a sector are gone from the moment it is erased. -/
def archiveGone (b : Block) (i : Nat) : Block :=
  let old := b.rings.archive.filter (fun (e : Nat × List Rec) => e.1 == i)
  let b := { b with rings := { b.rings with archive := b.rings.archive.filter (fun (e : Nat × List Rec) => e.1 != i) } }
  (old.flatMap (·.2)).foldl (fun b r => b.overwritten 2 r) b

/-- A second NOT_ERASED marks the sector bad (R416). -/
def sectorBad (b : Block) (i : Nat) : Block :=
  let b := { b with rings := { b.rings with badSectors := i :: b.rings.badSectors, sector := (i + 1) % 256, batchRetry := false } }
  ((b.wr Obj.RingsStatus.BadSectors b.rings.badSectors.length).report Src.ARCHIVE_SECTOR_BAD 0 [i]).storeRings

/-- A batch is in the archive. -/
def archived1024 (b : Block) (i : Nat) (l : List Rec) : Block :=
  ({ b with rings := { b.rings with
    archive := b.rings.archive ++ [(i, l)], unarchived := b.rings.unarchived - 1024, sector := (i + 1) % 256, batchRetry := false } }).heldCounts

/-! ### The fault table as bytes (R367) -/

/-- The 128 bytes of a root. -/
def rootBytes (present : Bool) (r : Root) : List Nat :=
  let flags := b2n present + 2 * b2n r.acknowledged + 4 * b2n r.withheld + 8 * b2n (r.outcome == roEXECUTED) + 16 * b2n r.escalated +
    32 * b2n r.injected + 64 * b2n (r.outcome == roPENDING)
  let bit (i : Nat) : Nat := if r.instances.contains i then 2 ^ (i % 8) else 0
  leBytes 2 r.number ++ leBytes 2 r.src ++ [r.configured, r.cls, flags, r.scope, r.reaction, r.outcome] ++ leBytes 2 r.rule ++ [r.seat, 0] ++
    leBytes 2 r.gen ++ leBytes 4 r.seq ++ leBytes 2 r.stamp.epoch ++ leBytes 4 r.stamp.cycle ++ leBytes 4 r.stamp.angle ++
    leBytes 4 (min r.count 0xFFFFFFFF) ++ leBytes 4 (min r.linked 0xFFFFFFFF) ++ leBytes 2 r.decided.epoch ++ leBytes 4 r.decided.cycle ++
    leBytes 2 r.decided.angle ++ leBytes 2 (r.instances.headD 0) ++ leBytes 2 r.instances.length ++ List.replicate 14 0 ++
    (List.range 64).map (fun k => ((List.range 8).map (fun j => bit (k * 8 + j))).sum)

/-- A fault table of 256 entries; an empty entry reads 0. -/
def tableBytes (l : List Root) (present : Root → Bool) : List Nat :=
  (List.range 256).flatMap (fun i =>
    match l.find? (fun r => r.entry == i) with
    | some r => rootBytes (present r) r
    | none => List.replicate 128 0)

/-! ### The fatal dump (R425–R430) -/

/-- The state of a dump area (R430), 0 D0, 1 D1, 2 reduced. -/
def dumpState (b : Block) (a : Nat) : Nat := b.rd (Obj.DumpControl.StateD0 + a)

/-- An area changes state, which Heartwood keeps. -/
def setDumpState (b : Block) (a v : Nat) : Block := (b.wr (Obj.DumpControl.StateD0 + a) v).storeDumps

/-- The sections of a full dump and of a reduced dump, offset and length in KiB (R427, R429). -/
def fullSections : List (Nat × Nat) := [(0, 4), (4, 32), (36, 512), (548, 32), (580, 64), (644, 64), (708, 256), (964, 512), (1476, 4096), (5572, 256)]
def reducedSections : List (Nat × Nat) := [(0, 4), (4, 32), (36, 128), (164, 32), (196, 32), (228, 16), (244, 12)]

/-- Where a section lies: its offset and length in bytes. -/
def sectionOf (a k : Nat) : Nat × Nat :=
  let e := (if a = 2 then reducedSections else fullSections).getD k (0, 0)
  (e.1 * 1024, e.2 * 1024)

/-- Where an area starts: in the flash, or in Heartwood for the reduced dump. -/
def dumpBase (a : Nat) : Nat := if a = 0 then 0x2000000 else if a = 1 then 0x2800000 else 0x220000

/-- The header at the start of a dump (R428), status started; CRC and bytes written of every section still to be programmed. -/
def dumpHeader (b : Block) (a : Nat) : List Nat :=
  let d := b.dump
  let v := b.rd Obj.UpdateStatus.ImageVersion
  [0x45, 0x55, 0x53, 0x44, 1, 0x7F, 0xFF, 0xFF] ++ leBytes 2 d.cause ++ [b.seat, 0xFF] ++ leBytes 2 d.gen ++ leBytes 4 d.seq ++
    leBytes 2 d.stamp.epoch ++ leBytes 4 d.stamp.cycle ++ leBytes 4 d.stamp.angle ++ leBytes 4 (b.rd Obj.BackupDomain.OperatingHours) ++
    leBytes 3 (b.rd Obj.BackupDomain.PowerCycles) ++ [0xB1, b.rd Obj.UpdateStatus.InService] ++ leBytes 3 (v / 256) ++
    (List.range 10).flatMap (fun k => leBytes 4 (sectionOf a k).1 ++ leBytes 4 (sectionOf a k).2 ++ List.replicate 8 0xFF)

/-- Section 1: the fault table (R367). -/
def dumpFaults (b : Block) : List Nat := tableBytes b.faults.roots b.rootPresent

/-- Section 2: the records of the buffer and the queue, oldest first; unused slots 0xFF. -/
def dumpRecords (b : Block) (n : Nat) : List Nat :=
  let l := b.rings.buffer ++ b.rings.queue
  let used := (l.drop (l.length - n)).flatMap Rec.bytes
  used ++ List.replicate (n * 64 - used.length) 0xFF

/-- Section 9: the directory (R427). -/
def dumpDirectory (b : Block) : List Nat :=
  (List.range 65536).flatMap (fun i => let l := b.line i; leBytes 4 (l.state * 2 ^ 30 + l.last * 2 ^ 17 + l.mask))

/-- A dump ends in a state of its area (R425, R430). -/
def dumpOver (b : Block) (a state bytes : Nat) : Block :=
  let cause := b.dump.cause
  let b := (b.setDumpState a state).wrs [(Obj.DumpControl.LastArea, a), (Obj.DumpControl.LastCause, cause)]
  let b := if state = 3 then b.bump Obj.DumpControl.Dumps else b
  let b := b.record 0x0106 ([a] ++ leBytes 2 cause ++ leBytes 4 bytes ++ [state])
  let b := { b with dump := {} }
  let b := if cause = 0xFFFF then b.modPair (fun x => { x with resync := 1, resyncFrom := b.glade.cycles })
    else { b with dump := { b.dump with stopped := true } }
  b.flushTrigger.storeDumps

/-- DUMP_NOW (R425). -/
def dumpNow (b : Block) (n : Nat) : Block :=
  let r (v : Nat) (b : Block) : Block := b.wr (sk n Obj.DumpControl.Result) v
  if b.isHolder then r 1 b
  else if b.dump.area.isSome || b.dump.due.isSome then r 2 b
  else
    let b := if b.readiness = rdBARRED then b else b.endRun.wr Obj.RedundancyStatus.Readiness rdDIVERGED
    r 0 { b with dump := { due := some 0xFFFF, cause := 0xFFFF, gen := b.rd Obj.EventOrder.Generation, seq := b.rd Obj.EventOrder.EventSequence, stamp := b.now } }

/-- The area a dump goes to (R426). -/
def dumpArea (b : Block) : Nat := if b.flashReady ∧ b.dumpState 0 = 0 then 0 else if b.flashReady ∧ b.dumpState 1 = 0 then 1 else 2

/-- The reduced dump starts, or is not written (R429). -/
def dumpReduced (b : Block) : Block :=
  if b.dumpState 2 ≠ 0 then
    let b := b.report Src.DUMP_NOT_WRITTEN 0
    let requested := b.dump.cause == 0xFFFF
    let b := { b with dump := { stopped := !requested } }
    if requested then b.modPair (fun x => { x with resync := 1, resyncFrom := b.glade.cycles }) else b
  else
    let b := { b with dump := { b.dump with due := none, area := some 2, stopped := true } }.setDumpState 2 2
    let put (k : Nat) (bytes : List Nat) (b : Block) : Block := (b.putHeartwood (dumpBase 2 + (sectionOf 2 k).1) bytes).closeRows (dumpBase 2 + (sectionOf 2 k).1) bytes.length
    put 2 (b.dumpRecords 2048) (put 1 b.dumpFaults (put 0 (b.dumpHeader 2) b))

/-- DUMP_RELEASE (R430): Release of an area. -/
def dumpRelease (b : Block) (n a : Nat) : Block :=
  let r (v : Nat) (b : Block) : Block := b.wr (sk n Obj.DumpControl.Result) v
  if 3 ≤ a then r 3 b
  else if b.dump.area = some a then r 2 b
  else r 0 (b.setDumpState a (if a = 2 then 0 else 1))

end Block

/-! ### The flash at work for the archive and the dumps -/

/-- Bytes programmed in requests of 4,096 (R455), up to the first that does not succeed. -/
def State.programRun (s : State) (a : Nat) (bytes : List Nat) : Nat → Nat × State
  | 0 => (flOK, s)
  | n + 1 =>
    if bytes.isEmpty then (flOK, s)
    else
      let r := s.program a (bytes.take 4096)
      if r.1 = flOK then r.2.programRun (a + 4096) (bytes.drop 4096) n else r

/-- All the bytes, in as many requests as it takes. -/
def State.programAll (s : State) (a : Nat) (bytes : List Nat) : Nat × State := s.programRun a bytes (bytes.length / 4096 + 1)

/-- ARCHIVE_BATCH (R416): a batch of 1,024 records into the next sector; `refused` programs of it returned NOT_ERASED. -/
def State.archiveBatch (s : State) (refused : Nat) : State :=
  match s.blk.archiveReady, s.blk.archiveSector with
  | true, some i =>
    let l := (s.blk.rings.ring.drop (s.blk.rings.ring.length - s.blk.rings.unarchived)).take 1024
    let s := (s.mapBlk (·.archiveGone i)).erase (768 + i)
    let fail (s : State) : State := s.mapBlk (fun b =>
      ((b.bump Obj.FlashStatus.NotErased).report Src.FLASH_NOT_ERASED 0 [0x3000000 + i * 65536]).flashOutcome flNOT_ERASED (0x3000000 + i * 65536))
    if 2 ≤ refused then (fail ((fail s).erase (768 + i))).mapBlk (·.sectorBad i)
    else
      let s := if refused = 1 then (fail s).erase (768 + i) else s
      (s.programAll (0x3000000 + i * 65536) (l.flatMap Rec.bytes)).2.mapBlk (·.archived1024 i l)
  | _, _ => s

/-- A dump starts in a flash area: header, fault table, records; answers the flash's status (R426–R428). -/
def State.dumpBegin (s : State) (a : Nat) : Nat × State :=
  let s := s.mapBlk (fun b => { b with dump := { b.dump with due := none, area := some a, stopped := true } }.setDumpState a 2)
  let r := s.programAll (Block.dumpBase a) (s.blk.dumpHeader a)
  if r.1 ≠ flOK then r
  else
    let r := r.2.programAll (Block.dumpBase a + (Block.sectionOf a 1).1) s.blk.dumpFaults
    if r.1 ≠ flOK then r else r.2.programAll (Block.dumpBase a + (Block.sectionOf a 2).1) (s.blk.dumpRecords 8192)

/-- An area that refused a program is DIRTY (R426), and the dump moves on to `dest`. -/
def State.dumpDirty (s : State) (a dest : Nat) : State :=
  s.mapBlk (fun b =>
    let at_ := b.rd Obj.FlashStatus.LastAddress - Block.dumpBase a
    ((b.setDumpState a 5).bump Obj.DumpControl.NotErased).storeDumps.record 0x0107 ([a, dest] ++ leBytes 4 at_))

/-- A dump whose program returned NOT_ERASED (R426): from section 0 in the other area, once, or the reduced dump. -/
def State.dumpRetarget (s : State) : State :=
  match s.blk.dump.area with
  | some a =>
    let other := 1 - a
    if 2 ≤ a then s
    else if !s.blk.dump.retargeted ∧ s.blk.dumpState other = 0 then
      let s := (s.dumpDirty a other).mapBlk (fun b => { b with dump := { b.dump with retargeted := true } })
      let r := s.dumpBegin other
      if r.1 = flOK then r.2 else (r.2.dumpDirty other 2).mapBlk (·.dumpReduced)
    else (s.dumpDirty a 2).mapBlk (·.dumpReduced)
  | none => s

/-- DUMP_START (R425, R426): a dump that is due. -/
def State.dumpStart (s : State) : State :=
  if s.blk.dump.due.isNone then s
  else
    let a := s.blk.dumpArea
    if a = 2 then s.mapBlk (·.dumpReduced)
    else
      let r := s.dumpBegin a
      if r.1 = flOK then r.2 else r.2.dumpRetarget

/-- Sections into a flash area, in their order, up to the first program that does not succeed. -/
def State.dumpSections (s : State) (a : Nat) : List (Nat × List Nat) → Nat × State
  | [] => (flOK, s)
  | (k, bytes) :: l =>
    let r := s.programAll (Block.dumpBase a + (Block.sectionOf a k).1) (bytes.take (Block.sectionOf a k).2)
    if r.1 = flOK then r.2.dumpSections a l else r

/-- The header's section table and done bits, then status complete (R428), for the sections that are written. -/
def Block.dumpSeal (a : Nat) (done : List (Nat × Nat)) (get : Nat → Nat → List Nat) : List (Nat × List Nat) :=
  let mask := 0xFFFF - ((0 :: done.map (·.1)).map (fun k => 2 ^ k)).sum
  (done.map (fun e => (40 + 16 * e.1 + 8, leBytes 4 (crc32c (get (Block.dumpBase a + (Block.sectionOf a e.1).1) e.2)) ++ leBytes 4 e.2))) ++
    [(6, leBytes 2 mask), (5, [0x3F])]

/-- DUMP_COMPLETE (R427–R429): the sections whose contents the spec leaves to the device come with the command. -/
def State.dumpComplete (s : State) (sections : List (Nat × List Nat)) : State :=
  match s.blk.dump.area with
  | none => s
  | some a =>
    let given := sections.filter (fun (e : Nat × List Nat) => decide (3 ≤ e.1) && decide (0 < (Block.sectionOf a e.1).2) && !(a != 2 && e.1 == 9))
    let size (e : Nat × List Nat) : Nat × Nat := (e.1, min e.2.length (Block.sectionOf a e.1).2)
    if a = 2 then
      let s := s.mapBlk (fun b => given.foldl (fun b (e : Nat × List Nat) =>
        (b.putHeartwood (Block.dumpBase 2 + (Block.sectionOf 2 e.1).1) (e.2.take (Block.sectionOf 2 e.1).2)).closeRows (Block.dumpBase 2 + (Block.sectionOf 2 e.1).1) e.2.length) b)
      let s := s.settle
      let done := [(1, 32768), (2, 131072)] ++ given.map size
      let marks := Block.dumpSeal 2 done s.heartwoodBytes
      s.mapBlk (fun b => (marks.foldl (fun b (e : Nat × List Nat) => b.putHeartwood (Block.dumpBase 2 + e.1) e.2) b).dumpOver 2 3 (4096 + (done.map (·.2)).sum))
    else
      let r := s.dumpSections a (given ++ [(9, s.blk.dumpDirectory)])
      if r.1 ≠ flOK then r.2.dumpRetarget
      else
        let done := [(1, 32768), (2, 524288)] ++ given.map size ++ [(9, 262144)]
        let r := (Block.dumpSeal a done r.2.flashBytes).foldl (fun (t : State) (e : Nat × List Nat) => (t.program (Block.dumpBase a + e.1) e.2).2) r.2
        r.mapBlk (·.dumpOver a 3 (4096 + (done.map (·.2)).sum))

/-- DUMP_ERASE_DONE (R430): all 8 MiB of a released area are erased and blank-checked. -/
def State.dumpEraseDone (s : State) (a : Nat) : State :=
  if a < 2 ∧ s.blk.dumpState a = 1 then
    let lo := Block.dumpBase a
    let s := { s with flash := s.flash.filter (fun (c : Nat × BitVec 8) => decide (c.1 < lo) || decide (lo + 0x800000 ≤ c.1)) }
    s.mapBlk (fun b => (b.bump Obj.FlashStatus.Erases 32 128).setDumpState a 0)
  else s

/-- A dump that runs ends in PARTIAL (R426, R460). -/
def Block.dumpPartial (b : Block) : Block :=
  match b.dump.area with
  | some a => b.dumpOver a 4 0
  | none => { b with dump := { b.dump with due := none } }

/-! ### The scans at power-up (R419, R430, R458) -/

/-- The addresses' units of `size` bytes that a memory lists between two addresses, rising. -/
def Memory.units (m : List Host.Cell) (lo hi size : Nat) : List Nat :=
  m.foldl (fun l c => if decide (lo ≤ c.1) && decide (c.1 < hi) && l.getLast? != some (c.1 / size) then l ++ [c.1 / size] else l) []

/-- The Heartwood ring as its rows hold it (R419): its records oldest first, the next row, and how many rows were discarded. -/
def State.scanRing (s : State) : List Rec × Nat × Nat :=
  let rows := Memory.units s.heartwood 0 0x200000 64
  let read (r : Nat) : Option (Nat × Rec) := if s.blk.store.voids.contains r then none else (parseRec (s.heartwoodBytes (r * 64) 64)).map (fun x => (r, x))
  let good := rows.filterMap read
  let newest := good.foldl (fun (best : Option (Nat × Rec)) e =>
    match best with
    | none => some e
    | some v => if Block.recBefore v.2.gen v.2.seq e.2.gen e.2.seq then some e else some v) none
  let torn := rows.length - good.length
  match newest with
  | none => ([], 0, torn)
  | some n => ((good.filter (fun e => decide (n.1 < e.1)) ++ good.filter (fun e => decide (e.1 ≤ n.1))).map (·.2), (n.1 + 1) % 32768, torn)

/-- The number of a batch's first record. -/
def batchKey (e : Nat × List Rec) : Nat × Nat := match e.2 with | r :: _ => (r.gen, r.seq) | [] => (0, 0)

/-- A batch takes its place in order. -/
def insertBatch (e : Nat × List Rec) : List (Nat × List Rec) → List (Nat × List Rec)
  | [] => [e]
  | x :: l => if Block.recBefore (batchKey e).1 (batchKey e).2 (batchKey x).1 (batchKey x).2 then e :: x :: l else x :: insertBatch e l

/-- The archive as its sectors hold it: whole batches in order, and sectors with a record whose Check fails. -/
def State.scanArchive (s : State) : List (Nat × List Rec) × List Nat :=
  let sectors := (Memory.units s.flash 0x3000000 0x4000000 65536).map (· - 768)
  let read (i : Nat) : Nat × List (Option Rec) :=
    (i, (List.range 1024).map (fun k => parseRec (s.flashBytes (0x3000000 + i * 65536 + k * 64) 64)))
  let all := sectors.map read
  let whole (e : Nat × List (Option Rec)) : Bool := e.2.all Option.isSome
  let ok : List (Nat × List Rec) := (all.filter whole).map (fun e => (e.1, e.2.filterMap id))
  (ok.foldl (fun l e => insertBatch e l) [], (all.filter (fun e => !whole e)).map (·.1))

/-- The Rings scan (R419, R458): the continuation points of each tier, then RINGS_START. -/
def State.ringsScan (s : State) : State :=
  let ring := s.scanRing
  let arch := s.scanArchive
  let s := arch.2.foldl (fun (t : State) i => if t.blk.rings.badSectors.contains i then t else t.erase (768 + i)) s
  let last := (arch.1.flatMap (·.2)).getLast?
  let fresh := match last with
    | some r => ring.1.filter (fun (x : Rec) => Block.recBefore r.gen r.seq x.gen x.seq)
    | none => ring.1
  let newest := match ring.1.getLast?, last with
    | some r, _ => (r.gen, r.seq)
    | none, some r => (r.gen, r.seq)
    | none, none => (0, 0)
  s.mapBlk (fun b =>
    let b := b.loadSet 4
    let bad : List Nat := Tab.look [] (Tab.look {} b.store.sets 4).cur.bytes 0
    let gap := !arch.2.isEmpty && (match last, ring.1 with | some r, x :: _ => decide (r.seq + 1 < x.seq) | _, [] => true | none, _ => false)
    let b := if gap then b.bump Obj.RingsStatus.ArchiveLost 32 (1024 * arch.2.length) else b
    let b := { b with rings := { b.rings with
      ring := ring.1, row := ring.2.1, unarchived := (fresh.filter (b.aboveFloor 1)).length, archive := arch.1, badSectors := bad
      sector := match arch.1.getLast? with | some e => (e.1 + 1) % 256 | none => 0 } }
    let b := (b.wr Obj.RingsStatus.TornRecords ring.2.2).heldCounts
    b.record 0x0102 (leBytes 2 newest.1 ++ leBytes 4 newest.2 ++ leBytes 4 ring.2.2))

/-- The dump areas at power-up (R430). -/
def State.dumpScan (s : State) : State :=
  let stored (b : Block) (a : Nat) : Nat := (b.stored 5 (Obj.DumpControl.StateD0 + a)).getD 0
  let look (b : Block) (a : Nat) : Nat :=
    let head := s.flashBytes (Block.dumpBase a) 4096
    if stored b a = 0 ∧ head.all (· == 0xFF) then 0
    else match head.getD 5 0xFF with
      | 0x7F => 4
      | 0x3F => 3
      | _ => 5
  let reduced (b : Block) : Nat := if stored b 2 = 0 then 0 else if Memory.heartwoodByte s.heartwood 0x220005 = 0x3F then 3 else 4
  s.mapBlk (fun b =>
    let b := b.wrs [(Obj.DumpControl.Dumps, (b.stored 5 Obj.DumpControl.Dumps).getD 0), (Obj.DumpControl.NotErased, (b.stored 5 Obj.DumpControl.NotErased).getD 0)]
    b.wrs [(Obj.DumpControl.StateD0, look b 0), (Obj.DumpControl.StateD1, look b 1), (Obj.DumpControl.StateReduced, reduced b)])

/-! ### Commands -/

/-- RINGS_FLUSH (R414, R434). -/
def execRingsFlush (s : State) : Host.Outcome State Fault Refusal := s.act Block.flushTrigger

/-- FLUSH_COMPLETE (R414); or the last-resort sequencer's flush is through (R417). -/
def execFlushComplete (s : State) : Host.Outcome State Fault Refusal :=
  s.act (fun b => if b.store.work.isEmpty then b.flushComplete else b.finishWork)

/-- FLUSH_RETRY (R414). -/
def execFlushRetry (s : State) : Host.Outcome State Fault Refusal := s.act Block.flushRetry

/-- ARCHIVE_BATCH (R416). -/
def execArchiveBatch (refused : Nat) (s : State) : Host.Outcome State Fault Refusal := s.run (·.archiveBatch refused)

/-- RINGS_CLEAR (R423). -/
def execRingsClear (n mask : Nat) (s : State) : Host.Outcome State Fault Refusal := s.actOn (decide (n < 32)) .session n (·.ringsClear n mask)

/-- RINGS_READER_OPEN (R421). -/
def execRingsReaderOpen (n : Nat) (s : State) : Host.Outcome State Fault Refusal := s.actOn (decide (n < 32)) .session n (·.readerOpen n)

/-- RINGS_READER_CLOSE (R422). -/
def execRingsReaderClose (n : Nat) (s : State) : Host.Outcome State Fault Refusal := s.actOn (decide (n < 32)) .session n (·.readerClose n)

/-- RINGS_DATA_READ (R421): the bytes returned are the session's response. -/
def execRingsDataRead (n : Nat) (s : State) : Host.Outcome State Fault Refusal :=
  s.actOn (decide (n < 32)) .session n (fun b =>
    let r := b.ringsRead n
    r.2.setSess n { r.2.sess n with reply := { status := 0, total := r.1.length, data := r.1 } })

/-- FREEZE_LIMIT_EXPIRY (R422). -/
def execFreezeLimitExpiry (s : State) : Host.Outcome State Fault Refusal := s.act Block.freezeExpiry

/-- RATE_SUMMARY (R420). -/
def execRateSummary (c : Nat) (s : State) : Host.Outcome State Fault Refusal := s.actOn (decide (c < 224)) .source c (·.rateSummary c)

/-- DUMP_NOW (R425). -/
def execDumpNow (n : Nat) (s : State) : Host.Outcome State Fault Refusal := s.actOn (decide (n < 32)) .session n (·.dumpNow n)

/-- DUMP_START (R425, R426). -/
def execDumpStart (s : State) : Host.Outcome State Fault Refusal := s.run State.dumpStart

/-- DUMP_COMPLETE (R427). -/
def execDumpComplete (sections : List (Nat × List Nat)) (s : State) : Host.Outcome State Fault Refusal := s.run (·.dumpComplete sections)

/-- DUMP_RELEASE (R430). -/
def execDumpRelease (n value : Nat) (s : State) : Host.Outcome State Fault Refusal := s.actOn (decide (n < 32)) .session n (·.dumpRelease n value)

/-- DUMP_ERASE_DONE (R430). -/
def execDumpEraseDone (area : Nat) (s : State) : Host.Outcome State Fault Refusal := s.runOn (decide (area < 3)) .area area (·.dumpEraseDone area)

end Sys2Proof.Machine
end

