-- ==== Sys2Proof/Machine/Update.lean ====
section
/-! DEFINITION. Field update (chapter 16): receiving, verifying and applying containers, the boot check, keys; what ends a flash operation; aborts of flash, apply and dump. -/

namespace Sys2Proof.Machine

/-- Update result codes (R583). -/
def upOK : Nat := 0
def upBAD_FORMAT : Nat := 1
def upWRONG_PART : Nat := 2
def upBAD_LENGTH : Nat := 3
def upKEY_SLOT : Nat := 4
def upKEY_REVOKED : Nat := 5
def upBASE_MISMATCH : Nat := 6
def upAUTH_FAIL : Nat := 7
def upOFFSET : Nat := 8
def upSTAGE_DIRTY : Nat := 9
def upTARGET_DIRTY : Nat := 0xA
def upPATCH_CORRUPT : Nat := 0xB
def upFLASH : Nat := 0xC
def upABORTED : Nat := 0xD
def upHOLDER : Nat := 0xE
def upBUSY : Nat := 0xF
def upGRAVE : Nat := 0x10
def upARCHIVED : Nat := 0x11
def upPROTECTED : Nat := 0x12
def upKEY_IN_USE : Nat := 0x13
def upWRONG_STATE : Nat := 0x14

/-- UpdateStatus:01 (R480). -/
def usERASING : Nat := 1
def usRECEIVING : Nat := 2
def usVERIFYING : Nat := 3
def usVERIFIED : Nat := 4
def usAPPLYING : Nat := 5
def usAPPLIED : Nat := 6
def usREFUSED : Nat := 7
def usINTERRUPTED : Nat := 8

/-- Where staging and the slots lie (R454). -/
def stagingBase : Nat := 0x1800000
def slotBase (u : Nat) : Nat := if u = 0 then 0 else 0xC00000

namespace Block

/-- The state of the update and its session's Result. -/
def updState (b : Block) : Nat := b.rd Obj.UpdateStatus.State
def setUpdState (b : Block) (v : Nat) : Block := (b.wr Obj.UpdateStatus.State v).storeUpdate
def updResult (b : Block) (n v : Nat) : Block := if n < 32 then b.wr (sk n Obj.UpdateControl.Result) v else b

/-- A site key is stored (R467, R481). -/
def hasSiteKey (b : Block) : Bool := (Tab.look [] b.domains (objKey 0x4805 0)).length == 32

/-- A signing key that is not revoked (R471, R474). -/
def keyValid (b : Block) (i : Nat) : Bool := decide (i < 4) && b.rd (Obj.SigningKeys.KeyState i) == 0

/-- Why an operation is refused whatever its State (R478), 0 where it is not; the order is a DESIGN CHOICE (assumption 57). -/
def updRefused (b : Block) (resets : Bool) : Nat :=
  if b.inGrave then upGRAVE
  else if b.archived then upARCHIVED
  else if !resets ∧ 2 ≤ b.rd Obj.HeartwoodProtect.LevelAtReset then upPROTECTED
  else if [usERASING, usVERIFYING, usAPPLYING].contains b.updState then upBUSY
  else upOK

/-- Begin (R470). -/
def updBegin (b : Block) (n : Nat) : Block :=
  let r := b.updRefused false
  if r ≠ upOK then b.updResult n r
  else (({ b with update := { b.update with session := n } }).setUpdState usERASING).updResult n upOK

/-- Verify (R470): in RECEIVING, and in INTERRUPTED (R478). -/
def updVerify (b : Block) (n : Nat) : Block :=
  let r := b.updRefused false
  if r ≠ upOK then b.updResult n r
  else if b.updState ≠ usRECEIVING ∧ b.updState ≠ usINTERRUPTED then b.updResult n upWRONG_STATE
  else (({ b with update := { b.update with session := n } }).setUpdState usVERIFYING).updResult n upOK

/-- The State after an apply that stopped, in which Apply may be written again (R472). -/
def applyStopped (b : Block) : Bool :=
  b.updState == usREFUSED && decide (upTARGET_DIRTY ≤ b.rd Obj.UpdateStatus.Reason) && decide (b.rd Obj.UpdateStatus.Reason ≤ upABORTED)

/-- The checks of R471 over the staged container, but the tag: the first that fails. -/
def containerFault (b : Block) (c : List Nat) (base : List Nat) : Nat :=
  let f (a n : Nat) : Nat := fieldOf c a n
  let len := b.rd Obj.UpdateStatus.BytesReceived
  if f 0 4 ≠ 0x50535545 ∨ f 4 1 ≠ 1 ∨ f 7 1 ≠ 0 ∨ f 11 1 ≠ 0 ∨ f 44 4 ≠ 0 ∨ f 240 16 ≠ 0 then upBAD_FORMAT
  else if f 8 2 ≠ 0x1400 ∨ 0xB1 < f 10 1 then upWRONG_PART
  else if f 20 4 = 0 ∨ 12578816 < f 20 4 ∨ 272 + f 24 4 ≠ len ∨ 8388608 < len then upBAD_LENGTH
  else if !((f 5 1 == 0 && b.rd Obj.UpdatePolicy.SiteKeyRequired == 0) || (f 5 1 == 1 && b.hasSiteKey)) then upKEY_SLOT
  else if !b.keyValid (f 6 1) then upKEY_REVOKED
  else if f 12 4 ≠ fieldOf base 8 4 ∨ (c.drop 48).take 48 ≠ (base.drop 24).take 48 then upBASE_MISMATCH
  else upOK

/-- The checks end (R471). -/
def verifyEnds (b : Block) (reason target : Nat) : Block :=
  let b := b.updResult b.update.session reason
  if reason = upOK then (b.wrs [(Obj.UpdateStatus.Reason, 0), (Obj.UpdateStatus.TargetVersion, target)]).setUpdState usVERIFIED
  else ((b.wr Obj.UpdateStatus.Reason reason).setUpdState usREFUSED).report Src.UPD_REFUSED 0 [reason]

/-- CFG_SHADOW_LEVEL (R476): a level that both images support. -/
def checkShadow (b : Block) (keys : List Nat) : Finding :=
  let v := b.rd Obj.UpdatePolicy.ShadowLevel
  let own := v == b.rd Obj.UpdateStatus.ShadowCompat || (v == b.rd Obj.UpdateStatus.AcceptsShadow && v != 0xFFFF)
  let known := b.rd Obj.UpdateStatus.PartnerShadowCompat != 0xFFFF
  let his := !known || v == b.rd Obj.UpdateStatus.PartnerShadowCompat || (v == b.rd Obj.UpdateStatus.PartnerAcceptsShadow && v != 0xFFFF)
  findIf (keys.contains Obj.UpdatePolicy.ShadowLevel && !(own && his)) [Obj.UpdatePolicy.ShadowLevel]

/-- CFG_UPDATE (R481). -/
def checkUpdate (b old : Block) (keys : List Nat) : Finding :=
  let l := keys.filter (fun k => k == Obj.UpdatePolicy.SiteKeyRequired || k == Obj.UpdatePolicy.TargetSeat)
  let bad := l.filter (fun k => !inRange b k)
  if !bad.isEmpty then some bad
  else findIf (keys.contains Obj.UpdatePolicy.SiteKeyRequired && b.rd Obj.UpdatePolicy.SiteKeyRequired == 1 && !old.hasSiteKey) [Obj.UpdatePolicy.SiteKeyRequired]

/-- RevokeKey (R478, R481): 0x5200 plus the key index. -/
def revokeKey (b : Block) (n value : Nat) : Block :=
  let k := value - 0x5200
  if value < 0x5200 ∨ 4 ≤ k then b
  else if b.archived then b.updResult n upARCHIVED
  else if b.rd (Obj.Slot.SigningKeyIndex (b.rd Obj.UpdateStatus.InService)) = k then b.updResult n upKEY_IN_USE
  else (b.wr (Obj.SigningKeys.KeyState k) 1).updResult n upOK

/-- The update's state at a start (R478, R476): what power cut short, and a level that the booted image does not support. -/
def updateStart (b : Block) : Block :=
  let st := b.updState
  let b := if st = usAPPLYING then (b.wr Obj.UpdateStatus.Reason upABORTED).setUpdState usINTERRUPTED
    else if st = usERASING ∨ st = usVERIFYING ∨ st = usVERIFIED then b.setUpdState usRECEIVING else b
  let v := b.rd Obj.UpdatePolicy.ShadowLevel
  if v = b.rd Obj.UpdateStatus.ShadowCompat ∨ (v = b.rd Obj.UpdateStatus.AcceptsShadow ∧ v ≠ 0xFFFF) then b
  else b.wr Obj.UpdatePolicy.ShadowLevel (b.rd Obj.UpdateStatus.ShadowCompat)

end Block

/-! ### Receiving and applying -/

/-- The staged container's header, and the descriptor of a slot. -/
def State.container (s : State) : List Nat := s.flashBytes stagingBase 256
def State.descriptor (s : State) (u : Nat) : List Nat := s.flashBytes (slotBase u) 172

/-- UPDATE_ERASE_DONE (R470): the 128 sectors of staging. -/
def State.updateErased (s : State) : State :=
  if s.blk.updState ≠ usERASING then s
  else
    let s := { s with flash := s.flash.filter (fun (c : Nat × BitVec 8) => decide (c.1 < stagingBase) || decide (stagingBase + 0x800000 ≤ c.1)) }
    s.mapBlk (fun b => ((b.bump Obj.FlashStatus.Erases 32 128).wr Obj.UpdateStatus.BytesReceived 0).setUpdState usRECEIVING)

/-- UPDATE_DATA (R470). -/
def State.updateData (s : State) (n : Nat) (data : List Nat) (fail : Nat) : State :=
  let off := s.blk.rd (sk n Obj.UpdateWindow.Offset)
  if s.blk.archived then s.mapBlk (·.updResult n upARCHIVED)
  else if s.blk.updState ≠ usRECEIVING then s.mapBlk (·.updResult n upWRONG_STATE)
  else if off % 256 ≠ 0 ∨ 8388608 < off + data.length then s.mapBlk (·.updResult n upOFFSET)
  else
    let r := if fail = 0 then s.programAll (stagingBase + off) data else s.program (stagingBase + off) data fail
    if r.1 = flOK then
      r.2.mapBlk (fun b => (((b.wr Obj.UpdateStatus.BytesReceived (max (b.rd Obj.UpdateStatus.BytesReceived) (off + data.length))).storeUpdate).updResult n upOK))
    else r.2.mapBlk (·.updResult n (if r.1 = flNOT_ERASED then upSTAGE_DIRTY else upFLASH))

/-- UPDATE_VERIFY_DONE (R471): `tagOk` is what AES-GCM finds (assumption 58). -/
def State.verifyDone (s : State) (tagOk : Bool) : State :=
  if s.blk.updState ≠ usVERIFYING then s
  else
    let c := s.container
    let r := s.blk.containerFault c (s.descriptor (s.blk.rd Obj.UpdateStatus.InService))
    s.mapBlk (·.verifyEnds (if r = upOK ∧ !tagOk then upAUTH_FAIL else r) (fieldOf c 16 4))

/-- The State byte of a slot's descriptor is programmed in place (R473). -/
def State.markSlot (s : State) (u v : Nat) : State := (s.program (slotBase u + 5) [v]).2

/-- An apply that stops (R472). -/
def State.applyStop (s : State) (reason : Nat) : State :=
  if s.blk.updState ≠ usAPPLYING then s
  else
    let s := s.markSlot (1 - s.blk.rd Obj.UpdateStatus.InService) 0x1F
    s.mapBlk (fun b => (((b.wr Obj.UpdateStatus.Reason reason).setUpdState usREFUSED).updResult b.update.session reason).report Src.UPD_APPLY_FAILED 0 [reason])

/-- UPDATE_APPLY (R470, R472): the 192 sectors of the target slot are erased. -/
def State.updateApply (s : State) (n : Nat) : State :=
  let b := s.blk
  let r := b.updRefused false
  if r ≠ upOK then s.mapBlk (·.updResult n r)
  else if b.updState ≠ usVERIFIED ∧ b.updState ≠ usAPPLIED ∧ !b.applyStopped then s.mapBlk (·.updResult n upWRONG_STATE)
  else
    let lo := slotBase (1 - b.rd Obj.UpdateStatus.InService)
    let s := { s with flash := s.flash.filter (fun (c : Nat × BitVec 8) => decide (c.1 < lo) || decide (lo + 0xC00000 ≤ c.1)) }
    s.mapBlk (fun b => ((({ b with update := { b.update with session := n } }).bump Obj.FlashStatus.Erases 32 192).wrs
      [(Obj.UpdateStatus.ApplyProgress, 0), (Obj.UpdateStatus.Reason, 0)]).setUpdState usAPPLYING |>.updResult n upOK)

/-- The operations of a payload (R468): the target bytes up to an inconsistent operation, and whether the payload is consistent. -/
def runPatch (base : Nat → Nat) (baseLen target : Nat) : Nat → List Nat → List Nat → List Nat × Bool
  | 0, _, acc => (acc, false)
  | n + 1, p, acc =>
    let op := p.headD 0
    let len := fieldOf p 4 4
    let src := fieldOf p 8 4
    let rest := p.drop 12
    let body := rest.take (if op = 4 then 1 else len)
    let padded := if op = 1 then 0 else if op = 4 then 4 else (len + 3) / 4 * 4
    if p.length < 12 then (acc, false)
    else if op = 0xFF then (acc, len == 0 && src == 0 && acc.length == target && rest.isEmpty)
    else if op = 0 ∨ 4 < op ∨ target < acc.length + len ∨ ((op = 1 ∨ op = 3) ∧ baseLen < src + len) ∨ rest.length < padded then (acc, false)
    else
      let out := match op with
        | 1 => (List.range len).map (fun i => base (src + i))
        | 2 => body
        | 3 => body.mapIdx (fun i v => base (src + i) ^^^ (v % 256))
        | _ => List.replicate len (body.headD 0)
      runPatch base baseLen target n (rest.drop padded) (acc ++ out)

/-- The descriptor of the resulting image (R473). -/
def newDescriptor (c : List Nat) : List Nat :=
  [0x45, 0x55, 0x53, 0x49, 1, 0x7F, 0xFF, 0xFF] ++ (c.drop 16).take 8 ++ (c.drop 8).take 3 ++ (c.drop 6).take 1 ++ (c.drop 28).take 4 ++
    (c.drop 96).take 48 ++ (c.drop 144).take 96 ++ (c.drop 12).take 4

/-- UPDATE_APPLY_DONE (R472): the decrypted payload and what the tag's second pass finds come with the command (assumption 58), and what the
flash answers: 0 programmed, 1 a read-back differs, 2 a page does not finish. -/
def State.applyDone (s : State) (payload : List Nat) (tagOk : Bool) (fail : Nat) : State :=
  if s.blk.updState ≠ usAPPLYING then s
  else
    let c := s.container
    let src := s.blk.rd Obj.UpdateStatus.InService
    let lo := slotBase (1 - src)
    let len := fieldOf (s.descriptor src) 12 4
    let out := runPatch (fun i => Memory.flashByte s.flash (slotBase src + 0x1000 + i)) len (fieldOf c 20 4) (payload.length / 12 + 1) payload []
    let good := out.2 && tagOk
    let bytes := if good then out.1 else out.1.take (out.1.length / 4096 * 4096)
    let r := if fail = 0 then s.programAll (lo + 0x1000) bytes else s.program (lo + 0x1000) (bytes.take 4096) fail
    let s := r.2.mapBlk (·.wr Obj.UpdateStatus.ApplyProgress bytes.length)
    if r.1 = flNOT_ERASED then s.applyStop upTARGET_DIRTY
    else if r.1 ≠ flOK then s.applyStop upFLASH
    else if !good then s.applyStop upPATCH_CORRUPT
    else
      let d := s.program lo (newDescriptor c)
      if d.1 = flNOT_ERASED then d.2.applyStop upTARGET_DIRTY
      else d.2.mapBlk (fun b => (((b.wr Obj.UpdateStatus.NextBoot (1 - src)).setUpdState usAPPLIED).updResult b.update.session upOK).report Src.UPD_APPLIED 0)

/-! ### The boot check (R474) -/

/-- What the check of a slot finds (R474, R480): 0 where it passes; `digest`, `sig` and `unread` say, by bit, what SHA-384, ECDSA and the
read of each slot give (assumption 58). -/
def State.slotCheck (s : State) (u digest sig unread : Nat) : Nat :=
  let d := s.descriptor u
  if bitOf unread u then 6
  else if fieldOf d 0 4 ≠ 0x49535545 ∨ fieldOf d 4 1 ≠ 1 ∨ (fieldOf d 5 1 ≠ 0x7F ∧ fieldOf d 5 1 ≠ 0x3F) then 1
  else if fieldOf d 16 2 ≠ 0x1400 ∨ 0xB1 < fieldOf d 18 1 then 2
  else if !s.blk.keyValid (fieldOf d 19 1) then 3
  else if !bitOf digest u then 4
  else if !bitOf sig u then 5
  else 0

/-- The objects of a slot, read from its descriptor (R481). -/
def State.showSlot (s : State) (u check : Nat) : State :=
  let d := s.descriptor u
  s.mapBlk (·.wrs [(Obj.Slot.State u, fieldOf d 5 1), (Obj.Slot.Version u, fieldOf d 8 4), (Obj.Slot.Length u, fieldOf d 12 4),
    (Obj.Slot.ShadowCompat u, fieldOf d 20 2), (Obj.Slot.AcceptsShadow u, fieldOf d 22 2), (Obj.Slot.SigningKeyIndex u, fieldOf d 19 1),
    (Obj.Slot.LastCheck u, check)])

/-- No usable flash, or no image that passes (R561): FAULT_N low, TOKEN_OUT NOT_READY, every interface at high impedance. -/
def Block.bootHalt (b : Block) : Block :=
  let b := b.wrs [(Obj.RedundancyStatus.Role, 0), (Obj.RedundancyStatus.Readiness, rdALONE)]
  { b with masks := { b.masks with silent := true }, faults := { b.faults with lrsFault := true }, aon := { b.aon with phase := 8, noImage := true } }

/-- The image in service runs: its values are those of its descriptor. -/
def State.bootSlot (s : State) (u us : Nat) : State :=
  let d := s.descriptor u
  s.mapBlk (fun b => (({ b with aon := { b.aon with phase := 5 } }).wrs
    [(Obj.StartupStatus.BootDone, us), (Obj.UpdateStatus.ImageVersion, fieldOf d 8 4), (Obj.UpdateStatus.ShadowCompat, fieldOf d 20 2), (Obj.UpdateStatus.AcceptsShadow, fieldOf d 22 2),
     (Obj.UpdateStatus.NextBoot, b.rd Obj.UpdateStatus.InService)]).storeUpdate)

/-- BOOT_CHECK (R474): with the recall complete and the flash ready. -/
def State.bootCheck (s : State) (digest sig unread us : Nat) : State :=
  if s.blk.aon.phase ≠ 4 ∨ s.blk.rd Obj.HeartwoodStatus.RecallState = 0 ∨ !s.blk.flashReady then s
  else
    let s := s.mapBlk (·.loadSet 9)
    let now := s.blk.rd Obj.UpdateStatus.InService
    let next := s.blk.rd Obj.UpdateStatus.NextBoot
    let cand := if fieldOf (s.descriptor next) 5 1 = 0x7F then next else now
    let c0 := s.slotCheck 0 digest sig unread
    let c1 := s.slotCheck 1 digest sig unread
    let s := (s.showSlot 0 c0).showSlot 1 c1
    let chk (u : Nat) : Nat := if u = 0 then c0 else c1
    let s := s.mapBlk (·.wr Obj.UpdateStatus.LastBootResult (chk cand))
    if chk cand = 0 then
      let s := if cand = now then s
        else ((s.markSlot cand 0x3F).mapBlk (fun b => (b.wr Obj.UpdateStatus.InService cand).report Src.UPD_BOOT_OK 0)).showSlot cand 0
      s.bootSlot cand us
    else
      let s := (s.markSlot cand 0x0F).mapBlk (fun b => (b.bump Obj.UpdateStatus.Fallbacks).report Src.UPD_BOOT_FALLBACK 0 [chk cand])
      if cand ≠ now ∧ chk now = 0 then s.bootSlot now us
      else s.mapBlk (fun b => ((b.wr Obj.UpdateStatus.NextBoot now).storeUpdate).bootHalt)

/-! ### What ends a flash operation (R456, R457) -/

/-- The owners act on the status of their operation. -/
def State.flashReact (s : State) (r : FlashReq) (st : Nat) : State :=
  if r.kind ≠ 3 ∨ st = flOK then s
  else match r.owner with
    | 1 => if st = flNOT_ERASED then s.dumpRetarget else s
    | 3 =>
      if s.blk.updState = usAPPLYING then s.applyStop (if st = flNOT_ERASED then upTARGET_DIRTY else upFLASH)
      else s.mapBlk (fun b => b.updResult b.update.session (if st = flNOT_ERASED then upSTAGE_DIRTY else upFLASH))
    | 4 =>
      let i := (r.addr - 0x3000000) / 65536
      if st ≠ flNOT_ERASED then s
      else if s.blk.rings.batchRetry then s.mapBlk (·.sectorBad i)
      else ((s.mapBlk (·.archiveGone i)).erase (768 + i)).mapBlk (fun b => { b with rings := { b.rings with batchRetry := true } })
    | _ => s

/-- FLASH_OP_DONE: the operation in progress ends, and the next is taken. -/
def State.flashOpDone (s : State) (fail : Nat) : State :=
  match s.blk.flashMan.cur with
  | none => s
  | some r =>
    let e := s.flashPerform r fail
    (e.2.flashReact r e.1).mapBlk (fun b => ({ b with flashMan := { b.flashMan with cur := none } }).flashNext)

/-! ### Aborts (R459, R472, R426, R511–R513) -/

/-- An abort is addressed to a function: those that wait for it are answered, or session n is. -/
def State.abortRun (s : State) (n kind target : Nat) (running : Bool) (eff : State → State) : State :=
  let waits := s.blk.sessions.any (fun (e : Nat × Session) => match e.2.abort with | some (k, t, _) => k == kind && t == target | none => false)
  let s := if running then eff s else s
  if waits then s.mapBlk (·.abortEnds kind target (if running then 0 else 2)) else s.mapBlk (·.abortAnswer n (if running then 0 else 1))

/-- The flash manager has work. -/
def Block.flashBusy (b : Block) : Bool := b.flashMan.cur.isSome || !b.flashMan.queue.isEmpty || b.flashMan.suspended.isSome

/-- What an abort of the flash manager leaves its owners (R459, R460): a dump is PARTIAL, an apply stops, an erase of staging is given up. -/
def State.flashOwnersAborted (s : State) : State :=
  let s := s.mapBlk (fun b => if b.dump.area.isSome ∧ b.dump.area ≠ some 2 then b.dumpPartial else b)
  let s := s.applyStop upABORTED
  s.mapBlk (fun b => if b.updState = usERASING then b.setUpdState 0 else b)

/-! ### Commands -/

/-- FLASH_OP_DONE (R456). -/
def execFlashOpDone (fail : Nat) (s : State) : Host.Outcome State Fault Refusal := s.run (·.flashOpDone fail)

/-- FLASH_PROBE_DONE (R453, R561). -/
def execFlashProbeDone (answers suits : Bool) (jedec density mode clock : Nat) (s : State) : Host.Outcome State Fault Refusal :=
  s.act (fun b =>
    let b := b.probeDone answers suits jedec density mode clock
    if b.flashReady || b.rd Obj.FlashStatus.DeviceState == 0 then b else b.bootHalt)

/-- BOOT_CHECK (R474). -/
def execBootCheck (digest sig unread us : Nat) (s : State) : Host.Outcome State Fault Refusal := s.run (·.bootCheck digest sig unread us)

/-- UPDATE_BEGIN (R470). -/
def execUpdateBegin (n : Nat) (s : State) : Host.Outcome State Fault Refusal := s.actOn (decide (n < 32)) .session n (·.updBegin n)

/-- UPDATE_ERASE_DONE (R470). -/
def execUpdateEraseDone (s : State) : Host.Outcome State Fault Refusal := s.run State.updateErased

/-- UPDATE_DATA (R470). -/
def execUpdateData (n : Nat) (data : List Nat) (fail : Nat) (s : State) : Host.Outcome State Fault Refusal :=
  s.runOn (decide (n < 32)) .session n (·.updateData n data fail)

/-- UPDATE_VERIFY (R470). -/
def execUpdateVerify (n : Nat) (s : State) : Host.Outcome State Fault Refusal := s.actOn (decide (n < 32)) .session n (·.updVerify n)

/-- UPDATE_VERIFY_DONE (R471). -/
def execUpdateVerifyDone (tagOk : Bool) (s : State) : Host.Outcome State Fault Refusal := s.run (·.verifyDone tagOk)

/-- UPDATE_APPLY (R472). -/
def execUpdateApply (n : Nat) (s : State) : Host.Outcome State Fault Refusal := s.runOn (decide (n < 32)) .session n (·.updateApply n)

/-- UPDATE_APPLY_DONE (R472). -/
def execUpdateApplyDone (payload : List Nat) (tagOk : Bool) (fail : Nat) (s : State) : Host.Outcome State Fault Refusal :=
  s.run (·.applyDone payload tagOk fail)

/-- REVOKE_KEY (R481). -/
def execRevokeKey (n value : Nat) (s : State) : Host.Outcome State Fault Refusal := s.actOn (decide (n < 32)) .session n (·.revokeKey n value)

/-- ABORT_FLASH (R459): `pages` of the program in progress complete. -/
def execAbortFlash (n pages : Nat) (s : State) : Host.Outcome State Fault Refusal :=
  s.runOn (decide (n < 32)) .session n (fun s =>
    s.abortRun n 4 0 (s.blk.flashBusy || (s.blk.dump.area.isSome && s.blk.dump.area != some 2) || s.blk.flashWritten) (fun s => (s.flashAbort pages).flashOwnersAborted))

/-- ABORT_APPLY (R472). -/
def execAbortApply (n : Nat) (s : State) : Host.Outcome State Fault Refusal :=
  s.runOn (decide (n < 32)) .session n (fun s => s.abortRun n 5 0 (s.blk.updState == usAPPLYING) (·.applyStop upABORTED))

/-- ABORT_DUMP (R426). -/
def execAbortDump (n : Nat) (s : State) : Host.Outcome State Fault Refusal :=
  s.runOn (decide (n < 32)) .session n (fun s => s.abortRun n 6 0 (s.blk.dump.area.isSome || s.blk.dump.due.isSome) (·.mapBlk Block.dumpPartial))

end Sys2Proof.Machine
end

