-- ==== Sys2Proof/Machine/Reactions.lean ====
section
/-! DEFINITION. Reactions, GRAVE and the last-resort sequencer (R341–R349, R354–R357), and what the partner passes on of roots and of its state. -/

namespace Sys2Proof.Machine

/-- What a reaction acts on: ports, groups, feeds and sequences. -/
structure Targets where
  ports : List Nat := []
  groups : List Nat := []
  feeds : List Nat := []
  seqs : List Nat := []
  deriving DecidableEq, Repr

namespace Block

/-! ### The units of an instance (R341) -/

/-- A port that has trained its head: one without a head has nothing to act on (DEDUCED, assumption 60). -/
def headPort (b : Block) (p : Nat) : Bool := b.classOf p != 0 && b.trained p

/-- The ports, groups and feeds that an instance stands for. -/
def portsOf (b : Block) (scope i : Nat) : List Nat :=
  (if scope = 1 then [i] else if scope = 2 then (b.feedPort i).toList else []).filter b.headPort
def groupsOf (b : Block) (scope i : Nat) : List Nat :=
  (match scope with
  | 1 => if b.classOf i = 0 then [] else [b.groupOf i]
  | 2 => (b.feedGroup i).toList
  | 3 => [i]
  | 4 => (b.stringGroup i).toList
  | _ => []).filter (fun g => !(b.groupPorts g).isEmpty)
def feedsOf (b : Block) (scope i : Nat) : List Nat :=
  match scope with
  | 1 => if b.classOf i = 4 then [b.memberOf i] else []
  | 2 => if (b.feedPort i).isSome then [i] else []
  | 3 => b.groupFeeds i
  | _ => []

/-- The sequences that hold a unit. -/
def seqsHolding (b : Block) (kind u : Nat) : List Nat :=
  (List.range 16).filter (fun q => (b.seqMembers q 0 b.onSlot).any (fun m => m.kind == kind && m.unit == u))
def seqsOf (b : Block) (scope i : Nat) : List Nat :=
  match scope with
  | 1 => if b.classOf i = 4 then b.seqsHolding kdFEED (b.memberOf i) else (b.groupsOf 1 i).flatMap (b.seqsHolding kdGROUP)
  | 2 => b.seqsHolding kdFEED i
  | 3 => b.seqsHolding kdGROUP i
  | 5 => if b.sequenceUsed i then [i] else []
  | _ => []

/-- The targets of a reaction, from instances of a scope. -/
def targetsOf (b : Block) (x scope : Nat) (is : List Nat) : Targets :=
  let sort (l : List Nat) : List Nat := (l.foldl (fun s v => if s.contains v then s else insertNat v s) [])
  if x ≤ rxPORT_RESET then { ports := sort (is.flatMap (b.portsOf scope)) }
  else if x = rxGROUP_HALT then { groups := sort (is.flatMap (b.groupsOf scope)) }
  else if x ≤ rxFEED_LOCKOUT then { feeds := sort (is.flatMap (b.feedsOf scope)) }
  else if x = rxSEQ_DOWN then { seqs := sort (is.flatMap (b.seqsOf scope)) }
  else {}

/-- The targets of a root's reaction: for a root of controller scope, the rule's target (R341). -/
def rootTargets (b : Block) (r : Root) (is : List Nat) : Targets :=
  if r.scope = 0 then b.targetsOf r.reaction (b.rd (Obj.ReactionRule.TargetKind r.rule)) [b.rd (Obj.ReactionRule.TargetIndex r.rule)]
  else b.targetsOf r.reaction r.scope is

/-- A reaction finds no unit. -/
def noTarget (x : Nat) (t : Targets) : Bool := decide (x ≤ rxSEQ_DOWN) && t.ports.isEmpty && t.groups.isEmpty && t.feeds.isEmpty && t.seqs.isEmpty

/-! ### The actions (R341, R342, R345) -/

/-- PORT_FAIL. -/
def reactPortFail (b : Block) (mark p : Nat) : Block :=
  if b.portState p = psFAILED then b
  else
    let b := if b.classOf p = 4 then b.feedOpenAct (b.memberOf p) else b
    let b := b.portFail p
    { b with faults := { b.faults with failedBy := b.faults.failedBy ++ [p * 131072 + mark] } }

/-- A group halts. -/
def reactHalt (b : Block) (mark g : Nat) : Block :=
  if b.groupState g = gsHALTED then b
  else
    let b := b.groupStop g gsHALTED
    { b with faults := { b.faults with haltedBy := b.faults.haltedBy ++ [g * 131072 + mark] } }

/-- The reaction's tick: the tick whose state it enters. -/
def nextTickStamp (b : Block) : Stamp :=
  let k := b.glade.tick + 1
  if k < b.glade.nt then ⟨b.glade.epoch, b.glade.cycle, tickStart b.glade.nt k⟩
  else let n := nextCycle b.glade.epoch b.glade.cycle; ⟨n.1, n.2, 0⟩

/-- LRS operations of the last trigger (R365). -/
def lrsOperation (b : Block) (n : Nat) : Block := b.wr Obj.LrsStatus.LastOperations (putBit (b.rd Obj.LrsStatus.LastOperations) n true)

/-- RACK_SAFE: SAFE_BCAST through the last-resort sequencer, every feed opens, every group halts, hold-up stops. -/
def reactRackSafe (b : Block) (mark : Nat) : Block :=
  let b := (if b.isHolder then b.safeBcast else b).lrsOperation 2
  let b := b.feeds.foldl feedOpenAct b
  (b.groups.foldl (fun b g => b.reactHalt mark g) b).wr Obj.HoldupStatus.State huSTOPPED

/-- A reaction acts on its targets. -/
def react (b : Block) (r : Root) (t : Targets) : Block :=
  let mark := rootMark r.seat r.number
  let at_ := b.nextTickStamp
  match r.reaction with
  | 1 => t.ports.foldl (fun b p => b.reactPortFail mark p) b
  | 2 => t.ports.foldl (fun b p => b.fireShot p osSAFE) b
  | 3 => t.ports.foldl (fun b p => b.fireShot p osLATCH_RESET) b
  | 4 => t.groups.foldl (fun b g => b.reactHalt mark g) b
  | 5 => t.feeds.foldl feedOpenAct b
  | 6 => t.feeds.foldl feedLockout b
  | 7 => t.seqs.foldl (fun b q => b.seqDown q at_.epoch at_.cycle at_.angle) b
  | 8 => b.rackDown r.src
  | 9 => b.reactRackSafe mark
  | 0xA => if r.seat = b.seat then b.yieldToken 1 else b
  | _ => b

/-! ### The firebreak (R348) -/

/-- Keys of the units of some groups: the groups, their ports, strings and, where asked, their feeds with their ports. -/
def groupUnits (b : Block) (gs : List Nat) (withFeeds : Bool) : List Nat :=
  gs.flatMap (fun g =>
    [instKey 3 g] ++ (b.groupPorts g).map (instKey 1) ++ (match b.groupString g with | some n => [instKey 4 n] | none => []) ++
      (if withFeeds then (b.groupFeeds g).flatMap (fun f => [instKey 2 f] ++ (b.feedPort f).toList.map (instKey 1)) else []))

/-- Keys of the sequences and slot entries that hold some feeds and groups. -/
def holderUnits (b : Block) (fs gs : List Nat) : List Nat :=
  (List.range 16).flatMap (fun q =>
    let l := (b.seqMembers q 0 b.onSlot).filter (fun m => if m.kind = kdFEED then fs.contains m.unit else gs.contains m.unit)
    match l with
    | [] => []
    | _ => instKey 5 q :: l.map (fun m => instKey 9 m.entry))

/-- The scope of a reaction's window; what the table leaves open is read so that each expected source can be met (DEDUCED, assumption 60). -/
def firebreakUnits (b : Block) (x : Nat) (t : Targets) : List Nat :=
  if x ≤ rxPORT_RESET then
    let gs := (t.ports.map b.groupOf).filter (fun g => decide (g < 64))
    t.ports.flatMap (fun p => [instKey 16 p, instKey 1 p]) ++ b.groupUnits gs true
  else if x = rxGROUP_HALT then b.groupUnits t.groups true ++ b.holderUnits (t.groups.flatMap b.groupFeeds) t.groups
  else if x ≤ rxFEED_LOCKOUT then
    let gs := t.feeds.flatMap (fun f => (b.feedGroup f).toList)
    t.feeds.map (instKey 2) ++ t.feeds.flatMap (fun f => (b.feedPort f).toList.map (instKey 1)) ++ b.groupUnits gs false ++ b.holderUnits t.feeds gs
  else if x = rxSEQ_DOWN then
    t.seqs.flatMap (fun q => (instKey 5 q :: (b.seqEntries q).map (instKey 9)) ++ (b.seqMembers q 0 b.onSlot).flatMap (fun m =>
      if m.kind = kdFEED then instKey 2 m.unit :: (b.feedPort m.unit).toList.map (instKey 1) else b.groupUnits [m.unit] false))
  else []

/-- The window opens when the reaction executes; an instance that joined later widens it (R338). -/
def openFirebreak (b : Block) (r : Root) (t : Targets) (late : Bool) : Block :=
  let len := b.rd (objKey 0x4003 r.reaction)
  let us := b.firebreakUnits r.reaction t
  let f := b.faults
  if late then
    let widen (w : Firebreak) : Firebreak :=
      if w.root = r.number ∧ w.seat = r.seat then { w with units := w.units ++ us.filter (fun u => !w.units.contains u) } else w
    { b with faults := { f with firebreaks := f.firebreaks.map widen } }
  else if len = 0 ∨ r.reaction = 0 then b
  else
    let at_ := b.glade.ticks + 1
    { b with faults := { f with firebreaks := f.firebreaks ++
      [(⟨r.seat, r.number, r.reaction, at_, at_ + len, us, []⟩ : Firebreak)] } }

/-- A root's reaction executes for some instances (R341, R343, R345). -/
def executeRoot (b : Block) (r : Root) (is : List Nat) (late : Bool) : Block :=
  let t := b.rootTargets r is
  if noTarget r.reaction t then b.report Src.REACTION_NO_TARGET 0 [r.number, r.reaction]
  else (b.react r t).openFirebreak r t late

/-- A root changes wherever it is kept: in the tables, among those carried over from the former holder, in the copy of the partner's table. -/
def markRoot (b : Block) (seat n : Nat) (f : Root → Root) : Block :=
  let g (r : Root) : Root := if r.number = n then f r else r
  if seat = b.seat then b.modRoot n f
  else { b with faults := { b.faults with carried := b.faults.carried.map g, partnerRoots := b.faults.partnerRoots.map g } }

/-- A carried root is decided at its original boundary (R346). -/
def decideCarried (b : Block) (r : Root) : Block :=
  if r.outcome = roPENDING ∧ r.acts.isNone ∧ r.decideAt ≤ b.glade.ticks ∧ b.isHolder then
    let cond := (sourceRow r.src).condition
    let l := r.instances.filter (fun i => !cond || b.isPresent r.src i)
    b.markRoot r.seat r.number (fun r => { r with acts := some l, decided := b.now, outcome := if l.isEmpty then roLAPSED else roPENDING })
  else b

/-- The roots that are decided and not yet executed: own, carried, and the holder's on a standby. -/
def decidedRoots (b : Block) : List Root :=
  let due (r : Root) : Bool := r.outcome == roPENDING && r.acts.isSome
  (b.liveRoots ++ (if b.isHolder then b.faults.carried else b.faults.partnerRoots)).filter due

/-- Roots in ascending number. -/
def byNumber (l : List Root) : List Root :=
  let place (s : List Root) (r : Root) : List Root := s.takeWhile (fun x => decide (x.number ≤ r.number)) ++ r :: s.dropWhile (fun x => decide (x.number ≤ r.number))
  l.foldl place []

/-- REACTION_DECIDE (R343, R345, R346, R338): the roots decided at the boundary that opened this tick, in ascending number, then the instances
that joined executed roots. -/
def reactionDecide (b : Block) : Block :=
  if b.inGrave then b
  else
    let b := b.faults.carried.foldl decideCarried b
    let b := (byNumber b.decidedRoots).foldl (fun b r =>
      (b.executeRoot r (r.acts.getD []) false).markRoot r.seat r.number (fun r => { r with outcome := roEXECUTED })) b
    let joined := b.faults.late
    let b := { b with faults := { b.faults with late := [] } }
    joined.foldl (fun b k =>
      match b.root? (k / 65536) with
      | some r => b.executeRoot r [k % 65536] true
      | none => b) b

/-! ### GRAVE (R354–R357) -/

/-- The operations of a new trigger. -/
def lrsTrigger (b : Block) (src : Nat) : Block :=
  b.wrs [(Obj.LrsStatus.LastTrigger, src), (Obj.LrsStatus.LastEpoch, b.glade.epoch), (Obj.LrsStatus.LastCycle, b.glade.cycle),
    (Obj.LrsStatus.LastOperations, 0)]

/-- A pending reaction of this controller is dropped. -/
def dropPending (b : Block) : Block :=
  let drop (r : Root) : Root := if r.outcome = roPENDING then { r with outcome := roDROPPED } else r
  { b with faults := { b.faults with roots := b.faults.roots.map drop, untabled := b.faults.untabled.map drop, carried := [], late := [] } }

/-- The supervisors can still write the dump: not after they are wedged, nor on crowbarred rails (R425, R356). -/
def dumpAble (src : Nat) : Bool := src != Src.SUPERVISOR_WEDGED && src != Src.SUPERVISOR_LOCKSTEP && src != Src.RAIL_OV

/-- GRAVE_ENTER (R356): for the C3 root created or the trigger detected. -/
def graveEnter (b : Block) : Block :=
  match b.faults.gravePending with
  | none => b
  | some src =>
    if b.inGrave then { b with faults := { b.faults with gravePending := none } }
    else
      let root := (b.liveRoots.filter (fun (r : Root) => r.src == src)).getLast?
      let stamp := (root.map Root.stamp).getD b.now
      let held := b.isHolder
      let b := b.lrsTrigger src
      let b := { b with
        faults := { b.faults with lrsFault := true, grave := true, graveSrc := src, graveStamp := stamp, gravePending := none }
        aon := { b.aon with graveTick := some b.glade.ticks } }
      let b := b.lrsOperation 0
      let b := if held then ((b.releaseToken.bump Obj.RedundancyStatus.Yields).report Src.YIELDED 0 [4]).lrsOperation 1
        else b.endRun.wr Obj.RedundancyStatus.Readiness rdBARRED
      let b := if held ∧ b.tokenIn ≠ tkREADY then b.safeBcast.lrsOperation 2 else b
      let b := (b.flushAll.lrsOperation 3).dropPending
      let b := { b.syncOutStop with masks := { b.masks with silent := true } }
      let b := b.faultCounts
      if dumpAble src then
        let g := (root.map Root.gen).getD (b.rd Obj.EventOrder.Generation)
        let q := (root.map Root.seq).getD (b.rd Obj.EventOrder.EventSequence)
        let d : Dump := { due := some src, cause := src, gen := g, seq := q, stamp := stamp }
        { b with dump := d }
      else b

/-- A trigger that the last-resort sequencer detects itself (R354): its source is raised, and GRAVE follows. -/
def lrsDetect (b : Block) (src : Nat) : Block :=
  let b := b.report src 0
  if b.inGrave then b else { b with faults := { b.faults with gravePending := some src } }

/-! ### ROOT and BULK messages (R346, R350, R394) -/

/-- The copy of the partner's table changes. -/
def modPartnerRoot (b : Block) (n : Nat) (f : Root → Root) : Block :=
  { b with faults := { b.faults with partnerRoots := b.faults.partnerRoots.map (fun (r : Root) => if r.number = n then f r else r) } }

/-- A root of the partner's ends: its units are held by it no longer. -/
def partnerCleared (b : Block) (n : Nat) : Block :=
  let keep (k : Nat) : Bool := k % 131072 != rootMark b.otherSeat n
  let f := b.faults
  { b with faults := { f with partnerRoots := f.partnerRoots.filter (fun r => r.number != n), failedBy := f.failedBy.filter keep, haltedBy := f.haltedBy.filter keep } }

/-- A write to FaultControl that the partner passes on. -/
def passedOn (b : Block) (op n : Nat) : Block :=
  if op = 6 then b.stickyOff
  else if op = 4 ∨ op = 5 then { b with faults := { b.faults with commands := b.faults.commands ++ [(⟨0xFF, op, 0⟩ : FaultCmd)] } }
  else b.ownRootWrite 0xFF op n

/-- What a ROOT message says (R346): 0 a root (its instances, detail and the ticks to its decision), 1 acknowledged, 2 withheld, 3 cleared,
4 every C1 and C2 root acknowledged, 5 decided or joined with the instances acted on, 8 a write to FaultControl passed on, 9 the cause of
a head's safe state (R610), 10 a CfgWriteResult (R155). -/
def partnerRoot (b : Block) (op n src cls scope rule reaction left : Nat) (insts : List Nat) (detail : List Int) : Block :=
  match op with
  | 0 =>
    let out := if reaction = 0 ∨ b.isHolder then roNONE else roPENDING
    let base : Root := { number := n, src, configured := cls, cls, instances := insts, stamp := b.now, gen := b.pair.gen, seq := b.rd Obj.EventOrder.PartnerSequence }
    let r : Root := { base with rule, reaction, outcome := out, decideAt := b.glade.ticks + left, seat := b.otherSeat, scope, detail }
    let rest := b.faults.partnerRoots.filter (fun x => x.number != n)
    { b with faults := { b.faults with partnerRoots := rest ++ [{ r with entry := freeEntry rest }] } }
  | 1 => b.modPartnerRoot n (fun r => { r with acknowledged := true })
  | 2 => b.modPartnerRoot n (fun r => { r with acknowledged := true, withheld := true, outcome := if r.outcome = roPENDING then roWITHHELD else r.outcome })
  | 3 => b.partnerCleared n
  | 4 => { b with faults := { b.faults with partnerRoots := b.faults.partnerRoots.map (fun (r : Root) => if r.cls = 3 then r else { r with acknowledged := true }) } }
  | 5 => b.modPartnerRoot n (fun r => { r with acts := some insts, decided := b.now, outcome := if insts.isEmpty then roLAPSED else roPENDING })
  | 8 => b.passedOn src n
  | 9 => if n < 512 then b.modPort n (fun x => { x with causeWanted := false, causeNext := some src }) else b
  | 10 => if n < 512 then b.wr (Obj.PortRecord.CfgWriteResult n) src else b
  | _ => b

/-- The carry state of a record (R381, R394): what it keeps from tick to tick beside its objects, in an order of the model's own (assumption 61). -/
def installCarry (b : Block) (key : Nat) (c : List Int) : Block :=
  let u := key % 65536
  let v (i : Nat) : Int := c.getD i 0
  let n (i : Nat) : Nat := (v i).toNat
  match key / 65536 with
  | 1 => b.modPort u (fun x => { x with lastD := v 0, trim := v 1, tag := n 2, runTicks := n 3, stale := n 4, cmd := [n 5, n 6, n 7, n 8] })
  | 2 => b.setFeed u { b.feed u with acc := n 0, timer := n 1, inOk := n 2, inBad := n 3, closeAt := n 4, closedAt := n 5 }
  | 3 => b.setGroup u { b.group u with veff := v 0, iint := v 1, ig := v 2, fb := v 3, stale := n 4, low := n 5 }
  | 4 => b.setBat u { b.bat u with q := n 0, cap := n 1, dq := v 2, limitBus := v 3, taper := n 4, rest := n 5 }
  | _ => b

/-- The partner's shadow levels (R477): a joining controller runs the holder's level if its image supports it, or stays DIVERGED. -/
def shadowLevels (b : Block) (compat accepts level : Nat) : Block :=
  let b := b.wrs [(Obj.UpdateStatus.PartnerShadowCompat, compat), (Obj.UpdateStatus.PartnerAcceptsShadow, accepts)]
  if b.isHolder then b
  else if level = b.rd Obj.UpdateStatus.ShadowCompat ∨ level = b.rd Obj.UpdateStatus.AcceptsShadow then b.wr Obj.UpdatePolicy.ShadowLevel level
  else
    let b := (b.wrs [(Obj.RedundancyStatus.Readiness, rdDIVERGED), (Obj.RedundancyStatus.ResyncPhase, 0)]).report Src.UPD_SHADOW_INCOMPATIBLE 0 [level]
    b.modPair (fun x => { x with resync := 0 })

/-- What a BULK message installs (R394): 0 objects, 1 a record with its carry state, which is shadowed again, 2 shadow levels,
3 an accepted bundle (unit is its sequence). -/
def partnerBulk (b : Block) (kind unit : Nat) (vals : List (Nat × Nat)) (carry : List Int) (writes : List (Nat × List Nat)) : Block :=
  if kind = 2 then b.shadowLevels (vals.getD 0 (0, 0)).2 (vals.getD 1 (0, 0)).2 (vals.getD 2 (0, 0)).2
  else if b.isHolder then b
  else
    let b := b.wrs vals
    match kind with
    | 1 => (b.installCarry unit carry).reshadow unit
    | 3 => { b with canopy := { b.canopy with bundles := b.canopy.bundles.filter (fun x => x.seq != unit) ++
        [(⟨unit, 0xFF, (vals.headD (0, 0)).1, (vals.headD (0, 0)).2, writes, true⟩ : Bundle)] } }
    | _ => b.overlay writes

end Block

/-- REACTION_DECIDE (R343). -/
def execReactionDecide (s : State) : Host.Outcome State Fault Refusal := s.act Block.reactionDecide

/-- GRAVE_ENTER (R356). -/
def execGraveEnter (s : State) : Host.Outcome State Fault Refusal := s.act Block.graveEnter

/-- COLLECTOR_WEDGED (R354). -/
def execCollectorWedged (s : State) : Host.Outcome State Fault Refusal := s.act (·.lrsDetect Src.COLLECTOR_WEDGED)

/-- SUPERVISOR_WEDGED (R354). -/
def execSupervisorWedged (s : State) : Host.Outcome State Fault Refusal := s.act (·.lrsDetect Src.SUPERVISOR_WEDGED)

/-- SUPERVISOR_LOCKSTEP (R354). -/
def execSupervisorLockstep (s : State) : Host.Outcome State Fault Refusal := s.act (·.lrsDetect Src.SUPERVISOR_LOCKSTEP)

/-- STAND_WEDGED (R354). -/
def execStandWedged (stand : Nat) (s : State) : Host.Outcome State Fault Refusal :=
  s.actOn (decide (stand < 16)) .area stand (·.lrsDetect Src.STAND_WEDGED)

/-- PARTNER_ROOT (R346). -/
def execPartnerRoot (lane mseq : Nat) (crcOk late : Bool) (op number src cls scope rule reaction left : Nat) (insts : List Nat) (detail : List Int)
    (s : State) : Host.Outcome State Fault Refusal :=
  s.actOn (decide (lane < 2)) .lan lane (fun b => b.arrive lane mseq crcOk (Block.inTime late
    (·.partnerRoot op number src cls scope rule reaction left insts detail)))

/-- PARTNER_BULK (R394, R381, R477). -/
def execPartnerBulk (lane mseq : Nat) (crcOk : Bool) (kind unit : Nat) (vals : List (Nat × Nat)) (carry : List Int) (writes : List (Nat × List Nat))
    (s : State) : Host.Outcome State Fault Refusal :=
  s.actOn (decide (lane < 2)) .lan lane (fun b => b.arrive lane mseq crcOk (·.partnerBulk kind unit vals carry writes))

end Sys2Proof.Machine
end

