-- ==== Sys2Proof/Machine/TwoWire.lean ====
section
/-! DEFINITION. The two-wire controller ports TW1–TW3 (R517–R519, R529–R532), pack authentication on them (R263), and the checks of R536. -/

namespace Sys2Proof.Machine

/-- Outcomes of a transaction (R535). -/
def twOK : Nat := 0
def twNACK_ADDRESS : Nat := 1
def twNACK_DATA : Nat := 2
def twPEC_ERROR : Nat := 3
def twARB_FAIL : Nat := 4
def twTIMEOUT : Nat := 5
def twBUS_STUCK : Nat := 6
def twRESERVED_ADDRESS : Nat := 7
def twBUSY : Nat := 8
def twPENDING : Nat := 9
def twBAD_REQUEST : Nat := 0xA

/-- BusState (R535). -/
def bsIDLE : Nat := 0
def bsBUSY : Nat := 1
def bsSTUCK_SCL : Nat := 2
def bsSTUCK_SDA : Nat := 3

namespace Block

/-- A controller port. -/
def twPort (b : Block) (k : Nat) : TwPort := Tab.look {} b.tw.ports k
def setTwPort (b : Block) (k : Nat) (x : TwPort) : Block := { b with tw := { b.tw with ports := Tab.put {} b.tw.ports k x } }

/-- A line of the port is stuck (R519). -/
def twStuck (b : Block) (k : Nat) : Bool := decide (bsSTUCK_SCL ≤ b.rd (Obj.TwPortStatus.BusState k))

/-- BusState follows the transaction in progress. -/
def showBus (b : Block) (k : Nat) : Block :=
  if b.twStuck k then b else b.wr (Obj.TwPortStatus.BusState k) (if (b.twPort k).cur.isSome then bsBUSY else bsIDLE)

/-- A session's Result (R535). -/
def twResult (b : Block) (n code : Nat) (data : List Nat := []) : Block :=
  if n < 32 then { b with tw := { b.tw with results := Tab.set b.tw.results n ([code, data.length] ++ data) } } else b

/-- A pack authentication is due on the port, and goes first (R529). -/
def authWaits (b : Block) (k : Nat) : Bool :=
  (List.range 16).any (fun n => b.rd (Obj.StringRecord.AuthPort n) == k && [2, 4, 5].contains (b.bat n).auth)

/-- The next waiting transaction starts (R529). -/
def twNext (b : Block) (k : Nat) : Block :=
  let x := b.twPort k
  if x.cur.isSome || b.twStuck k || b.authWaits k then b.showBus k
  else match x.queue with
    | [] => b.showBus k
    | r :: rest => (b.setTwPort k { x with cur := some r, queue := rest, lost := false }).showBus k

/-- An address of a string's authenticator on a port (R532). -/
def packAddress (b : Block) (k a : Nat) : Bool :=
  (List.range 16).any (fun n => b.rd (Obj.StringRecord.AuthPort n) == k && b.rd (Obj.StringRecord.AuthAddress n) == a)

/-- The session has a transaction pending. -/
def twPending (b : Block) (n : Nat) : Bool :=
  b.tw.ports.any (fun (e : Nat × TwPort) => e.2.cur.any (fun r => r.session == n) || e.2.queue.any (fun r => r.session == n))

/-- A host's transaction (R532). -/
def twRequest (b : Block) (n k addr kind cmd : Nat) (pec : Bool) (data : List Nat) : Block :=
  if k = 0 ∨ 3 < k ∨ kind = 0 ∨ 8 < kind then b.twResult n twBAD_REQUEST
  else if b.packAddress k addr ∨ addr < 0x08 ∨ 0x77 < addr then b.twResult n twRESERVED_ADDRESS
  else if b.twPending n then b.twResult n twBUSY
  else if b.twStuck k then b.twResult n twBUS_STUCK
  else
    let r : TwReq := { session := n, addr, kind, cmd, pec, data }
    ((b.setTwPort k { b.twPort k with queue := (b.twPort k).queue ++ [r] }).twResult n twPENDING).twNext k

/-- TwPortStatus counts an outcome (R529, R535), and the faults of R537. -/
def twCounted (b : Block) (k outcome : Nat) (injected : Bool) : Block :=
  let b := b.bump (Obj.TwPortStatus.Transactions k)
  if outcome = twNACK_ADDRESS ∨ outcome = twNACK_DATA then b.bump (Obj.TwPortStatus.Nacks k)
  else if outcome = twPEC_ERROR then (b.bump (Obj.TwPortStatus.PecErrors k)).raise Src.TW_PEC_ERROR k [] injected
  else if outcome = twARB_FAIL then b.report Src.TW_ARB_FAIL k
  else b

/-- A transfer whose PEC the port checks may be one whose check is injected (R358). -/
def pecInjected (b : Block) (k : Nat) : Bool := b.faults.pecLeft != 0 && bitOf b.faults.pecSel k
def spendPec (b : Block) : Block := ({ b with faults := { b.faults with pecLeft := b.faults.pecLeft - 1 } }).armed

/-- The transaction in progress ends (R529). -/
def twDone (b : Block) (k outcome : Nat) (data : List Nat) : Block :=
  match (b.twPort k).cur with
  | none => b
  | some r =>
    let inj := r.pec && decide (5 ≤ r.kind) && decide (outcome = twOK ∨ outcome = twPEC_ERROR) && b.pecInjected k
    let b := if inj then b.spendPec else b
    let out := if inj then (if outcome = twOK then twPEC_ERROR else twOK) else outcome
    let b := (b.setTwPort k { b.twPort k with cur := none, lost := false }).twCounted k out inj
    (b.twResult r.session out (if out = twOK ∧ 5 ≤ r.kind then data.take 255 else [])).twNext k

/-- TW_STRETCH_TIMEOUT (R519): a transaction is abandoned; on TW0 the addressed session learns of it. -/
def stretchTimeout (b : Block) (k e : Nat) : Block :=
  let b := (b.bump (Obj.TwPortStatus.StretchTimeouts k)).report Src.TW_STRETCH_TIMEOUT k
  if k = 0 then
    let x : TwAddress := Tab.look {} b.tw.addrs e
    { b with tw := { b.tw with addrs := Tab.put {} b.tw.addrs e { x with result := 5 } } }
  else b.twDone k twTIMEOUT []

/-- TW_BUS_CLEAR (R519): up to three attempts. -/
def busClear (b : Block) (k : Nat) (freed : Bool) : Block :=
  let x := b.twPort k
  if x.cur.isSome ∨ b.twStuck k ∨ 3 ≤ x.clears then b
  else (b.bump (Obj.TwPortStatus.BusClears k)).setTwPort k { x with clears := if freed then 0 else x.clears + 1 }

/-- TW_BUS_STUCK (R519): what waits is refused. -/
def busStuck (b : Block) (k : Nat) (sda : Bool) : Block :=
  let x := b.twPort k
  if x.cur.isSome ∨ b.twStuck k ∨ (sda ∧ x.clears < 3) then b
  else
    let b := x.queue.foldl (fun b r => b.twResult r.session twBUS_STUCK) b
    ((b.setTwPort k { x with queue := [] }).wr (Obj.TwPortStatus.BusState k) (if sda then bsSTUCK_SDA else bsSTUCK_SCL)).condition Src.TW_BUS_STUCK k true

/-- TW_BUS_STUCK_END (R519). -/
def busStuckEnd (b : Block) (k : Nat) : Block :=
  if !b.twStuck k then b
  else ((((b.setTwPort k { b.twPort k with clears := 0 }).wr (Obj.TwPortStatus.BusState k) bsIDLE).condition Src.TW_BUS_STUCK k false)).twNext k

/-- TW_ARB_LOST (R530). -/
def arbLost (b : Block) (k : Nat) : Block :=
  let b := (b.bump (Obj.TwPortStatus.ArbLost k)).report Src.TW_ARB_LOST k
  if (b.twPort k).cur.isSome then b.setTwPort k { b.twPort k with lost := true } else b

/-- TW_ARB_RETRY (R530). -/
def arbRetry (b : Block) (k : Nat) : Block :=
  let x := b.twPort k
  match x.cur with
  | some r =>
    if !x.lost then b
    else if r.tries < b.rd (Obj.TwPortConfig.ArbRetries k) then b.setTwPort k { x with lost := false, cur := some { r with tries := r.tries + 1 } }
    else b.twDone k twARB_FAIL []
  | none => b

/-- TW_DEVICE_ALERT (R531): at most one ARA read in 10 ms, after the work that waits. -/
def deviceAlert (b : Block) (k addr : Nat) (answered : Bool) : Block :=
  let x := b.twPort k
  let soon := match x.araAt with | some t => decide (b.microsSince t < 10000) | none => false
  if b.rd (Obj.TwPortConfig.AlertInputEnable k) ≠ 1 || soon || x.cur.isSome || !x.queue.isEmpty || b.twStuck k || b.authWaits k then b
  else
    let b := b.setTwPort k { x with araAt := some b.glade.ticks }
    if answered then
      ((b.wr (Obj.TwPortStatus.LastAlertAddress k) addr).bump (Obj.TwPortStatus.AlertResponses k)).report Src.TW_DEVICE_ALERT k [addr]
    else b

/-! ### Pack authentication (R263, R529) -/

/-- The port of a string's authenticator. -/
def authPort (b : Block) (n : Nat) : Nat := b.rd (Obj.StringRecord.AuthPort n)

/-- A transfer of an authentication: it takes the port once no transaction is in progress; on a stuck bus it ends so (R519). -/
def authTransfer (b : Block) (n outcome : Nat) (reads : Bool) (act : Block → Bool → Block) : Block :=
  let k := b.authPort n
  if k = 0 ∨ (b.twPort k).cur.isSome then b
  else
    let out := if b.twStuck k then twBUS_STUCK else outcome
    let inj := reads && decide (out = twOK ∨ out = twPEC_ERROR) && b.pecInjected k
    let b := if inj then b.spendPec else b
    let out := if inj then (if out = twOK then twPEC_ERROR else twOK) else out
    let b := if out = twBUS_STUCK then b else b.twCounted k out inj
    (act b (out == twOK)).twNext k

/-- A string's authentication runs. -/
def authRuns (b : Block) (n : Nat) : Bool := (b.bat n).auth != 0

/-- The commands of R263 are for a string that is in that part of its attempt. -/
def authAt (b : Block) (n : Nat) (l : List Nat) (act : Block → Block) : Block := if l.contains (b.bat n).auth then act b else b

/-! ### Checks (R536) -/

/-- The addresses TW0 is configured to answer. -/
def targetAddresses (b : Block) : List Nat :=
  if b.rd Obj.TwTargetConfig.AddressMode = 1 then
    let a0 := b.rd (Obj.TwTargetConfig.Address 0)
    let m := b.rd Obj.TwTargetConfig.AddressMask
    if a0 = 0 then [] else (List.range 128).filter (fun a => (List.range 7).all (fun i => bitOf m i || bitOf a i == bitOf a0 i))
  else ((List.range 4).map (fun i => b.rd (Obj.TwTargetConfig.Address i))).filter (fun a => a != 0)

/-- CFG_TWO_WIRE. -/
def checkTwoWire (b : Block) (keys : List Nat) : Finding :=
  let l := keys.filter (fun k => inObj 0x4C00 0x4C00 k || inObj 0x4C10 0x4C13 k)
  let bad := l.filter (fun k => !inRange b k)
  let mask := b.rd Obj.TwTargetConfig.AddressMask
  let as_ := b.targetAddresses
  let addrs := keys.filter (inObj 0x4C00 0x4C00)
  if l.isEmpty then none
  else if !bad.isEmpty then some bad
  else if 2 < ((List.range 8).filter (bitOf mask)).length ∨ 128 ≤ mask ∨ as_.any (fun a => decide (a < 0x08) || decide (0x77 < a) || a == 0x0C || a == 0x61) ∨
      as_.any (fun a => decide (1 < (as_.filter (fun x => x == a)).length)) ∨
      (b.rd Obj.TwTargetConfig.AddressMode = 1 ∧ ([1, 2, 3].any (fun i => as_.contains (b.rd (Obj.TwTargetConfig.Address i))))) then some addrs
  else findIf (b.rd (Obj.TwPortConfig.Speed 0) == 2 && b.rd (Obj.TwPortConfig.GlitchFilter 0) == 2) (keys.filter (inObj 0x4C10 0x4C10))

end Block

/-- The controller ports. -/
def isController (tw : Nat) : Bool := decide (0 < tw) && decide (tw < 4)

/-- A host transaction of a kind (R532). -/
def State.hostTw (s : State) (n tw addr kind cmd : Nat) (pec : Bool) (data : List Nat) : Host.Outcome State Fault Refusal :=
  s.actOn (decide (n < 32)) .session n (fun b => if b.inGrave then b else b.twRequest n tw addr kind cmd pec data)

/-- SEND_BYTE (R532). -/
def execSendByte (n tw addr cmd : Nat) (pec : Bool) (s : State) : Host.Outcome State Fault Refusal := s.hostTw n tw addr 1 cmd pec []

/-- WRITE_BYTE (R532). -/
def execWriteByte (n tw addr cmd : Nat) (pec : Bool) (data : List Nat) (s : State) : Host.Outcome State Fault Refusal := s.hostTw n tw addr 2 cmd pec data

/-- WRITE_WORD (R532). -/
def execWriteWord (n tw addr cmd : Nat) (pec : Bool) (data : List Nat) (s : State) : Host.Outcome State Fault Refusal := s.hostTw n tw addr 3 cmd pec data

/-- BLOCK_WRITE (R532). -/
def execBlockWrite (n tw addr cmd : Nat) (pec : Bool) (data : List Nat) (s : State) : Host.Outcome State Fault Refusal := s.hostTw n tw addr 4 cmd pec data

/-- RECEIVE_BYTE (R532). -/
def execReceiveByte (n tw addr : Nat) (pec : Bool) (s : State) : Host.Outcome State Fault Refusal := s.hostTw n tw addr 5 0 pec []

/-- READ_BYTE (R532). -/
def execReadByte (n tw addr cmd : Nat) (pec : Bool) (s : State) : Host.Outcome State Fault Refusal := s.hostTw n tw addr 6 cmd pec []

/-- READ_WORD (R532). -/
def execReadWord (n tw addr cmd : Nat) (pec : Bool) (s : State) : Host.Outcome State Fault Refusal := s.hostTw n tw addr 7 cmd pec []

/-- BLOCK_READ (R532). -/
def execBlockRead (n tw addr cmd : Nat) (pec : Bool) (s : State) : Host.Outcome State Fault Refusal := s.hostTw n tw addr 8 cmd pec []

/-- TW_TRANSACTION_DONE (R529). -/
def execTwTransactionDone (tw outcome : Nat) (data : List Nat) (s : State) : Host.Outcome State Fault Refusal :=
  s.actOn (isController tw) .twoWire tw (·.twDone tw (outcome % 7) data)

/-- TW_STRETCH_TIMEOUT (R519). -/
def execTwStretchTimeout (tw e4 : Nat) (s : State) : Host.Outcome State Fault Refusal :=
  s.actOn (decide (tw < 4) && decide (e4 < 4)) .twoWire tw (·.stretchTimeout tw e4)

/-- TW_SELF_RELEASE (R519). -/
def execTwSelfRelease (tw : Nat) (s : State) : Host.Outcome State Fault Refusal :=
  s.actOn (decide (tw < 4)) .twoWire tw (fun b => (b.bump (Obj.TwPortStatus.SelfReleases tw)).report Src.TW_SELF_RELEASE tw)

/-- TW_BUS_CLEAR (R519). -/
def execTwBusClear (tw : Nat) (freed : Bool) (s : State) : Host.Outcome State Fault Refusal := s.actOn (isController tw) .twoWire tw (·.busClear tw freed)

/-- TW_BUS_STUCK (R519). -/
def execTwBusStuck (tw : Nat) (sda : Bool) (s : State) : Host.Outcome State Fault Refusal := s.actOn (isController tw) .twoWire tw (·.busStuck tw sda)

/-- TW_BUS_STUCK_END (R519). -/
def execTwBusStuckEnd (tw : Nat) (s : State) : Host.Outcome State Fault Refusal := s.actOn (isController tw) .twoWire tw (·.busStuckEnd tw)

/-- TW_ARB_LOST (R530). -/
def execTwArbLost (tw : Nat) (s : State) : Host.Outcome State Fault Refusal := s.actOn (isController tw) .twoWire tw (·.arbLost tw)

/-- TW_ARB_RETRY (R530). -/
def execTwArbRetry (tw : Nat) (s : State) : Host.Outcome State Fault Refusal := s.actOn (isController tw) .twoWire tw (·.arbRetry tw)

/-- TW_DEVICE_ALERT (R531). -/
def execTwDeviceAlert (tw addr : Nat) (answered : Bool) (s : State) : Host.Outcome State Fault Refusal :=
  s.actOn (isController tw) .twoWire tw (·.deviceAlert tw addr answered)

/-- AUTH_START (R263): `outcome` is how the port ended the nonce write. -/
def execAuthStart (str outcome : Nat) (s : State) : Host.Outcome State Fault Refusal :=
  s.actOn (decide (str < 16)) .string str (·.authAt str [2] (fun b =>
    if b.isHolder && b.authFree str then b.authTransfer str (outcome % 7) false (fun b ok => b.authStart str ok) else b))

/-- AUTH_NACK_RETRY (R263). -/
def execAuthNackRetry (str outcome : Nat) (s : State) : Host.Outcome State Fault Refusal :=
  s.actOn (decide (str < 16)) .string str (·.authAt str [4] (·.authTransfer str (outcome % 7) false (fun b ok => b.authRetry str ok)))

/-- AUTH_READ (R263): the response with its outcome on the bus. -/
def execAuthRead (str outcome : Nat) (data : List Nat) (s : State) : Host.Outcome State Fault Refusal :=
  s.actOn (decide (str < 16)) .string str (·.authAt str [3] (·.authTransfer str (outcome % 7) true (fun b ok => b.authResponse str false ok data)))

/-- AUTH_REREAD (R263). -/
def execAuthReread (str outcome : Nat) (data : List Nat) (s : State) : Host.Outcome State Fault Refusal :=
  s.actOn (decide (str < 16)) .string str (·.authAt str [5] (·.authTransfer str (outcome % 7) true (fun b ok => b.authResponse str true ok data)))

/-- ABORT_AUTHENTICATION (R263, R512). -/
def execAbortAuthentication (n str : Nat) (s : State) : Host.Outcome State Fault Refusal :=
  s.runOn (decide (n < 32) && decide (str < 16)) .string str (fun s =>
    s.abortRun n 3 str (s.blk.authRuns str) (·.mapBlk (fun b => (b.authAbort str).twNext (b.authPort str))))

end Sys2Proof.Machine
end

