-- ==== Sys2Proof/Machine/Supply.lean ====
section
/-! DEFINITION. The controller's own supply and start (chapter 19): the always-on domain, rails, straps, the start, resets, the power fail, sags, the cell, the test port. -/

namespace Sys2Proof.Machine

/-- RailRecord:05 (R570). -/
def rlOFF : Nat := 0
def rlSTARTING : Nat := 1
def rlGOOD : Nat := 2
def rlUV : Nat := 3
def rlLIMIT : Nat := 4
def rlCROWBAR : Nat := 5
def rlLATCHED_OFF : Nat := 6

/-- StartupStatus:01 (R569). -/
def skPOWER_UP : Nat := 1
def skRST_N : Nat := 2
def skREBOOT : Nat := 3
def skPF : Nat := 4

/-- Flags of the backup domain (R567). -/
def bfVBAT_LOW : Nat := 0
def bfBACKUP_LOST : Nat := 1
def bfNO_CELL : Nat := 2
def bfHOURS_SATURATED : Nat := 3
def bfPC_SATURATED : Nat := 4
def bfALERT_ARMED : Nat := 5
def bfALARM_PENDING : Nat := 6
def bfRAIL_START_FAILED : Nat := 7

namespace Block

/-- A flag of the backup domain. -/
def backupFlag (b : Block) (n : Nat) : Bool := bitOf (b.rd Obj.BackupDomain.Flags) n
def setBackupFlag (b : Block) (n : Nat) (on : Bool) : Block := b.wr Obj.BackupDomain.Flags (putBit (b.rd Obj.BackupDomain.Flags) n on)

/-- The always-on domain's record changes. -/
def modAon (b : Block) (f : Aon → Aon) : Block := { b with aon := f b.aon }

/-- A rail's state. -/
def railState (b : Block) (r : Nat) : Nat := b.rd (Obj.RailRecord.State r)
def setRail (b : Block) (r v : Nat) : Block := b.wr (Obj.RailRecord.State r) v

/-! ### What a reset leaves (R115, R357, R539, R560) -/

/-- Objects that live in the always-on domain, in fuses, in straps and in the rail controller (assumption 63). -/
def keptKey (k : Nat) : Bool :=
  let n := keySub k
  inObj 0x2000 0x2001 k || inObj 0x2052 0x2052 k || (inObj 0x4006 0x4006 k && decide (n ≤ 4)) || (inObj 0x2051 0x2051 k && decide (5 ≤ n)) ||
    (inObj 0x3800 0x3803 k && (n == 5 || n == 0xA)) || k == Obj.RailRecord.Phases 0 || k == Obj.RailRecord.CurrentLimit 0 ||
    k == Obj.CanIdentity.Serial || k == Obj.EthStatus.MacAddress || (inObj 0x4808 0x4808 k && decide (n ≤ 4)) ||
    (inObj 0x4601 0x4601 k && (n == 1 || 4 ≤ n))

/-- Everything outside the always-on domain and Heartwood is reset. -/
def resetBlock (b : Block) (kind phase : Nat) : Block :=
  let strings := b.stringTab.foldl (fun (t : Tab BatString) (e : Nat × BatString) =>
    Tab.put {} t e.1 ({ store := e.2.store, storeBefore := e.2.storeBefore } : BatString)) []
  let f : Faults := { grave := b.faults.grave, graveSrc := b.faults.graveSrc, graveStamp := b.faults.graveStamp, selfCycle := b.faults.selfCycle }
  let p : Pair := { kill := b.pair.kill.map (fun _ => 0), kills := b.pair.kills.map (fun _ => 0) }
  let n : Block := { dict := b.dict.filter (fun (e : Nat × Nat) => keptKey e.1), free := b.free, faults := f, pair := p, stringTab := strings,
                     store := { b.store with refused := [], torn := [] }, writes := b.writes,
                     aon := { b.aon with phase := phase, graveTick := none, autoStart := none, reboot := false, strapBad := false, testEn := false } }
  n.wrs [(Obj.HeartwoodProtect.LevelInForce, n.rd Obj.HeartwoodProtect.LevelAtReset), (Obj.StartupStatus.StartKind, kind)]

/-- The always-on domain loses its state (R539, R555, R556): counters, latches, log, user area, copies. -/
def loseDomain (b : Block) : Block :=
  let b := b.wrs [(Obj.BackupDomain.OperatingHours, 0), (Obj.BackupDomain.PowerCycles, 0), (Obj.BackupDomain.Flags, 0), (Obj.BackupDomain.CellAlarmCount, 0),
    (Obj.BackupDomain.LastVinLossHours, 0), (Obj.SupplyStatus.PfEvents, 0), (Obj.SupplyStatus.PfSource, 0), (Obj.LrsStatus.LastTrigger, dictDefault Obj.LrsStatus.LastTrigger),
    (Obj.LrsStatus.LastEpoch, 0), (Obj.LrsStatus.LastCycle, 0), (Obj.LrsStatus.LastOperations, 0), (Obj.RailRecord.OvEvents 0, 0),
    (Obj.RailRecord.OvEvents 1, 0), (Obj.RailRecord.OvEvents 2, 0), (Obj.RailRecord.OvEvents 3, 0)]
  { b with
    faults := { b.faults with grave := false, graveSrc := 0xFFFF, graveStamp := {}, selfCycle := false }
    aon := { b.aon with dead := true, copies := [], log := [], unreported := 0, ram := [], bkpAlertLow := false, railFailed := false, noImage := false } }

/-! ### Power-up and rails (R540–R546, R559) -/

/-- The rails start from CORE. -/
def railsStart (b : Block) : Block := (b.modAon (fun x => { x with phase := 1, rail := 0 })).setRail 0 rlSTARTING

/-- The CORE phases that the straps select (R542). -/
def takeCorePhases (b : Block) (v : Nat) : Block :=
  let n := v % 4 + 1
  b.wrs [(Obj.SupplyStatus.CorePhases, n), (Obj.RailRecord.Phases 0, n), (Obj.RailRecord.CurrentLimit 0, 4500 * n)]

/-- Step 1 (R539, R540, R554, R555, R559): `intact` is what the domain's own CRC-32C finds, `vbat` the cell in mV, `off` the seconds since VIN was lost. -/
def powerUp (b : Block) (corePh : Nat) (agree intact : Bool) (vbat off : Nat) : Block :=
  if b.aon.phase ≠ 0 then b
  else
    let lost := b.aon.dead || !intact || decide (vbat < 1000)
    let b := if lost then b.loseDomain else b
    let n := b.rd Obj.BackupDomain.PowerCycles % 2 ^ 24
    let full := decide (2 ^ 24 ≤ n + 2)
    let b := b.wr Obj.BackupDomain.PowerCycles (min (n + 1) (2 ^ 24 - 1))
    let b := if full then b.setBackupFlag bfPC_SATURATED true else b
    let b := if full ∧ n + 1 < 2 ^ 24 then b.report Src.PC_SATURATED 0 else b
    let none_ := decide (vbat < 1000)
    let b := ((if lost then b.setBackupFlag bfBACKUP_LOST true else b).setBackupFlag bfNO_CELL none_).wrs
      [(Obj.SupplyStatus.VbatState, if none_ then 0 else if vbat < 2200 then 2 else 1), (Obj.BackupDomain.LastOffSeconds, if lost then 0xFFFFFFFF else off),
       (Obj.StartupStatus.StartKind, skPOWER_UP), (Obj.StartupStatus.RailRetries, 0)]
    let b := if agree then b.takeCorePhases corePh else b
    (b.modAon (fun x => { x with onCell := false, dead := false, noCell := none_, coreBad := !agree, pfLow := true, retries := 0 })).railsStart

/-- A rail reports good (R543), or is good again. -/
def railGood (b : Block) (r us : Nat) : Block :=
  if b.aon.phase = 1 ∧ r = b.aon.rail then
    let b := b.setRail r rlGOOD
    if r < 2 then (b.modAon (fun x => { x with rail := r + 1 })).setRail (r + 1) rlSTARTING
    else (b.modAon (fun x => { x with phase := 3, rail := 3 })).wr Obj.StartupStatus.RailsGood us
  else if b.railState r = rlSTARTING ∧ r = 3 ∨ b.railState r = rlUV ∨ b.railState r = rlLIMIT then
    let b := b.setRail r rlGOOD
    if r = 3 then b.condition Src.AUX_UV 0 false
    else b.condition Src.RAIL_UV 0 ([0, 1, 2].any (fun i => b.railState i == rlUV))
  else b

/-- A rail is not good 10 ms after its start (R543): all rails off. -/
def railTimeout (b : Block) : Block :=
  if b.aon.phase ≠ 1 then b
  else
    let b := [0, 1, 2, 3].foldl (fun b r => b.setRail r rlOFF) b
    (b.setBackupFlag bfRAIL_START_FAILED true).modAon (fun x => { x with phase := 2, railFailed := true })

/-- After 100 ms the sequence starts again, three times at most (R543). -/
def railRestart (b : Block) : Block :=
  if b.aon.phase ≠ 2 ∨ 3 ≤ b.aon.retries then b
  else
    let b := b.modAon (fun x => { x with retries := x.retries + 1 })
    (b.wr Obj.StartupStatus.RailRetries b.aon.retries).railsStart

/-- AUX switches off until its Enable is committed again (R544, R546). -/
def auxOff (b : Block) : Block := (b.setRail 3 rlLATCHED_OFF).modAon (fun x => { x with auxLatched := true })

/-- A rail runs: not off, crowbarred or latched off. -/
def railRuns (b : Block) (r : Nat) : Bool := [rlSTARTING, rlGOOD, rlUV, rlLIMIT].contains (b.railState r)

/-- RAIL_UV (R544). -/
def railUv (b : Block) (r : Nat) : Block :=
  if !b.railRuns r ∨ b.railState r = rlSTARTING then b
  else if r = 3 then ((b.bump (Obj.RailRecord.UvEvents 3)).condition Src.AUX_UV 0 true).auxOff
  else ((b.bump (Obj.RailRecord.UvEvents r)).setRail r rlUV).condition Src.RAIL_UV 0 true [r]

/-- RAIL_OC (R544). -/
def railOc (b : Block) (r : Nat) : Block :=
  if !b.railRuns r then b
  else
    let b := (b.bump (Obj.RailRecord.OcEvents r)).report Src.RAIL_OC 0 [r]
    if r = 3 then b.auxOff else if b.railState r = rlUV then b else b.setRail r rlLIMIT

/-- AUX_OV (R546). -/
def auxOv (b : Block) : Block :=
  if !b.railRuns 3 then b else ((b.bump (Obj.RailRecord.OvEvents 3)).report Src.AUX_OV 0).auxOff

/-- The crowbar (R545, R354): GRAVE without a rail; what the volatile memories held is gone. -/
def railOv (b : Block) (r : Nat) : Block :=
  if 2 < r ∨ !b.railRuns r then b
  else
    let old := b.faults
    let b := (((b.bump (Obj.RailRecord.OvEvents r)).lrsTrigger Src.RAIL_OV).lrsOperation 0).lrsOperation 6
    let b := if b.isHolder then b.lrsOperation 1 else b
    let b := [0, 1, 2, 3].foldl (fun b i => b.setRail i rlCROWBAR) b
    let f : Faults := { old with grave := true, graveSrc := if old.grave then old.graveSrc else Src.RAIL_OV, graveStamp := if old.grave then old.graveStamp else b.now }
    let b := ({ b with faults := f }).resetBlock (b.rd Obj.StartupStatus.StartKind) 9
    { b.modAon (fun x => { x with crowbar := true }) with masks := { b.masks with silent := true } }

/-! ### Straps and the release of the reset (R20, R57, R559, R590) -/

/-- The internal reset is released and the seat taken; with TEST_EN high everything but the flash manager stays in reset (R591). -/
def release (b : Block) (high test refclk : Bool) (us : Nat) : Block :=
  let b := (b.wrs [(Obj.Seat.Value, if high then 0x42 else 0x41), (Obj.StartupStatus.ResetReleased, us)]).modAon
    (fun x => { x with strapBad := false, testEn := test, phase := if test then 8 else 4 })
  let b := if test then { b with masks := { b.masks with silent := true } } else b
  { b with glade := { b.glade with refclkFallback := !refclk } }.condition Src.REFCLK_FAIL 0 (!refclk)

/-- Step 3 begins: rails good, PF_N and RST_N high, the straps' samples agree. -/
def resetRelease (b : Block) (high agree test refclk : Bool) (us : Nat) : Block :=
  if b.aon.phase ≠ 3 ∨ b.aon.pfLow ∨ b.aon.coreBad then b
  else if agree then b.release high test refclk us
  else b.modAon (fun x => { x with strapBad := true })

/-- A strap whose samples disagreed is sampled again (R590): CORE_PH (its two bits) or ROLE_SEAT. -/
def strapResample (b : Block) (core : Bool) (value : Nat) (agree test refclk : Bool) (us : Nat) : Block :=
  if !agree then b
  else if core then
    if b.aon.coreBad then (b.takeCorePhases value).modAon (fun x => { x with coreBad := false }) else b
  else if b.aon.phase = 3 ∧ b.aon.strapBad ∧ !b.aon.pfLow then b.release (value % 2 == 1) test refclk us
  else b

/-! ### The firmware's start (R42, R111, R115, R188, R207, R258, R357, R419, R451, R555, R559) -/

/-- The shortest and longest tick of the lock range in ns, and the retry slot (R40, R42). -/
def tickRange (b : Block) : Block :=
  let nt := b.rd Obj.GladeConfig.TicksPerCycle
  b.wrs [(Obj.GladeStatus.ShortestTick, roundDivN (1000000000 * 100 * 360) (nt * b.rd Obj.GladeConfig.FreqHigh * 361)),
    (Obj.GladeStatus.LongestTick, roundDivN (1000000000 * 100 * 360) (nt * b.rd Obj.GladeConfig.FreqLow * 359)),
    (Obj.GladeStatus.RetrySlot, b2n (b.tickAtLeast 9600))]

/-- The counters return after the domain has lost its state (R540, R555): from the newer of the stored values. -/
def restoreBackup (b : Block) : Block :=
  if !b.backupFlag bfBACKUP_LOST then b
  else
    let best (k : Nat) : Nat := max ((b.stored 10 k).getD 0) ((b.stored 11 k).getD 0)
    let b := b.wrs [(Obj.BackupDomain.OperatingHours, max (best Obj.BackupDomain.OperatingHours) (b.rd Obj.BackupDomain.OperatingHours)),
      (Obj.BackupDomain.PowerCycles, min (best Obj.BackupDomain.PowerCycles + 1) (2 ^ 24 - 1)),
      (Obj.BackupDomain.CellAlarmCount, max (best Obj.BackupDomain.CellAlarmCount) (b.rd Obj.BackupDomain.CellAlarmCount))]
    b.report (if b.backupFlag bfNO_CELL then Src.BACKUP_NO_CELL else Src.BACKUP_LOST) 0

/-- What the earlier starts and the latch have left to report (R357, R451, R543, R561). -/
def startReports (b : Block) : Block :=
  let b := if b.aon.railFailed then b.report Src.RAIL_START_FAILED 0 else b
  let b := if b.aon.noImage then b.report Src.UPD_NO_IMAGE 0 else b
  let b := if b.archived then b.report Src.HW_ARCHIVED 0 else b
  let x := b.faults.graveStamp
  let b := if b.faults.graveSrc ≠ 0xFFFF ∧ !b.inGrave then
      let c := b.report Src.GRAVE_CLEARED 0 [b.faults.graveSrc, x.epoch, x.cycle, x.angle]
      { c with faults := { c.faults with graveSrc := 0xFFFF, graveStamp := {} } }
    else b
  b.modAon (fun x => { x with railFailed := false, noImage := false })

/-- AUX starts when its Enable, in force from a commit, is 1 (R546). -/
def auxStart (b : Block) : Block :=
  if b.rd (Obj.RailRecord.Enable 3) = 1 ∧ !b.aon.auxLatched ∧ b.railState 3 = rlOFF then b.setRail 3 rlSTARTING else b

/-- The event order resumes 2^16 further on (R111). -/
def guardOrder (b : Block) : Block :=
  let e := b.rd Obj.EventOrder.EventSequence + 65536
  if e < 2 ^ 32 then b.wr Obj.EventOrder.EventSequence e
  else b.wrs [(Obj.EventOrder.Generation, (b.rd Obj.EventOrder.Generation + 1) % 65536), (Obj.EventOrder.EventSequence, 0)]

/-- The configuration, counts and stored values that the firmware loads. -/
def loadStored (b : Block) : Block :=
  let b := b.loadSet 6
  let image : Saved := Tab.look {} b.store.sets 6
  let b := ({ b with domains := image.cur.bytes }).powerUpUnits
  let g : Glade := { b.glade with nt := b.rd Obj.GladeConfig.TicksPerCycle, fnom := b.rd Obj.GladeConfig.NominalFreq }
  let b := (({ b with glade := g }).tickRange.loadSet 2).guardOrder.loadSet 7
  let runs : Saved := Tab.look {} b.store.sets 3
  let b := runs.cur.vals.foldl (fun b (e : Nat × Nat) => b.modPort e.1 (fun x => { x with runTicks := e.2 })) b
  let b := b.stringTab.foldl (fun b (e : Nat × BatString) => if e.2.store = ({ } : StringStore) then b else b.recallString e.1 e.2.store) b
  b.stringsCommitted.mainsCommitted [Obj.MainsConfig.FeedCount]

/-- GRAVE and ARCHIVED (R357, R451): no frame leaves the stage ports and the token is not claimed. -/
def startBarred (b : Block) : Block :=
  if b.inGrave || b.archived then
    { b.wr Obj.RedundancyStatus.Readiness rdBARRED with masks := { b.masks with silent := true } }
  else b

end Block

/-- FIRMWARE_START (R559): an image has passed. -/
def State.firmwareStart (s : State) : State :=
  if s.blk.aon.phase ≠ 5 then s
  else
    let s := s.mapBlk (fun b => b.loadStored.updateStart.restoreBackup)
    let s := s.ringsScan.dumpScan
    s.mapBlk (fun b => (b.startReports.startBarred.auxStart).modAon (fun x => { x with phase := 6 }))

namespace Block

/-- GLADE_START (R38, R47, R204, R559): the partner's numbering, the stored value plus one cycle, or 0:0. -/
def startGlade (b : Block) (partner : Bool) (epoch cycle us : Nat) : Block :=
  if b.aon.phase ≠ 6 then b
  else
    let pos : Option (Nat × Nat) :=
      if partner then some (epoch, cycle)
      else match b.stored 1 0, b.stored 1 1 with
        | some e, some c => some (nextCycle e c)
        | _, _ => none
    let b := match pos with
      | some p => b.gladeStart p.1 p.2
      | none => (b.gladeStart 0 0).report Src.GLADE_NUMBER_INIT 0
    let b := b.refStart.wr Obj.StartupStatus.GladeStarted us
    let b := (b.aon.log.take b.aon.unreported).foldl (fun b e => b.report Src.CELL_ALARM 0 [e.input, e.hours, e.seconds]) b
    b.modAon (fun x => { x with phase := 7, unreported := 0 })

/-! ### Resets and the power fail (R417, R475, R478, R551, R552, R560, R564) -/

/-- RST_N or Reboot (R560): the token is released, the records are flushed, the rest is reset. -/
def resetNow (b : Block) (kind : Nat) : Block :=
  if b.aon.phase < 3 ∨ 9 ≤ b.aon.phase then b
  else if b.aon.phase = 6 ∨ b.aon.phase = 7 then
    let b := if b.isHolder then b.releaseToken else b
    b.flushAll.resetBlock kind 3
  else b.resetBlock kind 3

/-- Heartwood bytes handed over by the records' flush, as rows. -/
def asRows (l : List (Nat × Nat)) : List (Nat × List Nat) :=
  (List.range (l.length / 64)).map (fun i => (((l.drop (64 * i)).headD (0, 0)).1 / 64, ((l.drop (64 * i)).take 64).map (·.2)))

/-- The power-fail parameter block (R258, R417, R555). -/
def storePowerFail (b : Block) : Block :=
  let b := b.strings.foldl storeString b
  b.storeKeys 10 [Obj.BackupDomain.OperatingHours, Obj.BackupDomain.PowerCycles, Obj.BackupDomain.CellAlarmCount]

/-- The last-resort sequencer on a power fail (R417): the rows it has to write are its work. -/
def powerFail (b : Block) : Block :=
  let held := b.isHolder
  let b := b.lrsTrigger 0xFFFF
  let b := if held then b.releaseToken.lrsOperation 1 else b
  let n := b.rings.unflushed + b.rings.queue.length
  let b := b.record 0x0105 (leBytes 4 (b.rd (Obj.Channel.Value 0x41)) ++ leBytes 2 n)
  let old := b.store
  let b := b.storePowerFail.flushAll.lrsOperation 3
  let work := asRows b.writes.heartwood
  let b := { b with store := { b.store with work := work, voids := old.voids, cuts := old.cuts }, writes := { b.writes with heartwood := [] } }
  b.resetBlock (b.rd Obj.StartupStatus.StartKind) 10

/-- PF_N reads low (R417, R551, R552, R564); the tick of a sag's step is over with it. -/
def pfFall (b : Block) (external : Bool) : Block :=
  if b.aon.pfLow ∨ b.aon.phase = 0 then b
  else
    let b := ((b.bump Obj.SupplyStatus.PfEvents).wr Obj.SupplyStatus.PfSource (if external then 2 else 1)).modAon (fun x => { x with pfLow := true })
    if b.aon.phase = 6 ∨ b.aon.phase = 7 then b.powerFail
    else if [3, 4, 5, 8].contains b.aon.phase then b.resetBlock (b.rd Obj.StartupStatus.StartKind) 3
    else b

/-- PF_N rises (R551, R552). -/
def pfRise (b : Block) : Block :=
  let b := b.modAon (fun x => { x with pfLow := false })
  if b.aon.phase = 10 then
    (((b.finishWork).modAon (fun x => { x with phase := 3 })).wr Obj.StartupStatus.StartKind skPF).report Src.PF_DIP 0
  else b

/-- The rows of the power-fail flush that VIN carried (R443, R445, R460): the parameter block's 64, then the records' rows; the next one is
cut at word `index`, which reads new or old. -/
def cutWork (b : Block) (rows index : Nat) (half : Bool) : Block :=
  let w := b.store.work
  if w.isEmpty then b
  else
    let done := rows - 64
    let i := index % 16
    let b := (w.take done).foldl landRow b
    let b := match decide (rows < 64), w[done]? with
      | false, some e =>
        let c := ({ b with writes := { b.writes with heartwood := b.writes.heartwood ++
          (e.2.take (4 * i + if half then 4 else 0)).mapIdx (fun k v => (e.1 * 64 + k, v)) } }).closeRows (e.1 * 64) 64
        { c with store := { c.store with cuts := c.store.cuts ++ [(e.1, i)] } }
      | _, _ => b
    let back (n : Nat) (b : Block) : Block :=
      let x : Saved := Tab.look {} b.store.sets n
      { b with store := { b.store with sets := Tab.set b.store.sets n { x with cur := x.prev } } }
    let b := if done < w.length then back 4 b else b
    { b with store := { b.store with work := [], invalid := if rows < 64 then [8, 10] else b.store.invalid } }

/-- VIN falls through its power-on-reset threshold (R357, R539): the domain goes on from the cell, or loses its state without one. -/
def vinLost (b : Block) (rows index : Nat) (half : Bool) : Block :=
  if b.aon.phase = 0 then b
  else
    let b := b.cutWork rows index half
    let b := b.wr Obj.BackupDomain.LastVinLossHours (b.rd Obj.BackupDomain.OperatingHours)
    let b := [0, 1, 2, 3].foldl (fun b r => b.setRail r rlOFF) b
    let b := { b with faults := { b.faults with grave := false }, pair := { b.pair with kill := none, kills := [] } }.resetBlock 0 0
    let b := b.modAon (fun x => { x with onCell := !x.noCell, crowbar := false, auxLatched := false, pfLow := true })
    if b.aon.noCell then b.loseDomain else b

/-! ### Sags (R547, R548, R564) -/

/-- A run of resynchronisation in phase 2 ends as a mismatch ends it (R395, R564). -/
def endReplay (b : Block) : Block :=
  if b.rd Obj.RedundancyStatus.ResyncPhase ≠ 2 then b
  else
    let b := b.endRun.modPair (fun x => { x with fails := b.glade.cycles :: x.fails.filter (fun c => decide (b.glade.cycles < c + 180000)) })
    if b.readiness = rdBARRED then b
    else if b.rd Obj.RedundancyConfig.ResyncLimit ≤ b.pair.fails.length then
      ((b.wr Obj.RedundancyStatus.Readiness rdBARRED).modPair (fun x => { x with unstable := true, resync := 0 })).condition Src.SHADOW_UNSTABLE 0 true
    else b.wr Obj.RedundancyStatus.Readiness rdDIVERGED

/-- The engine clock of a VinState, not below ClockFloor. -/
def sagClock (b : Block) (st : Nat) : Nat := max (if st = 0 then 600 else if st = 1 then 450 else 300) (b.rd Obj.SupplyConfig.ClockFloor)

/-- The clocks change at the boundary that opens the next tick. -/
def stepClock (b : Block) (st vin : Nat) : Block :=
  let c := b.sagClock st
  let old := b.rdN Obj.SupplyStatus.EngineClock
  let b := b.wrN Obj.SupplyStatus.VinState st
  if c = old then b
  else
    let sup := if c = 600 then 1000 else 500
    let b := (((b.wrN Obj.SupplyStatus.EngineClock c).wrN Obj.SupplyStatus.SupervisorClock sup).bump Obj.SupplyStatus.ClockSteps).report
      Src.CLOCK_STEP 0 [vin, c, sup]
    if c < 600 then b.endReplay else b

/-- SAG_STEP_DOWN: below Sag1Threshold (step 1) or Sag2Threshold (step 2). -/
def sagDown (b : Block) (step vin : Nat) : Block :=
  let t := b.rd (if step = 1 then Obj.SupplyConfig.Sag1Threshold else Obj.SupplyConfig.Sag2Threshold)
  if !b.glade.running ∨ t = 0 ∨ t ≤ vin ∨ step = 0 ∨ 2 < step ∨ step ≤ b.rdN Obj.SupplyStatus.VinState then b else b.stepClock step vin

/-- SAG_STEP_UP: one step at a cycle boundary. -/
def sagUp (b : Block) (vin : Nat) : Block :=
  let st := b.rdN Obj.SupplyStatus.VinState
  let t := b.rd (if st = 2 then Obj.SupplyConfig.Sag2Threshold else Obj.SupplyConfig.Sag1Threshold)
  if !b.glade.boundary ∨ st = 0 ∨ vin ≤ t + 200 then b
  else b.stepClock (if st = 2 ∧ b.rd Obj.SupplyConfig.Sag1Threshold ≠ 0 then 1 else 0) vin

/-! ### The backup domain (R553, R556, R557, R565) -/

/-- OPERATING_HOURS_COUNT (R553): one unit of 0.879 s with VIN present. -/
def hoursCount (b : Block) : Block :=
  if b.aon.phase = 0 then b
  else
    let b := b.bump Obj.BackupDomain.OperatingHours
    if b.rd Obj.BackupDomain.OperatingHours = 0xFFFFFFFF then b.setBackupFlag bfHOURS_SATURATED true else b

/-- CELL_ALARM_LATCH (R557). -/
def cellAlarm (b : Block) (alm seconds : Nat) : Block :=
  if b.aon.phase ≠ 0 ∨ !b.aon.onCell ∨ b.aon.dead then b
  else
    let drive := b.backupFlag bfALERT_ARMED
    let e : CellEntry := ⟨alm, drive, b.rd Obj.BackupDomain.LastVinLossHours, b.rd Obj.BackupDomain.PowerCycles, seconds⟩
    ((b.bump Obj.BackupDomain.CellAlarmCount 16).setBackupFlag bfALARM_PENDING true).modAon (fun x => { x with
      log := (e :: x.log).take 8, unreported := min 8 (x.unreported + 1), bkpAlertLow := x.bkpAlertLow || drive })

/-- CELL_ALARM_PENDING is cleared and BKP_ALERT_N released (R558, R567). -/
def clearCellAlarm (b : Block) : Block := (b.setBackupFlag bfALARM_PENDING false).modAon (fun x => { x with bkpAlertLow := false })

/-- A W1C write of Flags (R567). -/
def clearFlags (b : Block) (v : Nat) : Block :=
  let b := [bfBACKUP_LOST, bfPC_SATURATED, bfRAIL_START_FAILED].foldl (fun b n => if bitOf v n then b.setBackupFlag n false else b) b
  if bitOf v bfALARM_PENDING then b.clearCellAlarm else b

/-- The cell-alarm log (R568): 8 entries of 16 bytes, newest first. -/
def cellLogBytes (b : Block) : List Nat :=
  let entry (e : CellEntry) : List Nat := [e.input, b2n e.driven, 0, 0] ++ leBytes 4 e.hours ++ leBytes 4 e.cycles ++ leBytes 4 e.seconds
  (b.aon.log.flatMap entry ++ List.replicate 128 0xFF).take 128

/-- The user area (R556): bytes that nothing has written read 0. -/
def userArea (b : Block) : List Nat := (b.aon.ram ++ List.replicate 512 0).take 512

/-- An applied bundle with supply or alarm objects (R546, R565): the domain's copies, AUX, the tick's range. -/
def supplyCommitted (b : Block) (keys : List Nat) : Block :=
  let copied := (List.range 7).map (fun i => objKey 0x2050 (i + 1)) ++ (List.range 4).map (fun i => objKey 0x4005 (i + 1))
  let b := if keys.any (fun k => copied.contains k) then
      (b.modAon (fun x => { x with copies := copied.foldl (fun t k => Tab.set t k (b.rd k)) [] })).setBackupFlag bfALERT_ARMED
        (b.rd Obj.SupplyConfig.BkpAlertEnable == 1)
    else b
  let b := if keys.contains (Obj.RailRecord.Enable 3) then
      let b := b.modAon (fun x => { x with auxLatched := false })
      if b.rd (Obj.RailRecord.Enable 3) = 1 then (if b.railRuns 3 then b else b.setRail 3 rlSTARTING) else (b.setRail 3 rlOFF).condition Src.AUX_UV 0 false
    else b
  if keys.any (inObj 0x2010 0x2010) then b.tickRange else b

/-! ### GRAVE's self cycle (R357), AutoStart (R563), the test port (R591) -/

/-- SELF_CYCLE_ASSERT: SelfCycleDelay after GRAVE was entered; Glade's time where it ran at the entry. -/
def selfCycleAssert (b : Block) : Block :=
  let due := match b.aon.graveTick with
    | some t => decide (b.rd Obj.LrsStatus.SelfCycleDelay * 1000 ≤ b.microsSince t)
    | none => true
  if b.inGrave && b.rd Obj.LrsStatus.SelfCycleEnable == 1 && due then { b with faults := { b.faults with selfCycle := true } } else b

/-- AUTOSTART_SUBMIT: once after a cold take, at the first cycle boundary that meets R563. -/
def autoStartSubmit (b : Block) : Block :=
  match b.aon.autoStart with
  | none => b
  | some c =>
    let mains := [0, 1].any (fun f => decide (mfAVAILABLE ≤ b.mainsState f))
    if b.glade.boundary && b.isHolder && b.rd Obj.Channel.RefState == rsREADY &&
        (mains || decide (c + b.rd Obj.SupplyConfig.AutoStartWait ≤ b.glade.cycles)) then
      let us := min (b.rd Obj.StartupStatus.GladeStarted + b.microsSince 0) 0xFFFFFFFF
      (b.autoStart.wr Obj.StartupStatus.AutoStartSubmitted us).modAon (fun x => { x with autoStart := none })
    else b

end Block

/-! ### The arrays under a reset or a loss of power -/

/-- Bytes in an undefined state (R458). -/
def State.blur (s : State) (a : Nat) : Nat → State
  | 0 => s
  | n + 1 =>
    let s := s.blur a n
    let d := s.blk.draw 8
    { s with blk := d.2, flash := Memory.write flashFill s.flash [(a + n, d.1)] }

/-- A flash operation that is cut leaves its pages or its sectors undefined (R458, R560). -/
def State.cutOp (s : State) : Option FlashReq → State
  | none => s
  | some r =>
    if r.kind = 3 then s.blur r.addr r.len
    else if r.kind = 1 then s.blur (r.addr / 65536 * 65536) (((r.addr + r.len - 1) / 65536 - r.addr / 65536 + 1) * 65536)
    else s

/-- Whatever the flash manager has in progress is cut. -/
def State.cutFlash (s : State) : State :=
  let c := s.blk.flashMan.cur
  let e := s.blk.flashMan.suspended
  (s.cutOp c).cutOp e

/-- FLASH_ACCESS (R591): 0x01 reads 4 bytes, 0x02 programs 4 bytes, 0x03 erases a sector. -/
def State.flashAccess (s : State) (cmd addr value : Nat) : State :=
  let out (v : Nat) (s : State) : State := s.mapBlk (fun b => b.modAon (fun x => { x with testOut := v }))
  if !s.blk.aon.testEn ∨ !s.blk.flashReady then s
  else if 0x4000000 < addr + 4 then (s.mapBlk (·.flashOutcome flOWNER addr)) |> out flOWNER
  else match cmd with
    | 1 => out (leValue (s.flashBytes addr 4)) s
    | 2 => let r := s.program addr (leBytes 4 value); out r.1 r.2
    | 3 => out flOK (s.erase (addr / 65536))
    | _ => s

/-! ### Commands -/

/-- POWER_UP_VIN_RISE (R559). -/
def execPowerUpVinRise (corePh : Nat) (agree intact : Bool) (vbat off : Nat) (s : State) : Host.Outcome State Fault Refusal :=
  s.act (·.powerUp corePh agree intact vbat off)

/-- STRAP_RESAMPLE (R590). -/
def execStrapResample (core : Bool) (value : Nat) (agree test refclk : Bool) (us : Nat) (s : State) : Host.Outcome State Fault Refusal :=
  s.act (·.strapResample core value agree test refclk us)

/-- RAIL_GOOD (R543). -/
def execRailGood (rail us : Nat) (s : State) : Host.Outcome State Fault Refusal := s.actOn (decide (rail < 4)) .rail rail (·.railGood rail us)

/-- RAIL_START_TIMEOUT (R543). -/
def execRailStartTimeout (s : State) : Host.Outcome State Fault Refusal := s.act Block.railTimeout

/-- RAIL_RESTART (R543). -/
def execRailRestart (s : State) : Host.Outcome State Fault Refusal := s.act Block.railRestart

/-- RESET_RELEASE (R559). -/
def execResetRelease (high agree test refclk : Bool) (us : Nat) (s : State) : Host.Outcome State Fault Refusal :=
  s.act (·.resetRelease high agree test refclk us)

/-- FIRMWARE_START (R559). -/
def execFirmwareStart (s : State) : Host.Outcome State Fault Refusal := s.run State.firmwareStart

/-- GLADE_START (R38). -/
def execGladeStart (partner : Bool) (epoch cycle us : Nat) (s : State) : Host.Outcome State Fault Refusal := s.act (·.startGlade partner epoch cycle us)

/-- RST_N_ASSERT (R560). -/
def execRstNAssert (s : State) : Host.Outcome State Fault Refusal := s.run (fun s => s.cutFlash.mapBlk (·.resetNow skRST_N))

/-- PF_N_FALL (R417). -/
def execPfNFall (external : Bool) (s : State) : Host.Outcome State Fault Refusal :=
  s.run (fun s => (if s.blk.aon.pfLow then s else s.cutFlash).mapBlk (·.pfFall external))

/-- PF_N_RISE (R551). -/
def execPfNRise (s : State) : Host.Outcome State Fault Refusal := s.act Block.pfRise

/-- SAG_STEP_DOWN (R548). -/
def execSagStepDown (step vin : Nat) (s : State) : Host.Outcome State Fault Refusal := s.act (·.sagDown step vin)

/-- SAG_STEP_UP (R548). -/
def execSagStepUp (vin : Nat) (s : State) : Host.Outcome State Fault Refusal := s.act (·.sagUp vin)

/-- RAIL_UV (R544). -/
def execRailUv (rail : Nat) (s : State) : Host.Outcome State Fault Refusal := s.actOn (decide (rail < 4)) .rail rail (·.railUv rail)

/-- RAIL_OC (R544). -/
def execRailOc (rail : Nat) (s : State) : Host.Outcome State Fault Refusal := s.actOn (decide (rail < 4)) .rail rail (·.railOc rail)

/-- RAIL_OV (R545). -/
def execRailOv (rail : Nat) (s : State) : Host.Outcome State Fault Refusal :=
  s.runOn (decide (rail < 4)) .rail rail (fun s => (if 2 < rail ∨ !s.blk.railRuns rail then s else s.cutFlash).mapBlk (·.railOv rail))

/-- AUX_OV (R546). -/
def execAuxOv (s : State) : Host.Outcome State Fault Refusal := s.act Block.auxOv

/-- VBAT_SWITCHOVER (R539). -/
def execVbatSwitchover (rows index : Nat) (half : Bool) (s : State) : Host.Outcome State Fault Refusal :=
  s.run (fun s => s.cutFlash.mapBlk (·.vinLost rows index half))

/-- CELL_ALARM_LATCH (R557). -/
def execCellAlarmLatch (alm seconds : Nat) (s : State) : Host.Outcome State Fault Refusal := s.actOn (decide (alm < 2)) .cell alm (·.cellAlarm alm seconds)

/-- CELL_ALARM_PENDING_CLEAR (R558). -/
def execCellAlarmPendingClear (s : State) : Host.Outcome State Fault Refusal := s.act Block.clearCellAlarm

/-- SELF_CYCLE_ASSERT (R357). -/
def execSelfCycleAssert (s : State) : Host.Outcome State Fault Refusal := s.act Block.selfCycleAssert

/-- SELF_CYCLE_RELEASE (R357). -/
def execSelfCycleRelease (s : State) : Host.Outcome State Fault Refusal := s.act (fun b => { b with faults := { b.faults with selfCycle := false } })

/-- AUTOSTART_SUBMIT (R322, R563). -/
def execAutostartSubmit (s : State) : Host.Outcome State Fault Refusal := s.act Block.autoStartSubmit

/-- Reboot (R475, R478): the reset follows at once in the model (assumption 63). -/
def State.updReboot (s : State) (n : Nat) : State :=
  let b := s.blk
  if b.inGrave then s.mapBlk (·.updResult n upGRAVE)
  else if b.archived then s.mapBlk (·.updResult n upARCHIVED)
  else if b.isHolder then s.mapBlk (·.updResult n upHOLDER)
  else if [usERASING, usVERIFYING, usAPPLYING].contains b.updState then s.mapBlk (·.updResult n upBUSY)
  else s.cutFlash.mapBlk (·.resetNow skREBOOT)

/-- UPDATE_REBOOT (R475, R478). -/
def execUpdateReboot (n : Nat) (s : State) : Host.Outcome State Fault Refusal := s.runOn (decide (n < 32)) .session n (·.updReboot n)

/-- VBAT_UNDERVOLTAGE (R539). -/
def execVbatUndervoltage (s : State) : Host.Outcome State Fault Refusal := s.act (fun b => if b.aon.phase = 0 then b.loseDomain else b)

/-- OPERATING_HOURS_COUNT (R553). -/
def execOperatingHoursCount (s : State) : Host.Outcome State Fault Refusal := s.act Block.hoursCount

/-- FLASH_ACCESS (R591). -/
def execFlashAccess (cmd addr value : Nat) (s : State) : Host.Outcome State Fault Refusal := s.run (·.flashAccess cmd addr value)

end Sys2Proof.Machine
end

