-- ==== Sys2Proof/Machine/Conf.lean ====
section
/-! DEFINITION. The configuration checks of chapters 4 to 8, 17 and 19 (R154, R189, R214, R216, R241, R270, R515, R571). -/

namespace Sys2Proof.Machine

namespace Block

/-! ### Ports and groups -/

/-- CFG_PORT_RANGE (R154): HoldLimit, DegradeThreshold and SafeBreaker. -/
def checkPortRange (b : Block) (keys : List Nat) : Finding :=
  let l := keys.filter (fun k => inObj 0x3000 0x31FF k && [0x13, 0x14, 0x1B].contains (keySub k) && !inRange b k)
  findIf (!l.isEmpty) l

/-- The staged sub-indexes of R187 and R188. -/
def isLoopKey (k : Nat) : Bool := (inObj 0x3A00 0x3A3F k && decide (keySub k ≤ 0x11)) || (inObj 0x3000 0x31FF k && keySub k == 0x1C)

/-- A check over the groups that hold a phase, where the bundle changes R187 or R188. -/
def groupCheck (b : Block) (keys : List Nat) (fault : Nat → List Nat) : Finding :=
  if keys.any isLoopKey then findAt keys (b.groups.flatMap fault) else none

/-- CFG_GROUP_LOOP (R189). -/
def checkGroupLoop (b : Block) (keys : List Nat) : Finding :=
  b.groupCheck keys (fun g =>
    outOfRange b ((List.range 0x11).map (fun i => objKey (0x3A00 + g) (i + 1)) ++ (b.groupPorts g).map Obj.PortRecord.SwitchMult) ++
    faultIf (decide (b.rd (Obj.GroupRecord.PhaseCurrentRating g) < 10 * (b.rdI 32 (Obj.GroupRecord.SoftValley g)).natAbs))
      [Obj.GroupRecord.SoftValley g, Obj.GroupRecord.PhaseCurrentRating g] ++
    faultIf (decide (b.rd (Obj.GroupRecord.AddFraction g) < b.rd (Obj.GroupRecord.ShedFraction g) + 102))
      [Obj.GroupRecord.AddFraction g, Obj.GroupRecord.ShedFraction g])

/-- CFG_GROUP_RATING (R189), for the heads whose IFS is known. -/
def checkGroupRating (b : Block) (keys : List Nat) : Finding :=
  b.groupCheck keys (fun g =>
    let i := b.rd (Obj.GroupRecord.PhaseCurrentRating g)
    faultIf (i == 0 || (b.groupPorts g).any (fun p => b.headReg p 0x08 != 0 && decide (9 * b.ifsNa p < 10 * i * 10 ^ 6)))
      [Obj.GroupRecord.PhaseCurrentRating g])

/-- CFG_GROUP_SETPOINT (R189): `old` is the configuration the bundle meets. -/
def checkGroupSetpoint (b old : Block) (keys : List Nat) : Finding :=
  b.groupCheck keys (fun g =>
    let v := b.rd (Obj.GroupRecord.Setpoint g)
    let ovp := b.rd (Obj.GroupRecord.OvpLevel g)
    let warn := b.rd (Obj.GroupRecord.OvWarn g)
    let before := old.rd (Obj.GroupRecord.Setpoint g)
    let cls := b.groupClass g
    let levels := (cls == 1 || cls == 2) && (v == 0 || decide (95 * ovp < 100 * v) || decide (warn ≤ v) || decide (ovp ≤ warn))
    let heads := (b.groupPorts g).any (fun p => b.headReg p 0x0A != 0 && decide (98 * b.vfsOut p < 100 * ovp * 1000))
    let moved := v != before && b.rd (Obj.GroupRecord.State g) != gsSTOPPED && (decide (110 * before < 100 * v) || decide (100 * v < 90 * before))
    faultIf levels [Obj.GroupRecord.Setpoint g, Obj.GroupRecord.OvWarn g, Obj.GroupRecord.OvpLevel g] ++ faultIf heads [Obj.GroupRecord.OvpLevel g] ++
    faultIf moved [Obj.GroupRecord.Setpoint g])

/-! ### Measurement and mains -/

/-- CFG_MEAS_RANGE (R214). -/
def checkMeasRange (b : Block) (keys : List Nat) : Finding := rangeFault b 0x3700 0x3747 keys

/-- CFG_MAINS_LINE (R216). -/
def checkMainsLine (b : Block) (keys : List Nat) : Finding :=
  let line (p : Nat) : Nat := b.rd (Obj.PortRecord.MainsLine p)
  let rec' := allPorts.filter (fun p => b.classOf p == 1)
  let bad := allPorts.filter (fun p =>
    if b.classOf p = 1 then decide (1 < line p / 16) || line p % 16 == 0 || decide (3 < line p % 16) else line p != 0xFF)
  let count (f l : Nat) : Nat := (rec'.filter (fun p => line p == f * 16 + l)).length
  let odd := (List.range 2).filter (fun f => count f 1 != count f 2 || count f 1 != count f 3)
  let l := keys.filter (fun k => inObj 0x3000 0x31FF k && [1, 0x27].contains (keySub k))
  let at_ (k : Nat) : Bool := keySub k == 0x27 && (bad.contains (keyIndex k - 0x3000) || odd.contains (line (keyIndex k - 0x3000) / 16))
  if l.isEmpty then none else findIf (!bad.isEmpty || !odd.isEmpty) (l.filter at_)

/-- The bundle's keys of R238 and R239. -/
def mainsKeys (keys : List Nat) : List Nat := keys.filter (fun k => inObj 0x3B00 0x3B00 k || inObj 0x3B10 0x3B11 k)

/-- CFG_MAINS_RANGE (R238, R241): the ranges, of which three depend on another value. -/
def checkMainsRange (b : Block) (keys : List Nat) : Finding :=
  let sag := decide (b.rd Obj.MainsConfig.SagLevel < b.rd Obj.MainsConfig.LossLevel + 51)
  let trip := decide (b.rd Obj.MainsConfig.SwellTrip < b.rd Obj.MainsConfig.SwellLevel + 20)
  let line := decide (b.glade.nt < 2 * b.rd Obj.MainsConfig.LineLossTicks)
  let bad := (mainsKeys keys).filter (fun k => !inRange b k ||
    (sag && (k == Obj.MainsConfig.LossLevel || k == Obj.MainsConfig.SagLevel)) ||
    (trip && (k == Obj.MainsConfig.SwellLevel || k == Obj.MainsConfig.SwellTrip)) || (line && k == Obj.MainsConfig.LineLossTicks))
  findIf (!bad.isEmpty) bad

/-- CFG_MAINS_SENSE (R241). -/
def checkMainsSense (b : Block) (keys : List Nat) : Finding :=
  let l := mainsKeys keys
  let comp := [0, 1].filter (fun f => b.rd (Obj.MainsFeed.SenseSource f) == 0)
  let phases := comp.any (fun f => b.rd (Obj.MainsFeed.Phases f) != b.rd Obj.GladeConfig.MainsPhases)
  let rect := [0, 1].filter (fun f =>
    let c := b.rd (Obj.MainsFeed.RectChannel f)
    c != 0xFF && (decide (63 < c + 2) || [0, 1, 2].any (fun i => b.rd (Obj.Channel.Mode (c + i)) != 1)))
  let bad := decide (1 < comp.length) || phases
  if l.isEmpty then none
  else findIf (bad || !rect.isEmpty) (l.filter (fun k => inObj 0x3B10 0x3B11 k &&
    ((bad && [1, 2].contains (keySub k)) || (rect.contains (keyIndex k - 0x3B10) && keySub k == 3))))

/-- CFG_HOLDUP (R241). -/
def checkHoldup (b : Block) (keys : List Nat) : Finding :=
  let l := mainsKeys keys
  let bat := b.groups.any (fun g => b.groupClass g == 3)
  let v := b.rd Obj.MainsConfig.HoldupBusSetpoint
  let r := (b.recGroup.map (fun g => b.rd (Obj.GroupRecord.Setpoint g))).getD 0
  let low := b.rd Obj.MainsConfig.BusLowLevel
  let badSet := bat && (decide (100 * v < 90 * r) || decide (99 * r < 100 * v))
  let badLow := low != 0 && decide (98 * v ≤ 100 * low)
  let badKp := bat && b.rd Obj.MainsConfig.HoldupKp == 0
  if l.isEmpty then none
  else findIf (badSet || badLow || badKp) (l.filter (fun k =>
    ((badSet || badLow) && k == Obj.MainsConfig.HoldupBusSetpoint) || (badLow && k == Obj.MainsConfig.BusLowLevel) || (badKp && k == Obj.MainsConfig.HoldupKp)))

/-! ### Strings (R267, R270) -/

/-- The three channels of a string. -/
def stringChannels (b : Block) (n : Nat) : List Nat :=
  [b.rd (Obj.StringRecord.VoltageChannel n), b.rd (Obj.StringRecord.CurrentChannel n), b.rd (Obj.StringRecord.ThermChannel n)]

/-- A string that is configured. -/
def stringConfigured (b : Block) (n : Nat) : Bool := (b.stringChannels n).any (· != 0xFF) || !(b.stringPorts n).isEmpty

/-- A check over the configured strings, where the bundle changes a string or the record of a BAT group. -/
def stringCheck (b : Block) (keys : List Nat) (fault : Nat → List Nat) : Finding :=
  let hit := keys.any (fun k => inObj 0x3600 0x360F k || (inObj 0x3A00 0x3A3F k && b.groupClass (keyIndex k - 0x3A00) == 3))
  if hit then findAt keys (((List.range 16).filter b.stringConfigured).flatMap fault) else none

/-- CFG_STRING_CHANNEL. -/
def checkStringChannel (b : Block) (keys : List Nat) : Finding :=
  let out := keys.filter (fun k => inObj 0x3600 0x360F k && keySub k != 0x34 && !inRange b k)
  if !out.isEmpty then some out
  else
    let others (n : Nat) : List Nat := ((List.range 16).filter (· != n)).flatMap b.stringChannels
    b.stringCheck keys (fun n =>
      let cs := b.stringChannels n
      let set_ := cs.filter (· != 0xFF)
      let t := b.rd (Obj.StringRecord.ThermChannel n)
      let whole := !(b.stringPorts n).isEmpty && set_.length != 3
      let twice := set_.any (fun c => decide (1 < cs.count c) || (others n).contains c)
      let therm := t != 0xFF && (b.rd (Obj.Channel.Range t) != 0 || b.rd (Obj.Channel.Mode t) != 0 || b.rd (Obj.Channel.Scale t) != 1000 || b.rd (Obj.Channel.EngUnit t) != 0)
      let mean := (cs.take 2).any (fun c => c != 0xFF && b.rd (Obj.Channel.Mode c) != 0)
      outOfRange b (((List.range 0x33) ++ [0x35, 0x36]).map (fun i => objKey (0x3600 + n) (i + 1))) ++
      faultIf (whole || twice) [Obj.StringRecord.VoltageChannel n, Obj.StringRecord.CurrentChannel n, Obj.StringRecord.ThermChannel n] ++
      faultIf therm [Obj.StringRecord.ThermChannel n] ++ faultIf mean [Obj.StringRecord.VoltageChannel n, Obj.StringRecord.CurrentChannel n])

/-- CFG_STRING_LEVELS. -/
def checkStringLevels (b : Block) (keys : List Nat) : Finding :=
  let r := (b.recGroup.map (fun g => b.rd (Obj.GroupRecord.Setpoint g))).getD 0
  b.stringCheck keys (fun n =>
    let v (k : Nat → Nat) : Nat := b.rd (k n)
    let i (k : Nat → Nat) : Int := b.rdI 16 (k n)
    let band : Int := 2 * (v Obj.StringRecord.DerateBand : Nat)
    let soc := decide (v Obj.StringRecord.CutoffSoc < v Obj.StringRecord.W2Soc) && decide (v Obj.StringRecord.W2Soc < v Obj.StringRecord.W1Soc) &&
      decide (v Obj.StringRecord.W1Soc < v Obj.StringRecord.RechargeSoc) && decide (v Obj.StringRecord.RechargeSoc ≤ 10000) &&
      decide (v Obj.StringRecord.CutoffSoc < v Obj.StringRecord.RecoverSoc) && decide (v Obj.StringRecord.RecoverSoc ≤ v Obj.StringRecord.W1Soc)
    let volts := decide (v Obj.StringRecord.CutoffVoltage < v Obj.StringRecord.ChargeVoltage) &&
      decide (v Obj.StringRecord.ChargeVoltage < v Obj.StringRecord.ChargeWarnVoltage) &&
      decide (v Obj.StringRecord.ChargeWarnVoltage < v Obj.StringRecord.ChargeStopVoltage)
    let temps := decide (i Obj.StringRecord.ChargeTempLow + band ≤ i Obj.StringRecord.ChargeTempHigh) &&
      decide (i Obj.StringRecord.DischargeTempLow + band ≤ i Obj.StringRecord.DischargeTempHigh) &&
      decide (v Obj.StringRecord.ThermShortLevel < v Obj.StringRecord.ThermOpenLevel) && decide (v Obj.StringRecord.ThermOpenLevel < v Obj.StringRecord.ThermBias)
    let stop := decide (v Obj.StringRecord.ChargeStopVoltage * v Obj.StringRecord.CellCount * 65536 ≤ 0xF000 * r)
    let objs (l : List Nat) : List Nat := l.map (fun i => objKey (0x3600 + n) i)
    faultIf (!(soc && volts)) (objs [0x06, 0x07, 0x08, 0x0C, 0x0E, 0x0F, 0x11, 0x12, 0x14]) ++
    faultIf (!temps) (objs [0x15, 0x16, 0x17, 0x18, 0x19, 0x1B, 0x1E, 0x1F]) ++ faultIf (!stop) (objs [0x04, 0x08]))

/-- CFG_STRING_OCV. -/
def checkStringOcv (b : Block) (keys : List Nat) : Finding :=
  b.stringCheck keys (fun n =>
    let t := (List.range 11).map (fun i => b.rd (Obj.StringRecord.OcvTable n i))
    faultIf (t.any (· != 0) && (List.range 10).any (fun i => decide (t.getD (i + 1) 0 < t.getD i 0)))
      ((List.range 11).map (fun i => Obj.StringRecord.OcvTable n i)))

/-- CFG_STRING_AUTH. -/
def checkStringAuth (b : Block) (keys : List Nat) : Finding :=
  let port (n : Nat) : Nat := b.rd (Obj.StringRecord.AuthPort n)
  let addr (n : Nat) : Nat := b.rd (Obj.StringRecord.AuthAddress n)
  b.stringCheck keys (fun n =>
    let need := b.rd (Obj.StringRecord.AuthPolicy n) == 1 && (port n == 0 || decide (3 < port n))
    let range := port n != 0 && (decide (addr n < 8) || decide (0x77 < addr n))
    let same := port n != 0 && (List.range 16).any (fun m => m != n && b.stringConfigured m && port m == port n && addr m == addr n)
    faultIf need [Obj.StringRecord.AuthPort n, Obj.StringRecord.AuthPolicy n] ++
    faultIf (range || same) [Obj.StringRecord.AuthPort n, Obj.StringRecord.AuthAddress n])

/-- CFG_BAT_GROUP. -/
def checkBatGroup (b : Block) (keys : List Nat) : Finding :=
  let bad := b.groups.filter (fun g => b.groupClass g == 3 && (b.rd (Obj.GroupRecord.Setpoint g) != 0 || b.rd (Obj.GroupRecord.OvWarn g) != 0))
  let hit := keys.any (fun k => inObj 0x3600 0x360F k || (inObj 0x3A00 0x3A3F k && b.groupClass (keyIndex k - 0x3A00) == 3))
  if hit then findIf (!bad.isEmpty) (keys.filter (fun k => inObj 0x3A00 0x3A3F k && bad.contains (keyIndex k - 0x3A00) && (keySub k == 1 || keySub k == 0x10)))
  else none

/-! ### Networks and supply -/

/-- CFG_NETWORK (R515). -/
def checkNetwork (b : Block) (keys : List Nat) : Finding :=
  let l := keys.filter (fun k => inObj 0x2030 0x2030 k || inObj 0x2040 0x2040 k || inObj 0x2088 0x2088 k)
  let out := l.filter (fun k => !inRange b k)
  let clash (x y : Nat) (zero : Bool) : Bool := b.rd x == b.rd y && !(zero && b.rd x == 0)
  let addrs := clash Obj.EthConfig.RackAddress Obj.EthConfig.SeatAddressA true || clash Obj.EthConfig.RackAddress Obj.EthConfig.SeatAddressB true ||
    clash Obj.EthConfig.SeatAddressA Obj.EthConfig.SeatAddressB true
  let nodes := clash Obj.CanConfig.RackNodeId Obj.CanConfig.SeatNodeIdA false || clash Obj.CanConfig.RackNodeId Obj.CanConfig.SeatNodeIdB false ||
    clash Obj.CanConfig.SeatNodeIdA Obj.CanConfig.SeatNodeIdB false
  if l.isEmpty then none
  else findIf (!out.isEmpty || addrs || nodes) (l.filter (fun k => out.contains k || (addrs && inObj 0x2040 0x2040 k && decide (keySub k ≤ 3)) ||
    (nodes && inObj 0x2030 0x2030 k && decide (4 ≤ keySub k))))

/-- The bundle's keys of R565 and R570. -/
def supplyKeys (keys : List Nat) : List Nat := keys.filter (fun k => inObj 0x2050 0x2050 k || inObj 0x3800 0x3803 k)

/-- CFG_SUPPLY_RANGE (R571); an AUX that is enabled needs a Setpoint in range. -/
def checkSupplyRange (b : Block) (keys : List Nat) : Finding :=
  let l := supplyKeys keys
  let set_ := Obj.RailRecord.Setpoint 3
  let bad := l.filter (fun k => !inRange b k || (k == set_ && (decide (b.rd k < 600) || decide (5000 < b.rd k))))
  let aux := b.rd (Obj.RailRecord.Enable 3) == 1 && (decide (b.rd set_ < 600) || decide (5000 < b.rd set_))
  let s1 := b.rd Obj.SupplyConfig.Sag1Threshold != 0
  let s2 := b.rd Obj.SupplyConfig.Sag2Threshold != 0
  let floor := match b.rd Obj.SupplyConfig.ClockFloor with
    | 600 => s1 || s2
    | 450 => !s1 || s2
    | 300 => !s1 || !s2
    | _ => true
  if l.isEmpty then none
  else findIf (!bad.isEmpty || aux || floor) (l.filter (fun k => bad.contains k || (aux && inObj 0x3803 0x3803 k && decide (keySub k ≤ 2)) ||
    (floor && inObj 0x2050 0x2050 k && decide (2 ≤ keySub k) && decide (keySub k ≤ 4))))

/-- CFG_SUPPLY_SAG (R571). -/
def checkSupplySag (b : Block) (keys : List Nat) : Finding :=
  let pf := b.rd Obj.SupplyConfig.PfThreshold
  let s1 := b.rd Obj.SupplyConfig.Sag1Threshold
  let s2 := b.rd Obj.SupplyConfig.Sag2Threshold
  let low1 := s1 != 0 && decide (s1 < pf + 500)
  let low2 := s2 != 0 && decide (s2 < pf + 500)
  let pair := s1 != 0 && s2 != 0 && (decide (s1 < s2 + 500) || decide (17500 < s1))
  if (supplyKeys keys).isEmpty then none
  else findAt keys (faultIf low1 [Obj.SupplyConfig.PfThreshold, Obj.SupplyConfig.Sag1Threshold] ++
    faultIf low2 [Obj.SupplyConfig.PfThreshold, Obj.SupplyConfig.Sag2Threshold] ++ faultIf pair [Obj.SupplyConfig.Sag1Threshold, Obj.SupplyConfig.Sag2Threshold])

/-- CFG_RAIL (R571). -/
def checkRail (b : Block) (keys : List Nat) : Finding :=
  if (supplyKeys keys).isEmpty then none
  else findIf (decide (b.rd (Obj.RailRecord.Phases 3) * 5000 < b.rd (Obj.RailRecord.CurrentLimit 3)))
    (keys.filter (fun k => k == Obj.RailRecord.Phases 3 || k == Obj.RailRecord.CurrentLimit 3))

end Block

end Sys2Proof.Machine
end

