-- ==== Sys2Proof/Machine/Commit.lean ====
section
/-! DEFINITION. Commits (R101–R104): the configuration checks of every chapter in one list, and the submit of a bundle. -/

namespace Sys2Proof.Machine

namespace Block

/-- The checks of chapters 1 to 6, in ascending reason code (R581, R582). -/
def checkList1 (b old : Block) (keys : List Nat) : List (Nat × Finding) :=
  [(0x01, b.checkUnitMissing keys), (0x02, b.checkUnitSpurious keys), (0x03, b.checkGroupMixed keys), (0x04, b.checkStringGroup keys),
   (0x05, b.checkFeedPort keys), (0x06, b.checkFeedSource keys), (0x07, b.checkGladeRange keys), (0x08, b.checkTickShort keys),
   (0x09, b.checkTickLong keys), (0x0A, b.checkGladeSource keys), (0x0B, b.checkPortRange keys), (0x0C, b.checkGroupLoop keys),
   (0x0D, b.checkGroupRating keys), (0x0E, b.checkGroupSetpoint old keys), (0x0F, b.checkMeasRange keys)]

/-- Those of chapters 7 to 9. -/
def checkList2 (b : Block) (keys : List Nat) : List (Nat × Finding) :=
  [(0x10, b.checkMainsLine keys), (0x11, b.checkMainsRange keys), (0x12, b.checkMainsSense keys), (0x13, b.checkHoldup keys),
   (0x14, b.checkStringChannel keys), (0x15, b.checkStringLevels keys), (0x16, b.checkStringOcv keys), (0x17, b.checkStringAuth keys),
   (0x18, b.checkBatGroup keys), (0x19, b.checkFeedRange keys)] ++ (List.range 6).map (fun i => (0x1A + i, b.checkFeed i keys))

/-- Those of chapters 10 to 19. -/
def checkList3 (b old : Block) (keys : List Nat) : List (Nat × Finding) :=
  [(0x20, b.checkGroupSpares old keys), (0x21, b.checkFeedCap keys), (0x22, b.checkCapping keys), (0x23, b.checkSeqRange keys),
   (0x24, b.checkSeqMember keys), (0x25, b.checkSeqOrder keys), (0x26, b.checkFaultClass keys), (0x27, b.checkFaultWindow keys),
   (0x28, b.checkFaultRule keys), (0x29, b.checkFaultLrs keys), (0x2A, b.checkRedundancy keys), (0x2B, b.checkPartnerKill keys),
   (0x2C, b.checkRings keys), (0x2D, b.checkHwProtect old keys), (0x2E, b.checkShadow keys), (0x2F, b.checkUpdate old keys),
   (0x30, b.checkNetwork keys), (0x31, b.checkTwoWire keys), (0x32, b.checkSupplyRange keys), (0x33, b.checkSupplySag keys), (0x34, b.checkRail keys)]

/-- Every check, in ascending reason code. -/
def checkList (b old : Block) (keys : List Nat) : List (Nat × Finding) := b.checkList1 old keys ++ b.checkList2 keys ++ b.checkList3 old keys

end Block

/-- The first check that fails, with the lowest key of the bundle that it concerns, or the bundle's lowest key (R582). -/
def configCheck (b old : Block) (keys : List Nat) : Option (Nat × Nat) :=
  let low (l : List Nat) : Nat := l.foldl min (l.headD 0)
  (b.checkList old keys).findSome? (fun e =>
    match e.2 with
    | none => none
    | some l => some (e.1, if l.isEmpty then low keys else low l))

namespace Block

/-- The configuration expected at a boundary with a bundle's writes in it, and what the checks find (R102, R582). -/
def judge (b : Block) (ws : List (Nat × List Nat)) : Option (Nat × Nat) :=
  if b.canopy.cfgBad then none else configCheck (b.overlay ws) b (ws.map (·.1))

/-- A submit of the writes `ws` by session n (R98–R104). -/
def submitWrites (b : Block) (n : Nat) (ws : List (Nat × List Nat)) (target : Option (Nat × Nat)) : Block :=
  if ws.isEmpty then b.refuseCommit n 1 0 0
  else match target with
    | none => b.refuseCommit n 2 0 0
    | some (e, c) =>
      if b.ticksToCycle e c < 400 then b.refuseCommit n 2 0 0
      else if 2 ^ 30 < b.cyclesAhead e c then b.refuseCommit n 3 0 0
      else if 64 ≤ (b.canopy.bundles.filter (·.accepted)).length then b.refuseCommit n 4 0 0
      else match (b.expectedConfig e c).judge ws with
        | some (reason, key) => b.refuseCommit n 5 reason key
        | none =>
          let seq := (b.rd Obj.EventOrder.CommitSequence + 1) % 2 ^ 32
          let x : Bundle := { seq, session := n, epoch := e, cycle := c, writes := ws, accepted := !b.linkUp }
          let b := (b.commitDiscard n).wr Obj.EventOrder.CommitSequence seq
          let b := { b with canopy := { b.canopy with bundles := b.canopy.bundles ++ [x] } }
          (b.wrs [(sk n Obj.CommitSession.Sequence, seq), (sk n Obj.CommitSession.Status, 0), (sk n Obj.CommitSession.Reason, 0),
            (sk n Obj.CommitSession.FailIndex, 0), (sk n Obj.CommitSession.FailSub, 0)]).stagingCounts.send 2 [0, seq]

/-- COMMIT_SUBMIT: the session's open bundle (R101). -/
def commitSubmit (b : Block) (n : Nat) : Block :=
  if (b.sess n).bundle then b.submitWrites n (b.sess n).staged (b.commitTarget n) else b.refuseCommit n 1 0 0

/-- A staged write (R96, R98, R100): into the open bundle, or as a bundle of its own with When = NEXT; answers the R101 status where it is refused. -/
def stageWrite (b : Block) (n key : Nat) (bytes : List Nat) : Option Nat × Block :=
  let x := b.sess n
  if x.bundle then
    let ws := putStaged x.staged key bytes
    let used := b.stagingUsed - stagedBytes x.staged + stagedBytes ws
    if 131072 < stagedBytes ws ∨ 524288 < used then (some 4, b.wr (sk n Obj.CommitSession.Status) 4)
    else (none, (b.setSess n { x with staged := ws }).bundleCounts n)
  else
    let c1 := nextCycle b.glade.epoch b.glade.cycle
    let t := if b.glade.boundary then 0 else b.glade.tick
    let target := if t + 400 ≤ b.glade.nt then c1 else nextCycle c1.1 c1.2
    if 524288 < b.stagingUsed + bytes.length then (some 4, b.wr (sk n Obj.CommitSession.Status) 4)
    else
      let b := b.submitWrites n [(key, bytes)] (some target)
      let st := b.rd (sk n Obj.CommitSession.Status)
      (if st = 0 then none else some st, b)

end Block

/-- COMMIT_SUBMIT (R101); in GRAVE every commit is refused (R356). -/
def execCommitSubmit (n : Nat) (s : State) : Host.Outcome State Fault Refusal :=
  s.actOn (decide (n < 32)) .session n (fun b => if b.inGrave then b else b.commitSubmit n)

end Sys2Proof.Machine
end

