-- ==== Sys2Proof/Machine/Dictionary.lean ====
section
/-! DEFINITION. The object dictionary (R483–R487, R573–R577): what a read of an object returns, live or from an image, and what a write does. -/

namespace Sys2Proof.Machine

/-- Statuses of R487. -/
def dsOK : Nat := 0
def dsNO_OBJECT : Nat := 1
def dsNO_SUBINDEX : Nat := 2
def dsTYPE_LENGTH : Nat := 3
def dsRANGE : Nat := 4
def dsREFUSED : Nat := 5
def dsNO_SESSION : Nat := 6
def dsBAD_SESSION : Nat := 7
def dsNO_TRANSFER : Nat := 8
def dsBUSY : Nat := 9
def dsABORTED : Nat := 0xA
def dsSNAPSHOT : Nat := 0xB
def dsSTALE : Nat := 0xC
def dsTIMEOUT : Nat := 0xD
def dsGRAVE : Nat := 0xE
def dsARCHIVED : Nat := 0xF
def dsPARTNER_NO_ACK : Nat := 0x10
def dsIN_PROGRESS : Nat := 0x11

/-- Flags of R499. -/
def flRESPONSE : Nat := 1
def flMORE : Nat := 2
def flFIRST : Nat := 4
def flIMAGE : Nat := 8

/-! ### Objects (R483, R573, R577) -/

/-- The index and sub-index exist: 0, `DICT_NO_OBJECT` or `DICT_NO_SUBINDEX` (R484, R573). Of the channel records, 1C–1F exist on VM0–VM2 and
20–23 on IC0 (R212). -/
def objectStatus (key : Nat) : Nat :=
  let sub := keySub key
  match findRow (keyIndex key) with
  | none => dsNO_OBJECT
  | some r =>
    if sub = 0 ∧ r.top ≠ 0 then dsOK
    else if inObj 0x3703 0x3747 key ∧ 0x1C ≤ sub ∧ sub ≤ 0x1F then dsNO_SUBINDEX
    else if inObj 0x3700 0x3747 key ∧ 0x20 ≤ sub ∧ keyIndex key ≠ 0x3740 then dsNO_SUBINDEX
    else if (findSub key).isSome then dsOK
    else dsNO_SUBINDEX

/-- Sub-index 00 of an array or record (R13, R212, R573). -/
def topSub (key : Nat) : Nat :=
  let i := keyIndex key
  if 0x3700 ≤ i ∧ i ≤ 0x3702 then 0x1F
  else if i = 0x3740 then 0x23
  else if 0x3703 ≤ i ∧ i ≤ 0x3747 then 0x1B
  else ((findRow i).map (·.top)).getD 0

/-- The type of an object; sub-index 00 of an array or record is a U8. -/
def objectType (key : Nat) : ObjType :=
  match findSub key with
  | some r => r.type
  | none => .uint 1

/-- Access of an object. Range and Mode of an internal channel (R212) and the RW sub-indexes of the rails but AUX (R570) read as RO. -/
def objectAccess (key : Nat) : Access :=
  match findSub key with
  | none => .ro
  | some r =>
    if inObj 0x3740 0x3747 key ∧ [2, 3, 6].contains (keySub key) then .ro
    else if inObj 0x3800 0x3802 key then .ro
    else r.access

/-- How a write takes effect. -/
def objectMode (key : Nat) : WriteMode := match findSub key with | some r => r.mode | none => .none

/-- One copy per session (R486). -/
def isPerSession (key : Nat) : Bool := match findSub key with | some r => r.perSession | none => false

/-- Where session n's copy of an object stands. -/
def ownKey (n key : Nat) : Nat := if isPerSession key then sk n key else key

/-- Read live, never from an image (R89, code L of R574). -/
def isLive (key : Nat) : Bool :=
  let i := keyIndex key
  (decide (0x1000 ≤ i) && decide (i < 0x2000)) ||
    [0x2053, 0x2080, 0x2081, 0x20A0, 0x4404, 0x4602, 0x4604, 0x4E02].contains i ||
    (decide (0x3921 ≤ i) && decide (i ≤ 0x3928)) || key == objKey 0x2089 4 || key == objKey 0x4C30 2

/-- An image's dictionary, tables and areas in place of the present ones: what a read from it sees (R88). -/
def Block.viewOf (b : Block) (img : Image) : Block :=
  { b with
    dict := img.dict, wimg := [], domains := img.domains,
    faults := { b.faults with roots := img.roots, partnerRoots := img.partnerRoots, present := img.present, reports := [] },
    glade := { b.glade with epoch := img.epoch, cycle := img.cycle, tick := 0, boundary := true }, aon := { b.aon with ram := img.ram } }

namespace Block

/-- ErrorRegister (R506). -/
def errorRegister (b : Block) : Nat :=
  b2n b.faultLow + 16 * b2n (b.rd (Obj.CanStatus.CanState 0) != 0 || b.rd (Obj.CanStatus.CanState 1) != 0) + 128 * b2n b.faults.grave

/-- The scalar value of an object. -/
def scalarOf (b : Block) (n key : Nat) : Nat :=
  if keySub key = 0 ∧ (findSub key).isNone then topSub key
  else if objectAccess key = .wo then 0
  else if keyIndex key = 0x2012 then
    match keySub key with
    | 1 => b.glade.epoch
    | 2 => b.glade.cycle
    | 3 => b.angleNow
    | _ => if b.glade.boundary then 0 else b.glade.tick
  else if key = Obj.Comm.ErrorRegister then b.errorRegister
  else if key = Obj.SnapshotSession.SessionId then n
  else b.rd (ownKey n key)

/-- The 16 bytes of an alert (R508). -/
def alertBytes (a : Alert) : List Nat :=
  leBytes 4 a.seq ++ leBytes 4 a.event ++ [a.kind, a.scope] ++ leBytes 2 a.inst ++ leBytes 2 a.code ++ [a.detail, 0]

/-- AlertRecords (R510): the queue oldest first. -/
def alertRecords (b : Block) : List Nat := (b.net.alerts.flatMap alertBytes ++ List.replicate 4096 0).take 4096

/-- StickyMap (R361). -/
def stickyMap (b : Block) : List Nat :=
  (List.range 28).map (fun i => ((List.range 8).map (fun j => b2n (b.rd (Obj.SourceConfig.Sticky (i * 8 + j)) != 0) * 2 ^ j)).sum)

/-- HeartwoodTorn (R462): row, INDEX and region of each torn row. -/
def tornBytes (b : Block) : List Nat :=
  let region (r : Nat) : Nat := if r < 0x200000 / 64 then 0 else if r < 0x280000 / 64 then 1 else if r < 0x300000 / 64 then 2 else 3
  let entry (e : Nat × Nat) : List Nat := leBytes 2 e.1 ++ [e.2 % 256, region e.1]
  ((b.store.torn.take 64).flatMap entry ++ List.replicate 256 0xFF).take 256

/-- Byte strings that need neither array (R361, R367, R510, R535, R556, R568). -/
def bytesOf (b : Block) (n key : Nat) : List Nat :=
  match keyIndex key with
  | 0x2053 => b.cellLogBytes
  | 0x2054 => b.userArea
  | 0x2089 => b.alertRecords
  | 0x4000 => b.stickyMap
  | 0x40F0 => tableBytes b.faults.roots b.rootPresent
  | 0x40F1 => tableBytes b.faults.partnerRoots (fun _ => false)
  | 0x4602 => b.tornBytes
  | 0x4C30 => if keySub key = 2 then Tab.look [0] b.tw.results n else []
  | _ => []

end Block

/-- Bytes of a dump area from an offset on (R431): the flash for D0 and D1, Heartwood for the reduced dump. -/
def State.dumpBytes (s : State) (area off : Nat) : List Nat :=
  let size := if area = 2 then 262144 else 8388608
  let len := min 65536 (size - off)
  if area = 2 then s.heartwoodBytes (Block.dumpBase 2 + off) len else s.flashBytes (Block.dumpBase area + off) len

/-- The bytes a read of a DOMAIN object returns, and the machine after its side effects (R89, R421, R431, R462). -/
def State.domainOf (s : State) (n key : Nat) : List Nat × State :=
  let b := s.blk
  let i := keyIndex key
  if objectAccess key = .wo then ([], s)
  else if i = 0x4404 then let r := b.ringsRead n; (r.1, { s with blk := r.2 })
  else if i = 0x4604 then (s.heartwoodBytes (b.rd (sk n Obj.HeartwoodWindow.Offset)) 65536, s)
  else if i = 0x4E02 then (s.dumpBytes (b.rd (sk n Obj.DumpWindow.Area)) (b.rd (sk n Obj.DumpWindow.Offset)), s)
  else if 0x3921 ≤ i ∧ i ≤ 0x3928 then (s.heartwoodBytes (Block.areaBase (i - 0x3921)) 16384, s)
  else (b.bytesOf n key, s)

/-- The value of an object as bytes (R483), and the machine after the read. -/
def State.valueOf (s : State) (n key : Nat) : List Nat × State :=
  match objectType key with
  | .uint k => (leBytes k (s.blk.scalarOf n key), s)
  | .sint k => (leBytes k (s.blk.scalarOf n key), s)
  | .domain _ _ => s.domainOf n key

/-- The value of an object in an image (R88, R93). -/
def Block.imageValue (b : Block) (img : Image) (n key : Nat) : List Nat :=
  let v := b.viewOf img
  match objectType key with
  | .uint k => leBytes k (v.scalarOf n key)
  | .sint k => leBytes k (v.scalarOf n key)
  | .domain _ _ => if objectAccess key = .wo then [] else v.bytesOf n key

namespace Block

/-- The image a read of session n comes from (R93): its pinned one, or the newest complete one; otherwise the R92 status. -/
def readImage (b : Block) (n : Nat) : Except Nat (Nat × Image) :=
  let e := match (b.sess n).pin with
    | some k => (b.image? k).map (fun i => (k, i))
    | none => b.newestImage
  match e with
  | none => .error 1
  | some (k, i) => if i.bad then .error 5 else .ok (k, i)

/-- A read fails on its image (R92). -/
def snapFail (b : Block) (n st : Nat) : Reply × Block := ({ status := dsSNAPSHOT, detail := st, flags := flRESPONSE }, b.setPinStatus n st)

/-- An expired pin answers the next snapshot read once (R94). -/
def snapExpired (b : Block) (n : Nat) : Reply × Block := (b.setSess n { b.sess n with expired := false }).snapFail n 4

/-! ### Transfers (R493–R496) -/

/-- A pool buffer is free (R494). -/
def poolFree (b : Block) (n : Nat) : Bool :=
  decide ((b.sessions.filter (fun (e : Nat × Session) => e.1 != n && (match e.2.transfer with | some t => t.kind != 0 | none => false))).length < 4)

/-- A transfer of session n starts; one that it holds ends. -/
def startTransfer (b : Block) (n : Nat) (t : Transfer) : Block :=
  (b.setSess n { b.sess n with transfer := some t, ended := { status := dsNO_TRANSFER } }).pinCounts

/-- A session's transfer ends (R496): what a later segment request is answered; an abort that has not taken effect yet finds it completed (R513). -/
def endTransfer (b : Block) (n : Nat) (why : Nat) (detail : Nat := 0) : Block :=
  let x := b.sess n
  if x.transfer.isNone then b
  else
    let b := (b.setSess n { x with transfer := none, ended := { status := why, detail, flags := flRESPONSE } }).pinCounts
    if why = dsABORTED then b else b.abortEnds 1 n 2

/-- The first segment of a read that runs as a transfer on an image (R93, R493, R503). -/
def imageTransfer (b : Block) (n key size : Nat) : Reply × Block :=
  let old := (b.sess n).transfer
  let kept : Option (Nat × Image × Nat) := match old with
    | some t => if t.stale && t.key == key then (t.slot.bind (fun k => (b.image? k).map (fun i => (k, i, t.left)))) else none
    | none => none
  let live := b.rd (sk n Obj.SnapshotSession.Mode) == 0
  let free := b.setSess n { b.sess n with transfer := none }
  let found : Except Nat (Nat × Image × Nat) := match kept with
    | some e => .ok e
    | none =>
      match (if live then (match b.newestImage with
                           | some e => if e.2.bad then .error 5 else .ok e
                           | none => .error 1) else b.readImage n) with
      | .error st => .error st
      | .ok (k, i) =>
        if (b.sess n).pin = some k then .ok (k, i, if live then b.pinLimit n else (b.sess n).pinLeft)
        else if free.canPin k then .ok (k, i, b.pinLimit n) else .error 3
  match found with
  | .error st => b.snapFail n st
  | .ok (k, i, left) =>
    let data := b.imageValue i n key
    let b := if live then b else b.setPinStatus n 0
    let b := (b.startTransfer n { kind := 0, key, total := data.length, slot := some k, left }).send 4 [8, n, key, k, left]
    ({ flags := flRESPONSE + flMORE + flFIRST + flIMAGE, total := data.length, data := data.take size }, b)

end Block

/-- A read served live (R89, R494): a value longer than `size` is copied into a pool buffer. -/
def State.readLive (s : State) (n key size : Nat) : Reply × State :=
  let r := s.valueOf n key
  if r.1.length ≤ size then ({ flags := flRESPONSE, data := r.1 }, r.2)
  else if !s.blk.poolFree n then ({ status := dsBUSY, flags := flRESPONSE }, s)
  else
    let t : Transfer := { kind := 1, key, total := r.1.length, bytes := r.1.mapIdx (fun i v => (i, v)) }
    ({ flags := flRESPONSE + flMORE + flFIRST, total := r.1.length, data := r.1.take size }, r.2.mapBlk (·.startTransfer n t))

/-- A read of an object by session n, `size` being the longest value that fits one response (R83, R93, R493). -/
def State.readObject (s : State) (n key size : Nat) : Reply × State :=
  let b := s.blk
  let st := objectStatus key
  let put (r : Reply × Block) : Reply × State := (r.1, { s with blk := r.2 })
  if st ≠ dsOK then ({ status := st, flags := flRESPONSE }, s)
  else if isLive key then s.readLive n key size
  else if b.rd (sk n Obj.SnapshotSession.Mode) = 1 then
    if (b.sess n).expired then put (b.snapExpired n)
    else match b.readImage n with
      | .error e => put (b.snapFail n e)
      | .ok (_, i) =>
        let v := b.imageValue i n key
        if v.length ≤ size then put ({ flags := flRESPONSE + flIMAGE, data := v }, b.setPinStatus n 0) else put (b.imageTransfer n key size)
  else
    let v := (s.valueOf n key).1
    if v.length ≤ size then ({ flags := flRESPONSE, data := v }, s) else put (b.imageTransfer n key size)

namespace Block

/-- The bytes a read transfer serves. -/
def transferBytes (b : Block) (n : Nat) (t : Transfer) : Option (List Nat) :=
  match t.slot with
  | some k => (b.image? k).bind (fun i => if i.bad then none else some (b.imageValue i n t.key))
  | none => some (t.bytes.map (·.2))

/-- A segment of a read transfer from an offset on (R493, R496, R503). -/
def readSegment (b : Block) (n off size : Nat) : Reply × Block :=
  match (b.sess n).transfer with
  | none => (({ (b.sess n).ended with flags := flRESPONSE } : Reply), b)
  | some t =>
    if t.stale then ({ status := dsABORTED, flags := flRESPONSE }, b)
    else if t.kind = 2 then ({ status := dsNO_TRANSFER, flags := flRESPONSE }, b)
    else
      let b := b.setSess n { b.sess n with transfer := some { t with idle := 0 } }
      if t.total ≤ off then ({ status := dsTYPE_LENGTH, flags := flRESPONSE }, b)
      else match b.transferBytes n t with
        | none => ({ status := dsSNAPSHOT, detail := 5, flags := flRESPONSE }, b)
        | some l =>
          let d := (l.drop off).take size
          ({ flags := flRESPONSE + (if off + d.length < t.total then flMORE else 0) + (if t.kind = 0 then flIMAGE else 0), data := d }, b)

/-- Bytes at an offset of a buffer. -/
def putBytes (t : Tab Nat) (off : Nat) (l : List Nat) : Tab Nat := (l.mapIdx (fun i v => (off + i, v))).foldl (fun t e => Tab.set t e.1 e.2) t

/-- The first segment of a write that runs as a transfer (R495). -/
def writeFirst (b : Block) (n key total : Nat) (data : List Nat) : Reply × Block :=
  if objectStatus key ≠ dsOK then ({ status := objectStatus key, flags := flRESPONSE }, b)
  else if 65536 < total ∨ total < data.length then ({ status := dsTYPE_LENGTH, flags := flRESPONSE }, b)
  else if !b.poolFree n then ({ status := dsBUSY, flags := flRESPONSE }, b)
  else ({ flags := flRESPONSE }, b.startTransfer n { kind := 2, key, total, bytes := putBytes [] 0 data })

/-- A later segment of a write transfer; bytes at or beyond the whole length refuse it. -/
def writeSegment (b : Block) (n off : Nat) (data : List Nat) : Reply × Block :=
  match (b.sess n).transfer with
  | none => (({ (b.sess n).ended with flags := flRESPONSE } : Reply), b)
  | some t =>
    if t.stale then ({ status := dsABORTED, flags := flRESPONSE }, b)
    else if t.kind ≠ 2 then ({ status := dsNO_TRANSFER, flags := flRESPONSE }, b)
    else if t.total < off + data.length then ({ status := dsTYPE_LENGTH, flags := flRESPONSE }, b)
    else ({ flags := flRESPONSE }, b.setSess n { b.sess n with transfer := some { t with idle := 0, bytes := putBytes t.bytes off data } })

end Block

/-! ### Writes (R484) -/

/-- The data length fits the object's type. -/
def lengthOk (key len : Nat) : Bool :=
  match objectType key with
  | .uint k => len == k
  | .sint k => len == k
  | .domain m fixed => if fixed then len == m else decide (len ≤ m)

namespace Block

/-- Refused in GRAVE (R356, R514, R532): staged writes, submits and actions, and host transactions. -/
def graveRefuses (b : Block) (key : Nat) : Bool :=
  b.inGrave && (objectMode key == .staged ||
    [Obj.CommitSession.Submit, Obj.ActionRequest.Submit, objKey 0x4C30 1].contains key)

/-- Refused while ARCHIVED (R451): staged writes but those of HeartwoodProtect. -/
def archiveRefuses (b : Block) (key : Nat) : Bool := b.archived && objectMode key == .staged && keyIndex key != 0x4601

/-- The range of an immediate write (R484, R576, and the objects' own rules). -/
def nowInRange (b : Block) (key v : Nat) : Bool :=
  let i := keyIndex key
  if isDomain key then true
  else if 0x1800 ≤ i ∧ i ≤ 0x1807 ∧ 3 ≤ keySub key then false
  else if key = Obj.SnapshotSession.PinLimit then decide (1 ≤ v) && decide (v ≤ b.glade.fnom * 30)
  else if key = Obj.HeartwoodWindow.Offset then v % 65536 == 0 && decide (v ≤ 0x3F0000)
  else if key = Obj.DumpWindow.Offset then v % 65536 == 0
  else inRange (b.wr key v) key

/-- Answers of an immediate write: performed, or refused by its object with the Result it left (R487). -/
def answered (b : Block) (res : Nat) : Reply × Block :=
  let v := b.rd res
  ({ status := if v = 0 then dsOK else dsREFUSED, detail := v, flags := flRESPONSE }, b)

def ok (b : Block) : Reply × Block := ({ flags := flRESPONSE }, b)

/-! #### ABORT (R511, R512) -/

/-- The function that an abort of a kind addresses runs (R512); kinds 1 a transfer, 2 a sequence, 3 an authentication, 4 the flash, 5 an apply, 6 a dump. -/
def abortRunning (b : Block) (kind target : Nat) : Bool :=
  match kind with
  | 1 => (b.sess target).transfer.isSome
  | 2 => b.seqRuns target
  | 3 => b.authRuns target
  | 4 => b.flashBusy || (b.dump.area.isSome && b.dump.area != some 2) || b.flashWritten
  | 5 => b.updState == usAPPLYING
  | _ => b.dump.area.isSome || b.dump.due.isSome

/-- A target that a kind allows (R512). -/
def abortTarget (kind target : Nat) : Bool :=
  match kind with
  | 1 => decide (target < 32)
  | 2 | 3 => decide (target < 16)
  | 4 | 5 | 6 => target == 0
  | _ => false

/-- Execute (R511): the answer is known at once for a bad target or an idle function. -/
def abortExecute (b : Block) (n : Nat) : Block :=
  let kind := b.rd (sk n Obj.Abort.Kind)
  let target := b.rd (sk n Obj.Abort.Target)
  if !abortTarget kind target then b.abortAnswer n 4
  else if !b.abortRunning kind target then b.abortAnswer n 1
  else if kind = 2 then b.abortSequence n target
  else b.abortWait n kind target

/-! #### The communication area (R505, R506, R576) -/

/-- The mapping entries of a TPDO that count: index, sub-index and bits. -/
def tpdoEntries (b : Block) (u : Nat) : List (Nat × Nat) :=
  (List.range (b.rd (Obj.TpdoMap.MapCount u))).map (fun i =>
    let e := b.rd (Obj.TpdoMap.MapEntry u i)
    (objKey (e / 65536) (e / 256 % 256), e % 256))

/-- An entry maps an object of 1 to 8 bytes with its own length. -/
def tpdoEntryOk (e : Nat × Nat) : Bool :=
  objectStatus e.1 == dsOK && objectAccess e.1 != .wo && (match objectType e.1 with
    | .uint k => decide (1 ≤ k) && decide (k ≤ 8) && e.2 == 8 * k
    | .sint k => decide (1 ≤ k) && decide (k ≤ 8) && e.2 == 8 * k
    | .domain m fixed => fixed && decide (1 ≤ m) && decide (m ≤ 8) && e.2 == 8 * m)

/-- A mapping that R505 allows: at most 64 bytes. -/
def tpdoMapOk (b : Block) (u : Nat) : Bool :=
  let l := b.tpdoEntries u
  l.all tpdoEntryOk && decide ((l.map (·.2)).sum ≤ 512)

/-- A write to the communication area: passed to the partner and stored (R506). -/
def writeComm (b : Block) (key v : Nat) : Reply × Block :=
  let i := keyIndex key
  let c := b.wr key v
  let bad := decide (0x1A00 ≤ i) && decide (i ≤ 0x1A07) &&
    (if keySub key = 0 then !c.tpdoMapOk (i - 0x1A00)
     else b.rd (Obj.TpdoMap.MapCount (i - 0x1A00)) != 0 || !tpdoEntryOk (objKey (v / 65536) (v / 256 % 256), v % 256))
  if bad then ({ status := dsREFUSED, flags := flRESPONSE }, b) else (c.send 4 [7, key, v]).storeImage.ok

/-! #### Triggers -/

/-- Immediate writes of the session objects (R91, R98, R105, R75, R511), R556, R567. -/
def writeSession (b : Block) (n key v : Nat) (data : List Nat) : Reply × Block :=
  if key = objKey 0x2052 3 then (b.clearFlags v).ok
  else if keyIndex key = 0x2054 then (b.modAon (fun x => { x with ram := data })).ok
  else if key = Obj.SnapshotSession.Pin then
    let c := b.pinMirror n (fun b => if v = 0 then b.pinRelease n else if v = 1 then b.pinNewest n else b.pinNamed n)
    let st := c.rd (sk n Obj.SnapshotSession.Status)
    if st = 0 then c.ok else ({ status := dsSNAPSHOT, detail := st, flags := flRESPONSE }, c)
  else if key = Obj.CommitSession.Open then (if v = 1 then b.commitOpen n else b.commitDiscard n).ok
  else if key = Obj.CommitSession.Submit then (b.commitSubmit n).answered (sk n Obj.CommitSession.Status)
  else if key = Obj.CommitSession.Cancel then (b.commitCancel n v).ok
  else if key = Obj.Abort.Execute then (b.abortExecute n).ok
  else if key = Obj.ActionRequest.Submit then (b.actionSubmit n).answered (sk n Obj.ActionRequest.Status)
  else if key = Obj.ActionRequest.Cancel then (b.actionCancel n v).answered (sk n Obj.ActionRequest.CancelStatus)
  else ((b.wr (sk n key) v).send 4 [7, sk n key, v]).ok

/-- Immediate writes of the unit records (R156, R263, R282, R201, R329). -/
def writeUnit (b : Block) (key v : Nat) : Reply × Block :=
  let i := keyIndex key
  if i < 0x3200 then (b.injectCrc (i - 0x3000) v).ok
  else if i < 0x3500 then (b.clearSuspect (i - 0x3400)).ok
  else if i < 0x3700 then (b.authDue (i - 0x3600)).ok
  else if i < 0x3800 then (if keySub key = 0x20 then allChannels.foldl calibrate b else b.calibrate (i - 0x3700)).ok
  else if v < 8 then (b.releaseSnapshot v).ok
  else b.ok

/-- Immediate writes of the fault objects (R350, R351, R358, R361). -/
def writeFault (b : Block) (n key v : Nat) : Reply × Block :=
  let res := sk n Obj.FaultControl.Result
  if keyIndex key = 0x4001 then
    match keySub key with
    | 4 => (b.faultAll n 4).answered res
    | 5 => (b.faultAll n 5).answered res
    | 6 => ((b.stickyOff.send 1 [8, 6, 0, n]).faultResult n fcOK).answered res
    | op => (b.faultWrite n op v).answered res
  else if keyIndex key = 0x4004 then
    match keySub key with
    | 7 => (b.inject (fun f => { f with sramArmed := true })).ok
    | 8 => (b.inject (fun f => { f with partnerCrcLeft := v / 256 % 256, partnerCrcSel := v % 4 })).ok
    | 9 => (b.inject (fun f => { f with pecLeft := v / 256 % 256, pecSel := v % 16 })).ok
    | _ => (b.wr key v).ok
  else if bitOf v 0 then (b.wr key 0).ok
  else b.ok

/-- Immediate writes of the recorder, the dumps, the pair and the two-wire ports (R414, R421, R423, R425, R430, R390–R398, R532). -/
def writeUnitless (b : Block) (n key v : Nat) (data : List Nat) : Reply × Block :=
  if key = Obj.RingsControl.Flush then b.flushTrigger.ok
  else if key = Obj.RingsControl.Clear then (b.ringsClear n v).ok
  else if key = Obj.RingsReader.Open then (if v = 1 then b.readerOpen n else b.readerClose n).ok
  else if keyIndex key = 0x4800 ∧ keySub key = 1 then (b.updBegin n).answered (sk n Obj.UpdateControl.Result)
  else if keyIndex key = 0x4800 ∧ keySub key = 2 then (b.updVerify n).answered (sk n Obj.UpdateControl.Result)
  else if key = Obj.SigningKeys.RevokeKey then (b.revokeKey n v).answered (sk n Obj.UpdateControl.Result)
  else if key = Obj.RedundancyStatus.Resync then b.resyncNow.ok
  else if key = Obj.SwapControl.SwapNow then (b.swapNow n).answered (sk n Obj.SwapControl.Status)
  else if key = Obj.SwapDrill.DrillNow then b.drillStart.ok
  else if key = Obj.PartnerKill.KillNow then
    let c := b.requestKill (v == 0x4B)
    ({ status := if c.rd Obj.PartnerKill.LastResult = 1 then dsOK else dsREFUSED, detail := c.rd Obj.PartnerKill.LastResult, flags := flRESPONSE }, c)
  else if key = objKey 0x4C30 1 then
    let at_ (i : Nat) : Nat := data.getD i 0
    let c := if data.length < 6 ∨ data.length ≠ 6 + at_ 5 then b.twResult n twBAD_REQUEST
      else b.twRequest n (at_ 0) (at_ 1) (at_ 2) (at_ 3) (at_ 4 != 0) (data.drop 6)
    let r := (Tab.look [0] c.tw.results n).headD 0
    ({ status := if r = twPENDING then dsOK else dsREFUSED, detail := r, flags := flRESPONSE }, c)
  else if key = Obj.DumpControl.DumpNow then (b.dumpNow n).answered (sk n Obj.DumpControl.Result)
  else if key = Obj.DumpControl.Release then (b.dumpRelease n v).answered (sk n Obj.DumpControl.Result)
  else ((b.wr (ownKey n key) v).send 4 [7, ownKey n key, v]).ok

end Block

/-- An immediate write of a value in range. -/
def State.writeNow (s : State) (n key v : Nat) (data : List Nat) : Reply × State :=
  let b := s.blk
  let i := keyIndex key
  let put (r : Reply × Block) : Reply × State := (r.1, { s with blk := r.2 })
  let upd (t : State) : Reply × State := let r := t.blk.answered (sk n Obj.UpdateControl.Result); (r.1, { t with blk := r.2 })
  if i < 0x2000 then put (b.writeComm key v)
  else if i < 0x3000 then put (b.writeSession n key v data)
  else if i < 0x4000 then put (b.writeUnit key v)
  else if i < 0x4400 then put (b.writeFault n key v)
  else if i = 0x4800 ∧ keySub key = 3 then upd (s.updateApply n)
  else if i = 0x4800 ∧ keySub key = 4 then upd (s.updReboot n)
  else if i = 0x4802 then upd (s.updateData n data 0)
  else put (b.writeUnitless n key v data)

/-- A write of an object by session n: the checks of R484 in their order, then the write. -/
def State.writeObject (s : State) (n key : Nat) (data : List Nat) : Reply × State :=
  let b := s.blk
  let v := leValue data
  let refuse (st : Nat) : Reply × State := ({ status := st, flags := flRESPONSE }, s)
  if objectStatus key ≠ dsOK then refuse (objectStatus key)
  else if !lengthOk key data.length then refuse dsTYPE_LENGTH
  else if objectAccess key = .ro then ({ flags := flRESPONSE }, s)
  else if b.graveRefuses key then refuse dsGRAVE
  else if b.archiveRefuses key then refuse dsARCHIVED
  else match objectMode key with
    | .none => ({ flags := flRESPONSE }, s)
    | .staged =>
      let r := b.stageWrite n key data
      (match r.1 with
       | none => ({ flags := flRESPONSE } : Reply)
       | some st => { status := dsREFUSED, detail := st, flags := flRESPONSE }, { s with blk := r.2 })
    | .immediate => if b.nowInRange key v then s.writeNow n key v data else refuse dsRANGE

/-- END of a transfer (R493, R495): a read transfer closes; an assembled value is written. -/
def State.endOfTransfer (s : State) (n : Nat) : Reply × State :=
  match (s.blk.sess n).transfer with
  | none => (({ (s.blk.sess n).ended with flags := flRESPONSE } : Reply), s)
  | some t =>
    if t.stale then ({ status := dsABORTED, flags := flRESPONSE }, s)
    else if t.kind = 2 then
      if t.bytes.length < t.total then ({ status := dsTYPE_LENGTH, flags := flRESPONSE }, s)
      else (s.mapBlk (·.endTransfer n dsNO_TRANSFER)).writeObject n t.key (t.bytes.map (·.2))
    else ({ flags := flRESPONSE }, s.mapBlk (fun b => (b.endTransfer n dsNO_TRANSFER).send 4 [9, n]))

/-- OBJECT_WRITE (R96, R97, R484): a write to an object; the session's reply is its response. -/
def execObjectWrite (n index sub : Nat) (data : List Nat) (s : State) : Host.Outcome State Fault Refusal :=
  s.runOn (decide (n < 32)) .session n (fun s =>
    let r := s.writeObject n (objKey (index % 65536) (sub % 256)) data
    r.2.mapBlk (fun b => b.setSess n { b.sess n with reply := r.1 }))

end Sys2Proof.Machine
end

