-- ==== Sys2Proof/Machine/Sessions.lean ====
section
/-! DEFINITION. Host sessions (R488–R492), EDP (R497–R501), the partner's copy of session state (R95), host alerts (R508–R510) and overdue aborts (R513). -/

namespace Sys2Proof.Machine

/-- Networks of R490. -/
def nwEDP : Nat := 1
def nwCAN0 : Nat := 2
def nwCAN1 : Nat := 3
def nwTW0 : Nat := 4

namespace Block

/-- The firmware serves requests (R559): from its start until the controller stops. -/
def serves (b : Block) : Bool := b.aon.phase == 6 || b.aon.phase == 7

/-- A session is served here (R498, R503): the rack's by the holder, a seat's by its own controller. -/
def servedHere (b : Block) (x : Session) : Bool := if x.onSeat then x.seat == b.seat else b.isHolder

/-! ### Opening and closing (R488–R490) -/

/-- A session's entry in SessionTable (R490). -/
def sessionEntry (b : Block) (n : Nat) : Block :=
  let x := b.sess n
  b.wr (Obj.SessionTable.SessionEntry n) (if x.opened then x.network * 2 ^ 24 + x.node * 2 ^ 16 + min x.idle 0xFFFF else 0)

/-- SessionsOpen (R114). -/
def sessionCount (b : Block) : Block :=
  b.wr Obj.CanopyStatus.SessionsOpen (b.sessions.filter (fun (e : Nat × Session) => e.2.opened)).length

/-- The first of the sessions 0–27 that is free; one closed in this tick is free from the next (R489). -/
def freeSession (b : Block) : Option Nat := (List.range 28).find? (fun n => !(b.sess n).opened && !b.net.closed.contains n)

/-- A session opens: its objects have their defaults (R486, R489); a subscriber's alerts are those after the newest (assumption 64). -/
def openSession (b : Block) (n network node : Nat) (onSeat : Bool) (seat : Nat) (subscribe : Bool) : Block :=
  let x : Session := { opened := true, network, node, onSeat, seat, subscribe, ackSeq := b.rd Obj.AlertStatus.NewestSequence }
  (((b.setSess n x).wrs [(sk n Obj.SnapshotSession.SessionId, n), (sk n Obj.SnapshotSession.PinLimit, b.glade.fnom * 30)]).sessionEntry n).sessionCount

/-- Sessions 0–27 are all open (R488). -/
def refuseSession (b : Block) : Block := b.report Src.SESSION_REFUSED 0

/-- A host transaction of the session goes on, its result goes nowhere; the two-wire window's selection goes. -/
def dropTw (b : Block) (n : Nat) : Block :=
  let off (r : TwReq) : TwReq := if r.session = n then { r with session := 0xFF } else r
  let port (e : Nat × TwPort) : Nat × TwPort := (e.1, { e.2 with cur := e.2.cur.map off, queue := e.2.queue.map off })
  let a : TwAddress := Tab.look {} b.tw.addrs (n - 28)
  let keep : TwAddress := { cursor := a.cursor, armed := a.armed, disarmedAt := a.disarmedAt }
  { b with tw := { b.tw with
    ports := b.tw.ports.map port, results := Tab.drop b.tw.results n, addrs := if 28 ≤ n then Tab.put {} b.tw.addrs (n - 28) keep else b.tw.addrs } }

/-- A session closes (R489): its pins, its open bundle, its transfer, its reader and its objects go; accepted bundles and actions stay. -/
def sessionClose (b : Block) (n : Nat) : Block :=
  let b := (b.readerClose n).dropTw n
  let mine (k : Nat) : Bool := k / 0x1000000 == n + 1
  let net := { b.net with closed := n :: b.net.closed, sentAt := Tab.drop b.net.sentAt n, alertOut := Tab.drop b.net.alertOut n }
  let b := { b.setSess n {} with net := net, update := { b.update with session := if b.update.session = n then 0xFF else b.update.session } }
  let b := { b with dict := b.dict.filter (fun e => !mine e.1), wimg := b.wimg.filter (fun e => !mine e.1) }
  ((b.pinCounts.stagingCounts).sessionEntry n).sessionCount

/-- A session closes here, and the partner learns of it (R95). -/
def closeHere (b : Block) (n : Nat) : Block := (b.sessionClose n).send 4 [1, n]

/-- SESSION_IDLE (R489). -/
def sessionIdle (b : Block) (n : Nat) : Block :=
  let x := b.sess n
  if x.opened && b.servedHere x && decide (b.rd (sk n Obj.SessionConfig.SessionIdle) ≤ x.idle) then b.closeHere n else b

/-- TRANSFER_IDLE (R496): 250 cycles without a segment request. -/
def transferIdle (b : Block) (n : Nat) : Block :=
  match (b.sess n).transfer with
  | some t => if 250 ≤ t.idle then ((b.endTransfer n dsTIMEOUT).send 4 [9, n]).report Src.TRANSFER_TIMEOUT n else b
  | none => b

/-- A cycle without a request of a session served here, and one without a segment request of its transfer (R489, R490, R496). -/
def ageSessions (b : Block) : Block :=
  b.sessions.foldl (fun b e =>
    let x := b.sess e.1
    if x.opened then
      let t := x.transfer.map (fun (t : Transfer) => { t with idle := t.idle + 1 })
      (b.setSess e.1 { x with transfer := t, idle := if b.servedHere x then x.idle + 1 else 0 }).sessionEntry e.1
    else b) b

/-- A request restarts SessionIdle. -/
def touch (b : Block) (n : Nat) : Block := (b.setSess n { b.sess n with idle := 0 }).sessionEntry n

/-- Sessions on an address, a node-ID or a port that a commit changed close at its boundary (R501, R507, R514, R520). -/
def netCommitted (b old : Block) (keys : List Nat) : Block :=
  let ch (k : Nat) : Bool := keys.contains k && b.rd k != old.rd k
  let seatKey (a c : Nat) (x : Session) : Nat := if x.seat = 0x42 then c else a
  let rates := ch Obj.CanConfig.NominalRate || ch Obj.CanConfig.DataRate
  let portOff (i : Nat) : Bool := ch Obj.CanConfig.PortEnable && bitOf (b.rd Obj.CanConfig.PortEnable) i != bitOf (old.rd Obj.CanConfig.PortEnable) i
  let mode := ch Obj.TwTargetConfig.AddressMode || ch Obj.TwTargetConfig.AddressMask
  let gone (n : Nat) (x : Session) : Bool := x.opened &&
    (if x.network = nwEDP then
      ch (if x.onSeat then seatKey Obj.EthConfig.SeatAddressA Obj.EthConfig.SeatAddressB x else Obj.EthConfig.RackAddress)
    else if x.network = nwTW0 then mode || ch (Obj.TwTargetConfig.Address (n - 28)) || ch (Obj.TwTargetConfig.Scope (n - 28)) ||
      (b.rd Obj.TwTargetConfig.AddressMode == 1 && ch (Obj.TwTargetConfig.Address 0))
    else rates || portOff (x.network - nwCAN0) ||
      ch (if x.onSeat then seatKey Obj.CanConfig.SeatNodeIdA Obj.CanConfig.SeatNodeIdB x else Obj.CanConfig.RackNodeId))
  let b := ((List.range 32).filter (fun n => gone n (b.sess n))).foldl sessionClose b
  let nodeGone (e : Nat × Nat) : Bool := rates || portOff (e.1 / 2) ||
    ch (if e.1 % 2 = 1 then Obj.CanConfig.RackNodeId else if b.seat = 0x42 then Obj.CanConfig.SeatNodeIdB else Obj.CanConfig.SeatNodeIdA)
  { b with net := { b.net with nmt := b.net.nmt.filter (fun e => !nodeGone e) } }

/-! ### EDP requests (R491, R497–R500) -/

/-- This controller answers EDP on its seat address or, as holder, on RackAddress; an address of 0 is disabled (R498, R501). -/
def answersEdp (b : Block) (onSeat : Bool) : Bool :=
  b.serves && (if onSeat then b.rd (if b.seat = 0x42 then Obj.EthConfig.SeatAddressB else Obj.EthConfig.SeatAddressA) != 0
    else b.isHolder && b.rd Obj.EthConfig.RackAddress != 0)

/-- A response to a request that names no session open to its sender. -/
def noSession (b : Block) (st : Nat) : Block := { b with net := { b.net with reply := { status := st, flags := flRESPONSE } } }

/-- A request executed with its response: cached, and sent at once or once the partner has confirmed it (R491). -/
def answer (b : Block) (n id : Nat) (isRead : Bool) (r : Reply) : Block :=
  let wait := !isRead && b.linkUp
  let x := b.sess n
  let cache := (x.cache ++ [{ id, reply := r, waiting := wait }])
  let b := b.setSess n { x with cache := cache.drop (cache.length - 8), reply := if wait then x.reply else r }
  if wait then b.send 4 [4, n, id] else b

/-- EDP_OPEN (R488, R490, R499): the session in its header; BufferSize within its range (assumption 64). -/
def edpOpen (b : Block) (id size : Nat) (subscribe onSeat : Bool) : Block :=
  if !b.answersEdp onSeat then b
  else
    let b := b.bump Obj.EthStatus.Datagrams
    let no (b : Block) (st : Nat) : Block := { b.noSession st with net := { (b.noSession st).net with opened := 0xFF } }
    if size < 512 ∨ 1408 < size then no b dsRANGE
    else match b.freeSession with
      | none => (no b dsNO_SESSION).refuseSession
      | some n =>
        let b := b.openSession n nwEDP 0 onSeat (if onSeat then b.seat else 0) subscribe
        let b := (b.wr (sk n Obj.SessionConfig.BufferSize) size).send 4 [0, n]
        { b.answer n id false { flags := flRESPONSE } with net := { b.net with opened := n } }

/-- EDP_CLOSE (R489): answered once the partner has confirmed it. -/
def edpClose (b : Block) (n id : Nat) : Block :=
  let b := b.sessionClose n
  if b.linkUp then b.send 4 [1, n, id] else b.noSession dsOK

/-- The partner did not confirm a request, a close or a write passed on within 1 ms (R350, R487, R491). -/
def confirmTimeout (b : Block) (n id : Nat) : Block :=
  let closes := b.pair.out.any (fun m => m.kind == 4 && m.ref == [1, n, id])
  let b := (b.requestDone n id (fun _ => { status := dsPARTNER_NO_ACK, flags := flRESPONSE })).unsend 4 [4, n, id]
  let b := if closes then (b.noSession dsPARTNER_NO_ACK).unsend 4 [1, n, id] else b
  (b.pair.out.filter (fun m => m.kind == 1)).foldl (fun b m =>
    match m.ref with
    | [8, _, _, k] => if k = n then (b.faultResult n fcPARTNER_NO_ACK).unsend 1 m.ref else b
    | _ => b) b

/-! ### The partner's copy (R95) -/

/-- A pin of the partner's on an image held here too. -/
def mirrorPin (b : Block) (n slot left : Nat) : Block :=
  match b.image? slot with
  | some i => ((b.setSess n { b.sess n with pin := some slot, pinLeft := left }).wrs
      [(sk n Obj.SnapshotSession.PinnedEpoch, i.epoch), (sk n Obj.SnapshotSession.PinnedCycle, i.cycle), (sk n Obj.SnapshotSession.PinRemaining, left)]).pinCounts
  | none => b

/-- An alert enters the queue; a full one loses its oldest (R509). -/
def pushAlert (b : Block) (a : Alert) : Block :=
  let l := b.net.alerts ++ [a]
  let b := if 256 < l.length then (b.bump Obj.AlertStatus.Dropped).report Src.ALERT_OVERFLOW 0 else b
  let l := l.drop (l.length - 256)
  ({ b with net := { b.net with alerts := l } }).wrs [(Obj.AlertStatus.NewestSequence, a.seq), (Obj.AlertStatus.Queued, l.length)]

/-- The address of entry n of TW0 (R520): its own in LIST mode; in MASK mode the masked bits, in ascending order, give n. -/
def entryAddress (b : Block) (n : Nat) : Option Nat :=
  if b.rd Obj.TwTargetConfig.AddressMode = 1 then
    let a0 := b.rd (Obj.TwTargetConfig.Address 0)
    let bits := (List.range 7).filter (bitOf (b.rd Obj.TwTargetConfig.AddressMask))
    if a0 = 0 ∨ 2 ^ bits.length ≤ n then none
    else some ((bits.mapIdx (fun i x => (x, bitOf n i))).foldl (fun a e => putBit a e.1 e.2) a0)
  else
    let a := b.rd (Obj.TwTargetConfig.Address n)
    if a = 0 then none else some a

/-- Where alerts go: what each subscriber and each enabled address has acknowledged. -/
def receivers (b : Block) : List Nat :=
  (b.sessions.filter (fun (e : Nat × Session) => e.2.opened && e.2.subscribe)).map (fun e => e.2.ackSeq) ++
    ((List.range 4).filter (fun n => bitOf (b.rd Obj.TwTargetConfig.AlertEnable) n && (b.entryAddress n).isSome)).map (fun n =>
      let a : TwAddress := Tab.look {} b.tw.addrs n
      a.cursor)

/-- An alert that every receiver has acknowledged leaves the queue (assumption 65). -/
def pruneAlerts (b : Block) : Block :=
  let rs := b.receivers
  let l := if rs.isEmpty then b.net.alerts else b.net.alerts.filter (fun a => rs.any (fun c => ahead 32 a.seq c))
  ({ b with net := { b.net with alerts := l } }).wr Obj.AlertStatus.Queued l.length

/-- The addresses of TW0 that get an alert are armed (R527, R528). -/
def armAlert (b : Block) : Block :=
  let arm (t : Tab TwAddress) (n : Nat) : Tab TwAddress :=
    let a : TwAddress := Tab.look {} t n
    Tab.put {} t n { a with armed := true, disarmedAt := none }
  { b with tw := { b.tw with addrs := ((List.range 4).filter (fun n => bitOf (b.rd Obj.TwTargetConfig.AlertEnable) n)).foldl arm b.tw.addrs } }

/-- What a SESSION message says: 0 open (network, node, 1 on the partner's seat + 2 subscribed), 1 close, 2 pin (slot, cycles left), 3 unpin,
4 a request (RequestId, status, detail, data), 5 an alert (sequence, E, kind + scope × 256 + instance × 65536, code + detail × 65536), 6 an
acknowledgement, 7 an immediate write (key, value), 8 a transfer on an image (key, slot, cycles left), 9 its end, 10 the alert cursor of a TW0 address. -/
def partnerSession (b : Block) (op n p q r t : Nat) (data : List Nat) : Block :=
  match op with
  | 0 => b.openSession n p q (r % 2 == 1) (if r % 2 = 1 then b.otherSeat else 0) (r / 2 % 2 == 1)
  | 1 => b.sessionClose n
  | 2 => b.mirrorPin n p q
  | 3 => b.unpin n
  | 4 =>
    let x := b.sess n
    let c := x.cache ++ [{ id := p, reply := { status := q, detail := r, flags := flRESPONSE, data } }]
    b.setSess n { x with cache := c.drop (c.length - 8) }
  | 5 => b.pushAlert { seq := p, event := q, kind := r % 256, scope := r / 256 % 256, inst := r / 65536, code := t % 65536, detail := t / 65536 } |>.armAlert
  | 6 => (b.setSess n { b.sess n with ackSeq := p }).pruneAlerts
  | 7 => if 0x1000 ≤ p / 256 ∧ p / 256 < 0x2000 then (b.wr p q).storeImage else b.wr p q
  | 8 => (b.setSess n { b.sess n with transfer := some { kind := 0, key := p, total := (data.headD 0), slot := some q, left := r } }).pinCounts
  | 9 => b.endTransfer n dsNO_TRANSFER
  | _ =>
    let a : TwAddress := Tab.look {} b.tw.addrs (n % 4)
    ({ b with tw := { b.tw with addrs := Tab.put {} b.tw.addrs (n % 4) { a with cursor := p } } } : Block).pruneAlerts

/-- EDP_ALERT_ACK (R509): acknowledgements are mirrored. -/
def edpAck (b : Block) (n seq : Nat) : Reply × Block :=
  let x := b.sess n
  let b := if ahead 32 seq x.ackSeq then ((b.setSess n { x with ackSeq := seq }).send 4 [6, n, seq]).pruneAlerts else b
  b.ok

/-! ### Host alerts (R508–R510) -/

/-- The E of the newest record of a unit; the newest E where none is held (assumption 65). -/
def recordOf (b : Block) (scope inst : Nat) : Nat :=
  let l := b.rings.queue.reverse ++ b.rings.buffer.reverse
  match l.find? (fun r => r.scope == scope && r.inst == inst) with
  | some r => r.seq
  | none => b.rd Obj.EventOrder.EventSequence

/-- An alert without its sequence: of a root, of a string event (R254), of a feed event (R306). -/
def rootAlert (r : Root) : Alert := ⟨0, r.seq, 1, r.scope, r.instances.headD 0, r.src, r.cls⟩
def eventAlert (b : Block) (e : Nat × Nat × Nat) : Alert :=
  let u := e.2.1
  let bit := e.2.2
  if e.1 = 1 then ⟨0, b.recordOf 2 u, 3, 2, u, bit, b.rd (Obj.FeedRecord.NextCapState u)⟩
  else
    let d := if bit < 3 then Obj.StringRecord.DischargeLevel u else if bit < 5 then Obj.StringRecord.ChargeLevel u
      else if bit = 5 then Obj.StringRecord.Presence u else Obj.StringRecord.Identity u
    ⟨0, b.recordOf 4 u, 2, 4, u, bit, b.rd d⟩

/-- The last 8 EMCY codes, newest first (R506). -/
def noteEmcy (b : Block) : Block :=
  let old := (List.range 7).map (fun i => b.rd (Obj.PreDefinedErrorField.ErrorField i))
  let b := (old.mapIdx (fun i v => (Obj.PreDefinedErrorField.ErrorField (i + 1), v))).foldl (fun b e => b.wr e.1 e.2) b
  (b.wr (Obj.PreDefinedErrorField.ErrorField 0) 0xFF00).wr Obj.PreDefinedErrorField.ErrorCount (min 8 (b.rd Obj.PreDefinedErrorField.ErrorCount + 1))

/-- A node of a port takes part in the traffic of its bus: the port is enabled and not in bus-off. -/
def canPort (b : Block) (i : Nat) : Bool := bitOf (b.rd Obj.CanConfig.PortEnable) i && b.rd (Obj.CanStatus.CanState i) != 2

/-- NMT state of a node, key port × 2 + (1 for RackNodeId): 0 Pre-operational, 1 Operational, 2 Stopped (R504). -/
def nmtOf (b : Block) (key : Nat) : Nat := Tab.look 0 b.net.nmt key

/-- EMCY 0xFF00 on RackNodeId of each Operational port (R509). -/
def emcy (b : Block) (a : Alert) : Block :=
  let ports := (List.range 2).filter (fun i => b.canPort i && b.nmtOf (i * 2 + 1) == 1)
  if b.rd Obj.AlertConfig.EmcyEnable ≠ 1 ∨ ports.isEmpty then b
  else
    let msg := leBytes 2 0xFF00 ++ [b.errorRegister] ++ leBytes 4 a.seq ++ [a.kind]
    ({ b with net := { b.net with emcy := ports.foldl (fun t i => Tab.set t (i * 2 + 1) msg) b.net.emcy } }).noteEmcy

/-- The holder forms an alert and mirrors it (R508, R509). -/
def formAlert (b : Block) (a : Alert) : Block :=
  let seq := (b.rd Obj.AlertStatus.NewestSequence + 1) % 2 ^ 32
  let a : Alert := { a with seq }
  (((b.pushAlert a).send 4 [5, seq]).emcy a).armAlert

/-- Alerts a session has not acknowledged. -/
def unacked (b : Block) (n : Nat) : List Alert := b.net.alerts.filter (fun a => ahead 32 a.seq (b.sess n).ackSeq)

/-- An ALERT datagram to a subscriber: up to 64 alerts (R509). -/
def sendAlerts (b : Block) (n : Nat) : Block :=
  { b with net := { b.net with
    sentAt := Tab.set b.net.sentAt n b.glade.ticks, alertOut := Tab.set b.net.alertOut n (((b.unacked n).take 64).map (·.seq)) } }

/-- The alerts of a tick are formed by the holder once the collector has made its roots, and delivered (R508, R509); a subscriber that a
take-over left with unacknowledged alerts gets them too. `old` are the numbers of the roots held before. -/
def formAlerts (b : Block) (old : List Nat) : Block :=
  let evs := b.events
  let b := { b with events := [] }
  if !b.isHolder then { b with net := { b.net with sentAt := [] } }
  else
    let roots := b.faults.roots.filter (fun r => !old.contains r.number && decide (b.rd Obj.AlertConfig.AlertMinClass ≤ r.cls))
    let l := roots.map rootAlert ++ evs.map b.eventAlert
    let b := l.foldl formAlert b
    let due (e : Nat × Session) : Bool := e.2.opened && e.2.subscribe && !(b.unacked e.1).isEmpty &&
      (!l.isEmpty || (Tab.keys b.net.sentAt).all (fun k => k != e.1))
    (b.sessions.filter due).foldl (fun b e => b.sendAlerts e.1) b

/-- ALERT_REPEAT (R509). -/
def alertRepeat (b : Block) (n : Nat) : Block :=
  let x := b.sess n
  match b.net.sentAt.find? (fun e => e.1 == n) with
  | none => b
  | some e =>
    if b.isHolder && x.opened && x.subscribe && !(b.unacked n).isEmpty && decide (b.rd Obj.AlertConfig.RepeatInterval * 1000 ≤ b.microsSince e.2)
    then b.sendAlerts n else b

end Block

/-! ### Serving (R491) -/

/-- An EDP request of a session: from the cache, or executed. `mine` holds where the session is open to its sender. -/
def State.serveEdp (s : State) (n id : Nat) (mine isRead : Bool) (f : State → Reply × State) : State :=
  let b := s.blk
  let x := b.sess n
  if !b.serves then s
  else if !(x.opened && x.network == nwEDP && mine) then s.mapBlk (·.noSession dsBAD_SESSION)
  else if !b.servedHere x then s
  else
    let s := s.mapBlk (fun b => (b.bump Obj.EthStatus.Datagrams).touch n)
    let x := s.blk.sess n
    let say (r : Reply) : State := s.mapBlk (·.setSess n { x with reply := r })
    match x.cache.find? (fun r => r.id == id) with
    | some r => say (if r.waiting then { status := dsIN_PROGRESS, flags := flRESPONSE } else r.reply)
    | none =>
      if x.cache.all (fun r => ahead 32 id r.id) then
        let r := f s
        r.2.mapBlk (·.answer n id isRead r.1)
      else say { status := dsSTALE, flags := flRESPONSE }

/-- The session's BufferSize (R490). -/
def State.bufferSize (s : State) (n : Nat) : Nat := s.blk.rd (sk n Obj.SessionConfig.BufferSize)

/-- A segment request for the object that the session's transfer carries. -/
def State.ofTransfer (s : State) (n key : Nat) (f : Block → Reply × Block) : Reply × State :=
  let hit := match (s.blk.sess n).transfer with
    | some t => t.key == key
    | none => true
  if hit then let r := f s.blk; (r.1, { s with blk := r.2 }) else ({ status := dsNO_TRANSFER, flags := flRESPONSE }, s)

/-- EDP_OPEN (R488, R500). -/
def execEdpOpen (id size : Nat) (subscribe seat : Bool) (s : State) : Host.Outcome State Fault Refusal := s.act (·.edpOpen id size subscribe seat)

/-- EDP_CLOSE (R489, R500). -/
def execEdpClose (n id : Nat) (mine : Bool) (s : State) : Host.Outcome State Fault Refusal :=
  s.actOn (decide (n < 28)) .session n (fun b =>
    let x := b.sess n
    if !b.serves then b
    else if !(x.opened && x.network == nwEDP && mine) then b.noSession dsBAD_SESSION
    else if b.servedHere x then (b.bump Obj.EthStatus.Datagrams).edpClose n id else b)

/-- EDP_READ (R491, R493, R500). -/
def execEdpRead (n id index sub : Nat) (mine : Bool) (s : State) : Host.Outcome State Fault Refusal :=
  s.runOn (decide (n < 28)) .session n (·.serveEdp n id mine true (fun s => s.readObject n (objKey (index % 65536) (sub % 256)) (s.bufferSize n)))

/-- EDP_READ_SEG (R493, R500). -/
def execEdpReadSeg (n id index sub off : Nat) (mine : Bool) (s : State) : Host.Outcome State Fault Refusal :=
  s.runOn (decide (n < 28)) .session n (·.serveEdp n id mine true (fun s =>
    s.ofTransfer n (objKey (index % 65536) (sub % 256)) (fun b => b.readSegment n off (s.bufferSize n))))

/-- EDP_WRITE (R484, R495, R500): a whole value, or the first segment of a transfer. -/
def execEdpWrite (n id index sub total : Nat) (first mine : Bool) (data : List Nat) (s : State) : Host.Outcome State Fault Refusal :=
  s.runOn (decide (n < 28)) .session n (·.serveEdp n id mine false (fun s =>
    let key := objKey (index % 65536) (sub % 256)
    if first then let r := s.blk.writeFirst n key total data; (r.1, { s with blk := r.2 }) else s.writeObject n key data))

/-- EDP_WRITE_SEG (R495, R500). -/
def execEdpWriteSeg (n id index sub off : Nat) (mine : Bool) (data : List Nat) (s : State) : Host.Outcome State Fault Refusal :=
  s.runOn (decide (n < 28)) .session n (·.serveEdp n id mine false (fun s =>
    s.ofTransfer n (objKey (index % 65536) (sub % 256)) (fun b => b.writeSegment n off data)))

/-- EDP_END (R493, R495, R500). -/
def execEdpEnd (n id : Nat) (mine : Bool) (s : State) : Host.Outcome State Fault Refusal :=
  s.runOn (decide (n < 28)) .session n (·.serveEdp n id mine false (·.endOfTransfer n))

/-- EDP_KEEPALIVE (R500). -/
def execEdpKeepalive (n id : Nat) (mine : Bool) (s : State) : Host.Outcome State Fault Refusal :=
  s.runOn (decide (n < 28)) .session n (·.serveEdp n id mine false (fun s => ({ flags := flRESPONSE }, s)))

/-- EDP_ALERT_ACK (R500, R509). -/
def execEdpAlertAck (n id seq : Nat) (mine : Bool) (s : State) : Host.Outcome State Fault Refusal :=
  s.runOn (decide (n < 28)) .session n (·.serveEdp n id mine false (fun s => let r := s.blk.edpAck n (seq % 2 ^ 32); (r.1, { s with blk := r.2 })))

/-- DICT_CONFIRM_TIMEOUT (R491, R350). -/
def execDictConfirmTimeout (n id : Nat) (s : State) : Host.Outcome State Fault Refusal := s.actOn (decide (n < 32)) .session n (·.confirmTimeout n id)

/-- SESSION_IDLE (R489). -/
def execSessionIdle (n : Nat) (s : State) : Host.Outcome State Fault Refusal := s.actOn (decide (n < 32)) .session n (·.sessionIdle n)

/-- TRANSFER_IDLE (R496). -/
def execTransferIdle (n : Nat) (s : State) : Host.Outcome State Fault Refusal := s.actOn (decide (n < 32)) .session n (·.transferIdle n)

/-- ALERT_REPEAT (R509). -/
def execAlertRepeat (n : Nat) (s : State) : Host.Outcome State Fault Refusal := s.actOn (decide (n < 32)) .session n (·.alertRepeat n)

/-- PARTNER_SESSION (R95, R375). -/
def execPartnerSession (lane mseq : Nat) (crcOk : Bool) (op n p q r t : Nat) (data : List Nat) (s : State) : Host.Outcome State Fault Refusal :=
  s.actOn (decide (lane < 2) && decide (n < 32)) .session n (fun b => b.arrive lane mseq crcOk (·.partnerSession op n p q r t data))

/-- ABORT_TRANSFER (R496, R511–R513). -/
def execAbortTransfer (n target : Nat) (s : State) : Host.Outcome State Fault Refusal :=
  s.runOn (decide (n < 32) && decide (target < 32)) .session n (fun s =>
    s.abortRun n 1 target (s.blk.sess target).transfer.isSome (·.mapBlk (fun b => (b.endTransfer target dsABORTED).send 4 [9, target])))

/-- What the last-resort sequencer's reset of a function leaves (R355, R513): what its abort would have left. -/
def State.functionReset (s : State) (kind target : Nat) : State :=
  match kind with
  | 1 => s.mapBlk (·.endTransfer target dsABORTED)
  | 2 => s.mapBlk (fun b =>
      let b := b.seqStop target
      let b := (b.setSeq target { b.seq target with forced := [], abortAt := none }).setSeqState target sqHALTED
      (b.wr (Obj.SequenceRecord.LastResult target) 4).report Src.SEQ_ABORTED target)
  | 3 => s.mapBlk (fun b => (b.authAbort target).twNext (b.authPort target))
  | 4 => (s.flashAbort 0).flashOwnersAborted
  | 5 => s.applyStop upABORTED
  | _ => s.mapBlk Block.dumpPartial

/-- The bound of an abort in ticks' time (R512), as microseconds; a sequence has 2 cycles. -/
def Block.abortOverdue (b : Block) (kind since : Nat) : Bool :=
  match kind with
  | 1 => decide (1000 ≤ b.microsSince since)
  | 2 => decide (since + 2 * b.glade.nt ≤ b.glade.ticks)
  | 3 => decide (5000 ≤ b.microsSince since)
  | _ => decide (50000 ≤ b.microsSince since)

/-- ABORT_OVERDUE (R513): an abort still waits at its bound. -/
def execAbortOverdue (kind target : Nat) (s : State) : Host.Outcome State Fault Refusal :=
  s.run (fun s =>
    let b := s.blk
    let waits := b.sessions.any (fun (e : Nat × Session) => match e.2.abort with
      | some (k, t, since) => k == kind && t == target && b.abortOverdue kind since
      | none => false)
    if !waits then s
    else if !b.abortRunning kind target then s.mapBlk (·.abortEnds kind target 2)
    else (s.functionReset kind target).mapBlk (fun b =>
      (((b.abortEnds kind target 3).report Src.LRS_ABORT_RESET 0).bump Obj.LrsStatus.AbortResets).lrsOperation 4))

end Sys2Proof.Machine
end

