-- ==== Sys2Proof/Machine/Networks.lean ====
section
/-! DEFINITION. The field networks (R497, R498, R502–R507): CANopen FD nodes and the USDO server, PRP, ARP and echo. -/

namespace Sys2Proof.Machine

/-- The abort code of CANopen FD for a status (R487, R505, R576); 0 where there is none. -/
def abortCode (b : Block) (key st : Nat) : Nat :=
  let map := decide (0x1A00 ≤ keyIndex key) && decide (keyIndex key ≤ 0x1A07)
  match st with
  | 0 => 0
  | 1 => 0x06020000
  | 2 => 0x06090011
  | 3 => 0x06070010
  | 4 => 0x06090030
  | 5 => if !map then 0x08000020 else if keySub key ≠ 0 ∧ b.rd (Obj.TpdoMap.MapCount (keyIndex key - 0x1A00)) ≠ 0 then 0x06040043 else 0x06040042
  | 6 => 0x060A0023
  | 0xB => 0x08000024
  | 0xD => 0x05040000
  | 0x10 => 0x08000020
  | _ => 0x08000022

namespace Block

/-- The session of a port and client (R488). -/
def usdoSession (b : Block) (can client : Nat) : Option Nat :=
  (List.range 28).find? (fun n => (b.sess n).opened && (b.sess n).network == nwCAN0 + can && (b.sess n).node == client)

/-- A node answers (R502–R504): its port takes part, it is not Stopped, and RackNodeId is the holder's. -/
def nodeAnswers (b : Block) (can : Nat) (rack : Bool) : Bool :=
  b.serves && b.canPort can && b.nmtOf (can * 2 + b2n rack) != 2 && (!rack || b.isHolder)

/-- A USDO response: port, client, abort code, data. -/
def usdoReply (b : Block) (can client code : Nat) (data : List Nat) : Block :=
  { b with net := { b.net with usdo := [can, client, code] ++ data } }

/-- A node changes its NMT state (R504); Stopped and a reset close its sessions. -/
def setNmt (b : Block) (can : Nat) (rack : Bool) (state : Nat) (closes : Bool) : Block :=
  if !bitOf (b.rd Obj.CanConfig.PortEnable) can then b
  else
    let b := { b with net := { b.net with nmt := Tab.put 0 b.net.nmt (can * 2 + b2n rack) state } }
    if closes then
      ((List.range 28).filter (fun n => (b.sess n).opened && (b.sess n).network == nwCAN0 + can && (b.sess n).onSeat == !rack)).foldl closeHere b
    else b

/-- HEARTBEAT (R503, R506): the NMT state byte of CiA 301. -/
def heartbeat (b : Block) (can : Nat) (rack : Bool) : Block :=
  let key := can * 2 + b2n rack
  if b.serves && b.canPort can && (!rack || b.isHolder) && b.rd Obj.Comm.ProducerHeartbeatTime != 0 then
    let st := match b.nmtOf key with
      | 1 => 5
      | 2 => 4
      | _ => 127
    { b with net := { b.net with beats := Tab.set b.net.beats key st } }
  else b

/-- TPDO_TRANSMIT (R505): the mapped objects from the newest complete image. -/
def tpdoTransmit (b : Block) (can u : Nat) : Block :=
  let t := b.rd (Obj.TpdoComm.TransmissionType u)
  if b.serves && b.canPort can && b.isHolder && b.nmtOf (can * 2 + 1) == 1 && b.rd (Obj.TpdoComm.CobId u) < 2 ^ 31 &&
      decide (1 ≤ t) && decide (t ≤ 240) && !b.glade.boundary && b.glade.tick == 100 && b.glade.cycle % t == 0 then
    match b.newestImage with
    | some e =>
      let bytes := (b.tpdoEntries u).flatMap (fun m => b.imageValue e.2 0xFF m.1)
      { b with net := { b.net with tpdo := Tab.set b.net.tpdo (can * 8 + u) bytes } }
    | none => b
  else b

/-- A port's error state (R502, R507). -/
def canBusOff (b : Block) (can : Nat) : Block :=
  if b.rd (Obj.CanStatus.CanState can) = 2 ∨ !bitOf (b.rd Obj.CanConfig.PortEnable) can then b
  else ((b.wr (Obj.CanStatus.CanState can) 2).bump (Obj.CanStatus.BusOffs can)).report Src.CAN_BUS_OFF 0 [can]

def canPassive (b : Block) (can : Nat) (passive : Bool) : Block :=
  let st := b.rd (Obj.CanStatus.CanState can)
  if passive then (if st = 0 then (b.wr (Obj.CanStatus.CanState can) 1).report Src.CAN_ERROR_PASSIVE 0 [can] else b)
  else if st = 1 then b.wr (Obj.CanStatus.CanState can) 0
  else b

def canRecovered (b : Block) (can : Nat) : Block :=
  if b.rd (Obj.CanStatus.CanState can) = 2 then b.wr (Obj.CanStatus.CanState can) 0 else b

/-! ### Ethernet (R497, R498, R501) -/

/-- ETH_LAN_DOWN is present while a link reads 0 (R516). -/
def lanCondition (b : Block) : Block :=
  b.condition Src.ETH_LAN_DOWN 0 (b.rd Obj.EthStatus.LinkA == 0 || b.rd Obj.EthStatus.LinkB == 0)

def setLink (b : Block) (lan v : Nat) : Block :=
  (b.wr (if lan = 0 then Obj.EthStatus.LinkA else Obj.EthStatus.LinkB) v).lanCondition

/-- This controller answers an IPv4 address: its seat's, or the rack's as holder (R498). -/
def ownsAddress (b : Block) (addr : Nat) : Bool :=
  (b.answersEdp true && addr == b.rd (if b.seat = 0x42 then Obj.EthConfig.SeatAddressB else Obj.EthConfig.SeatAddressA)) ||
    (b.answersEdp false && addr == b.rd Obj.EthConfig.RackAddress)

/-- The PRP node table (R497): 256 entries. -/
def setNodes (b : Block) (l : List (Nat × Nat)) : Block :=
  ({ b with net := { b.net with nodes := l } }).wr Obj.EthStatus.NodeTableEntries l.length

/-- A supervision frame of another node (R497): the second copy is discarded, a copy from the wrong LAN is counted. -/
def nodeSeen (b : Block) (lan mac : Nat) (wrong dup : Bool) : Block :=
  let b := if wrong then (b.bump (if lan = 0 then Obj.EthStatus.WrongLanA else Obj.EthStatus.WrongLanB)).report Src.PRP_WRONG_LAN 0 [lan] else b
  if dup then b.bump Obj.EthStatus.Duplicates
  else
    let rest := b.net.nodes.filter (fun e => e.1 != mac)
    if rest.length < 256 then b.setNodes (rest ++ [(mac, b.glade.ticks)]) else b

/-- PRP_NODE_FORGET (R497): 60 s of silence. -/
def nodeForget (b : Block) (mac : Nat) : Block :=
  match b.net.nodes.find? (fun e => e.1 == mac) with
  | some e => if 60000000 ≤ b.microsSince e.2 then b.setNodes (b.net.nodes.filter (fun e => e.1 != mac)) else b
  | none => b

end Block

/-- A USDO request is served (R502–R505): 0 read, 1 a segment of it, 2 write, 3 a segment of it, 4 the end of a transfer, 5 an abort. -/
def State.usdoServe (s : State) (can n client op key off total size : Nat) (data : List Nat) : State :=
  let lift (r : Reply × Block) : Reply × State := (r.1, { s with blk := r.2 })
  if op = 5 then s.mapBlk (fun b => (b.endTransfer n dsNO_TRANSFER).send 4 [9, n])
  else
    let r := match op with
      | 0 => s.readObject n key size
      | 1 => lift (s.blk.readSegment n off size)
      | 2 => if data.length < total then lift (s.blk.writeFirst n key total data) else s.writeObject n key data
      | 3 => lift (s.blk.writeSegment n off data)
      | _ => s.endOfTransfer n
    let key := match (s.blk.sess n).transfer with
      | some t => if op = 4 then t.key else key
      | none => key
    r.2.mapBlk (fun b => (b.setSess n { b.sess n with reply := r.1 }).usdoReply can client (abortCode s.blk key r.1.status) r.1.data)

/-- A USDO request (R488, R502, R503): the first from a client opens its session. -/
def State.usdo (s : State) (can : Nat) (rack : Bool) (client op key off total size : Nat) (data : List Nat) : State :=
  let b := s.blk
  if !b.nodeAnswers can rack ∨ 5 < op then s
  else match b.usdoSession can client with
    | some n => (s.mapBlk (·.touch n)).usdoServe can n client op key off total size data
    | none =>
      match b.freeSession with
      | none => s.mapBlk (fun b => (b.usdoReply can client (abortCode b key dsNO_SESSION) []).refuseSession)
      | some n =>
        (s.mapBlk (fun b => (b.openSession n (nwCAN0 + can) client (!rack) (if rack then 0 else b.seat) false).send 4 [0, n])).usdoServe
          can n client op key off total size data

/-- USDO_REQUEST (R502). -/
def execUsdoRequest (can : Nat) (rack : Bool) (client op index sub off total size : Nat) (data : List Nat) (s : State) :
    Host.Outcome State Fault Refusal :=
  s.runOn (decide (can < 2)) .can can (·.usdo can rack (client % 128) op (objKey (index % 65536) (sub % 256)) off total size data)

/-- NMT_START (R504). -/
def execNmtStart (can : Nat) (rack : Bool) (s : State) : Host.Outcome State Fault Refusal :=
  s.actOn (decide (can < 2)) .can can (·.setNmt can rack 1 false)

/-- NMT_STOP (R504). -/
def execNmtStop (can : Nat) (rack : Bool) (s : State) : Host.Outcome State Fault Refusal :=
  s.actOn (decide (can < 2)) .can can (·.setNmt can rack 2 true)

/-- NMT_PRE_OPERATIONAL (R504). -/
def execNmtPreOperational (can : Nat) (rack : Bool) (s : State) : Host.Outcome State Fault Refusal :=
  s.actOn (decide (can < 2)) .can can (·.setNmt can rack 0 false)

/-- NMT_RESET_COMMUNICATION (R504). -/
def execNmtResetCommunication (can : Nat) (rack : Bool) (s : State) : Host.Outcome State Fault Refusal :=
  s.actOn (decide (can < 2)) .can can (·.setNmt can rack 0 true)

/-- NMT_RESET_NODE (R504). -/
def execNmtResetNode (can : Nat) (rack : Bool) (s : State) : Host.Outcome State Fault Refusal :=
  s.actOn (decide (can < 2)) .can can (·.setNmt can rack 0 true)

/-- HEARTBEAT (R503, R506). -/
def execHeartbeat (can : Nat) (rack : Bool) (s : State) : Host.Outcome State Fault Refusal :=
  s.actOn (decide (can < 2)) .can can (·.heartbeat can rack)

/-- TPDO_TRANSMIT (R505). -/
def execTpdoTransmit (can u : Nat) (s : State) : Host.Outcome State Fault Refusal :=
  s.actOn (decide (can < 2) && decide (u < 8)) .can can (·.tpdoTransmit can u)

/-- CAN_BUS_OFF (R502, R507). -/
def execCanBusOff (can : Nat) (s : State) : Host.Outcome State Fault Refusal := s.actOn (decide (can < 2)) .can can (·.canBusOff can)

/-- CAN_ERROR_PASSIVE (R507): a port enters error-passive, or is error-active again. -/
def execCanErrorPassive (can : Nat) (passive : Bool) (s : State) : Host.Outcome State Fault Refusal :=
  s.actOn (decide (can < 2)) .can can (·.canPassive can passive)

/-- CAN_BUS_OFF_RECOVERY (R502). -/
def execCanBusOffRecovery (can : Nat) (s : State) : Host.Outcome State Fault Refusal := s.actOn (decide (can < 2)) .can can (·.canRecovered can)

/-- PRP_SUPERVISION (R497, R501). -/
def execPrpSupervision (s : State) : Host.Outcome State Fault Refusal :=
  s.act (fun b => if b.serves then { b with net := { b.net with supervision := b.net.supervision + 1 } } else b)

/-- PRP_NODE_FORGET (R497). -/
def execPrpNodeForget (mac : Nat) (s : State) : Host.Outcome State Fault Refusal := s.act (·.nodeForget mac)

/-- SUPERVISION_FRAME_RECEIVED (R497). -/
def execSupervisionFrameReceived (lan mac : Nat) (wrong dup : Bool) (s : State) : Host.Outcome State Fault Refusal :=
  s.actOn (decide (lan < 2)) .lan lan (fun b => if b.serves then b.nodeSeen lan mac wrong dup else b)

/-- ETH_LAN_DOWN (R501, R516). -/
def execEthLanDown (lan : Nat) (s : State) : Host.Outcome State Fault Refusal := s.actOn (decide (lan < 2)) .lan lan (·.setLink lan 0)

/-- ETH_LINK_UP (R497, R501): 1 for 100 Mb/s, 2 for 1,000 Mb/s. -/
def execEthLinkUp (lan speed : Nat) (s : State) : Host.Outcome State Fault Refusal :=
  s.actOn (decide (lan < 2)) .lan lan (·.setLink lan (max 1 (min 2 speed)))

/-- ARP_REQUEST (R497, R498). -/
def execArpRequest (lan addr : Nat) (s : State) : Host.Outcome State Fault Refusal :=
  s.actOn (decide (lan < 2)) .lan lan (fun b => if b.ownsAddress addr then { b with net := { b.net with arps := b.net.arps + 1 } } else b)

/-- ICMP_ECHO (R497). -/
def execIcmpEcho (lan addr : Nat) (s : State) : Host.Outcome State Fault Refusal :=
  s.actOn (decide (lan < 2)) .lan lan (fun b => if b.ownsAddress addr then { b with net := { b.net with echoes := b.net.echoes + 1 } } else b)

end Sys2Proof.Machine
end

