-- ==== Sys2Proof/Machine/Window.lean ====
section
/-! DEFINITION. TW0 (R520–R528): its addresses and sessions, the dictionary window, the alert cursors and the alert response. -/

namespace Sys2Proof.Machine

/-- One bit of the PEC (R517): x^8 + x^2 + x + 1. -/
def pecBits : Nat → Nat → Nat
  | 0, c => c
  | n + 1, c => pecBits n (if 128 ≤ c then ((c * 2) % 256) ^^^ 7 else c * 2)

/-- The PEC over the bytes of a transaction, address bytes included (R517). -/
def pecOf (l : List Nat) : Nat := l.foldl (fun c v => pecBits 8 (c ^^^ (v % 256))) 0

/-- Command codes TW0 acknowledges (R523). -/
def twCodes : List Nat := [0x19, 0x99, 0x9A, 0xD0, 0xD1, 0xD2, 0xD3, 0xD4, 0xD8, 0xD9]

namespace Block

/-- An address of TW0: its window. -/
def window (b : Block) (e : Nat) : TwAddress := Tab.look {} b.tw.addrs e
def setWindow (b : Block) (e : Nat) (x : TwAddress) : Block := { b with tw := { b.tw with addrs := Tab.put {} b.tw.addrs e x } }

/-- The scope of an entry; in MASK mode Scope0 applies to all (R521). -/
def entryScope (b : Block) (e : Nat) : Nat := b.rd (Obj.TwTargetConfig.Scope (if b.rd Obj.TwTargetConfig.AddressMode = 1 then 0 else e))

/-- This controller acknowledges the address of an entry (R520, R521). -/
def answersEntry (b : Block) (e : Nat) : Bool :=
  b.serves && (b.entryAddress e).isSome && (match b.entryScope e with
    | 0 => b.isHolder
    | 1 => b.seat == 0x41
    | _ => b.seat == 0x42)

/-- The session of an address opens at its first transaction (R521). -/
def enterWindow (b : Block) (e : Nat) : Block :=
  let n := 28 + e
  let b := b.bump (Obj.TwPortStatus.Transactions 0)
  if (b.sess n).opened then b.touch n
  else
    let seat := !(b.entryScope e == 0)
    (b.openSession n nwTW0 ((b.entryAddress e).getD 0) seat (if seat then b.seat else 0) false).send 4 [0, n]

/-- A read of TW0: the bytes with the PEC it appends (R522). -/
def twReturn (b : Block) (e code : Nat) (bytes : List Nat) : Block :=
  let a := (b.entryAddress e).getD 0
  b.setWindow e { b.window e with out := bytes ++ [pecOf ([a * 2, code, a * 2 + 1] ++ bytes)] }

/-- A block read: the count, then the bytes. -/
def twBlock (b : Block) (e code : Nat) (bytes : List Nat) : Block := b.twReturn e code (bytes.length :: bytes)

/-- A read transaction that an address answers. -/
def twRead (b : Block) (e : Nat) (f : Block → Block) : Block :=
  if b.answersEntry e then let b := b.enterWindow e; f (b.setWindow e { b.window e with result := 0 }) else b

/-- A write transaction (R522, R523, R526): `pec` is 0 without PEC, 1 with a right one, 2 with a wrong one; `sized` holds where the count fits
the command and the bytes received. A discarded write changes nothing but its result. -/
def twWrite (b : Block) (e pec : Nat) (sized : Bool) (f : Block → Block) : Block :=
  if !b.answersEntry e then b
  else
    let b := b.enterWindow e
    let say (b : Block) (r : Nat) : Block := b.setWindow e { b.window e with result := r }
    let inj := pec != 0 && b.pecInjected 0
    let b := if inj then b.spendPec else b
    if pec = 0 ∧ b.rd Obj.TwTargetConfig.PecRequired = 1 then say b 2
    else if pec ≠ 0 ∧ (pec == 1) = inj then (say (b.bump (Obj.TwPortStatus.PecErrors 0)) 1).raise Src.TW_PEC_ERROR 0 [] inj
    else if !sized then say b 3
    else f (say b 0)

/-- DICT_SELECT (R524). -/
def twSelect (b : Block) (e index sub : Nat) : Block :=
  let b := (b.endTransfer (28 + e) dsNO_TRANSFER).send 4 [9, 28 + e]
  b.setWindow e { b.window e with index, sub, offset := 0, last := none, status := 0, detail := 0, total := 0, wrote := none, begun := false }

/-- The object an address has selected. -/
def selected (b : Block) (e : Nat) : Nat := objKey (b.window e).index (b.window e).sub

/-- A block of DICT_READ (R524): flags, offset, data. -/
def dictBlock (b : Block) (e flags off : Nat) (data : List Nat) : Block := b.twBlock e 0xD1 ([flags] ++ leBytes 2 off ++ data)

/-- A failed read carries ERROR (R524). -/
def dictError (b : Block) (e st detail : Nat) : Block :=
  (b.setWindow e { b.window e with status := st, detail }).dictBlock e 16 (b.window e).offset []

/-- A block with data: the copy is kept and the offset advances. -/
def dictData (b : Block) (e flags : Nat) (data : List Nat) (total : Nat) : Block :=
  let x := b.window e
  let blk := [flags] ++ leBytes 2 x.offset ++ data
  let b := b.setWindow e { x with last := some (x.offset, blk), offset := x.offset + data.length, status := 0, detail := 0, total, begun := true }
  b.twBlock e 0xD1 blk

/-- The next block of a transfer. -/
def dictNext (b : Block) (e : Nat) (first : Bool) : Block :=
  let n := 28 + e
  let off := (b.window e).offset
  let r := b.readSegment n off 252
  if r.1.status ≠ dsOK then r.2.dictError e r.1.status r.1.detail
  else
    let total := match (b.sess n).transfer with
      | some t => t.total
      | none => 0
    r.2.dictData e (b2n (r.1.flags / 2 % 2 == 1) + 2 * b2n (first && off == 0) + 4 * b2n (decide (8 ≤ r.1.flags))) r.1.data total

/-- ALERT_READ's alerts (R527): up to 15 above the cursor, oldest first. -/
def windowAlerts (b : Block) (e : Nat) : List Alert :=
  if bitOf (b.rd Obj.TwTargetConfig.AlertEnable) e then b.net.alerts.filter (fun a => ahead 32 a.seq (b.window e).cursor) else []

/-- ALERT_ACK (R527, R528). -/
def windowAck (b : Block) (e seq : Nat) : Block :=
  let x := b.window e
  if !ahead 32 seq x.cursor then b
  else
    let b := b.setWindow e { x with cursor := seq }
    let b := if (b.windowAlerts e).isEmpty then b.setWindow e { b.window e with armed := false, disarmedAt := none } else b
    (b.send 4 [10, 28 + e, seq]).pruneAlerts

/-- An address that holds the line low (R528). -/
def alerting (b : Block) (e : Nat) : Bool := b.answersEntry e && (b.window e).armed && !(b.windowAlerts e).isEmpty

/-- TW0_ALERT_N is held low (R528). -/
def alertLow (b : Block) : Bool := (List.range 4).any b.alerting

/-- The alerting entry with the lowest address. -/
def lowestAlert (b : Block) : Option Nat :=
  ((List.range 4).filter b.alerting).foldl (fun best e =>
    match best with
    | some x => if (b.entryAddress e).getD 0 < (b.entryAddress x).getD 0 then some e else best
    | none => some e) none

/-- ALERT_RESPONSE (R528): the answer to an ARA read; the winner is disarmed. -/
def araRead (b : Block) (wins : Bool) : Block :=
  match b.lowestAlert with
  | none => b
  | some e =>
    let x := { b.window e with out := [(b.entryAddress e).getD 0 * 2] }
    if wins then (b.setWindow e { x with armed := false, disarmedAt := some b.glade.ticks }).bump (Obj.TwPortStatus.AlertResponses 0)
    else b.setWindow e x

/-- ALERT_REARM (R528): RepeatInterval after the ARA without an ALERT_ACK that covers every alert it held. -/
def alertRearm (b : Block) (e : Nat) : Block :=
  let x := b.window e
  match x.disarmedAt with
  | some t =>
    if b.rd Obj.AlertConfig.RepeatInterval * 1000 ≤ b.microsSince t ∧ !(b.windowAlerts e).isEmpty then b.setWindow e { x with armed := true, disarmedAt := none } else b
  | none => b

end Block

/-- The first DICT_READ after a select reads the selected sub-index (R524). -/
def State.windowFirst (s : State) (e : Nat) : State :=
  let n := 28 + e
  let off := (s.blk.window e).offset
  let r := s.readObject n (s.blk.selected e) 252
  if r.1.status ≠ dsOK then r.2.mapBlk (·.dictError e r.1.status r.1.detail)
  else if r.1.flags / 2 % 2 = 1 then
    r.2.mapBlk (fun b => (b.setWindow e { b.window e with begun := true, total := r.1.total }).dictNext e true)
  else if off ≠ 0 ∧ r.1.data.length ≤ off then r.2.mapBlk (·.dictError e dsTYPE_LENGTH 0)
  else r.2.mapBlk (·.dictData e (2 * b2n (off == 0) + 4 * b2n (decide (8 ≤ r.1.flags))) (r.1.data.drop off) r.1.data.length)

/-- DICT_READ (R524): the last block again, the first read, or the next block. -/
def State.windowRead (s : State) (e : Nat) (ready : Bool) : State :=
  let x := s.blk.window e
  let again := match x.last with
    | some l => if l.1 = x.offset then some l.2 else none
    | none => none
  match again with
  | some blk => s.mapBlk (fun b => (b.setWindow e { x with offset := x.offset + (blk.length - 3) }).twBlock e 0xD1 blk)
  | none =>
    if !ready then s.mapBlk (fun b => (b.setWindow e { x with result := 4 }).dictBlock e 8 x.offset [])
    else if !x.begun then s.windowFirst e
    else if x.total ≤ x.offset then s.mapBlk (·.dictError e dsTYPE_LENGTH 0)
    else s.mapBlk (·.dictNext e false)

/-- A write has been done: its status and detail; once performed, the block that ended it (R525). -/
def Block.windowWrote (b : Block) (e off : Nat) (data : List Nat) (r : Reply) : Block :=
  b.setWindow e { b.window e with status := r.status, detail := r.detail, wrote := if r.status = dsOK then some (off, data) else none }

/-- A block of a write transfer (R525): the block with MORE clear ends it. -/
def State.windowPart (s : State) (e off : Nat) (more : Bool) (data : List Nat) : State :=
  let n := 28 + e
  let b := s.blk
  let key := b.selected e
  let running := match (b.sess n).transfer with
    | some t => t.kind == 2 && t.key == key
    | none => false
  let r := if running then b.writeSegment n off data
    else let c := b.writeFirst n key 65536 []; if c.1.status = dsOK then c.2.writeSegment n off data else c
  let put (b : Block) (q : Reply) : Block := b.setWindow e { b.window e with status := q.status, detail := q.detail }
  if r.1.status ≠ dsOK ∨ more then { s with blk := put r.2 r.1 }
  else
    let size (b : Block) (v : Nat) : Block := match (b.sess n).transfer with
      | some t => b.setSess n { b.sess n with transfer := some { t with total := v } }
      | none => b
    let q := ({ s with blk := size r.2 (off + data.length) }).endOfTransfer n
    q.2.mapBlk (fun b => (size b 65536).windowWrote e off data q.1)

/-- DICT_WRITE (R525). -/
def State.windowWrite (s : State) (e flags off : Nat) (data : List Nat) : State :=
  let more := bitOf flags 0
  let first := bitOf flags 1
  match (s.blk.window e).wrote with
  | some w =>
    if w = (off, data) then s else s.mapBlk (fun b => b.setWindow e { b.window e with status := dsNO_TRANSFER, detail := 0 })
  | none =>
    if first && !more then
      let r := s.writeObject (28 + e) (s.blk.selected e) data
      r.2.mapBlk (·.windowWrote e off data r.1)
    else s.windowPart e off more data

/-- CAPABILITY (R523). -/
def execCapability (e4 : Nat) (s : State) : Host.Outcome State Fault Refusal :=
  s.actOn (decide (e4 < 4)) .twoWire e4 (·.twRead e4 (·.twReturn e4 0x19 [0xD0]))

/-- MFR_ID (R523): "NGAMUS". -/
def execMfrId (e4 : Nat) (s : State) : Host.Outcome State Fault Refusal :=
  s.actOn (decide (e4 < 4)) .twoWire e4 (·.twRead e4 (·.twBlock e4 0x99 [0x4E, 0x47, 0x41, 0x4D, 0x55, 0x53]))

/-- MFR_MODEL (R523): "EUS-5120". -/
def execMfrModel (e4 : Nat) (s : State) : Host.Outcome State Fault Refusal :=
  s.actOn (decide (e4 < 4)) .twoWire e4 (·.twRead e4 (·.twBlock e4 0x9A [0x45, 0x55, 0x53, 0x2D, 0x35, 0x31, 0x32, 0x30]))

/-- DICT_SELECT (R524). -/
def execDictSelect (e4 index sub pec : Nat) (sized : Bool) (s : State) : Host.Outcome State Fault Refusal :=
  s.actOn (decide (e4 < 4)) .twoWire e4 (·.twWrite e4 pec sized (·.twSelect e4 (index % 65536) (sub % 256)))

/-- DICT_READ (R524): `ready` fails where the value is not ready within the stretch of 2 ms. -/
def execDictRead (e4 : Nat) (ready : Bool) (s : State) : Host.Outcome State Fault Refusal :=
  s.runOn (decide (e4 < 4)) .twoWire e4 (fun s =>
    if s.blk.answersEntry e4 then (s.mapBlk (·.twRead e4 (fun b => b))).windowRead e4 ready else s)

/-- DICT_WRITE (R525): blocks of 3 to 255 counted bytes. -/
def execDictWrite (e4 flags off pec : Nat) (sized : Bool) (data : List Nat) (s : State) : Host.Outcome State Fault Refusal :=
  s.runOn (decide (e4 < 4)) .twoWire e4 (fun s =>
    let t := s.mapBlk (·.twWrite e4 pec (sized && decide (data.length ≤ 252)) (fun b => b))
    if s.blk.answersEntry e4 && (t.blk.window e4).result == 0 then t.windowWrite e4 flags (off % 65536) data else t)

/-- DICT_STATUS (R523, R526): it reports the transaction before it. -/
def execDictStatus (e4 : Nat) (s : State) : Host.Outcome State Fault Refusal :=
  s.actOn (decide (e4 < 4)) .twoWire e4 (fun b =>
    if b.answersEntry e4 then
      let b := b.enterWindow e4
      let x := b.window e4
      b.twBlock e4 0xD3 (leBytes 2 x.status ++ [x.detail, x.result] ++ leBytes 4 x.total)
    else b)

/-- DICT_OFFSET (R523, R524). -/
def execDictOffset (e4 off pec : Nat) (sized : Bool) (s : State) : Host.Outcome State Fault Refusal :=
  s.actOn (decide (e4 < 4)) .twoWire e4 (·.twWrite e4 pec sized (fun b => b.setWindow e4 { b.window e4 with offset := off % 65536 }))

/-- ALERT_READ (R527): it moves nothing. -/
def execAlertRead (e4 : Nat) (s : State) : Host.Outcome State Fault Refusal :=
  s.actOn (decide (e4 < 4)) .twoWire e4 (·.twRead e4 (fun b => b.twBlock e4 0xD8 (((b.windowAlerts e4).take 15).flatMap Block.alertBytes)))

/-- ALERT_ACK (R527). -/
def execAlertAck (e4 seq pec : Nat) (sized : Bool) (s : State) : Host.Outcome State Fault Refusal :=
  s.actOn (decide (e4 < 4)) .twoWire e4 (·.twWrite e4 pec sized (·.windowAck e4 (seq % 2 ^ 32)))

/-- TW_UNKNOWN_COMMAND (R523, R537). -/
def execTwUnknownCommand (e4 code : Nat) (s : State) : Host.Outcome State Fault Refusal :=
  s.actOn (decide (e4 < 4)) .twoWire e4 (fun b =>
    if b.answersEntry e4 && !twCodes.contains code then (b.bump (Obj.TwPortStatus.UnknownCommands 0)).report Src.TW_UNKNOWN_COMMAND 0 [code] else b)

/-- ALERT_RESPONSE (R528): `wins` where no lower address answers on the bus. -/
def execAlertResponse (wins : Bool) (s : State) : Host.Outcome State Fault Refusal := s.act (·.araRead wins)

/-- ALERT_REARM (R528). -/
def execAlertRearm (e4 : Nat) (s : State) : Host.Outcome State Fault Refusal := s.actOn (decide (e4 < 4)) .twoWire e4 (·.alertRearm e4)

end Sys2Proof.Machine
end

