-- ==== Sys2Proof/Machine/Tick.lean ====
section
/-! DEFINITION. The tick (R27–R30, R336, R345): what ends a tick, the swap of the tick images, and what the engines and ports do in the next one. -/

namespace Sys2Proof.Machine

namespace Block

/-! ### The end of a tick -/

/-- What the fault collector, the links and the detectors do with a tick that is over (R27, R336): once per tick, by the boundary that
comes first. -/
def endTick (b : Block) : Block :=
  if b.glade.ended then b
  else
    let b := { b with glade := { b.glade with ended := true } }
    let both := b.masks.okBefore &&& b.masks.okNow
    let b := (b.pairTickEnd.linkTickEnd.seatLinks both).feedsTickEnd.mainsTickEnd.downRequests
    let roots := b.faults.roots.map (·.number)
    ((b.collectTick.formAlerts roots).patchSnapshots).autoYield

/-! ### What is kept for one more tick (R30, R112) -/

/-- A port sends its command again. -/
def holdPort (b : Block) (p : Nat) : Block := b.modPort p (fun x => { x with cmdN := x.cmd })

/-- A group's loop keeps its outputs. -/
def holdGroup (b : Block) (g : Nat) : Block :=
  let x := b.group g
  let b := b.setGroup g { x with veff := x.veffHeld, iint := x.iintHeld, ig := x.igHeld }
  { b with wimg := [Obj.GroupRecord.EffSetpoint g, Obj.GroupRecord.CurrentCommand g, Obj.GroupRecord.Integrator g].foldl Tab.drop b.wimg }

/-- A unit's loop keeps its outputs: a group, a feed through its port, a string through its group. -/
def holdUnit (b : Block) (u : Nat) : Block :=
  if u < 64 then b.holdGroup u
  else if u < 320 then (match b.feedPort (u - 64) with | some p => b.holdPort p | none => b)
  else match b.stringGroup (u - 320) with | some g => b.holdGroup g | none => b

/-- KERNEL_OVERRUN of a port (R30): the loops of its engine are held too (R24, R25). -/
def overrunPort (b : Block) (p : Nat) : Block :=
  let mine := (b.groupTab.map (·.1)).filter (fun g => match b.loopOwner g with | some o => o / 2 == p / 2 | none => false)
  mine.foldl holdGroup (b.holdPort p)

/-- What errors in Canopy leave of a tick's outputs: commands repeated on stale samples, loops held (R112). -/
def holdSpoilt (b : Block) : Block :=
  let b := b.canopy.portHold.foldl (fun b p => (b.holdPort p).modPort p (fun x => { x with stale := max x.stale 1 })) b
  let b := b.canopy.unitHold.foldl holdUnit b
  { b with canopy := { b.canopy with portHold := [], unitHold := [] } }

/-! ### The tick that begins -/

/-- The state of the next tick becomes the state of the tick (R27, R80). -/
def openTick (b : Block) : Block :=
  let g := b.glade
  let b := { b with glade := { g with tick := if g.boundary then 0 else g.tick + 1, boundary := false, ended := false, ticks := g.ticks + 1 } }
  let b := b.swapImages
  let b := { b with net := { b.net with closed := [] }, ports := b.ports.map (fun (e : Nat × Port) => (e.1, { e.2 with cmd := e.2.cmdN })) }
  b.takeArmed

/-- The engines' kernels on the state of the tick (R25, R27); a fatal dump has stopped them (R425). -/
def kernels (b : Block) : Block :=
  if b.dump.stopped then b
  else
    let b := (allPorts.foldl sumTick b).stringsTick.holdupTick
    (b.groups.foldl groupTick b).feedsTick.sequencesTick

/-- TICK_BOUNDARY (R27): the last tick ends, the next one begins; the last tick of a cycle ends with the cycle (R31). -/
def tickBoundary (b : Block) (overrun : List Nat) (scrubErr : Nat) : Block :=
  if !b.glade.running || (!b.glade.boundary && decide (b.glade.nt ≤ b.glade.tick + 1)) then b
  else
    let b := (overrun.foldl (fun b p => b.report Src.KERNEL_OVERRUN p) b).endTick
    let b := (overrun.foldl overrunPort b).holdSpoilt.openTick.feedsTickStart.linkTickStart
    (b.measTick.kernels.scrubTick scrubErr).restoreConfig

end Block

/-- TICK_BOUNDARY (R27, R30): `overrun` are the ports whose kernel has not finished, `scrubErr` what the check bits of the line that the
scrubber reads show. -/
def execTickBoundary (overrun : List Nat) (scrubErr : Nat) (s : State) : Host.Outcome State Fault Refusal :=
  s.actOn (overrun.all (fun p => decide (p < 512))) .port (overrun.foldl max 0) (·.tickBoundary overrun scrubErr)

end Sys2Proof.Machine
end

