-- ==== Sys2Proof/Machine/Cycle.lean ====
section
/-! DEFINITION. The cycle (R31–R33): the boundary with its results, commits and captures, the measurement results, the supervisors' computation. -/

namespace Sys2Proof.Machine

namespace Block

/-! ### What the cycle that ends leaves (R31) -/

/-- The sums of the cycle are complete. -/
def closeSums (b : Block) : Block :=
  { b with ports := b.ports.map (fun (e : Nat × Port) => (e.1, { e.2 with last := e.2.acc, acc := {} })) }

/-- Without a partner its results read 0x80000000 (R198). -/
def noPartnerResults (b : Block) : Block :=
  if b.linkUp then b else allChannels.foldl (fun b c => b.wr (Obj.Channel.PartnerResult c) 0x80000000) b

/-- Each rail's voltage and current are measured once per cycle; their values are the hardware's (assumption 69). -/
def measureRails (b : Block) : Block :=
  (List.range 4).foldl (fun b r => (b.wrFree 32 (Obj.RailRecord.Voltage r)).wrFree 32 (Obj.RailRecord.Current r)) b

/-- The numbering of the cycle that begins; one that SYNC_IN gives moves entries and blocks (R36, R68, R200). -/
def beginCycle (b : Block) : Block :=
  if b.glade.renumber.isSome then b.advanceNumber.renumberActions.measRenumbered else b.advanceNumber

/-! ### Step 1 of R32: the supervisors' results -/

/-- The results come into force; without them, or with results that are void, those in force stay (R33, R112). -/
def applyResults (b : Block) : Block :=
  let on := b.sup.ready && !b.canopy.discard
  let b := if on then b else { b with sup := {} }
  let b := b.wrs b.sup.writes
  let b := b.applyMains.stringsBoundary
  let r := b.applyAllocation
  let b := (if on then r.2.shortDone else r.2).forcedDown r.1 csSHUT
  let b := b.sequencesBoundary
  let local' := on && !b.isHolder && bitOf (b.rd (Obj.Channel.Flags 0)) mfLOCAL
  let b := if local' then b.unshadow [0xF * 65536] else b
  { b with sup := {}, canopy := { b.canopy with discard := false } }

/-! ### Step 2 of R32: commits (R102–R104, R106) -/

/-- A bundle's final check, and its values (R102, R104); the bundles applied so far at this boundary are carried along. -/
def applyBundle (r : List Bundle × Block) (x : Bundle) : List Bundle × Block :=
  match r.2.judge x.writes with
  | some f => (r.1, r.2.bundleDone x 9 f.1 f.2)
  | none => (r.1 ++ [x], (r.2.overlay (r.2.ownWrites x.writes)).bundleDone x 7 0 0)

/-- Where the session's last bundle was applied, and how many of its values a later one replaced (R99, R103). -/
def appliedFields (b : Block) (later : List Bundle) (x : Bundle) : Block :=
  let gone := (x.writes.filter (fun w => later.any (fun y => y.writes.any (fun v => v.1 == w.1)))).length
  if (b.sess x.session).opened then
    b.wrs [(sk x.session Obj.CommitSession.AppliedEpoch, b.glade.epoch), (sk x.session Obj.CommitSession.AppliedCycle, b.glade.cycle),
      (sk x.session Obj.CommitSession.Superseded, gone)]
  else b

/-- The applied bundles' fields, each against those after it. -/
def appliedAll (b : Block) : List Bundle → Block
  | [] => b
  | x :: rest => (b.appliedFields rest x).appliedAll rest

/-- What a commit changes beside the values themselves: every chapter's part of it, for the keys written. -/
def committed (b old : Block) (keys : List Nat) : Block :=
  let b := ((b.linkCommitted keys).mainsCommitted keys).measCommitted keys
  let b := ((b.stringsCommitted.feedsCommitted keys).sequencesCommitted keys).ringsCommitted old keys
  let b := b.storeImage.protectCommitted keys
  ((b.supplyCommitted keys).netCommitted old keys).armed

/-- Bundles in ascending commit sequence. -/
def insertBundle (x : Bundle) : List Bundle → List Bundle
  | [] => [x]
  | y :: r => if ahead 32 y.seq x.seq then x :: y :: r else y :: insertBundle x r

/-- The bundles of the boundary (R103); none is applied while a configuration line is bad (R112). -/
def applyCommits (b : Block) : Block :=
  if b.canopy.cfgBad then b
  else
    let due := (b.bundlesUpTo b.glade.epoch b.glade.cycle).foldl (fun l x => insertBundle x l) []
    let r := due.foldl applyBundle ([], b)
    if r.1.isEmpty then r.2
    else (r.2.appliedAll r.1).committed b (r.1.flatMap (fun x => x.writes.map (·.1)))

/-! ### The boundary -/

/-- What follows the commits: windows, supply, Glade's course, sessions, the partner, the stores and the image. -/
def afterCommits (b : Block) (rowErr : Nat) : Block :=
  let b := (b.measOpen.supplyBoundary.gladeAdvance.syncOutPulse).measureRails
  let b := (b.agePins.ageSessions.lanCondition.linkCycle.pairCycle.refillBuckets).storeCycle
  ((b.scrubRow rowErr).capture).cycleDigest

/-- CYCLE_BOUNDARY (R31, R32): after the last tick of the cycle. -/
def cycleBoundary (b : Block) (refclkPpm rowErr : Nat) : Block :=
  if !b.glade.running || b.glade.boundary || decide (b.glade.tick + 1 < b.glade.nt) then b
  else
    let b := b.endTick.closeSums.feedsCycle.measClose
    let b := ((b.gladeQualify refclkPpm).mainsCycle).noPartnerResults
    (b.beginCycle.applyResults.applyCommits).afterCommits rowErr

/-! ### The supervisors (R31, R33) -/

/-- The supervisors' computation, for the next boundary. -/
def supervise (b : Block) : Block :=
  let b := (List.range 64).foldl (fun b g => (b.shareGroup g).senseCompare g) b
  let b := b.superviseMains
  let strings := (List.range 16).filter b.stringOn
  let b := (strings.foldl stringEstimate b).allocate
  let b := (strings.foldl stringDecide b).crossCheck.seqDecide
  { b with sup := { b.sup with ready := true } }

/-- The cycle's results are still to come: neither computed nor given up. -/
def supervisorRuns (b : Block) : Bool := b.glade.running && !b.glade.boundary && !b.sup.ready && !b.sup.overrun

/-- SUPERVISOR_DONE (R31): from tick 4 to the deadline, 0.9 of the cycle's ticks. -/
def supervisorDone (b : Block) : Block :=
  if b.supervisorRuns && decide (4 ≤ b.glade.tick) && decide (b.glade.tick * 10 ≤ b.glade.nt * 9) then b.supervise else b

/-- SUP_OVERRUN (R33): the deadline passes without results. -/
def supOverrun (b : Block) : Block :=
  if b.supervisorRuns && decide (b.glade.nt * 9 ≤ b.glade.tick * 10) then
    ({ b with sup := { b.sup with overrun := true } }).report Src.SUP_OVERRUN 0
  else b

/-! ### Results of the cycle (R197, R198, R261, R540) -/

/-- VBAT below 2.2 V on IC2 (R540): the flag of the backup domain, and the fault. -/
def cellCheck (b : Block) : Block :=
  if b.valid 66 then
    let low := decide (b.value 66 < 2200)
    (if low then b.setBackupFlag bfVBAT_LOW true else b).condition Src.VBAT_LOW 0 low
  else b

/-- What a delivery of the rack's results brings with it: the strings' values and presence, the cell. -/
def resultsDelivered (b : Block) : Block := (((List.range 16).filter b.stringOn).foldl stringResults b).cellCheck

/-- MEAS_RESULTS_READY (R197): on the holder they are the rack's. -/
def resultsReady (b : Block) (raw : List Nat) (past : Nat) : Block :=
  match b.meas.ended with
  | none => b
  | some _ =>
    if b.meas.delivered then b
    else
      let b := b.ownResults raw past
      if b.isHolder then b.resultsDelivered else b

/-- The partner's results (R198): on a standby they are the rack's. -/
def partnerSet (b : Block) (results flags : List Nat) : Block :=
  let b := b.partnerResults results flags
  if b.isHolder || b.meas.ended.isNone then b else b.resultsDelivered

/-- RESULTS_MISSING (R198): the standby goes on with its own. -/
def ownInstead (b : Block) : Block :=
  if b.meas.ended.isNone || !b.meas.delivered || b.isHolder || b.meas.partnerCame || b.glade.boundary || decide (b.glade.tick < 50) then b
  else b.resultsMissing.resultsDelivered

/-- CALIBRATION_DONE (R207): the factors are kept in Heartwood. -/
def calibrated (b : Block) (c : Nat) : Block :=
  match (b.cal c).gain with
  | none => b
  | some _ =>
    let b := b.calibrationDone c
    b.storeKeys 7 (allChannels.flatMap (fun c => [Obj.Channel.CalOffset0 c, Obj.Channel.CalOffset1 c, Obj.Channel.CalGain0 c,
      Obj.Channel.CalGain1 c, Obj.Channel.CalSource c]))

end Block

/-- CYCLE_BOUNDARY (R31): `refclkPpm` is how far REFCLK lies from the always-on oscillator (R57), `rowErr` what the row the Heartwood
scrubber reads shows (R449). -/
def execCycleBoundary (refclkPpm rowErr : Nat) (s : State) : Host.Outcome State Fault Refusal := s.act (·.cycleBoundary refclkPpm rowErr)

/-- SUPERVISOR_DONE (R31). -/
def execSupervisorDone (s : State) : Host.Outcome State Fault Refusal := s.act Block.supervisorDone

/-- SUP_OVERRUN (R33). -/
def execSupOverrun (s : State) : Host.Outcome State Fault Refusal := s.act Block.supOverrun

/-- MEAS_RESULTS_READY (R197): the raw codes of the 72 windows, and the channels over range as a mask. -/
def execMeasResultsReady (raw : List Nat) (past : Nat) (s : State) : Host.Outcome State Fault Refusal := s.act (·.resultsReady raw past)

/-- PARTNER_RESULTS (R198, R375). -/
def execPartnerResults (lane mseq : Nat) (crcOk late : Bool) (results flags : List Nat) (s : State) : Host.Outcome State Fault Refusal :=
  s.actOn (decide (lane < 2)) .lan lane (fun b => b.arrive lane mseq crcOk (Block.inTime late (·.partnerSet results flags)))

/-- RESULTS_MISSING (R198). -/
def execResultsMissing (s : State) : Host.Outcome State Fault Refusal := s.act Block.ownInstead

/-- CALIBRATION_DONE (R207). -/
def execCalibrationDone (ch : Nat) (s : State) : Host.Outcome State Fault Refusal := s.actOn (decide (ch < 72)) .channel ch (·.calibrated ch)

end Sys2Proof.Machine
end

