-- ==== Sys2Proof/Machine/Dispatch.lean ====
section
/-! DEFINITION. The dispatch: one arm per command, one direct call of its meaning. -/

namespace Sys2Proof.Machine

/-- What a command does to everything but the queue. -/
def exec (i : Instr) (s : State) : Host.Outcome State Fault Refusal :=
  match i with
  | .powerUpVinRise corePh agree intact vbat off => Sys2Proof.Machine.execPowerUpVinRise corePh agree intact vbat off s
  | .strapResample core value agree test refclk us => Sys2Proof.Machine.execStrapResample core value agree test refclk us s
  | .railGood rail us => Sys2Proof.Machine.execRailGood rail us s
  | .resetRelease high agree test refclk us => Sys2Proof.Machine.execResetRelease high agree test refclk us s
  | .heartwoodRecallDone us torn bad fallback lost => Sys2Proof.Machine.execHeartwoodRecallDone us torn bad fallback lost s
  | .flashProbeDone answers suits jedec density mode clock => Sys2Proof.Machine.execFlashProbeDone answers suits jedec density mode clock s
  | .bootCheck digest sig unread us => Sys2Proof.Machine.execBootCheck digest sig unread us s
  | .gladeStart partner epoch cycle us => Sys2Proof.Machine.execGladeStart partner epoch cycle us s
  | .pfNFall external => Sys2Proof.Machine.execPfNFall external s
  | .sagStepDown step vin => Sys2Proof.Machine.execSagStepDown step vin s
  | .sagStepUp vin => Sys2Proof.Machine.execSagStepUp vin s
  | .railUv rail => Sys2Proof.Machine.execRailUv rail s
  | .railOc rail => Sys2Proof.Machine.execRailOc rail s
  | .railOv rail => Sys2Proof.Machine.execRailOv rail s
  | .vbatSwitchover rows index half => Sys2Proof.Machine.execVbatSwitchover rows index half s
  | .cellAlarmLatch alm seconds => Sys2Proof.Machine.execCellAlarmLatch alm seconds s
  | .tickBoundary overrun scrubErr => Sys2Proof.Machine.execTickBoundary overrun scrubErr s
  | .retrySlot p => Sys2Proof.Machine.execRetrySlot p s
  | .upstreamFrame p retry sofNs codeOk crcOk data => Sys2Proof.Machine.execUpstreamFrame p retry sofNs codeOk crcOk data s
  | .upstreamWindowEnd p retry => Sys2Proof.Machine.execUpstreamWindowEnd p retry s
  | .mainsLossDetect m => Sys2Proof.Machine.execMainsLossDetect m s
  | .lineLossDetect m => Sys2Proof.Machine.execLineLossDetect m s
  | .swellTripDetect m => Sys2Proof.Machine.execSwellTripDetect m s
  | .mainsSenseLost m => Sys2Proof.Machine.execMainsSenseLost m s
  | .trainingComplete p => Sys2Proof.Machine.execTrainingComplete p s
  | .trainingTimeout p => Sys2Proof.Machine.execTrainingTimeout p s
  | .linkDelayRetrain p => Sys2Proof.Machine.execLinkDelayRetrain p s
  | .linkLost p => Sys2Proof.Machine.execLinkLost p s
  | .linkRetrain p => Sys2Proof.Machine.execLinkRetrain p s
  | .oneshotTimeout p => Sys2Proof.Machine.execOneshotTimeout p s
  | .injectCrc p value => Sys2Proof.Machine.execInjectCrc p value s
  | .cycleBoundary refclkPpm rowErr => Sys2Proof.Machine.execCycleBoundary refclkPpm rowErr s
  | .zeroCrossing phase rising stamp clk => Sys2Proof.Machine.execZeroCrossing phase rising stamp clk s
  | .syncInEdge highNs stamp clk => Sys2Proof.Machine.execSyncInEdge highNs stamp clk s
  | .pinNewest n => Sys2Proof.Machine.execPinNewest n s
  | .pinNamed n => Sys2Proof.Machine.execPinNamed n s
  | .pinRelease n => Sys2Proof.Machine.execPinRelease n s
  | .pinExpiry n => Sys2Proof.Machine.execPinExpiry n s
  | .commitOpen n => Sys2Proof.Machine.execCommitOpen n s
  | .commitDiscard n => Sys2Proof.Machine.execCommitDiscard n s
  | .commitSubmit n => Sys2Proof.Machine.execCommitSubmit n s
  | .commitCancel n seq => Sys2Proof.Machine.execCommitCancel n seq s
  | .commitConfirmTimeout seq => Sys2Proof.Machine.execCommitConfirmTimeout seq s
  | .objectWrite n index sub data => Sys2Proof.Machine.execObjectWrite n index sub data s
  | .directoryRead line cache err => Sys2Proof.Machine.execDirectoryRead line cache err s
  | .directoryOwn line caches => Sys2Proof.Machine.execDirectoryOwn line caches s
  | .directoryWriteback line cache caches => Sys2Proof.Machine.execDirectoryWriteback line cache caches s
  | .actionSubmit n => Sys2Proof.Machine.execActionSubmit n s
  | .actionCancel n handle => Sys2Proof.Machine.execActionCancel n handle s
  | .actionConfirmTimeout handle => Sys2Proof.Machine.execActionConfirmTimeout handle s
  | .feedClose handle => Sys2Proof.Machine.execFeedClose handle s
  | .feedOpen handle => Sys2Proof.Machine.execFeedOpen handle s
  | .seqUp handle => Sys2Proof.Machine.execSeqUp handle s
  | .seqDown handle => Sys2Proof.Machine.execSeqDown handle s
  | .groupSetpoint handle => Sys2Proof.Machine.execGroupSetpoint handle s
  | .portSafe handle => Sys2Proof.Machine.execPortSafe handle s
  | .latchReset handle => Sys2Proof.Machine.execLatchReset handle s
  | .mark handle => Sys2Proof.Machine.execMark handle s
  | .roleSwap handle => Sys2Proof.Machine.execRoleSwap handle s
  | .stringTest handle => Sys2Proof.Machine.execStringTest handle s
  | .stringTestEnd str => Sys2Proof.Machine.execStringTestEnd str s
  | .groupStart g => Sys2Proof.Machine.execGroupStart g s
  | .groupStartAdvance g => Sys2Proof.Machine.execGroupStartAdvance g s
  | .groupStartTimeout g => Sys2Proof.Machine.execGroupStartTimeout g s
  | .portAdmitAfterOff p => Sys2Proof.Machine.execPortAdmitAfterOff p s
  | .thinShed g => Sys2Proof.Machine.execThinShed g s
  | .groupSenseLost g => Sys2Proof.Machine.execGroupSenseLost g s
  | .measResultsReady raw past => Sys2Proof.Machine.execMeasResultsReady raw past s
  | .partnerResults lane mseq crcOk late results flags => Sys2Proof.Machine.execPartnerResults lane mseq crcOk late results flags s
  | .calibrate ch => Sys2Proof.Machine.execCalibrate ch s
  | .calibrationDone ch => Sys2Proof.Machine.execCalibrationDone ch s
  | .stringFull str => Sys2Proof.Machine.execStringFull str s
  | .ocvAnchor str => Sys2Proof.Machine.execOcvAnchor str s
  | .cutoffVoltage str => Sys2Proof.Machine.execCutoffVoltage str s
  | .presenceGain str => Sys2Proof.Machine.execPresenceGain str s
  | .stringStore str => Sys2Proof.Machine.execStringStore str s
  | .authStart str outcome => Sys2Proof.Machine.execAuthStart str outcome s
  | .authRead str outcome data => Sys2Proof.Machine.execAuthRead str outcome data s
  | .authNackRetry str outcome => Sys2Proof.Machine.execAuthNackRetry str outcome s
  | .authReread str outcome data => Sys2Proof.Machine.execAuthReread str outcome data s
  | .authenticate str => Sys2Proof.Machine.execAuthenticate str s
  | .authIntervalExpiry str => Sys2Proof.Machine.execAuthIntervalExpiry str s
  | .feedInputQualified f => Sys2Proof.Machine.execFeedInputQualified f s
  | .closeTimeout f => Sys2Proof.Machine.execCloseTimeout f s
  | .gateCheck f => Sys2Proof.Machine.execGateCheck f s
  | .passShort f => Sys2Proof.Machine.execPassShort f s
  | .feedCurveTrip f => Sys2Proof.Machine.execFeedCurveTrip f s
  | .feedTimerTrip f => Sys2Proof.Machine.execFeedTimerTrip f s
  | .feedInputFault f => Sys2Proof.Machine.execFeedInputFault f s
  | .feedRetry f => Sys2Proof.Machine.execFeedRetry f s
  | .retryReset f => Sys2Proof.Machine.execRetryReset f s
  | .clearSuspect f => Sys2Proof.Machine.execClearSuspect f s
  | .walkIn handle => Sys2Proof.Machine.execWalkIn handle s
  | .seqMemberOnDue entry pos => Sys2Proof.Machine.execSeqMemberOnDue entry pos s
  | .seqMemberOffDue entry pos => Sys2Proof.Machine.execSeqMemberOffDue entry pos s
  | .seqUpTimeout entry pos => Sys2Proof.Machine.execSeqUpTimeout entry pos s
  | .seqRetry handle => Sys2Proof.Machine.execSeqRetry handle s
  | .seqSnapshotRelease area8 => Sys2Proof.Machine.execSeqSnapshotRelease area8 s
  | .faultAcknowledge n name => Sys2Proof.Machine.execFaultAcknowledge n name s
  | .faultWithhold n name => Sys2Proof.Machine.execFaultWithhold n name s
  | .faultClear n name => Sys2Proof.Machine.execFaultClear n name s
  | .acknowledgeAll n => Sys2Proof.Machine.execAcknowledgeAll n s
  | .clearAll n => Sys2Proof.Machine.execClearAll n s
  | .clearSticky n => Sys2Proof.Machine.execClearSticky n s
  | .stickyW1c c => Sys2Proof.Machine.execStickyW1c c s
  | .partnerCrcInject value => Sys2Proof.Machine.execPartnerCrcInject value s
  | .twoWirePecInject value => Sys2Proof.Machine.execTwoWirePecInject value s
  | .alarmInput alm active => Sys2Proof.Machine.execAlarmInput alm active s
  | .standWedged stand => Sys2Proof.Machine.execStandWedged stand s
  | .abortOverdue kind target => Sys2Proof.Machine.execAbortOverdue kind target s
  | .abortTransfer n target => Sys2Proof.Machine.execAbortTransfer n target s
  | .abortSequence n q => Sys2Proof.Machine.execAbortSequence n q s
  | .abortAuthentication n str => Sys2Proof.Machine.execAbortAuthentication n str s
  | .abortFlash n pages => Sys2Proof.Machine.execAbortFlash n pages s
  | .abortApply n => Sys2Proof.Machine.execAbortApply n s
  | .abortDump n => Sys2Proof.Machine.execAbortDump n s
  | .partnerTime lane mseq crcOk late epoch cycle angle source freq mainsQual mainsErr mainsFreq role gen e readiness grave => Sys2Proof.Machine.execPartnerTime lane mseq crcOk late epoch cycle angle source freq mainsQual mainsErr mainsFreq role gen e readiness grave s
  | .partnerMask lane mseq crcOk late retry sets ok => Sys2Proof.Machine.execPartnerMask lane mseq crcOk late retry sets ok s
  | .partnerTickDigest lane mseq crcOk late differ unshadowed => Sys2Proof.Machine.execPartnerTickDigest lane mseq crcOk late differ unshadowed s
  | .partnerCycleDigest lane mseq crcOk late boundary differ => Sys2Proof.Machine.execPartnerCycleDigest lane mseq crcOk late boundary differ s
  | .partnerRoot lane mseq crcOk late op number src cls scope rule reaction left insts detail => Sys2Proof.Machine.execPartnerRoot lane mseq crcOk late op number src cls scope rule reaction left insts detail s
  | .partnerCommit lane mseq crcOk op seq session epoch cycle writes => Sys2Proof.Machine.execPartnerCommit lane mseq crcOk op seq session epoch cycle writes s
  | .partnerAction lane mseq crcOk op handle session action kind target arg epoch cycle angle => Sys2Proof.Machine.execPartnerAction lane mseq crcOk op handle session action kind target arg epoch cycle angle s
  | .partnerSession lane mseq crcOk op n v0 v1 v2 v3 data => Sys2Proof.Machine.execPartnerSession lane mseq crcOk op n v0 v1 v2 v3 data s
  | .partnerSwap lane mseq crcOk epoch cycle => Sys2Proof.Machine.execPartnerSwap lane mseq crcOk epoch cycle s
  | .partnerBulk lane mseq crcOk kind unit vals carry writes => Sys2Proof.Machine.execPartnerBulk lane mseq crcOk kind unit vals carry writes s
  | .partnerAck lane crcOk mseq result => Sys2Proof.Machine.execPartnerAck lane crcOk mseq result s
  | .partnerLinkUp ns => Sys2Proof.Machine.execPartnerLinkUp ns s
  | .partnerLaneDown lane => Sys2Proof.Machine.execPartnerLaneDown lane s
  | .dictConfirmTimeout n id => Sys2Proof.Machine.execDictConfirmTimeout n id s
  | .tokenInChange cls fits early => Sys2Proof.Machine.execTokenInChange cls fits early s
  | .swapNow n => Sys2Proof.Machine.execSwapNow n s
  | .killNow value => Sys2Proof.Machine.execKillNow value s
  | .archiveBatch refused => Sys2Proof.Machine.execArchiveBatch refused s
  | .ringsClear n mask => Sys2Proof.Machine.execRingsClear n mask s
  | .ringsReaderOpen n => Sys2Proof.Machine.execRingsReaderOpen n s
  | .ringsReaderClose n => Sys2Proof.Machine.execRingsReaderClose n s
  | .ringsDataRead n => Sys2Proof.Machine.execRingsDataRead n s
  | .rateSummary c => Sys2Proof.Machine.execRateSummary c s
  | .dumpNow n => Sys2Proof.Machine.execDumpNow n s
  | .dumpComplete sections => Sys2Proof.Machine.execDumpComplete sections s
  | .dumpRelease n value => Sys2Proof.Machine.execDumpRelease n value s
  | .dumpEraseDone area => Sys2Proof.Machine.execDumpEraseDone area s
  | .flashRequest owner kind addr len data => Sys2Proof.Machine.execFlashRequest owner kind addr len data s
  | .flashOpDone fail => Sys2Proof.Machine.execFlashOpDone fail s
  | .updateBegin n => Sys2Proof.Machine.execUpdateBegin n s
  | .updateData n data fail => Sys2Proof.Machine.execUpdateData n data fail s
  | .updateVerify n => Sys2Proof.Machine.execUpdateVerify n s
  | .updateVerifyDone tagOk => Sys2Proof.Machine.execUpdateVerifyDone tagOk s
  | .updateApply n => Sys2Proof.Machine.execUpdateApply n s
  | .updateApplyDone payload tagOk fail => Sys2Proof.Machine.execUpdateApplyDone payload tagOk fail s
  | .updateReboot n => Sys2Proof.Machine.execUpdateReboot n s
  | .revokeKey n value => Sys2Proof.Machine.execRevokeKey n value s
  | .edpOpen id size subscribe seat => Sys2Proof.Machine.execEdpOpen id size subscribe seat s
  | .edpClose n id mine => Sys2Proof.Machine.execEdpClose n id mine s
  | .edpRead n id index sub mine => Sys2Proof.Machine.execEdpRead n id index sub mine s
  | .edpReadSeg n id index sub off mine => Sys2Proof.Machine.execEdpReadSeg n id index sub off mine s
  | .edpWrite n id index sub total first mine data => Sys2Proof.Machine.execEdpWrite n id index sub total first mine data s
  | .edpWriteSeg n id index sub off mine data => Sys2Proof.Machine.execEdpWriteSeg n id index sub off mine data s
  | .edpEnd n id mine => Sys2Proof.Machine.execEdpEnd n id mine s
  | .edpKeepalive n id mine => Sys2Proof.Machine.execEdpKeepalive n id mine s
  | .edpAlertAck n id seq mine => Sys2Proof.Machine.execEdpAlertAck n id seq mine s
  | .sessionIdle n => Sys2Proof.Machine.execSessionIdle n s
  | .transferIdle n => Sys2Proof.Machine.execTransferIdle n s
  | .alertRepeat n => Sys2Proof.Machine.execAlertRepeat n s
  | .usdoRequest can rack client op index sub off total size data => Sys2Proof.Machine.execUsdoRequest can rack client op index sub off total size data s
  | .nmtStart can rack => Sys2Proof.Machine.execNmtStart can rack s
  | .nmtStop can rack => Sys2Proof.Machine.execNmtStop can rack s
  | .nmtPreOperational can rack => Sys2Proof.Machine.execNmtPreOperational can rack s
  | .nmtResetCommunication can rack => Sys2Proof.Machine.execNmtResetCommunication can rack s
  | .nmtResetNode can rack => Sys2Proof.Machine.execNmtResetNode can rack s
  | .heartbeat can rack => Sys2Proof.Machine.execHeartbeat can rack s
  | .tpdoTransmit can u => Sys2Proof.Machine.execTpdoTransmit can u s
  | .canBusOff can => Sys2Proof.Machine.execCanBusOff can s
  | .canErrorPassive can passive => Sys2Proof.Machine.execCanErrorPassive can passive s
  | .prpNodeForget mac => Sys2Proof.Machine.execPrpNodeForget mac s
  | .ethLanDown lan => Sys2Proof.Machine.execEthLanDown lan s
  | .capability e4 => Sys2Proof.Machine.execCapability e4 s
  | .mfrId e4 => Sys2Proof.Machine.execMfrId e4 s
  | .mfrModel e4 => Sys2Proof.Machine.execMfrModel e4 s
  | .dictSelect e4 index sub pec sized => Sys2Proof.Machine.execDictSelect e4 index sub pec sized s
  | .dictRead e4 ready => Sys2Proof.Machine.execDictRead e4 ready s
  | .dictWrite e4 flags off pec sized data => Sys2Proof.Machine.execDictWrite e4 flags off pec sized data s
  | .dictStatus e4 => Sys2Proof.Machine.execDictStatus e4 s
  | .dictOffset e4 off pec sized => Sys2Proof.Machine.execDictOffset e4 off pec sized s
  | .alertRead e4 => Sys2Proof.Machine.execAlertRead e4 s
  | .alertAck e4 seq pec sized => Sys2Proof.Machine.execAlertAck e4 seq pec sized s
  | .twUnknownCommand e4 code => Sys2Proof.Machine.execTwUnknownCommand e4 code s
  | .alertResponse wins => Sys2Proof.Machine.execAlertResponse wins s
  | .alertRearm e4 => Sys2Proof.Machine.execAlertRearm e4 s
  | .twStretchTimeout tw e4 => Sys2Proof.Machine.execTwStretchTimeout tw e4 s
  | .twSelfRelease tw => Sys2Proof.Machine.execTwSelfRelease tw s
  | .twBusClear tw freed => Sys2Proof.Machine.execTwBusClear tw freed s
  | .twBusStuck tw sda => Sys2Proof.Machine.execTwBusStuck tw sda s
  | .twArbLost tw => Sys2Proof.Machine.execTwArbLost tw s
  | .twArbRetry tw => Sys2Proof.Machine.execTwArbRetry tw s
  | .twDeviceAlert tw addr answered => Sys2Proof.Machine.execTwDeviceAlert tw addr answered s
  | .sendByte n tw addr cmd pec => Sys2Proof.Machine.execSendByte n tw addr cmd pec s
  | .writeByte n tw addr cmd pec data => Sys2Proof.Machine.execWriteByte n tw addr cmd pec data s
  | .writeWord n tw addr cmd pec data => Sys2Proof.Machine.execWriteWord n tw addr cmd pec data s
  | .blockWrite n tw addr cmd pec data => Sys2Proof.Machine.execBlockWrite n tw addr cmd pec data s
  | .receiveByte n tw addr pec => Sys2Proof.Machine.execReceiveByte n tw addr pec s
  | .readByte n tw addr cmd pec => Sys2Proof.Machine.execReadByte n tw addr cmd pec s
  | .readWord n tw addr cmd pec => Sys2Proof.Machine.execReadWord n tw addr cmd pec s
  | .blockRead n tw addr cmd pec => Sys2Proof.Machine.execBlockRead n tw addr cmd pec s
  | .twTransactionDone tw outcome data => Sys2Proof.Machine.execTwTransactionDone tw outcome data s
  | .twBusStuckEnd tw => Sys2Proof.Machine.execTwBusStuckEnd tw s
  | .ethLinkUp lan speed => Sys2Proof.Machine.execEthLinkUp lan speed s
  | .canBusOffRecovery can => Sys2Proof.Machine.execCanBusOffRecovery can s
  | .arpRequest lan addr => Sys2Proof.Machine.execArpRequest lan addr s
  | .icmpEcho lan addr => Sys2Proof.Machine.execIcmpEcho lan addr s
  | .supervisionFrameReceived lan mac wrong dup => Sys2Proof.Machine.execSupervisionFrameReceived lan mac wrong dup s
  | .flashAccess cmd addr value => Sys2Proof.Machine.execFlashAccess cmd addr value s
  | .railStartTimeout => Sys2Proof.Machine.execRailStartTimeout s
  | .railRestart => Sys2Proof.Machine.execRailRestart s
  | .firmwareStart => Sys2Proof.Machine.execFirmwareStart s
  | .rstNAssert => Sys2Proof.Machine.execRstNAssert s
  | .pfNRise => Sys2Proof.Machine.execPfNRise s
  | .auxOv => Sys2Proof.Machine.execAuxOv s
  | .cellAlarmPendingClear => Sys2Proof.Machine.execCellAlarmPendingClear s
  | .selfCycleAssert => Sys2Proof.Machine.execSelfCycleAssert s
  | .selfCycleRelease => Sys2Proof.Machine.execSelfCycleRelease s
  | .autostartSubmit => Sys2Proof.Machine.execAutostartSubmit s
  | .halfCycleEnd => Sys2Proof.Machine.execHalfCycleEnd s
  | .mainsSourceTimeout => Sys2Proof.Machine.execMainsSourceTimeout s
  | .syncInLost => Sys2Proof.Machine.execSyncInLost s
  | .syncFrame => Sys2Proof.Machine.execSyncFrame s
  | .holdoverLimitExpiry => Sys2Proof.Machine.execHoldoverLimitExpiry s
  | .snapshotCaptureDone => Sys2Proof.Machine.execSnapshotCaptureDone s
  | .reservedEntryObtained => Sys2Proof.Machine.execReservedEntryObtained s
  | .resultsMissing => Sys2Proof.Machine.execResultsMissing s
  | .calibrateAll => Sys2Proof.Machine.execCalibrateAll s
  | .refFault => Sys2Proof.Machine.execRefFault s
  | .refReady => Sys2Proof.Machine.execRefReady s
  | .supervisorDone => Sys2Proof.Machine.execSupervisorDone s
  | .supOverrun => Sys2Proof.Machine.execSupOverrun s
  | .transferComplete => Sys2Proof.Machine.execTransferComplete s
  | .walkInEnd => Sys2Proof.Machine.execWalkInEnd s
  | .windthrowWindowClose => Sys2Proof.Machine.execWindthrowWindowClose s
  | .reactionDecide => Sys2Proof.Machine.execReactionDecide s
  | .firebreakClose => Sys2Proof.Machine.execFirebreakClose s
  | .sramArm => Sys2Proof.Machine.execSramArm s
  | .graveEnter => Sys2Proof.Machine.execGraveEnter s
  | .collectorWedged => Sys2Proof.Machine.execCollectorWedged s
  | .supervisorWedged => Sys2Proof.Machine.execSupervisorWedged s
  | .supervisorLockstep => Sys2Proof.Machine.execSupervisorLockstep s
  | .partnerRetransmit => Sys2Proof.Machine.execPartnerRetransmit s
  | .partnerLinkDown => Sys2Proof.Machine.execPartnerLinkDown s
  | .tokenTake => Sys2Proof.Machine.execTokenTake s
  | .coldTake => Sys2Proof.Machine.execColdTake s
  | .swapExecute => Sys2Proof.Machine.execSwapExecute s
  | .drillNow => Sys2Proof.Machine.execDrillNow s
  | .drillIntervalExpiry => Sys2Proof.Machine.execDrillIntervalExpiry s
  | .drillCheckEnd => Sys2Proof.Machine.execDrillCheckEnd s
  | .drillSecondSwap => Sys2Proof.Machine.execDrillSecondSwap s
  | .resync => Sys2Proof.Machine.execResync s
  | .resyncBulkDone => Sys2Proof.Machine.execResyncBulkDone s
  | .resyncReplayDone => Sys2Proof.Machine.execResyncReplayDone s
  | .resyncVerifyDone => Sys2Proof.Machine.execResyncVerifyDone s
  | .resyncRetry => Sys2Proof.Machine.execResyncRetry s
  | .killOnGrave => Sys2Proof.Machine.execKillOnGrave s
  | .killPulseEnd => Sys2Proof.Machine.execKillPulseEnd s
  | .ringsFlush => Sys2Proof.Machine.execRingsFlush s
  | .flushComplete => Sys2Proof.Machine.execFlushComplete s
  | .flushRetry => Sys2Proof.Machine.execFlushRetry s
  | .freezeLimitExpiry => Sys2Proof.Machine.execFreezeLimitExpiry s
  | .dumpStart => Sys2Proof.Machine.execDumpStart s
  | .updateEraseDone => Sys2Proof.Machine.execUpdateEraseDone s
  | .prpSupervision => Sys2Proof.Machine.execPrpSupervision s
  | .vbatUndervoltage => Sys2Proof.Machine.execVbatUndervoltage s
  | .operatingHoursCount => Sys2Proof.Machine.execOperatingHoursCount s

end Sys2Proof.Machine
end

