-- ==== Sys2Proof/Safety.lean ====
section
/-! DEFINITION. What counts as a safe run, in the terms the claims use. -/

namespace Sys2Proof.Safety

open Sys2Proof.Machine

/-- A step that answers a next state. -/
def completes (o : Host.Outcome State Fault Refusal) : Bool :=
  match o with
  | .next _ => true
  | _ => false

/-- What every step keeps: both addressed memories are in canonical form, and no write is left over from a command. -/
def Inv (s : State) : Prop :=
  Memory.wf heartwoodFill s.heartwood = true ∧ Memory.wf flashFill s.flash = true ∧ s.blk.writes = {}

/-- No write is left over from an earlier command: every state between two steps. -/
abbrev Settled (s : State) : Prop := s.blk.writes = {}

/-- The queue and both addressed memories are as they were. -/
abbrev SameArrays (s t : State) : Prop := t.pending = s.pending ∧ t.heartwood = s.heartwood ∧ t.flash = s.flash

/-- Every object but those named reads as it did, in this tick and in the next. -/
def KeepsObjects (named : List Nat) (s t : State) : Prop := ∀ k, k ∉ named → t.blk.rd k = s.blk.rd k ∧ t.blk.rdN k = s.blk.rdN k

/-- Nothing of the block changes but its objects. -/
def OnlyObjects (s t : State) : Prop := t.blk = { s.blk with dict := t.blk.dict, wimg := t.blk.wimg }

/-- The objects that appending a record, or completing a pending action, may change (R77, R109, R433). -/
def recordObjects : List Nat :=
  [Obj.EventOrder.EventSequence, Obj.EventOrder.Generation, Obj.RingsStatus.Unflushed, Obj.RingsStatus.Held 0, Obj.RingsStatus.NewestGeneration,
   Obj.RingsStatus.NewestSequence, Obj.RingsStatus.RecordsLost, Obj.ActionTable.InUse, Obj.ActionTable.HighWater]

/-- The objects of feed `f` that its openings, trips and closings may change (R281-R284, R302). -/
def feedObjects (f : Nat) : List Nat :=
  [Obj.FeedRecord.State f, Obj.FeedRecord.LastOpenCause f, Obj.FeedRecord.LastOpenEpoch f, Obj.FeedRecord.LastOpenCycle f,
   Obj.FeedRecord.LastOpenTick f, Obj.FeedRecord.IlimInForce f, Obj.FeedRecord.CapState f, Obj.FeedRecord.CapCurrent f, Obj.FeedRecord.Allocation f,
   Obj.FeedRecord.RetriesUsed f, Obj.FeedRecord.TripCount f, Obj.SourceConfig.PresentInstances Src.FEED_FLOOR_BREACH,
   Obj.SourceConfig.PresentInstances Src.FEED_LOCKED_OUT, Obj.SourceConfig.PresentInstances Src.BRK_GATE_SUSPECT,
   Obj.SourceConfig.PresentInstances Src.BRK_PASS_SHORT]

/-- The objects that the stop of group `g` may change (R183, R246, R251). -/
def stopObjects (b : Block) (g : Nat) : List Nat :=
  [Obj.GroupRecord.State g, Obj.GroupRecord.RunPhases g, Obj.GroupRecord.EffSetpoint g, Obj.GroupRecord.CurrentCommand g,
   Obj.GroupRecord.Integrator g, Obj.GroupRecord.LastStartResult g, Obj.SourceConfig.PresentInstances Src.GROUP_SENSE_LOST,
   Obj.SourceConfig.PresentInstances Src.GROUP_OV_WARN, Obj.SourceConfig.PresentInstances Src.GROUP_SHORT,
   Obj.SourceConfig.PresentInstances Src.GROUP_OV, Obj.HoldupStatus.State] ++ (b.groupString g).toList.map Obj.StringRecord.Mode

/-- The objects that a run of sequence `q` may change: its record, its entries' counts, and the retry it cancels (R317-R319, R326). -/
def sequenceObjects (b : Block) (q : Nat) : List Nat :=
  [Obj.SequenceRecord.State q, Obj.SequenceRecord.RetriesUsed q, Obj.SequenceRecord.StartEpoch q, Obj.SequenceRecord.StartCycle q,
   Obj.SequenceRecord.StartAngle q, Obj.SequenceRecord.MembersTotal q, Obj.SequenceRecord.MembersUp q, Obj.SequenceRecord.LastResult q,
   Obj.SourceConfig.PresentInstances Src.SEQ_EXHAUSTED] ++ (b.seqEntries q).map Obj.SlotEntry.MembersUp ++ recordObjects

/-- The objects of string `n` that its presence, its identity, its estimate, its levels and its test may change (R247-R271), with the count
of refused stores (R448). -/
def stringObjects (n : Nat) : List Nat :=
  [Obj.StringRecord.Presence n, Obj.StringRecord.Temperature n, Obj.StringRecord.Soc n, Obj.StringRecord.RemainingCharge n,
   Obj.StringRecord.CapacityEstimate n, Obj.StringRecord.Soh n, Obj.StringRecord.EstFlags n, Obj.StringRecord.LastAnchorSoc n,
   Obj.StringRecord.DischargeLevel n, Obj.StringRecord.Inhibit n, Obj.StringRecord.TestStatus n, Obj.StringRecord.Mode n,
   Obj.StringRecord.DischargeLimit n, Obj.StringRecord.SupportWeight n, Obj.StringRecord.InternalResistance n, Obj.StringRecord.Identity n,
   Obj.StringRecord.PackId n, Obj.StringRecord.LastAuthEpoch n, Obj.StringRecord.LastAuthCycle n, Obj.StringRecord.AuthFailures n,
   Obj.StringRecord.AuthAttempts n, Obj.HeartwoodStatus.WriteRefusals] ++
  [Src.STRING_ABSENT, Src.STRING_THERM_SHORT, Src.PACK_AUTH_FAIL, Src.PACK_ID_CONFLICT, Src.PACK_NO_RESPONSE, Src.BAT_W1, Src.BAT_W2,
   Src.BAT_CUTOFF, Src.BAT_CHG_WARN, Src.BAT_CHG_STOP].map Obj.SourceConfig.PresentInstances

/-- The objects of two-wire port `k` that a transfer may change (R529, R535), and what an injected check uses up (R358). -/
def wireObjects (k : Nat) : List Nat :=
  [Obj.TwPortStatus.Transactions k, Obj.TwPortStatus.Nacks k, Obj.TwPortStatus.PecErrors k, Obj.TwPortStatus.BusState k, Obj.FaultInject.Armed]

/-- Handle `h` holds an accepted entry `a` of operation `op` that is due in the tick the next boundary opens, and no later entry
supersedes it (R74, R75). -/
abbrev Due (b : Block) (h op : Nat) (a : Action) : Prop :=
  b.entry? h = some a ∧ a.accepted = true ∧ a.op = op ∧ b.pastNext (b.entryPlace a) ≤ 0 ∧ b.superseded h a = false

/-- A frame of the partner link arrives whole on a lane that exists, its sequence is new, and no injected check awaits it (R376, R358). -/
abbrev Arrives (b : Block) (lane mseq : Nat) : Prop :=
  lane < 2 ∧ b.faults.partnerCrcLeft = 0 ∧ b.pair.seen.any (Block.inRangeOf (mseq % 2 ^ 32)) = false

/-- The objects that the arrival of such a frame may change: the lanes, the link's state, and the condition of a missing lane (R377). -/
def linkObjects : List Nat :=
  [Obj.PartnerLink.Lane0Up, Obj.PartnerLink.Lane1Up, Obj.PartnerLink.LinkState, Obj.SourceConfig.PresentInstances Src.PARTNER_LANE_DOWN]

/-- The reports of the tick in progress gain one. -/
abbrev Reports (s t : State) (l : List Report) : Prop := t.blk.faults.reports = s.blk.faults.reports ++ l

end Sys2Proof.Safety
end

