-- ==== Sys2Proof/WellFormed.lean ====
section
/-! DEFINITION. Well-formed commands: every unit number and byte an operand gives exists. -/

namespace Sys2Proof

/-- A command whose unit numbers lie in the ranges of the spec (R14–R19, R69, R79, R91, R332) and whose data are bytes. -/
def Instr.wf : Instr → Bool
  | .powerUpVinRise _ _ _ _ _ => true
  | .strapResample _ _ _ _ _ _ => true
  | .railGood rail _ => decide (rail < 4)
  | .resetRelease _ _ _ _ _ => true
  | .heartwoodRecallDone _ _ _ _ _ => true
  | .flashProbeDone _ _ _ _ _ _ => true
  | .bootCheck _ _ _ _ => true
  | .gladeStart _ _ _ _ => true
  | .pfNFall _ => true
  | .sagStepDown _ _ => true
  | .sagStepUp _ => true
  | .railUv rail => decide (rail < 4)
  | .railOc rail => decide (rail < 4)
  | .railOv rail => decide (rail < 4)
  | .vbatSwitchover _ index _ => decide (index < 65536)
  | .cellAlarmLatch alm _ => decide (alm < 2)
  | .tickBoundary overrun _ => overrun.all (fun v => decide (v < 512))
  | .retrySlot p => decide (p < 512)
  | .upstreamFrame p _ _ _ _ data => decide (p < 512) && data.all (fun v => decide (v < 256))
  | .upstreamWindowEnd p _ => decide (p < 512)
  | .mainsLossDetect m => decide (m < 2)
  | .lineLossDetect m => decide (m < 2)
  | .swellTripDetect m => decide (m < 2)
  | .mainsSenseLost m => decide (m < 2)
  | .trainingComplete p => decide (p < 512)
  | .trainingTimeout p => decide (p < 512)
  | .linkDelayRetrain p => decide (p < 512)
  | .linkLost p => decide (p < 512)
  | .linkRetrain p => decide (p < 512)
  | .oneshotTimeout p => decide (p < 512)
  | .injectCrc p _ => decide (p < 512)
  | .cycleBoundary _ _ => true
  | .zeroCrossing phase _ _ _ => decide (phase < 3)
  | .syncInEdge _ _ _ => true
  | .pinNewest n => decide (n < 32)
  | .pinNamed n => decide (n < 32)
  | .pinRelease n => decide (n < 32)
  | .pinExpiry n => decide (n < 32)
  | .commitOpen n => decide (n < 32)
  | .commitDiscard n => decide (n < 32)
  | .commitSubmit n => decide (n < 32)
  | .commitCancel n _ => decide (n < 32)
  | .commitConfirmTimeout _ => true
  | .objectWrite n index sub data => decide (n < 32) && decide (index < 65536) && decide (sub < 256) && data.all (fun v => decide (v < 256))
  | .directoryRead line cache _ => decide (line < 65536) && decide (cache < 17)
  | .directoryOwn line _ => decide (line < 65536)
  | .directoryWriteback line cache _ => decide (line < 65536) && decide (cache < 17)
  | .actionSubmit n => decide (n < 32)
  | .actionCancel n handle => decide (n < 32) && decide (handle < 1024)
  | .actionConfirmTimeout handle => decide (handle < 1024)
  | .feedClose handle => decide (handle < 1024)
  | .feedOpen handle => decide (handle < 1024)
  | .seqUp handle => decide (handle < 1024)
  | .seqDown handle => decide (handle < 1024)
  | .groupSetpoint handle => decide (handle < 1024)
  | .portSafe handle => decide (handle < 1024)
  | .latchReset handle => decide (handle < 1024)
  | .mark handle => decide (handle < 1024)
  | .roleSwap handle => decide (handle < 1024)
  | .stringTest handle => decide (handle < 1024)
  | .stringTestEnd str => decide (str < 16)
  | .groupStart g => decide (g < 64)
  | .groupStartAdvance g => decide (g < 64)
  | .groupStartTimeout g => decide (g < 64)
  | .portAdmitAfterOff p => decide (p < 512)
  | .thinShed g => decide (g < 64)
  | .groupSenseLost g => decide (g < 64)
  | .measResultsReady _ _ => true
  | .partnerResults lane _ _ _ _ _ => decide (lane < 2)
  | .calibrate ch => decide (ch < 72)
  | .calibrationDone ch => decide (ch < 72)
  | .stringFull str => decide (str < 16)
  | .ocvAnchor str => decide (str < 16)
  | .cutoffVoltage str => decide (str < 16)
  | .presenceGain str => decide (str < 16)
  | .stringStore str => decide (str < 16)
  | .authStart str _ => decide (str < 16)
  | .authRead str _ data => decide (str < 16) && data.all (fun v => decide (v < 256))
  | .authNackRetry str _ => decide (str < 16)
  | .authReread str _ data => decide (str < 16) && data.all (fun v => decide (v < 256))
  | .authenticate str => decide (str < 16)
  | .authIntervalExpiry str => decide (str < 16)
  | .feedInputQualified f => decide (f < 256)
  | .closeTimeout f => decide (f < 256)
  | .gateCheck f => decide (f < 256)
  | .passShort f => decide (f < 256)
  | .feedCurveTrip f => decide (f < 256)
  | .feedTimerTrip f => decide (f < 256)
  | .feedInputFault f => decide (f < 256)
  | .feedRetry f => decide (f < 256)
  | .retryReset f => decide (f < 256)
  | .clearSuspect f => decide (f < 256)
  | .walkIn handle => decide (handle < 1024)
  | .seqMemberOnDue entry _ => decide (entry < 128)
  | .seqMemberOffDue entry _ => decide (entry < 128)
  | .seqUpTimeout entry _ => decide (entry < 128)
  | .seqRetry handle => decide (handle < 1024)
  | .seqSnapshotRelease area8 => decide (area8 < 8)
  | .faultAcknowledge n _ => decide (n < 32)
  | .faultWithhold n _ => decide (n < 32)
  | .faultClear n _ => decide (n < 32)
  | .acknowledgeAll n => decide (n < 32)
  | .clearAll n => decide (n < 32)
  | .clearSticky n => decide (n < 32)
  | .stickyW1c c => decide (c < 224)
  | .partnerCrcInject _ => true
  | .twoWirePecInject _ => true
  | .alarmInput alm _ => decide (alm < 2)
  | .standWedged stand => decide (stand < 16)
  | .abortOverdue _ _ => true
  | .abortTransfer n _ => decide (n < 32)
  | .abortSequence n q => decide (n < 32) && decide (q < 16)
  | .abortAuthentication n str => decide (n < 32) && decide (str < 16)
  | .abortFlash n _ => decide (n < 32)
  | .abortApply n => decide (n < 32)
  | .abortDump n => decide (n < 32)
  | .partnerTime lane _ _ _ _ _ _ _ _ _ _ _ _ _ _ _ _ => decide (lane < 2)
  | .partnerMask lane _ _ _ _ _ _ => decide (lane < 2)
  | .partnerTickDigest lane _ _ _ _ _ => decide (lane < 2)
  | .partnerCycleDigest lane _ _ _ _ _ => decide (lane < 2)
  | .partnerRoot lane _ _ _ _ _ _ _ _ _ _ _ _ _ => decide (lane < 2)
  | .partnerCommit lane _ _ _ _ _ _ _ _ => decide (lane < 2)
  | .partnerAction lane _ _ _ handle _ _ _ _ _ _ _ _ => decide (lane < 2) && decide (handle < 1024)
  | .partnerSession lane _ _ _ n _ _ _ _ data => decide (lane < 2) && decide (n < 32) && data.all (fun v => decide (v < 256))
  | .partnerSwap lane _ _ _ _ => decide (lane < 2)
  | .partnerBulk lane _ _ _ _ _ _ _ => decide (lane < 2)
  | .partnerAck lane _ _ _ => decide (lane < 2)
  | .partnerLinkUp _ => true
  | .partnerLaneDown lane => decide (lane < 2)
  | .dictConfirmTimeout n _ => decide (n < 32)
  | .tokenInChange _ _ _ => true
  | .swapNow n => decide (n < 32)
  | .killNow _ => true
  | .archiveBatch _ => true
  | .ringsClear n _ => decide (n < 32)
  | .ringsReaderOpen n => decide (n < 32)
  | .ringsReaderClose n => decide (n < 32)
  | .ringsDataRead n => decide (n < 32)
  | .rateSummary c => decide (c < 224)
  | .dumpNow n => decide (n < 32)
  | .dumpComplete _ => true
  | .dumpRelease n _ => decide (n < 32)
  | .dumpEraseDone area => decide (area < 3)
  | .flashRequest _ _ _ _ data => data.all (fun v => decide (v < 256))
  | .flashOpDone _ => true
  | .updateBegin n => decide (n < 32)
  | .updateData n data _ => decide (n < 32) && data.all (fun v => decide (v < 256))
  | .updateVerify n => decide (n < 32)
  | .updateVerifyDone _ => true
  | .updateApply n => decide (n < 32)
  | .updateApplyDone _ _ _ => true
  | .updateReboot n => decide (n < 32)
  | .revokeKey n _ => decide (n < 32)
  | .edpOpen _ _ _ _ => true
  | .edpClose n _ _ => decide (n < 28)
  | .edpRead n _ index sub _ => decide (n < 28) && decide (index < 65536) && decide (sub < 256)
  | .edpReadSeg n _ index sub _ _ => decide (n < 28) && decide (index < 65536) && decide (sub < 256)
  | .edpWrite n _ index sub _ _ _ data => decide (n < 28) && decide (index < 65536) && decide (sub < 256) && data.all (fun v => decide (v < 256))
  | .edpWriteSeg n _ index sub _ _ data => decide (n < 28) && decide (index < 65536) && decide (sub < 256) && data.all (fun v => decide (v < 256))
  | .edpEnd n _ _ => decide (n < 28)
  | .edpKeepalive n _ _ => decide (n < 28)
  | .edpAlertAck n _ _ _ => decide (n < 28)
  | .sessionIdle n => decide (n < 32)
  | .transferIdle n => decide (n < 32)
  | .alertRepeat n => decide (n < 32)
  | .usdoRequest can _ _ _ index sub _ _ _ data => decide (can < 2) && decide (index < 65536) && decide (sub < 256) && data.all (fun v => decide (v < 256))
  | .nmtStart can _ => decide (can < 2)
  | .nmtStop can _ => decide (can < 2)
  | .nmtPreOperational can _ => decide (can < 2)
  | .nmtResetCommunication can _ => decide (can < 2)
  | .nmtResetNode can _ => decide (can < 2)
  | .heartbeat can _ => decide (can < 2)
  | .tpdoTransmit can u => decide (can < 2) && decide (u < 8)
  | .canBusOff can => decide (can < 2)
  | .canErrorPassive can _ => decide (can < 2)
  | .prpNodeForget _ => true
  | .ethLanDown lan => decide (lan < 2)
  | .capability e4 => decide (e4 < 4)
  | .mfrId e4 => decide (e4 < 4)
  | .mfrModel e4 => decide (e4 < 4)
  | .dictSelect e4 index sub _ _ => decide (e4 < 4) && decide (index < 65536) && decide (sub < 256)
  | .dictRead e4 _ => decide (e4 < 4)
  | .dictWrite e4 _ _ _ _ data => decide (e4 < 4) && data.all (fun v => decide (v < 256))
  | .dictStatus e4 => decide (e4 < 4)
  | .dictOffset e4 _ _ _ => decide (e4 < 4)
  | .alertRead e4 => decide (e4 < 4)
  | .alertAck e4 _ _ _ => decide (e4 < 4)
  | .twUnknownCommand e4 _ => decide (e4 < 4)
  | .alertResponse _ => true
  | .alertRearm e4 => decide (e4 < 4)
  | .twStretchTimeout tw e4 => decide (tw < 4) && decide (e4 < 4)
  | .twSelfRelease tw => decide (tw < 4)
  | .twBusClear tw _ => decide (tw < 4) && decide (1 ≤ tw)
  | .twBusStuck tw _ => decide (tw < 4) && decide (1 ≤ tw)
  | .twArbLost tw => decide (tw < 4) && decide (1 ≤ tw)
  | .twArbRetry tw => decide (tw < 4) && decide (1 ≤ tw)
  | .twDeviceAlert tw _ _ => decide (tw < 4) && decide (1 ≤ tw)
  | .sendByte n tw _ _ _ => decide (n < 32) && decide (tw < 4)
  | .writeByte n tw _ _ _ data => decide (n < 32) && decide (tw < 4) && data.all (fun v => decide (v < 256))
  | .writeWord n tw _ _ _ data => decide (n < 32) && decide (tw < 4) && data.all (fun v => decide (v < 256))
  | .blockWrite n tw _ _ _ data => decide (n < 32) && decide (tw < 4) && data.all (fun v => decide (v < 256))
  | .receiveByte n tw _ _ => decide (n < 32) && decide (tw < 4)
  | .readByte n tw _ _ _ => decide (n < 32) && decide (tw < 4)
  | .readWord n tw _ _ _ => decide (n < 32) && decide (tw < 4)
  | .blockRead n tw _ _ _ => decide (n < 32) && decide (tw < 4)
  | .twTransactionDone tw _ data => decide (tw < 4) && decide (1 ≤ tw) && data.all (fun v => decide (v < 256))
  | .twBusStuckEnd tw => decide (tw < 4) && decide (1 ≤ tw)
  | .ethLinkUp lan _ => decide (lan < 2)
  | .canBusOffRecovery can => decide (can < 2)
  | .arpRequest lan _ => decide (lan < 2)
  | .icmpEcho lan _ => decide (lan < 2)
  | .supervisionFrameReceived lan _ _ _ => decide (lan < 2)
  | .flashAccess _ _ _ => true
  | .railStartTimeout => true
  | .railRestart => true
  | .firmwareStart => true
  | .rstNAssert => true
  | .pfNRise => true
  | .auxOv => true
  | .cellAlarmPendingClear => true
  | .selfCycleAssert => true
  | .selfCycleRelease => true
  | .autostartSubmit => true
  | .halfCycleEnd => true
  | .mainsSourceTimeout => true
  | .syncInLost => true
  | .syncFrame => true
  | .holdoverLimitExpiry => true
  | .snapshotCaptureDone => true
  | .reservedEntryObtained => true
  | .resultsMissing => true
  | .calibrateAll => true
  | .refFault => true
  | .refReady => true
  | .supervisorDone => true
  | .supOverrun => true
  | .transferComplete => true
  | .walkInEnd => true
  | .windthrowWindowClose => true
  | .reactionDecide => true
  | .firebreakClose => true
  | .sramArm => true
  | .graveEnter => true
  | .collectorWedged => true
  | .supervisorWedged => true
  | .supervisorLockstep => true
  | .partnerRetransmit => true
  | .partnerLinkDown => true
  | .tokenTake => true
  | .coldTake => true
  | .swapExecute => true
  | .drillNow => true
  | .drillIntervalExpiry => true
  | .drillCheckEnd => true
  | .drillSecondSwap => true
  | .resync => true
  | .resyncBulkDone => true
  | .resyncReplayDone => true
  | .resyncVerifyDone => true
  | .resyncRetry => true
  | .killOnGrave => true
  | .killPulseEnd => true
  | .ringsFlush => true
  | .flushComplete => true
  | .flushRetry => true
  | .freezeLimitExpiry => true
  | .dumpStart => true
  | .updateEraseDone => true
  | .prpSupervision => true
  | .vbatUndervoltage => true
  | .operatingHoursCount => true

end Sys2Proof
end

