-- ==== Sys2Proof/Certificates/Slice0/Obligations.lean ====
section
/-! DEFINITION. The statements for the provers, one per group of commands and per rule of the whole machine. -/

open Sys2Proof Sys2Proof.Machine Sys2Proof.Safety

/-- O1. A step runs the command at the front of the queue, with the queue's rest. For every command c and every state whose queue begins with c, the step of that state answers what exec answers for c on the same state with c taken from the queue. The queue is the model's form for commands that wait. Rules: spec/opcode_table.json; spec/00_scope.md. -/
def Obligations.StepRunsTheCommandInFront : Prop :=
  ∀ (s : State) (c : Instr) (rest : List Instr), s.pending = c :: rest → step s = exec c { s with pending := rest }

/-- O2. With no command waiting the block idles (the model's choice, log entry 1). A step of a state whose queue is empty answers that state. Ticks are commands of the table (TICK_BOUNDARY), so nothing happens in the model between commands. This is the model's choice, log entry 1. Rules: spec/opcode_table.json; spec/00_scope.md. -/
def Obligations.EmptyQueueIdles : Prop :=
  ∀ s : State, s.pending = [] → step s = .next s

/-- O3. The state at reset meets the invariant of the machine. In State.reset both addressed memories, the Heartwood array and the boot flash, are in canonical form, and no write is left over from a command. Rules: R444 R453. -/
def Obligations.ResetMeetsTheMachineInvariant : Prop :=
  Inv State.reset

/-- O4. Every step keeps both memories in canonical form and hands over every write. From every state that meets the invariant, a step that answers a next state answers one that meets it: the Heartwood array and the boot flash list their bytes at strictly rising addresses and no byte that an unlisted address reads as, and every byte a writer handed to the Heartwood controller or the flash manager is in its array. The invariant holds for every command and every queue, not only on runs from reset. Rules: R440 R442 R444 R453 R455 R456. -/
def Obligations.EveryStepKeepsTheMachineInvariant : Prop :=
  ∀ s t : State, Inv s → step s = .next t → Inv t

/-- O5. Every command on units that exist answers a next state, leaves the queue alone and leaves no write over. For every command of the table whose unit numbers lie in the ranges of the spec, exec answers a next state in every state, whatever the state holds: no command is refused and none faults. The queue is untouched, and what the command wrote to the two memories has been handed over. Rules: spec/opcode_table.json; spec/01_rack_anatomy.md. -/
def Obligations.EveryWellFormedCommandCompletes : Prop :=
  ∀ (c : Instr) (s : State), c.wf = true → ∃ t, exec c s = .next t ∧ t.pending = s.pending ∧ t.blk.writes = {}

/-- O6. The only stop is a fault of a command that names a unit which does not exist. For every command and state, exec answers a next state, or the fault noSuchUnit, and it answers no refusal. Which unit numbers exist is given by the ranges of the spec; a command whose unit numbers lie in them never faults. Rules: spec/opcode_table.json; spec/01_rack_anatomy.md. -/
def Obligations.OnlyAMissingUnitStopsACommand : Prop :=
  ∀ (c : Instr) (s : State), (∃ t, exec c s = .next t) ∨ (c.wf = false ∧ ∃ k n, exec c s = .fault (.noSuchUnit k n))

/-- O7. A command on a port, group, feed, string or session that does not exist is a fault (the model's stop). TRAINING_COMPLETE of a port from 512 on, GROUP_START of a group from 64 on, CLOSE_TIMEOUT of a feed from 256 on, STRING_FULL of a string from 16 on and PIN_NEWEST of a session from 32 on answer the fault that names the unit, in every state. The spec has no such units; that the model stops there is the model's choice, log entry 5. Rules: R14 R15 R79 R91. -/
def Obligations.AMissingUnitIsAFault : Prop :=
  ∀ (s : State) (n : Nat),
    (512 ≤ n → exec (.trainingComplete n) s = .fault (.noSuchUnit .port n)) ∧
    (64 ≤ n → exec (.groupStart n) s = .fault (.noSuchUnit .group n)) ∧
    (256 ≤ n → exec (.closeTimeout n) s = .fault (.noSuchUnit .feed n)) ∧
    (16 ≤ n → exec (.stringFull n) s = .fault (.noSuchUnit .string n)) ∧
    (32 ≤ n → exec (.pinNewest n) s = .fault (.noSuchUnit .session n))

/-- O8. An object reads what was written to it, in this tick or the next, and every other object reads as before. A write that takes effect at once is read in this tick and the next. A write into the image of the next tick is read only after the images have swapped: the swap puts every value of the next tick in force and leaves nothing waiting. Rules: R80 R81 R484. -/
def Obligations.ObjectsReadBackWhatWasWritten : Prop :=
  (∀ (b : Block) (k v j : Nat), (b.wr k v).rd j = (if j = k then v else b.rd j) ∧ (b.wr k v).rdN j = (if j = k then v else b.rdN j)) ∧
  (∀ (b : Block) (k v j : Nat), (b.wrN k v).rd j = b.rd j ∧ (b.wrN k v).rdN j = (if j = k then v else b.rdN j)) ∧
  (∀ (b : Block) (j : Nat), Tab.sorted b.wimg = true → b.swapImages.rd j = b.rdN j ∧ b.swapImages.wimg = [])

/-- O9. VIN's rise advances the power-cycle count and starts CORE; the domain's counters, and what takes its state. POWER_UP_VIN_RISE with VIN absent, the domain intact and a cell fitted advances the 24-bit power-cycle count by one up to 0xFFFFFF, where PC_SATURATED is set, takes the CORE phases the straps select, and starts CORE; hours and both memories stay. VBAT_UNDERVOLTAGE without VIN takes the domain's state: hours, count, alarm count and grave latch read 0, and the next power-up finds it lost. VBAT_SWITCHOVER with a cell and no flush or flash operation in progress records the hours at the loss of VIN, switches every rail off and lets the grave latch go; the power-cycle count stays. OPERATING_HOURS_COUNT adds one unit with VIN present, up to 0xFFFFFFFF, and nothing else changes but the flag HOURS_SATURATED. Rules: R539 R542 R543 R553 R554 R555 R567. -/
def Obligations.PowerUpCountsTheCycleAndStartsTheRails : Prop :=
  (∀ (s : State) (ph vbat off : Nat), Settled s → s.blk.aon.phase = 0 → s.blk.aon.dead = false → 1000 ≤ vbat →
    ∃ t, exec (.powerUpVinRise ph true true vbat off) s = .next t ∧
      t.blk.rd Obj.BackupDomain.PowerCycles = min (s.blk.rd Obj.BackupDomain.PowerCycles % 2 ^ 24 + 1) 0xFFFFFF ∧
      t.blk.rd Obj.SupplyStatus.CorePhases = ph % 4 + 1 ∧ t.blk.rd (Obj.RailRecord.State 0) = 1 ∧ t.blk.aon.phase = 1 ∧
      (0xFFFFFF ≤ s.blk.rd Obj.BackupDomain.PowerCycles % 2 ^ 24 + 1 → t.blk.backupFlag bfPC_SATURATED = true) ∧
      KeepsObjects [Obj.BackupDomain.PowerCycles, Obj.BackupDomain.Flags, Obj.SupplyStatus.VbatState, Obj.BackupDomain.LastOffSeconds,
        Obj.StartupStatus.StartKind, Obj.StartupStatus.RailRetries, Obj.SupplyStatus.CorePhases, Obj.RailRecord.Phases 0,
        Obj.RailRecord.CurrentLimit 0, Obj.RailRecord.State 0] s t ∧ SameArrays s t) ∧
  (∀ s : State, Settled s → s.blk.aon.phase = 0 →
    ∃ t, exec .vbatUndervoltage s = .next t ∧ t.blk.rd Obj.BackupDomain.OperatingHours = 0 ∧ t.blk.rd Obj.BackupDomain.PowerCycles = 0 ∧
      t.blk.rd Obj.BackupDomain.CellAlarmCount = 0 ∧ t.blk.faults.grave = false ∧ t.blk.aon.dead = true ∧ SameArrays s t) ∧
  (∀ (s : State) (rows index : Nat) (half : Bool), Settled s → s.blk.aon.phase ≠ 0 → s.blk.aon.noCell = false → s.blk.store.work = [] →
    s.blk.flashMan.cur = none → s.blk.flashMan.suspended = none →
    ∃ t, exec (.vbatSwitchover rows index half) s = .next t ∧ t.blk.aon.phase = 0 ∧ t.blk.aon.onCell = true ∧ t.blk.faults.grave = false ∧
      t.blk.rd Obj.BackupDomain.LastVinLossHours = s.blk.rd Obj.BackupDomain.OperatingHours ∧
      t.blk.rd Obj.BackupDomain.PowerCycles = s.blk.rd Obj.BackupDomain.PowerCycles ∧
      (∀ r < 4, t.blk.rd (Obj.RailRecord.State r) = 0) ∧ SameArrays s t) ∧
  (∀ s : State, Settled s → s.blk.aon.phase ≠ 0 →
    ∃ t, exec .operatingHoursCount s = .next t ∧
      t.blk.rd Obj.BackupDomain.OperatingHours = min (s.blk.rd Obj.BackupDomain.OperatingHours + 1) 0xFFFFFFFF ∧
      (0xFFFFFFFF ≤ s.blk.rd Obj.BackupDomain.OperatingHours + 1 → t.blk.backupFlag bfHOURS_SATURATED = true) ∧
      KeepsObjects [Obj.BackupDomain.OperatingHours, Obj.BackupDomain.Flags] s t ∧ OnlyObjects s t ∧ SameArrays s t)

/-- O10. Rails start CORE, IO18, IO33, retry three times, and answer undervoltage, overcurrent and over-voltage. While the rails start, RAIL_GOOD of the rail that starts marks it GOOD and starts the next; after IO33 the rails are up. RAIL_START_TIMEOUT switches all rails off and sets RAIL_START_FAILED. RAIL_RESTART starts again from CORE while fewer than three retries were made, and after the third the rails stay off. RAIL_UV counts an event and shows UV on CORE, IO18 or IO33, which keep running, and latches AUX off. RAIL_OC counts an event, raises RAIL_OC for the rail, shows CURRENT_LIMIT on the first three unless they are in UV, and latches AUX off. AUX_OV counts, raises AUX_OV and latches AUX off. None of these touches a memory. Rules: R543 R544 R545 R546 R570. -/
def Obligations.RailsStartInOrderAndRetryThreeTimes : Prop :=
  (∀ (s : State) (r us : Nat), Settled s → s.blk.aon.phase = 1 → s.blk.aon.rail = r → r < 2 →
    ∃ t, exec (.railGood r us) s = .next t ∧ t.blk.rd (Obj.RailRecord.State r) = rlGOOD ∧ t.blk.rd (Obj.RailRecord.State (r + 1)) = rlSTARTING ∧
      t.blk.aon = { s.blk.aon with rail := r + 1 } ∧ KeepsObjects [Obj.RailRecord.State r, Obj.RailRecord.State (r + 1)] s t ∧ SameArrays s t) ∧
  (∀ (s : State) (us : Nat), Settled s → s.blk.aon.phase = 1 → s.blk.aon.rail = 2 →
    ∃ t, exec (.railGood 2 us) s = .next t ∧ t.blk.rd (Obj.RailRecord.State 2) = rlGOOD ∧ t.blk.rd Obj.StartupStatus.RailsGood = us ∧
      t.blk.aon = { s.blk.aon with phase := 3, rail := 3 } ∧ KeepsObjects [Obj.RailRecord.State 2, Obj.StartupStatus.RailsGood] s t ∧ SameArrays s t) ∧
  (∀ s : State, Settled s → s.blk.aon.phase = 1 →
    ∃ t, exec .railStartTimeout s = .next t ∧ (∀ r < 4, t.blk.rd (Obj.RailRecord.State r) = rlOFF) ∧ t.blk.backupFlag bfRAIL_START_FAILED = true ∧
      t.blk.aon = { s.blk.aon with phase := 2, railFailed := true } ∧
      KeepsObjects [Obj.RailRecord.State 0, Obj.RailRecord.State 1, Obj.RailRecord.State 2, Obj.RailRecord.State 3, Obj.BackupDomain.Flags] s t ∧
      SameArrays s t) ∧
  (∀ s : State, Settled s → s.blk.aon.phase = 2 →
    (s.blk.aon.retries < 3 → ∃ t, exec .railRestart s = .next t ∧ t.blk.rd (Obj.RailRecord.State 0) = rlSTARTING ∧
      t.blk.rd Obj.StartupStatus.RailRetries = s.blk.aon.retries + 1 ∧
      t.blk.aon = { s.blk.aon with retries := s.blk.aon.retries + 1, phase := 1, rail := 0 } ∧
      KeepsObjects [Obj.RailRecord.State 0, Obj.StartupStatus.RailRetries] s t ∧ SameArrays s t) ∧
    (3 ≤ s.blk.aon.retries → exec .railRestart s = .next s)) ∧
  (∀ (s : State) (r : Nat), Settled s → r < 3 → s.blk.rd (Obj.RailRecord.State r) = rlGOOD → s.blk.isPresent Src.RAIL_UV 0 = false →
    ∃ t, exec (.railUv r) s = .next t ∧ t.blk.rd (Obj.RailRecord.State r) = rlUV ∧
      t.blk.rd (Obj.RailRecord.UvEvents r) = min (s.blk.rd (Obj.RailRecord.UvEvents r) + 1) 0xFFFFFFFF ∧
      t.blk.faults.reports = s.blk.faults.reports ++ [{ src := Src.RAIL_UV, inst := 0, detail := [r] }] ∧ t.blk.isPresent Src.RAIL_UV 0 = true ∧
      KeepsObjects [Obj.RailRecord.State r, Obj.RailRecord.UvEvents r, Obj.SourceConfig.PresentInstances Src.RAIL_UV] s t ∧ SameArrays s t) ∧
  (∀ (s : State) (r : Nat), Settled s → r < 4 → s.blk.rd (Obj.RailRecord.State r) = rlGOOD →
    ∃ t, exec (.railOc r) s = .next t ∧ t.blk.rd (Obj.RailRecord.State r) = (if r = 3 then rlLATCHED_OFF else rlLIMIT) ∧
      (r = 3 → t.blk.aon.auxLatched = true) ∧
      t.blk.rd (Obj.RailRecord.OcEvents r) = min (s.blk.rd (Obj.RailRecord.OcEvents r) + 1) 0xFFFFFFFF ∧
      t.blk.faults = { s.blk.faults with reports := s.blk.faults.reports ++ [{ src := Src.RAIL_OC, inst := 0, detail := [r] }] } ∧
      KeepsObjects [Obj.RailRecord.State r, Obj.RailRecord.OcEvents r] s t ∧ SameArrays s t) ∧
  (∀ s : State, Settled s → s.blk.rd (Obj.RailRecord.State 3) = rlGOOD →
    ∃ t, exec .auxOv s = .next t ∧ t.blk.rd (Obj.RailRecord.State 3) = rlLATCHED_OFF ∧ t.blk.aon = { s.blk.aon with auxLatched := true } ∧
      t.blk.rd (Obj.RailRecord.OvEvents 3) = min (s.blk.rd (Obj.RailRecord.OvEvents 3) + 1) 0xFFFFFFFF ∧
      t.blk.faults = { s.blk.faults with reports := s.blk.faults.reports ++ [{ src := Src.AUX_OV, inst := 0 }] } ∧
      KeepsObjects [Obj.RailRecord.State 3, Obj.RailRecord.OvEvents 3] s t ∧ SameArrays s t)

/-- O11. An over-voltage of CORE, IO18 or IO33 crowbars all four rails and enters GRAVE until VIN falls. RAIL_OV of a running rail 0 to 2, with no flash operation in progress, crowbars all four rails, counts the event, sets the grave latch with RAIL_OV as its source where none was set, silences the stage ports and takes the start to where only a fall of VIN leads out. Neither the Rings flush nor the dump is performed: both memories stay as they were. RAIL_OV of AUX leaves the machine as it is. Rules: R354 R355 R545. -/
def Obligations.OverVoltageCrowbarsAndEntersGrave : Prop :=
  (∀ (s : State) (r : Nat), Settled s → r < 3 → s.blk.rd (Obj.RailRecord.State r) = rlGOOD → s.blk.faults.grave = false →
    s.blk.flashMan.cur = none → s.blk.flashMan.suspended = none →
    ∃ t, exec (.railOv r) s = .next t ∧ (∀ i < 4, t.blk.rd (Obj.RailRecord.State i) = rlCROWBAR) ∧
      t.blk.rd (Obj.RailRecord.OvEvents r) = min (s.blk.rd (Obj.RailRecord.OvEvents r) + 1) 0xFFFFFFFF ∧
      t.blk.faults.grave = true ∧ t.blk.faults.graveSrc = Src.RAIL_OV ∧ t.blk.faults.graveStamp = s.blk.now ∧ t.blk.aon.crowbar = true ∧
      t.blk.aon.phase = 9 ∧ t.blk.masks.silent = true ∧ SameArrays s t) ∧
  (∀ s : State, Settled s → exec (.railOv 3) s = .next s)

/-- O12. On the cell an alarm counts, enters the 8-entry log, sets CELL_ALARM_PENDING and drives BKP_ALERT_N where armed. CELL_ALARM_LATCH with VIN absent and the domain on the cell adds one to CellAlarmCount up to 0xFFFF, writes a log entry over the oldest of 8, sets CELL_ALARM_PENDING, and drives BKP_ALERT_N low only where BKP_ALERT_ARMED is set; nothing but these changes. CELL_ALARM_PENDING_CLEAR clears the flag and releases BKP_ALERT_N, which no other command of the supply (VIN's rise, a rail's good, the reset's release, PF_N's rise) does. Rules: R557 R558. -/
def Obligations.ACellAlarmIsLoggedAndAlerts : Prop :=
  (∀ (s : State) (alm seconds : Nat), Settled s → alm < 2 → s.blk.aon.phase = 0 → s.blk.aon.onCell = true → s.blk.aon.dead = false →
    ∃ t, exec (.cellAlarmLatch alm seconds) s = .next t ∧
      t.blk.rd Obj.BackupDomain.CellAlarmCount = min (s.blk.rd Obj.BackupDomain.CellAlarmCount + 1) 0xFFFF ∧
      t.blk.aon.log = ((⟨alm, s.blk.backupFlag bfALERT_ARMED, s.blk.rd Obj.BackupDomain.LastVinLossHours,
        s.blk.rd Obj.BackupDomain.PowerCycles, seconds⟩ : CellEntry) :: s.blk.aon.log).take 8 ∧
      t.blk.backupFlag bfALARM_PENDING = true ∧ t.blk.aon.bkpAlertLow = (s.blk.aon.bkpAlertLow || s.blk.backupFlag bfALERT_ARMED) ∧
      KeepsObjects [Obj.BackupDomain.CellAlarmCount, Obj.BackupDomain.Flags] s t ∧
      t.blk = { s.blk with dict := t.blk.dict, wimg := t.blk.wimg, aon := t.blk.aon } ∧ SameArrays s t) ∧
  (∀ s : State, Settled s →
    ∃ t, exec .cellAlarmPendingClear s = .next t ∧ t.blk.backupFlag bfALARM_PENDING = false ∧ t.blk.aon = { s.blk.aon with bkpAlertLow := false } ∧
      KeepsObjects [Obj.BackupDomain.Flags] s t ∧ t.blk = { s.blk with dict := t.blk.dict, wimg := t.blk.wimg, aon := t.blk.aon } ∧ SameArrays s t) ∧
  (∀ (s t : State) (ph vbat off r us : Nat) (agree high test refclk : Bool), s.blk.aon.bkpAlertLow = true → s.blk.aon.dead = false → 1000 ≤ vbat →
    (exec (.powerUpVinRise ph agree true vbat off) s = .next t ∨ exec (.railGood r us) s = .next t ∨
      exec (.resetRelease high agree test refclk us) s = .next t ∨ exec .pfNRise s = .next t) → t.blk.aon.bkpAlertLow = true)

/-- O13. The start: reset released, straps sampled, firmware up, Glade running in FREE from the right number. RESET_RELEASE with the rails good, PF_N high and straps that agree takes the seat from ROLE_SEAT and releases the reset; with straps that disagree it only marks them, and STRAP_RESAMPLE then does the same. STRAP_RESAMPLE of CORE_PH sets the phases and their limit. FIRMWARE_START after a passed boot check reaches step 6 of the start, and in GRAVE bars the controller and silences its stage ports. GLADE_START starts Glade at tick 0 of a boundary, in FREE at the nominal frequency, with the reference buffer settling, at the partner's number, else the stored number plus one cycle, else 0:0 with GLADE_NUMBER_INIT recorded. Rules: R20 R38 R47 R57 R204 R543 R559 R590. -/
def Obligations.TheStartRunsFromTheReleaseToGlade : Prop :=
  (∀ (s : State) (high refclk : Bool) (us : Nat), Settled s → s.blk.aon.phase = 3 → s.blk.aon.pfLow = false → s.blk.aon.coreBad = false →
    s.blk.isPresent Src.REFCLK_FAIL 0 = false →
    ∃ t, exec (.resetRelease high true false refclk us) s = .next t ∧ t.blk.seat = (if high then 0x42 else 0x41) ∧
      t.blk.rd Obj.StartupStatus.ResetReleased = us ∧ t.blk.aon = { s.blk.aon with strapBad := false, testEn := false, phase := 4 } ∧
      t.blk.isPresent Src.REFCLK_FAIL 0 = !refclk ∧
      KeepsObjects [Obj.Seat.Value, Obj.StartupStatus.ResetReleased, Obj.SourceConfig.PresentInstances Src.REFCLK_FAIL] s t ∧ SameArrays s t) ∧
  (∀ (s : State) (high test refclk : Bool) (us : Nat), Settled s → s.blk.aon.phase = 3 → s.blk.aon.pfLow = false → s.blk.aon.coreBad = false →
    exec (.resetRelease high false test refclk us) s = .next (s.mapBlk (fun b => { b with aon := { b.aon with strapBad := true } }))) ∧
  (∀ (s : State) (v us : Nat) (refclk : Bool), Settled s → s.blk.aon.phase = 3 → s.blk.aon.strapBad = true → s.blk.aon.pfLow = false →
    ∃ t, exec (.strapResample false v true false refclk us) s = .next t ∧ t.blk.seat = (if v % 2 = 1 then 0x42 else 0x41) ∧
      t.blk.aon = { s.blk.aon with strapBad := false, testEn := false, phase := 4 } ∧ SameArrays s t) ∧
  (∀ (s : State) (v us : Nat) (test refclk : Bool), Settled s → s.blk.aon.coreBad = true →
    ∃ t, exec (.strapResample true v true test refclk us) s = .next t ∧ t.blk.rd Obj.SupplyStatus.CorePhases = v % 4 + 1 ∧
      t.blk.rd (Obj.RailRecord.Phases 0) = v % 4 + 1 ∧ t.blk.rd (Obj.RailRecord.CurrentLimit 0) = 4500 * (v % 4 + 1) ∧
      t.blk.aon = { s.blk.aon with coreBad := false } ∧
      KeepsObjects [Obj.SupplyStatus.CorePhases, Obj.RailRecord.Phases 0, Obj.RailRecord.CurrentLimit 0] s t ∧ SameArrays s t) ∧
  (∀ s : State, s.blk.aon.phase = 5 →
    ∃ t, exec .firmwareStart s = .next t ∧ t.blk.aon.phase = 6 ∧ t.blk.aon.railFailed = false ∧ t.blk.aon.noImage = false ∧
      t.pending = s.pending ∧
      (t.blk.faults.grave = true → t.blk.rd Obj.RedundancyStatus.Readiness = rdBARRED ∧ t.blk.masks.silent = true)) ∧
  (∀ (s : State) (partner : Bool) (e c us : Nat), Settled s → s.blk.aon.phase = 6 → s.blk.aon.unreported = 0 →
    ∃ t, exec (.gladeStart partner e c us) s = .next t ∧ t.blk.glade.running = true ∧ t.blk.glade.tick = 0 ∧ t.blk.glade.boundary = true ∧
      (partner = true → t.blk.glade.epoch = e ∧ t.blk.glade.cycle = c) ∧
      (∀ e' c', partner = false → s.blk.stored 1 0 = some e' → s.blk.stored 1 1 = some c' →
        (t.blk.glade.epoch, t.blk.glade.cycle) = Block.nextCycle e' c') ∧
      (partner = false → s.blk.stored 1 0 = none → t.blk.glade.epoch = 0 ∧ t.blk.glade.cycle = 0 ∧
        t.blk.faults.reports = s.blk.faults.reports ++ [{ src := Src.GLADE_NUMBER_INIT, inst := 0 }]) ∧
      t.blk.gState = gladeFREE ∧ t.blk.gSource = 3 ∧ t.blk.rd Obj.GladeStatus.Frequency = s.blk.glade.fnom * 65536 ∧
      t.blk.rd Obj.Channel.RefState = rsSETTLING ∧ t.blk.rd Obj.StartupStatus.GladeStarted = us ∧
      t.blk.aon = { s.blk.aon with phase := 7, unreported := 0 } ∧
      KeepsObjects [Obj.GladeStatus.State, Obj.GladeStatus.Source, Obj.GladeStatus.Frequency, Obj.Channel.RefState, Obj.Channel.RefLeadRemaining,
        Obj.StartupStatus.GladeStarted] s t ∧ SameArrays s t)

/-- O14. The recall, the flash probe and the boot check: what they find, and the halt in the boot ROM. HEARTWOOD_RECALL_DONE without torn or bad rows ends the recall as NORMAL, or ARCHIVED at protect level 2 or 3; with one torn row it shows the row and its INDEX, marks the row VOID and raises HW_TORN. FLASH_PROBE_DONE of a flash that answers and suits, of at least 64 MiB, makes it READY with its identification; of one that does not answer it halts the controller in the boot ROM with FLASH_UNSUITABLE. BOOT_CHECK with one slot in service and to boot starts it where its check finds nothing wrong, and takes its version from the descriptor. Rules: R448 R451 R453 R474 R480 R561. -/
def Obligations.RecallProbeAndBootCheckDecideTheStart : Prop :=
  (∀ (s : State) (us : Nat), Settled s → s.blk.rd Obj.HeartwoodStatus.RecallState = 0 → 4 ≤ s.blk.aon.phase → s.blk.store.cuts = [] →
    s.blk.store.invalid = [] →
    ∃ t, exec (.heartwoodRecallDone us [] [] [] []) s = .next t ∧
      t.blk.rd Obj.HeartwoodStatus.RecallState = (if 2 ≤ s.blk.rd Obj.HeartwoodProtect.LevelInForce then 2 else 1) ∧
      t.blk.rd Obj.HeartwoodStatus.RecallTime = min us 65535 ∧ t.blk.rd Obj.HeartwoodStatus.TornRows = 0 ∧ t.blk.faults = s.blk.faults ∧
      KeepsObjects [Obj.HeartwoodStatus.RecallState, Obj.HeartwoodStatus.RecallTime, Obj.HeartwoodStatus.TornRows, Obj.HeartwoodStatus.TornOverflow,
        Obj.HeartwoodStatus.FirstTornRow, Obj.HeartwoodStatus.FirstTornIndex] s t ∧ SameArrays s t) ∧
  (∀ (s : State) (us r i : Nat), Settled s → r < 65536 → i < 16 → s.blk.rd Obj.HeartwoodStatus.RecallState = 0 → 4 ≤ s.blk.aon.phase →
    s.blk.store.cuts = [] → s.blk.store.invalid = [] →
    ∃ t, exec (.heartwoodRecallDone us [(r, i)] [] [] []) s = .next t ∧ t.blk.rd Obj.HeartwoodStatus.TornRows = 1 ∧
      t.blk.rd Obj.HeartwoodStatus.FirstTornRow = r ∧ t.blk.rd Obj.HeartwoodStatus.FirstTornIndex = i ∧ t.blk.store.torn = [(r, i)] ∧
      r ∈ t.blk.store.voids ∧ t.blk.faults.reports = s.blk.faults.reports ++ [{ src := Src.HW_TORN, inst := 0, detail := [1, r] }] ∧ SameArrays s t) ∧
  (∀ (s : State) (jedec density mode clock : Nat), Settled s → s.blk.rd Obj.FlashStatus.DeviceState = 0 → 4 ≤ s.blk.aon.phase → 65536 ≤ density →
    ∃ t, exec (.flashProbeDone true true jedec density mode clock) s = .next t ∧ t.blk.flashReady = true ∧ t.blk.rd Obj.FlashStatus.JedecId = jedec ∧
      t.blk.rd Obj.FlashStatus.DensityKiB = density ∧ t.blk.rd Obj.FlashStatus.BusMode = mode ∧ t.blk.rd Obj.FlashStatus.ClockKHz = clock ∧
      KeepsObjects [Obj.FlashStatus.DeviceState, Obj.FlashStatus.JedecId, Obj.FlashStatus.DensityKiB, Obj.FlashStatus.BusMode,
        Obj.FlashStatus.ClockKHz] s t ∧ OnlyObjects s t ∧ SameArrays s t) ∧
  (∀ (s : State) (suits : Bool) (jedec density mode clock : Nat), Settled s → s.blk.rd Obj.FlashStatus.DeviceState = 0 → 4 ≤ s.blk.aon.phase →
    ∃ t, exec (.flashProbeDone false suits jedec density mode clock) s = .next t ∧ t.blk.rd Obj.FlashStatus.DeviceState = 3 ∧
      t.blk.faults.reports = s.blk.faults.reports ++ [{ src := Src.FLASH_UNSUITABLE, inst := 0, detail := [3] }] ∧
      t.blk.aon = { s.blk.aon with phase := 8, noImage := true } ∧ t.blk.masks.silent = true ∧ t.blk.faults.lrsFault = true ∧
      t.blk.isHolder = false ∧ SameArrays s t) ∧
  (∀ (s : State) (u digest sig unread us : Nat), Settled s → s.blk.aon.phase = 4 → s.blk.rd Obj.HeartwoodStatus.RecallState = 1 →
    s.blk.flashReady = true → s.blk.store.sets = [] → u < 2 → s.blk.rd Obj.UpdateStatus.InService = u → s.blk.rd Obj.UpdateStatus.NextBoot = u →
    s.slotCheck u digest sig unread = 0 → s.blk.heartwoodRefuses 0x280000 = false →
    ∃ t, exec (.bootCheck digest sig unread us) s = .next t ∧ t.blk.aon = { s.blk.aon with phase := 5 } ∧
      t.blk.rd Obj.UpdateStatus.LastBootResult = 0 ∧ t.blk.rd Obj.UpdateStatus.ImageVersion = fieldOf (s.descriptor u) 8 4 ∧
      t.blk.rd Obj.UpdateStatus.InService = u ∧ t.blk.rd (Obj.Slot.LastCheck u) = 0 ∧ t.blk.rd Obj.StartupStatus.BootDone = us ∧ SameArrays s t)

/-- O15. RST_N, Reboot and PF_N reset everything but the always-on domain and Heartwood; counters and grave latch stay. RST_N_ASSERT, and UPDATE_REBOOT on a controller that does not hold the token and where nothing refuses it, with nothing to flush and no flash operation in progress, leave the start at step 3 with the start kind they are, Glade stopped, no token held, and the hours, the power-cycle count, the rails' states, the grave latch and its source and both memories as they were. UPDATE_REBOOT on the holder changes only the session's Result, HOLDER. PF_N_FALL while the device starts (steps 3 to 5) counts the event with its source and returns the start to step 3. PF_N_RISE while PF_N low holds the reset and no row is left to write starts again at step 3 as a PF recovery and raises PF_DIP; the power-cycle count and both memories stay. Rules: R357 R417 R475 R478 R552 R560. -/
def Obligations.ResetsKeepTheAlwaysOnDomain : Prop :=
  (∀ s : State, Settled s → s.blk.aon.phase = 7 → s.blk.isHolder = false → s.blk.rings = {} → s.blk.flashMan = {} →
    ∃ t, exec .rstNAssert s = .next t ∧ t.blk.aon.phase = 3 ∧ t.blk.rd Obj.StartupStatus.StartKind = skRST_N ∧ t.blk.glade = {} ∧
      t.blk.isHolder = false ∧ t.blk.rd Obj.BackupDomain.OperatingHours = s.blk.rd Obj.BackupDomain.OperatingHours ∧
      t.blk.rd Obj.BackupDomain.PowerCycles = s.blk.rd Obj.BackupDomain.PowerCycles ∧
      (∀ r < 4, t.blk.rd (Obj.RailRecord.State r) = s.blk.rd (Obj.RailRecord.State r)) ∧
      t.blk.faults.grave = s.blk.faults.grave ∧ t.blk.faults.graveSrc = s.blk.faults.graveSrc ∧ SameArrays s t) ∧
  (∀ (s : State) (n : Nat), Settled s → n < 32 → s.blk.aon.phase = 7 → s.blk.faults.grave = false → s.blk.archived = false → s.blk.rings = {} →
    s.blk.flashMan = {} →
    (s.blk.isHolder = true → exec (.updateReboot n) s = .next (s.mapBlk (fun b => b.wr (sk n Obj.UpdateControl.Result) upHOLDER))) ∧
    (s.blk.isHolder = false → s.blk.updState = 0 →
      ∃ t, exec (.updateReboot n) s = .next t ∧ t.blk.aon.phase = 3 ∧ t.blk.rd Obj.StartupStatus.StartKind = skREBOOT ∧ t.blk.glade = {} ∧
        t.blk.rd Obj.BackupDomain.OperatingHours = s.blk.rd Obj.BackupDomain.OperatingHours ∧
        t.blk.rd Obj.BackupDomain.PowerCycles = s.blk.rd Obj.BackupDomain.PowerCycles ∧ SameArrays s t)) ∧
  (∀ (s : State) (external : Bool), Settled s → s.blk.aon.phase = 4 → s.blk.aon.pfLow = false → s.blk.flashMan = {} →
    ∃ t, exec (.pfNFall external) s = .next t ∧ t.blk.aon.phase = 3 ∧ t.blk.aon.pfLow = true ∧
      t.blk.rd Obj.SupplyStatus.PfEvents = min (s.blk.rd Obj.SupplyStatus.PfEvents + 1) 0xFFFFFFFF ∧
      t.blk.rd Obj.SupplyStatus.PfSource = (if external then 2 else 1) ∧
      t.blk.rd Obj.BackupDomain.PowerCycles = s.blk.rd Obj.BackupDomain.PowerCycles ∧ SameArrays s t) ∧
  (∀ s : State, Settled s → s.blk.aon.phase = 10 → s.blk.store.work = [] →
    ∃ t, exec .pfNRise s = .next t ∧ t.blk.aon.phase = 3 ∧ t.blk.aon.pfLow = false ∧ t.blk.rd Obj.StartupStatus.StartKind = skPF ∧
      t.blk.faults.reports = s.blk.faults.reports ++ [{ src := Src.PF_DIP, inst := 0 }] ∧ t.blk.faults.grave = s.blk.faults.grave ∧
      KeepsObjects [Obj.StartupStatus.StartKind] s t ∧ SameArrays s t)

/-- O16. The self cycle of GRAVE, the AutoStart submission and the test port's access to the flash. SELF_CYCLE_ASSERT in GRAVE with SelfCycleEnable 1, once its delay is over, drives SELF_CYCLE_N; outside GRAVE it does nothing; SELF_CYCLE_RELEASE lets the pin go; neither changes anything else. AUTOSTART_SUBMIT on the holder at a cycle boundary with the reference READY and AutoStartWait cycles since the cold take notes the time and submits once. FLASH_ACCESS through the test port (TEST_EN high, flash READY) reads 4 bytes, programs 4 bytes where no bit has to go from 0 to 1, and erases a 64 KiB sector to ones; the rest of the flash and all of Heartwood stay. Rules: R357 R563 R591 R456. -/
def Obligations.SelfCycleAutoStartAndTestPort : Prop :=
  (∀ s : State, Settled s → s.blk.faults.grave = true → s.blk.rd Obj.LrsStatus.SelfCycleEnable = 1 → s.blk.aon.graveTick = none →
    exec .selfCycleAssert s = .next (s.mapBlk (fun b => { b with faults := { b.faults with selfCycle := true } }))) ∧
  (∀ s : State, Settled s → s.blk.faults.grave = false → exec .selfCycleAssert s = .next s) ∧
  (∀ s : State, Settled s → exec .selfCycleRelease s = .next (s.mapBlk (fun b => { b with faults := { b.faults with selfCycle := false } }))) ∧
  (∀ (s : State) (c : Nat), Settled s → s.blk.aon.autoStart = some c → s.blk.glade.boundary = true → s.blk.isHolder = true →
    s.blk.rd Obj.Channel.RefState = rsREADY → c + s.blk.rd Obj.SupplyConfig.AutoStartWait ≤ s.blk.glade.cycles →
    ∃ t, exec .autostartSubmit s = .next t ∧ t.blk.aon = { s.blk.aon with autoStart := none } ∧
      t.blk.rd Obj.StartupStatus.AutoStartSubmitted = min (s.blk.rd Obj.StartupStatus.GladeStarted + s.blk.microsSince 0) 0xFFFFFFFF ∧
      t.blk.glade = s.blk.glade ∧ SameArrays s t) ∧
  (∀ (s : State) (addr v : Nat), Settled s → s.blk.aon.testEn = true → s.blk.flashReady = true → addr + 4 ≤ 0x4000000 →
    (exec (.flashAccess 1 addr v) s =
      .next (s.mapBlk (fun b => { b with aon := { b.aon with testOut := leValue (s.flashBytes addr 4) } }))) ∧
    (s.notErased addr (leBytes 4 v) = none →
      ∃ t, exec (.flashAccess 2 addr v) s = .next t ∧ t.flashBytes addr 4 = leBytes 4 v ∧ t.blk.aon.testOut = flOK ∧
        (∀ a, a < addr ∨ addr + 4 ≤ a → Memory.flashByte t.flash a = Memory.flashByte s.flash a) ∧ t.heartwood = s.heartwood) ∧
    (∃ t, exec (.flashAccess 3 addr v) s = .next t ∧ t.blk.aon.testOut = flOK ∧ t.heartwood = s.heartwood ∧
      (∀ a, Memory.flashByte t.flash a = if a / 65536 = addr / 65536 then 0xFF else Memory.flashByte s.flash a)))

/-- O17. A sag steps the engine clock down at the next tick, a recovery one step up at a cycle boundary. SAG_STEP_DOWN with VIN below the threshold of a deeper step takes the clocks to that step from the next tick (450 or 300 MHz, not below ClockFloor; supervisors 500 MHz below 600), counts it and raises CLOCK_STEP with VIN and the new clocks; this tick's clock and both memories stay. SAG_STEP_UP at a cycle boundary with VIN more than 200 mV above the threshold takes one step up. A threshold of 0 is disabled. Rules: R547 R548. -/
def Obligations.TheEngineClockStepsWithTheSupply : Prop :=
  (∀ (s : State) (step vin : Nat), Settled s → s.blk.glade.running = true → 1 ≤ step → step ≤ 2 → s.blk.rdN Obj.SupplyStatus.VinState < step →
    (let t := s.blk.rd (if step = 1 then Obj.SupplyConfig.Sag1Threshold else Obj.SupplyConfig.Sag2Threshold); t ≠ 0 ∧ vin < t) →
    s.blk.sagClock step < s.blk.rdN Obj.SupplyStatus.EngineClock → s.blk.sagClock step < 600 → s.blk.rd Obj.RedundancyStatus.ResyncPhase ≠ 2 →
    ∃ t, exec (.sagStepDown step vin) s = .next t ∧ t.blk.rdN Obj.SupplyStatus.EngineClock = s.blk.sagClock step ∧
      t.blk.rdN Obj.SupplyStatus.SupervisorClock = 500 ∧ t.blk.rdN Obj.SupplyStatus.VinState = step ∧
      t.blk.rd Obj.SupplyStatus.EngineClock = s.blk.rd Obj.SupplyStatus.EngineClock ∧
      t.blk.rd Obj.SupplyStatus.ClockSteps = min (s.blk.rd Obj.SupplyStatus.ClockSteps + 1) 0xFFFFFFFF ∧
      t.blk.faults = { s.blk.faults with reports := s.blk.faults.reports ++
        [{ src := Src.CLOCK_STEP, inst := 0, detail := [vin, s.blk.sagClock step, 500] }] } ∧
      KeepsObjects [Obj.SupplyStatus.EngineClock, Obj.SupplyStatus.SupervisorClock, Obj.SupplyStatus.VinState, Obj.SupplyStatus.ClockSteps] s t ∧
      SameArrays s t) ∧
  (∀ (s : State) (step vin : Nat), Settled s →
    s.blk.rd (if step = 1 then Obj.SupplyConfig.Sag1Threshold else Obj.SupplyConfig.Sag2Threshold) = 0 →
    exec (.sagStepDown step vin) s = .next s) ∧
  (∀ (s : State) (vin : Nat), Settled s → s.blk.glade.boundary = true → s.blk.rdN Obj.SupplyStatus.VinState = 2 →
    s.blk.rd Obj.SupplyConfig.Sag1Threshold ≠ 0 → s.blk.rd Obj.SupplyConfig.Sag2Threshold + 200 < vin → s.blk.rd Obj.SupplyConfig.ClockFloor = 300 →
    s.blk.rdN Obj.SupplyStatus.EngineClock = 300 → s.blk.rd Obj.RedundancyStatus.ResyncPhase ≠ 2 →
    ∃ t, exec (.sagStepUp vin) s = .next t ∧ t.blk.rdN Obj.SupplyStatus.EngineClock = 450 ∧ t.blk.rdN Obj.SupplyStatus.VinState = 1 ∧
      t.blk.rdN Obj.SupplyStatus.SupervisorClock = 500 ∧
      t.blk.rd Obj.SupplyStatus.ClockSteps = min (s.blk.rd Obj.SupplyStatus.ClockSteps + 1) 0xFFFFFFFF ∧ SameArrays s t)

/-- O18. A lost source must qualify again; the loss of the selected one enters HOLDOVER, which ends in FREE at its limit. MAINS_SOURCE_TIMEOUT while Glade tracks MAINS and neither PARTNER nor SYNC_IN is qualified takes MAINS's qualification and enters HOLDOVER at once, at the mean source frequency of the last 50 cycles inside the bounds of R41, with GLADE_HOLDOVER; SYNC_IN_LOST while another source is selected only takes SYNC_IN's qualification and its frame condition. HOLDOVER_LIMIT_EXPIRY after HoldoverLimit cycles enters FREE with GLADE_FREE, and never with a limit of 0. The angle and the numbering do not move. Rules: R46 R47 R55 R56. -/
def Obligations.GladeLosesASourceAndHoldsOver : Prop :=
  (∀ s : State, Settled s → s.blk.gState = gladeTRACK → s.blk.gSource = 0 → s.blk.qualified 1 = false → s.blk.qualified 2 = false →
    ∃ t, exec .mainsSourceTimeout s = .next t ∧ t.blk.gState = gladeHOLDOVER ∧ t.blk.qualified 0 = false ∧
      t.blk.rd Obj.GladeStatus.Frequency = s.blk.clampFreq (if s.blk.glade.history.isEmpty then s.blk.rd Obj.GladeStatus.Frequency
        else s.blk.glade.history.sum / s.blk.glade.history.length) ∧
      t.blk.rd Obj.GladeStatus.SlewRemaining = 0 ∧ t.blk.rd Obj.GladeStatus.HoldoverCycles = 0 ∧
      t.blk.glade = { s.blk.glade with okMains := 0 } ∧ Reports s t [{ src := Src.GLADE_HOLDOVER, inst := 0 }] ∧
      KeepsObjects [Obj.GladeStatus.QualifiedMask, Obj.GladeStatus.State, Obj.GladeStatus.Frequency, Obj.GladeStatus.SlewRemaining,
        Obj.GladeStatus.HoldoverCycles] s t ∧ SameArrays s t) ∧
  (∀ s : State, Settled s → s.blk.gSource ≠ 2 →
    ∃ t, exec .syncInLost s = .next t ∧ t.blk.qualified 2 = false ∧ (∀ n, n ≠ 2 → t.blk.qualified n = s.blk.qualified n) ∧
      t.blk.glade = { s.blk.glade with okSync := 0, syncFrameOk := false, syncRun := 0, syncMissing := 0, syncBad := 0 } ∧
      KeepsObjects [Obj.GladeStatus.QualifiedMask] s t ∧ t.blk.faults = s.blk.faults ∧ SameArrays s t) ∧
  (∀ s : State, Settled s → s.blk.gState = gladeHOLDOVER → s.blk.rd Obj.GladeConfig.HoldoverLimit ≠ 0 →
    s.blk.rd Obj.GladeConfig.HoldoverLimit ≤ s.blk.rd Obj.GladeStatus.HoldoverCycles →
    ∃ t, exec .holdoverLimitExpiry s = .next t ∧ t.blk.gState = gladeFREE ∧ t.blk.gSource = 3 ∧ t.blk.rd Obj.GladeStatus.PhaseError = 0 ∧
      t.blk.glade = s.blk.glade ∧ Reports s t [{ src := Src.GLADE_FREE, inst := 0 }] ∧
      KeepsObjects [Obj.GladeStatus.State, Obj.GladeStatus.Source, Obj.GladeStatus.SlewRemaining, Obj.GladeStatus.PhaseError] s t ∧ SameArrays s t) ∧
  (∀ s : State, Settled s → s.blk.rd Obj.GladeConfig.HoldoverLimit = 0 → exec .holdoverLimitExpiry s = .next s)

/-- O19. A SYNC_IN edge is a bit by its high time, or missing; a frame of 64 bits passes by its CRC and its HOPS. SYNC_IN_EDGE with a high time under 2 µs or over 18 µs changes nothing; the first edge otherwise adds a bit, 1 over 8 µs, to the last 64, and extends or restarts the run of good edges by its distance from angle 0, within 90 degrees. SYNC_FRAME of 64 bits whose last 8 are not the CRC-8 of the rest raises SYNC_FRAME_ERROR, counts it and takes the frame condition; a frame with the right CRC, HOPS below 15 and 64 good edges meets it. With another source selected nothing else changes. Rules: R45 R46 R65 R66 R67. -/
def Obligations.SyncInEdgesCarryBitsAndFrames : Prop :=
  (∀ (s : State) (ns stamp clk : Nat), Settled s → ns < 2000 ∨ 18000 < ns → exec (.syncInEdge ns stamp clk) s = .next s) ∧
  (∀ (s : State) (ns stamp clk : Nat), Settled s → 2000 ≤ ns → ns ≤ 18000 → s.blk.glade.syncClk = 0 → s.blk.rd Obj.GladeConfig.SyncInDelay = 0 →
    s.blk.gSource ≠ 2 →
    ∃ t, exec (.syncInEdge ns stamp clk) s = .next t ∧ t.blk.glade.syncBits = (decide (8000 < ns) :: s.blk.glade.syncBits).take 64 ∧
      t.blk.glade.syncClk = clk ∧ t.blk.glade.syncError = -signedAngle stamp ∧
      t.blk.glade.syncRun = (if (signedAngle stamp).natAbs ≤ 2 ^ 30 then s.blk.glade.syncRun + 1 else 0) ∧
      t.blk = { s.blk with glade := t.blk.glade } ∧ SameArrays s t) ∧
  (∀ s : State, Settled s → s.blk.glade.syncBits.length = 64 → s.blk.glade.syncBad = 0 →
    (let v := fromMsb s.blk.glade.syncBits.reverse; crc8Bits (msbBits 56 (v / 256)) 0 ≠ v % 256) →
    ∃ t, exec .syncFrame s = .next t ∧ t.blk.glade = { s.blk.glade with syncBits := [], syncBad := 1, syncFrameOk := false } ∧
      Reports s t [{ src := Src.SYNC_FRAME_ERROR, inst := 0 }] ∧ 
      t.blk = { s.blk with glade := t.blk.glade, faults := t.blk.faults } ∧ SameArrays s t) ∧
  (∀ s : State, Settled s → s.blk.glade.syncBits.length = 64 → s.blk.gSource ≠ 2 → 64 ≤ s.blk.glade.syncRun →
    (let v := fromMsb s.blk.glade.syncBits.reverse; crc8Bits (msbBits 56 (v / 256)) 0 = v % 256 ∧ v / 256 % 16 < 15) →
    ∃ t, exec .syncFrame s = .next t ∧ t.blk.glade =
      { s.blk.glade with syncBits := [], syncBad := 0, syncFrameOk := true, syncFrame := fromMsb s.blk.glade.syncBits.reverse } ∧
      t.blk = { s.blk with glade := t.blk.glade } ∧ SameArrays s t)

/-- O20. A crossing within 90 degrees joins its half-cycle's mean, which is MainsPhaseError; more than 10 degrees is a jump. ZERO_CROSSING of L1, outside its blanking and the first of its kind, is counted and, within 90 degrees of the angle R49 expects, joins the errors of the half-cycle; further off it only counts as invalid. HALF_CYCLE_END with Glade in TRACK on MAINS publishes the mean error, positive where the mains is ahead, as MainsPhaseError and PhaseError; above 10 degrees it records PHASE_JUMP, counts it and enters SLEW towards it. Without a valid crossing MainsPhaseError reads 0x80000000. The statement is about racks whose mains feeds are lost or not configured; another statement covers their detector. Rules: R49 R50 R52 R53 R209. -/
def Obligations.CrossingsAreJudgedAndAveragedPerHalfCycle : Prop :=
  (∀ (s : State) (rising : Bool) (stamp clk : Nat), Settled s → s.blk.meas.lastZc = [] → s.blk.glade.lastClk = [] → s.blk.rd Obj.GladeConfig.MainsPhases = 1 →
    (let err := signedAngle ((stamp : Int) - (s.blk.expectedAngle 0 rising : Nat))
     ∃ t, exec (.zeroCrossing 0 rising stamp clk) s = .next t ∧
      t.blk.rd (Obj.Channel.ZcCount 0) = min (s.blk.rd (Obj.Channel.ZcCount 0) + 1) 0xFFFFFFFF ∧
      t.blk.glade.halfErrors = (if err.natAbs ≤ 2 ^ 30 then s.blk.glade.halfErrors ++ [err] else s.blk.glade.halfErrors) ∧
      t.blk.rd Obj.GladeStatus.InvalidCrossings = (if err.natAbs ≤ 2 ^ 30 then s.blk.rd Obj.GladeStatus.InvalidCrossings
        else min (s.blk.rd Obj.GladeStatus.InvalidCrossings + 1) 0xFFFFFFFF) ∧
      KeepsObjects [Obj.Channel.ZcCount 0, Obj.GladeStatus.InvalidCrossings] s t ∧ t.blk.faults = s.blk.faults ∧ SameArrays s t)) ∧
  (∀ s : State, Settled s → (∀ f < 2, (s.blk.mf f).halfTicks = 0 ∧ s.blk.losable f = false) → s.blk.glade.halfErrors = [] → s.blk.gState = gladeTRACK →
    ∃ t, exec .halfCycleEnd s = .next t ∧ t.blk.rd Obj.GladeStatus.MainsPhaseError = 0x80000000 ∧
      KeepsObjects [Obj.GladeStatus.MainsPhaseError] s t ∧ OnlyObjects s t ∧ SameArrays s t) ∧
  (∀ s : State, Settled s → (∀ f < 2, (s.blk.mf f).halfTicks = 0 ∧ s.blk.losable f = false) → s.blk.glade.halfErrors ≠ [] → s.blk.gState = gladeTRACK →
    s.blk.gSource = 0 →
    (let avg := roundDiv s.blk.glade.halfErrors.sum s.blk.glade.halfErrors.length
     ∃ t, exec .halfCycleEnd s = .next t ∧ t.blk.rd Obj.GladeStatus.MainsPhaseError = ofI 32 (-avg) ∧
      t.blk.rd Obj.GladeStatus.PhaseError = ofI 32 (-avg) ∧ t.blk.glade = { s.blk.glade with halfErrors := [] } ∧ SameArrays s t ∧
      (avg.natAbs * 360 ≤ 10 * 2 ^ 32 → t.blk.gState = gladeTRACK ∧ t.blk.faults = s.blk.faults ∧
        KeepsObjects [Obj.GladeStatus.MainsPhaseError, Obj.GladeStatus.PhaseError] s t) ∧
      (10 * 2 ^ 32 < avg.natAbs * 360 → t.blk.gState = gladeSLEW ∧ t.blk.rd Obj.GladeStatus.SlewRemaining = ofI 32 (-avg) ∧
        t.blk.rd Obj.GladeStatus.JumpCount = min (s.blk.rd Obj.GladeStatus.JumpCount + 1) 0xFFFFFFFF ∧
        Reports s t [{ src := Src.PHASE_JUMP, inst := 0, detail := [avg] }])))

/-- O21. Loss, line loss, swell trip and blindness take a feed to LOST, record the class and restart its qualification. On a feed that can be lost, MAINS_LOSS_DETECT after LossTicks ticks below LossLevel (class 1), LINE_LOSS_DETECT after LineLossTicks ticks of a line off its expected sample (class 2), SWELL_TRIP_DETECT after two ticks above SwellTrip (class 5) and MAINS_SENSE_LOST after two blind ticks take the feed to LOST from the next tick, count the loss, restart its QualCount and raise MAINS_LOSS; the first three also record and count the disturbance. The hold-up function is not on the mains here, so no trigger follows; another statement covers it. Without its condition a detector changes nothing. Rules: R224 R225 R226. -/
def Obligations.MainsLossIsDetectedPerFeed : Prop :=
  (∀ (s : State) (f : Nat), Settled s → f < 2 → s.blk.losable f = true → s.blk.onMains = false → s.blk.isPresent Src.MAINS_LOSS f = false →
    (let x := s.blk.detect f (s.blk.feedSamples s.blk.enteredVolts f)
     let lost (t : State) : Prop := t.blk.mainsNext f = mfLOST ∧ t.blk.rd (Obj.MainsFeed.QualCount f) = 0 ∧
       t.blk.rd (Obj.MainsFeed.Losses f) = min (s.blk.rd (Obj.MainsFeed.Losses f) + 1) 0xFFFFFFFF ∧ t.blk.isPresent Src.MAINS_LOSS f = true ∧
       t.blk.rd Obj.HoldupStatus.State = s.blk.rd Obj.HoldupStatus.State ∧ SameArrays s t
     let classed (t : State) (code : Nat) : Prop := t.blk.rd (Obj.MainsFeed.LastDisturbance f) = code ∧
       t.blk.rd (Obj.MainsFeed.Disturbances f) = min (s.blk.rd (Obj.MainsFeed.Disturbances f) + 1) 0xFFFFFFFF ∧
       KeepsObjects [Obj.MainsFeed.State f, Obj.MainsFeed.QualCount f, Obj.MainsFeed.Losses f, Obj.MainsFeed.LastDisturbance f,
         Obj.MainsFeed.Disturbances f, Obj.SourceConfig.PresentInstances Src.MAINS_LOSS] s t
     (0 < x.lossRun → s.blk.rd Obj.MainsConfig.LossTicks ≤ x.lossRun →
       ∃ t, exec (.mainsLossDetect f) s = .next t ∧ lost t ∧ classed t 1) ∧
     ((x.lossRun = 0 ∨ x.lossRun < s.blk.rd Obj.MainsConfig.LossTicks) → exec (.mainsLossDetect f) s = .next s) ∧
     ((∃ n ∈ x.lineRun, 0 < n ∧ s.blk.rd Obj.MainsConfig.LineLossTicks ≤ n) →
       ∃ t, exec (.lineLossDetect f) s = .next t ∧ lost t ∧ classed t 2) ∧
     ((∀ n ∈ x.lineRun, n < s.blk.rd Obj.MainsConfig.LineLossTicks) → exec (.lineLossDetect f) s = .next s) ∧
     (2 ≤ x.swellRun → ∃ t, exec (.swellTripDetect f) s = .next t ∧ lost t ∧ classed t 5) ∧
     (x.swellRun < 2 → exec (.swellTripDetect f) s = .next s) ∧
     (2 ≤ x.blindRun → s.blk.isPresent Src.MAINS_SENSE_LOST f = false →
       ∃ t, exec (.mainsSenseLost f) s = .next t ∧ lost t ∧ t.blk.isPresent Src.MAINS_SENSE_LOST f = true) ∧
     (x.blindRun < 2 → exec (.mainsSenseLost f) s = .next s)))

/-- O22. A mains loss that leaves too little capacity puts the support set in SUPPORT in the next tick, or stops hold-up. Where the feed that MAINS_LOSS_DETECT loses was the only one, the hold-up function is on the mains and the REC group's command is above zero: with an empty support set hold-up stops, HOLDUP_UNAVAILABLE is raised and the rack is taken down; otherwise hold-up enters TRANSFER from the next tick, every string of the support set enters SUPPORT, the support command starts from the REC command plus the present support, times ArmMargin / 1,024, the place of the trigger is kept with cause 1, and the hand-over is counted and raised. Rules: R227 R229 R230. -/
def Obligations.ALossWithoutCapacityHandsOverToTheBatteries : Prop :=
  ∀ (s : State) (f : Nat), Settled s → f < 2 → s.blk.losable f = true → s.blk.onMains = true → s.blk.isPresent Src.MAINS_LOSS f = false →
    (let x := s.blk.detect f (s.blk.feedSamples s.blk.enteredVolts f); 0 < x.lossRun ∧ s.blk.rd Obj.MainsConfig.LossTicks ≤ x.lossRun) →
    (∀ g < 2, g ≠ f → s.blk.mainsNext g < mfAVAILABLE ∨ s.blk.rd Obj.MainsConfig.FeedCount ≤ g) → 0 < s.blk.holdup.recIg →
    ∃ t, exec (.mainsLossDetect f) s = .next t ∧ SameArrays s t ∧ t.blk.mainsNext f = mfLOST ∧
      (s.blk.supportSet = [] → t.blk.holdupNext = huSTOPPED ∧ t.blk.holdup.takeDown = Src.HOLDUP_UNAVAILABLE ∧
        ({ src := Src.HOLDUP_UNAVAILABLE, inst := 0 } : Report) ∈ t.blk.faults.reports) ∧
      (s.blk.supportSet ≠ [] → t.blk.holdupNext = huTRANSFER ∧ (∀ n ∈ s.blk.supportSet, t.blk.rdN (Obj.StringRecord.Mode n) = smSUPPORT) ∧
        t.blk.holdup.isup = roundDiv ((s.blk.holdup.recIg + s.blk.holdup.isup) * s.blk.rd Obj.MainsConfig.ArmMargin) 1024 ∧
        t.blk.rd Obj.HoldupStatus.HandoverCount = min (s.blk.rd Obj.HoldupStatus.HandoverCount + 1) 0xFFFFFFFF ∧
        t.blk.rd Obj.HoldupStatus.LastTriggerTick = s.blk.glade.tick ∧ t.blk.rd Obj.HoldupStatus.LastTriggerCycle = s.blk.glade.cycle ∧
        t.blk.rd Obj.HoldupStatus.LastTriggerCause = 1 ∧
        ({ src := Src.HANDOVER, inst := 0, detail := [1, s.blk.glade.tick] } : Report) ∈ t.blk.faults.reports)

/-- O23. TRANSFER becomes BATTERY, a walk-in starts when its entry fires, and its end returns the bus to the mains. TRANSFER_COMPLETE at a cycle boundary, 98 ticks or more after the trigger, enters BATTERY with BatteryCycles 0 and changes nothing else. WALK_IN, the firing of its entry in BATTERY with a REC group configured, enters WALK_IN with progress 0, gives the group its Setpoint as effective setpoint with command and integrator 0, and the entry leaves the table. WALK_IN_END after WalkInCycles cycles enters MAINS with progress 1,024, sets the support command, integrator and setpoint to 0, takes every string in SUPPORT to REST and raises HOLDUP_RETURN. Rules: R231 R234 R235 R246. -/
def Obligations.HoldUpTransfersWalksInAndReturns : Prop :=
  (∀ s : State, Settled s → s.blk.holdupState = huTRANSFER → s.blk.glade.boundary = true → s.blk.holdup.trigger + 98 ≤ s.blk.glade.ticks →
    ∃ t, exec .transferComplete s = .next t ∧ t.blk.holdupState = huBATTERY ∧ t.blk.rd Obj.HoldupStatus.BatteryCycles = 0 ∧
      KeepsObjects [Obj.HoldupStatus.State, Obj.HoldupStatus.BatteryCycles] s t ∧ OnlyObjects s t ∧ SameArrays s t) ∧
  (∀ (s : State) (h g : Nat) (a : Action), Settled s → Due s.blk h opWALK_IN a → s.blk.recGroup = some g → s.blk.holdupState = huBATTERY →
    ∃ t, exec (.walkIn h) s = .next t ∧ t.blk.holdupState = huWALK_IN ∧ t.blk.rd Obj.HoldupStatus.WalkInProgress = 0 ∧ t.blk.holdup.walk = 0 ∧
      t.blk.holdup.scheduled = false ∧ t.blk.entry? h = none ∧ (t.blk.group g).veff = s.blk.rd (Obj.GroupRecord.Setpoint g) * 1000 ∧
      (t.blk.group g).iint = 0 ∧ (t.blk.group g).ig = 0 ∧
      KeepsObjects (Obj.HoldupStatus.State :: Obj.HoldupStatus.WalkInProgress :: recordObjects) s t ∧ SameArrays s t) ∧
  (∀ s : State, Settled s → s.blk.holdupState = huWALK_IN → s.blk.walkSpan ≤ s.blk.holdup.walk →
    ∃ t, exec .walkInEnd s = .next t ∧ t.blk.holdupState = huMAINS ∧ t.blk.rd Obj.HoldupStatus.WalkInProgress = 1024 ∧
      t.blk.holdup = { s.blk.holdup with isup := 0, iint := 0, veff := 0 } ∧
      (∀ n < 16, t.blk.stringMode n = if s.blk.stringMode n = smSUPPORT then smREST else s.blk.stringMode n) ∧
      Reports s t [{ src := Src.HOLDUP_RETURN, inst := 0 }] ∧ SameArrays s t)

/-- O24. 32 consecutive successes complete training: identity, tag and state; a wrong class is a MISMATCH, a long wire a LINK_DELAY. TRAINING_COMPLETE after 32 successes, with a derived delay of at most 40 ns: the port shows class, identity and delay of the last TRAIN_RESP, takes its one-shot tag from OS_LAST, owes a RESYNC, queues a write of HOLD_LIMIT where the head's differs, and is ADMITTED where the class is the configured one, otherwise MISMATCH with CLASS_MISMATCH raised. A delay above 40 ns raises LINK_DELAY and holds training for 50 cycles, and the state stays. TRAINING_TIMEOUT after 100 cycles takes a TRAINING port back to ABSENT with LINK_TRAIN_FAIL. LINK_DELAY_RETRAIN when the 50 cycles are over starts the next run. Rules: R15 R17 R123 R148 R149. -/
def Obligations.TrainingAdmitsAHeadOfTheConfiguredClass : Prop :=
  (∀ (s : State) (p : Nat), Settled s → p < 512 → s.blk.portState p = psTRAINING → 32 ≤ (s.blk.port p).trainRun → (s.blk.port p).delayUntil = none →
    Block.derivedDelay (s.blk.port p).sofNs ≤ 40 → s.blk.isPresent Src.CLASS_MISMATCH p = false →
    ∃ t, exec (.trainingComplete p) s = .next t ∧ SameArrays s t ∧ t.blk.rd (Obj.PortRecord.ReportedClass p) = (s.blk.port p).trainClass ∧
      t.blk.rd (Obj.PortRecord.WireDelay p) = Block.derivedDelay (s.blk.port p).sofNs ∧
      t.blk.rd (Obj.PortRecord.HeadVendor p) = (s.blk.port p).trainWords.getD 0 0 ∧
      t.blk.rd (Obj.PortRecord.HeadRevision p) = (s.blk.port p).trainWords.getD 1 0 ∧
      (t.blk.port p).tag = (s.blk.port p).trainOsLast ∧ (t.blk.port p).resync = true ∧ (t.blk.port p).retrain = false ∧ (t.blk.port p).trainRun = 0 ∧
      ((s.blk.port p).trainWords.getD 7 0 ≠ s.blk.rd (Obj.PortRecord.HoldLimit p) →
        ({ write := true, addr := 0x10, data := s.blk.rd (Obj.PortRecord.HoldLimit p) } : Cfg) ∈ (t.blk.port p).cfg) ∧
      (∀ q, q ≠ p → t.blk.port q = s.blk.port q) ∧
      ((s.blk.port p).trainClass = s.blk.classOf p ∧ 1 ≤ s.blk.classOf p ∧ s.blk.classOf p ≤ 5 →
        t.blk.portState p = psADMITTED ∧ t.blk.faults = s.blk.faults) ∧
      ((s.blk.port p).trainClass ≠ s.blk.classOf p → t.blk.portState p = psMISMATCH ∧ t.blk.isPresent Src.CLASS_MISMATCH p = true ∧
        Reports s t [{ src := Src.CLASS_MISMATCH, inst := p, detail := [(s.blk.port p).trainClass, s.blk.classOf p] }]) ∧
      KeepsObjects [Obj.PortRecord.WireDelay p, Obj.PortRecord.ReportedClass p, Obj.PortRecord.HeadVendor p, Obj.PortRecord.HeadRevision p,
        Obj.PortRecord.HeadSerial p, Obj.PortRecord.HeadCaps p, Obj.PortRecord.PortState p, Obj.PortRecord.CfgWriteResult p,
        Obj.SourceConfig.PresentInstances Src.CLASS_MISMATCH] s t) ∧
  (∀ (s : State) (p : Nat), Settled s → p < 512 → s.blk.portState p = psTRAINING → 32 ≤ (s.blk.port p).trainRun → (s.blk.port p).delayUntil = none →
    40 < Block.derivedDelay (s.blk.port p).sofNs →
    ∃ t, exec (.trainingComplete p) s = .next t ∧ (t.blk.port p).delayUntil = some (s.blk.glade.cycles + 50) ∧
      Reports s t [{ src := Src.LINK_DELAY, inst := p, detail := [Block.derivedDelay (s.blk.port p).sofNs] }] ∧ KeepsObjects [Obj.PortRecord.WireDelay p] s t ∧ SameArrays s t) ∧
  (∀ (s : State) (p : Nat), Settled s → p < 512 → s.blk.portState p = psTRAINING → (s.blk.port p).delayUntil = none →
    (s.blk.port p).trainAt + 100 ≤ s.blk.glade.cycles →
    ∃ t, exec (.trainingTimeout p) s = .next t ∧ t.blk.portState p = psABSENT ∧ Reports s t [{ src := Src.LINK_TRAIN_FAIL, inst := p }] ∧
      KeepsObjects [Obj.PortRecord.PortState p] s t ∧ SameArrays s t) ∧
  (∀ (s : State) (p c : Nat), Settled s → p < 512 → s.blk.inTraining p = true → (s.blk.port p).delayUntil = some c → c ≤ s.blk.glade.cycles →
    ∃ t, exec (.linkDelayRetrain p) s = .next t ∧ (t.blk.port p).delayUntil = none ∧ (t.blk.port p).trainAt = s.blk.glade.cycles ∧
      t.blk.rd (Obj.PortRecord.TrainAttempts p) = min (s.blk.rd (Obj.PortRecord.TrainAttempts p) + 1) 0xFFFF ∧
      KeepsObjects [Obj.PortRecord.TrainAttempts p] s t ∧ t.blk.faults = s.blk.faults ∧ SameArrays s t)

/-- O25. LINK_LOST at HoldLimit failed ticks; after 100 cycles' worth the link retrains without a change of PortState. LINK_LOST on a port whose count of ticks without a success, the one in progress included once both its exchanges have ended, has reached HoldLimit raises the condition for the port, and below HoldLimit changes nothing; the port keeps its state and its frames. LINK_RETRAIN at 100 cycles' worth of ticks on an IN_SERVICE, SAFE, ADMITTED or FAILED port with no one-shot waiting starts TRAIN frames underneath, and PortState does not change. A retrain run of an IN_SERVICE, SAFE or FAILED port that does not complete within 100 cycles raises LINK_TRAIN_FAIL and starts the next run at once; an ADMITTED or MISMATCH port returns to ABSENT. The ports are no feed's: another statement covers a feed. Rules: R150. -/
def Obligations.ALostLinkIsRaisedAndRetrainsUnderneath : Prop :=
  (∀ (s : State) (p : Nat), Settled s → p < 512 → s.blk.linkCounts p = true → s.blk.classOf p ≠ 4 → s.blk.isPresent Src.LINK_LOST p = false →
    (s.blk.port p).inject = false →
    (s.blk.rd (Obj.PortRecord.HoldLimit p) ≤ s.blk.rd (Obj.PortRecord.ConsecutiveFailed p) + b2n (s.blk.tickLost p) →
      ∃ t, exec (.linkLost p) s = .next t ∧ t.blk.isPresent Src.LINK_LOST p = true ∧ Reports s t [{ src := Src.LINK_LOST, inst := p }] ∧
        t.blk.ports = s.blk.ports ∧ KeepsObjects [Obj.SourceConfig.PresentInstances Src.LINK_LOST] s t ∧ SameArrays s t) ∧
    (s.blk.rd (Obj.PortRecord.ConsecutiveFailed p) + b2n (s.blk.tickLost p) < s.blk.rd (Obj.PortRecord.HoldLimit p) →
      exec (.linkLost p) s = .next s)) ∧
  (∀ (s : State) (p : Nat), Settled s → p < 512 → s.blk.portState p ∈ [psIN_SERVICE, psSAFE, psADMITTED, psFAILED] → (s.blk.port p).retrain = false →
    (s.blk.port p).shots = [] →
    (100 * s.blk.glade.nt ≤ s.blk.rd (Obj.PortRecord.ConsecutiveFailed p) →
      ∃ t, exec (.linkRetrain p) s = .next t ∧ (t.blk.port p).retrain = true ∧ (t.blk.port p).trainRun = 0 ∧
        (t.blk.port p).trainAt = s.blk.glade.cycles ∧ t.blk.faults = s.blk.faults ∧ KeepsObjects [Obj.PortRecord.TrainAttempts p] s t ∧ SameArrays s t) ∧
    (s.blk.rd (Obj.PortRecord.ConsecutiveFailed p) < 100 * s.blk.glade.nt → exec (.linkRetrain p) s = .next s)) ∧
  (∀ (s : State) (p : Nat), Settled s → p < 512 → (s.blk.port p).retrain = true → (s.blk.port p).delayUntil = none →
    (s.blk.port p).trainAt + 100 ≤ s.blk.glade.cycles →
    ∃ t, exec (.trainingTimeout p) s = .next t ∧ Reports s t [{ src := Src.LINK_TRAIN_FAIL, inst := p }] ∧ SameArrays s t ∧
      (s.blk.portState p ∈ [psIN_SERVICE, psSAFE, psFAILED] → t.blk.portState p = s.blk.portState p ∧ (t.blk.port p).retrain = true ∧
        (t.blk.port p).trainAt = s.blk.glade.cycles ∧ KeepsObjects [Obj.PortRecord.TrainAttempts p] s t) ∧
      (s.blk.portState p ∈ [psADMITTED, psMISMATCH] → t.blk.portState p = psABSENT ∧ KeepsObjects [Obj.PortRecord.PortState p] s t))

/-- O26. A good reply delivers its samples and succeeds, a damaged or missing one counts, and a failed primary is sent again unchanged. UPSTREAM_FRAME, in its window, with good code and CRC, answering a COMMAND of the holder (seat A) on an unshared port with the SEQ sent, a status of 0 and this seat as holder, makes the exchange a success and brings the sample set into the next tick; a good frame with a bad CRC or bad code only counts. UPSTREAM_WINDOW_END without a SOF counts NoResponse. RETRY_SLOT after a failed primary sends the identical frame in the retry slot, and with a success and no register access waiting leaves the slot idle. Rules: R117 R122 R136 R154. -/
def Obligations.ExchangesSucceedRetryOrCount : Prop :=
  (∀ (s : State) (p sof : Nat) (f : Frame) (data : List Nat), Settled s → p < 512 → (s.blk.port p).frame = some f → (s.blk.port p).heard0 = false →
    2176 ≤ sof → sof ≤ 2400 → data.length = 24 → s.blk.portState p = psIN_SERVICE → f.type = ftCOMMAND → f.token = true → f.seq < 256 →
    s.blk.seat = 0x41 → data.getD 0 0 = 0x90 → data.getD 1 0 = f.seq → data.getD 2 0 = 8 → data.getD 3 0 = 0 → s.blk.faults.present = [] →
    (s.blk.port p).safeSeen = false → (s.blk.port p).active = false → (s.blk.port p).inject = false → (s.blk.port p).entered = none →
    (s.blk.port p).received = [] → s.blk.linkUp = false → s.blk.pair.rejected = false → s.blk.pair.held.length < s.blk.rd Obj.RedundancyConfig.HoldQuorum →
    ∃ t, exec (.upstreamFrame p false sof true true data) s = .next t ∧ (t.blk.port p).okPrimary = true ∧ (t.blk.port p).heard0 = true ∧
      (t.blk.port p).entered = some { slot := 0, words := (List.range 8).map (fun i => beWord data (6 + 2 * i)), status := 0, osLast := data.getD 22 0 % 256, refused := false, tag := beWord data 4 } ∧
      t.blk.rdN (Obj.PortRecord.HeadStatus p) = 0 ∧ t.blk.rd (Obj.PortRecord.HeadHolder p) = 0x41 ∧ (∀ q, q ≠ p → t.blk.port q = s.blk.port q) ∧
      t.blk.faults = s.blk.faults ∧ KeepsObjects [Obj.PortRecord.HeadStatus p, Obj.PortRecord.OneShotLast p, Obj.PortRecord.HeadHolder p,
        Obj.PortRecord.HeadRxErrors p] s t ∧ SameArrays s t) ∧
  (∀ (s : State) (p sof : Nat) (f : Frame) (data : List Nat), Settled s → p < 512 → (s.blk.port p).frame = some f → (s.blk.port p).heard0 = false →
    (s.blk.port p).counted = true → f.type ≠ ftSAFE_BCAST → s.blk.portState p ≠ psOFF → (s.blk.port p).inject = false →
    2176 ≤ sof → sof ≤ 2400 → s.blk.pair.rejected = false → s.blk.pair.held.length < s.blk.rd Obj.RedundancyConfig.HoldQuorum →
    (data.length = 24 → ∃ t, exec (.upstreamFrame p false sof true false data) s = .next t ∧
      t.blk.rd (Obj.PortRecord.CrcErrors p) = min (s.blk.rd (Obj.PortRecord.CrcErrors p) + 1) 0xFFFFFFFF ∧
      t.blk.port p = { s.blk.port p with heard0 := true } ∧ KeepsObjects [Obj.PortRecord.CrcErrors p] s t ∧ SameArrays s t) ∧
    (∃ t, exec (.upstreamFrame p false sof false true data) s = .next t ∧
      t.blk.rd (Obj.PortRecord.CodeErrors p) = min (s.blk.rd (Obj.PortRecord.CodeErrors p) + 1) 0xFFFFFFFF ∧
      t.blk.port p = { s.blk.port p with heard0 := true } ∧ KeepsObjects [Obj.PortRecord.CodeErrors p] s t ∧ SameArrays s t) ∧
    (∃ t, exec (.upstreamWindowEnd p false) s = .next t ∧
      t.blk.rd (Obj.PortRecord.NoResponse p) = min (s.blk.rd (Obj.PortRecord.NoResponse p) + 1) 0xFFFFFFFF ∧
      t.blk.port p = { s.blk.port p with heard0 := true } ∧ KeepsObjects [Obj.PortRecord.NoResponse p] s t ∧ SameArrays s t)) ∧
  (∀ (s : State) (p : Nat) (f : Frame), Settled s → p < 512 → s.blk.transmits = true → s.blk.hasRetrySlot = true → s.blk.glade.boundary = false →
    (s.blk.port p).retry = none → psMISMATCH ≤ s.blk.portState p → (s.blk.port p).retrain = false → (s.blk.port p).locked = 0 →
    (s.blk.port p).frame = some f → (s.blk.port p).inject = false →
    ((s.blk.port p).okPrimary = false → f.badCrc = false →
      ∃ t, exec (.retrySlot p) s = .next t ∧ t.blk.port p = { s.blk.port p with retry := some f } ∧ (∀ q, q ≠ p → t.blk.port q = s.blk.port q) ∧
        t.blk = { s.blk with ports := t.blk.ports } ∧ SameArrays s t) ∧
    ((s.blk.port p).okPrimary = true → s.blk.cfgNext p = none → exec (.retrySlot p) s = .next s))

/-- O27. A host's PORT_SAFE or LATCH_RESET fires under the next tag; a one-shot without its reply fails at HoldLimit; CRC injection is armed. PORT_SAFE and LATCH_RESET, when their entry is due and the port idle, put one-shot 0x01 or 0x02 on the port under the next tag (0x00 skipped), and the entry stays until the one-shot ends. ONESHOT_TIMEOUT at HoldLimit ticks after the firing tick ends a pending one-shot as failed with ONESHOT_FAIL, and before that changes nothing. INJECT_CRC with InjectEnable 1 arms the count of ticks it gives, and does nothing with InjectEnable 0. Rules: R137 R138 R146 R156 R358. -/
def Obligations.OneShotsActOnceUnderATag : Prop :=
  (∀ (s : State) (h op act : Nat) (c : Instr) (a : Action), Settled s → (c, op, act) ∈ [(Instr.portSafe h, osSAFE, 6), (Instr.latchReset h, osLATCH_RESET, 7)] →
    Due s.blk h act a → (s.blk.port a.target).shots = [] → (s.blk.port a.target).active = false → s.blk.inTraining a.target = false →
    ∃ t, exec c s = .next t ∧ t.blk.port a.target = { s.blk.port a.target with shots := [{ op := op, handle := some h }], result := none, active := true, tag := nextTag (s.blk.port a.target).tag, since := s.blk.glade.ticks + 1 } ∧
      t.blk.entry? h = some a ∧ t.blk = { s.blk with ports := t.blk.ports } ∧ SameArrays s t) ∧
  (∀ (s : State) (h : Nat), s.blk.entry? h = none → Settled s → exec (.portSafe h) s = .next s ∧ exec (.latchReset h) s = .next s) ∧
  (∀ (s : State) (p op : Nat), Settled s → p < 512 → (s.blk.port p).active = true → (s.blk.port p).shots = [{ op := op }] →
    ((s.blk.port p).since + s.blk.rd (Obj.PortRecord.HoldLimit p) ≤ s.blk.glade.ticks →
      ∃ t, exec (.oneshotTimeout p) s = .next t ∧
        t.blk.port p = { s.blk.port p with shots := [], active := false, result := some (op, 2) } ∧
        t.blk.faults = { s.blk.faults with reports := s.blk.faults.reports ++ [{ src := Src.ONESHOT_FAIL, inst := p, detail := [op, 2] }] } ∧
        KeepsObjects [] s t ∧ SameArrays s t) ∧
    (s.blk.glade.ticks < (s.blk.port p).since + s.blk.rd (Obj.PortRecord.HoldLimit p) → exec (.oneshotTimeout p) s = .next s)) ∧
  (∀ (s : State) (p v : Nat), Settled s → p < 512 →
    (s.blk.rd Obj.FaultInject.InjectEnable = 1 →
      ∃ t, exec (.injectCrc p v) s = .next t ∧ t.blk.port p = { s.blk.port p with injectLeft := v / 256 % 256 } ∧
        t.blk.rd (Obj.PortRecord.InjectCrc p) = v % 65536 ∧ KeepsObjects [Obj.PortRecord.InjectCrc p] s t ∧ t.blk.faults = s.blk.faults ∧ SameArrays s t) ∧
    (s.blk.rd Obj.FaultInject.InjectEnable ≠ 1 → exec (.injectCrc p v) s = .next s))

/-- O28. READ adds a sharer, OWN leaves one requester as the only holder, WRITEBACK by the owner takes the line home. A READ of a line by a cache without a copy makes the line SHARED with that cache among its holders; with a copy it changes nothing; a corrected error counts and raises CANOPY_CORRECTED. OWN requests of one clock end with the line OWNED by exactly one of the requesters, the one last granted, and the longest wait observed is the old one or at most 40 ns for each place in the line. WRITEBACK by the owner leaves the line HOME without holders, and by any other cache changes nothing. No other line changes. How long the wait is, is a free value; the bound is the rule's. Rules: R85 R86 R87 R112. -/
def Obligations.TheDirectoryTracksHoldersAndOwners : Prop :=
  (∀ (s : State) (n c : Nat), Settled s → n < 65536 → c < 17 → s.blk.faults.sramArmed = false →
    (let after := if bitOf (s.blk.line n).mask c then s.blk.line n else { s.blk.line n with state := 1, mask := putBit (s.blk.line n).mask c true }
     (∃ t, exec (.directoryRead n c 0) s = .next t ∧ t.blk.line n = after ∧ (∀ m, m ≠ n → t.blk.line m = s.blk.line m) ∧
      t.blk = { s.blk with canopy := { s.blk.canopy with lines := t.blk.canopy.lines } } ∧ SameArrays s t) ∧
     (∃ t, exec (.directoryRead n c 1) s = .next t ∧ t.blk.line n = after ∧
      t.blk.rd Obj.CanopyStatus.Corrected = min (s.blk.rd Obj.CanopyStatus.Corrected + 1) 0xFFFFFFFF ∧
      Reports s t [{ src := Src.CANOPY_CORRECTED, inst := 0 }] ∧ KeepsObjects [Obj.CanopyStatus.Corrected] s t ∧ SameArrays s t))) ∧
  (∀ (s : State) (n : Nat) (l : List Nat), Settled s → n < 65536 → l ≠ [] → (∀ c ∈ l, c < 17) →
    ∃ t, exec (.directoryOwn n l) s = .next t ∧ (∃ c ∈ l, t.blk.line n = { state := 2, mask := 2 ^ c, last := c }) ∧
      (∀ m, m ≠ n → t.blk.line m = s.blk.line m) ∧
      s.blk.rd Obj.CanopyStatus.DirectoryMaxWait ≤ t.blk.rd Obj.CanopyStatus.DirectoryMaxWait ∧
      t.blk.rd Obj.CanopyStatus.DirectoryMaxWait ≤ max (s.blk.rd Obj.CanopyStatus.DirectoryMaxWait) ((l.length + 1) * 40) ∧
      KeepsObjects [Obj.CanopyStatus.DirectoryMaxWait] s t ∧ SameArrays s t) ∧
  (∀ (s : State) (n c : Nat), Settled s → n < 65536 → c < 17 → (s.blk.line n).state = 2 → (s.blk.line n).mask = 2 ^ c →
    ∃ t, exec (.directoryWriteback n c []) s = .next t ∧ t.blk.line n = { s.blk.line n with state := 0, mask := 0 } ∧
      (∀ m, m ≠ n → t.blk.line m = s.blk.line m) ∧
      t.blk = { s.blk with canopy := { s.blk.canopy with lines := t.blk.canopy.lines } } ∧ SameArrays s t) ∧
  (∀ (s : State) (n c : Nat), Settled s → n < 65536 → (s.blk.line n).mask ≠ 2 ^ c → exec (.directoryWriteback n c []) s = .next s)

/-- O29. A capture completes every image; a pin holds a slot for PinLimit cycles, until its release or its expiry. SNAPSHOT_CAPTURE_DONE completes the images in the slots and names the newest. PIN_NEWEST and PIN_NAMED, where the image is complete and readable and a slot may be pinned, pin its slot for the session with its limit, report its epoch and cycle and status 0, and leave every other session alone; with no complete image the status is 1. PIN_RELEASE gives the slot back. PIN_EXPIRY of a pin whose time is up does so too, marks the session so that its next snapshot read answers SNAP_EXPIRED, and raises SNAP_PIN_EXPIRED for it. Rules: R88 R90 R91 R92 R93 R94. -/
def Obligations.PinsHoldAnImageForTheirTime : Prop :=
  (∀ s : State, Settled s → ∃ t, exec .snapshotCaptureDone s = .next t ∧ (∀ e ∈ t.blk.canopy.slots, e.2.complete = true) ∧
    t.blk.canopy.slots.map (·.1) = s.blk.canopy.slots.map (·.1) ∧
    (∀ e, t.blk.newestImage = some e → t.blk.rd Obj.CanopyStatus.NewestEpoch = e.2.epoch ∧ t.blk.rd Obj.CanopyStatus.NewestCycle = e.2.cycle) ∧
    KeepsObjects [Obj.CanopyStatus.NewestEpoch, Obj.CanopyStatus.NewestCycle] s t ∧
    t.blk = { s.blk with canopy := { s.blk.canopy with slots := t.blk.canopy.slots }, dict := t.blk.dict, wimg := t.blk.wimg } ∧ SameArrays s t) ∧
  (∀ (s : State) (n : Nat), Settled s → n < 32 →
    (let pinObjects := [sk n Obj.SnapshotSession.PinnedEpoch, sk n Obj.SnapshotSession.PinnedCycle, sk n Obj.SnapshotSession.PinRemaining,
       sk n Obj.SnapshotSession.Status, Obj.CanopyStatus.SlotsPinned]
     let frame (t : State) : Prop := (∀ m, m ≠ n → t.blk.sess m = s.blk.sess m) ∧ KeepsObjects pinObjects s t ∧
       t.blk = { s.blk with sessions := t.blk.sessions, pair := t.blk.pair, dict := t.blk.dict, wimg := t.blk.wimg } ∧ SameArrays s t
     let pinned (t : State) (k : Nat) (img : Image) : Prop := frame t ∧
       t.blk.sess n = { s.blk.sess n with pin := some k, pinLeft := s.blk.pinLimit n, expired := false } ∧
       t.blk.rd (sk n Obj.SnapshotSession.PinnedEpoch) = img.epoch ∧ t.blk.rd (sk n Obj.SnapshotSession.PinnedCycle) = img.cycle ∧
       t.blk.rd (sk n Obj.SnapshotSession.PinRemaining) = s.blk.pinLimit n ∧ t.blk.rd (sk n Obj.SnapshotSession.Status) = 0 ∧
       t.blk.rd Obj.CanopyStatus.SlotsPinned = t.blk.pinnedSlots.length
     let free (k : Nat) (img : Image) : Prop := img.bad = false ∧ s.blk.canPin k = true ∧ (s.blk.sess n).pin ≠ some k
     let released (t : State) : Prop := t.blk.rd (sk n Obj.SnapshotSession.PinnedEpoch) = 0xFFFF ∧
       t.blk.rd (sk n Obj.SnapshotSession.PinnedCycle) = 0 ∧ t.blk.rd (sk n Obj.SnapshotSession.PinRemaining) = 0 ∧
       t.blk.rd Obj.CanopyStatus.SlotsPinned = t.blk.pinnedSlots.length
     (∀ k img, s.blk.newestImage = some (k, img) → free k img → ∃ t, exec (.pinNewest n) s = .next t ∧ pinned t k img) ∧
     (s.blk.newestImage = none → ∃ t, exec (.pinNewest n) s = .next t ∧ t.blk.rd (sk n Obj.SnapshotSession.Status) = 1 ∧
       KeepsObjects [sk n Obj.SnapshotSession.Status] s t ∧ OnlyObjects s t ∧ SameArrays s t) ∧
     (∀ k img e, s.blk.newestImage ≠ none → s.blk.resolveEpoch (s.blk.rd (sk n Obj.SnapshotSession.RequestEpoch))
         (s.blk.rd (sk n Obj.SnapshotSession.RequestCycle)) = some e →
       s.blk.canopy.slots.find? (fun x => x.2.epoch == e && x.2.cycle == s.blk.rd (sk n Obj.SnapshotSession.RequestCycle)) = some (k, img) →
       img.complete = true → free k img → ∃ t, exec (.pinNamed n) s = .next t ∧ pinned t k img) ∧
     (∃ t, exec (.pinRelease n) s = .next t ∧ frame t ∧ released t ∧ t.blk.sess n = { s.blk.sess n with pin := none, pinLeft := 0 } ∧
       t.blk.rd (sk n Obj.SnapshotSession.Status) = 0) ∧
     ((s.blk.sess n).pin ≠ none → (s.blk.sess n).pinLeft = 0 → (s.blk.sess n).transfer = none →
       ∃ t, exec (.pinExpiry n) s = .next t ∧ released t ∧ t.blk.sess n = { s.blk.sess n with pin := none, pinLeft := 0, expired := true } ∧
         Reports s t [{ src := Src.SNAP_PIN_EXPIRED, inst := n }] ∧ (∀ m, m ≠ n → t.blk.sess m = s.blk.sess m) ∧
         KeepsObjects pinObjects s t ∧ SameArrays s t)))

/-- O30. A bundle is opened empty, submitted under the next sequence, cancelled 400 ticks ahead, or dropped unconfirmed. COMMIT_OPEN leaves the session with an empty open bundle and COMMIT_DISCARD with none. COMMIT_SUBMIT outside GRAVE, of an open bundle with writes whose boundary lies at least 400 ticks and at most 2^30 cycles ahead, with fewer than 64 bundles accepted and no check that fails on the configuration expected there, adds the bundle under the next commit sequence, accepted at once where no partner has to confirm it, ends the session's bundle and answers status 0. Without an open bundle it answers status 1. COMMIT_CANCEL at least 400 ticks before the boundary removes the session's bundle with status 8; COMMIT_CONFIRM_TIMEOUT removes an unconfirmed one with status 6. Rules: R98 R99 R100 R101 R102 R104 R105. -/
def Obligations.BundlesAreOpenedSubmittedAndWithdrawn : Prop :=
  (∀ (s : State) (n : Nat), Settled s → n < 32 →
    (let counts := [sk n Obj.CommitSession.Entries, sk n Obj.CommitSession.Bytes, Obj.CanopyStatus.StagingUsed, Obj.CanopyStatus.CommitsPending]
     let results := [sk n Obj.CommitSession.Status, sk n Obj.CommitSession.Reason, sk n Obj.CommitSession.FailIndex, sk n Obj.CommitSession.FailSub]
     let others (t : State) : Prop := (∀ m, m ≠ n → t.blk.sess m = s.blk.sess m) ∧ SameArrays s t ∧
       t.blk.rd Obj.CanopyStatus.StagingUsed = t.blk.stagingUsed ∧ t.blk.rd (sk n Obj.CommitSession.Entries) = 0 ∧ t.blk.rd (sk n Obj.CommitSession.Bytes) = 0
     (∃ t, exec (.commitOpen n) s = .next t ∧ t.blk.sess n = { s.blk.sess n with bundle := true, staged := [] } ∧ others t ∧
       KeepsObjects counts s t ∧ t.blk = { s.blk with sessions := t.blk.sessions, dict := t.blk.dict, wimg := t.blk.wimg }) ∧
     (∃ t, exec (.commitDiscard n) s = .next t ∧ t.blk.sess n = { s.blk.sess n with bundle := false, staged := [] } ∧ others t ∧
       KeepsObjects counts s t ∧ t.blk = { s.blk with sessions := t.blk.sessions, dict := t.blk.dict, wimg := t.blk.wimg }) ∧
     (∀ e c, s.blk.inGrave = false → (s.blk.sess n).bundle = true → (s.blk.sess n).staged ≠ [] → s.blk.commitTarget n = some (e, c) →
       400 ≤ s.blk.ticksToCycle e c → s.blk.cyclesAhead e c ≤ 2 ^ 30 → (s.blk.canopy.bundles.filter (·.accepted)).length < 64 →
       (s.blk.expectedConfig e c).judge (s.blk.sess n).staged = none →
       (let seq := (s.blk.rd Obj.EventOrder.CommitSequence + 1) % 2 ^ 32
        ∃ t, exec (.commitSubmit n) s = .next t ∧
         t.blk.canopy = { s.blk.canopy with bundles := s.blk.canopy.bundles ++
           [{ seq := seq, session := n, epoch := e, cycle := c, writes := (s.blk.sess n).staged, accepted := !s.blk.linkUp }] } ∧
         t.blk.sess n = { s.blk.sess n with bundle := false, staged := [] } ∧ others t ∧ t.blk.rd Obj.EventOrder.CommitSequence = seq ∧
         t.blk.rd (sk n Obj.CommitSession.Sequence) = seq ∧ t.blk.rd (sk n Obj.CommitSession.Status) = 0 ∧
         KeepsObjects (sk n Obj.CommitSession.Sequence :: Obj.EventOrder.CommitSequence :: (counts ++ results)) s t)) ∧
     (s.blk.inGrave = false → (s.blk.sess n).bundle = false → ∃ t, exec (.commitSubmit n) s = .next t ∧
       t.blk.rd (sk n Obj.CommitSession.Status) = 1 ∧ t.blk.canopy = s.blk.canopy ∧ KeepsObjects (counts ++ results) s t ∧ SameArrays s t) ∧
     (∀ x seq, s.blk.canopy.bundles.find? (fun x => x.seq == seq && x.session == n) = some x → 400 ≤ s.blk.ticksToCycle x.epoch x.cycle →
       ∃ t, exec (.commitCancel n seq) s = .next t ∧ t.blk.canopy = { s.blk.canopy with bundles := s.blk.canopy.bundles.filter (fun y => y.seq != seq) } ∧
         t.blk.rd (sk n Obj.CommitSession.Status) =
           (if s.blk.rd (sk n Obj.CommitSession.Sequence) = seq then 8 else s.blk.rd (sk n Obj.CommitSession.Status)) ∧
         KeepsObjects [sk n Obj.CommitSession.Status, Obj.CanopyStatus.StagingUsed, Obj.CanopyStatus.CommitsPending] s t ∧ SameArrays s t))) ∧
  (∀ (s : State) (seq : Nat) (x : Bundle), Settled s → s.blk.canopy.bundles.find? (fun x => x.seq == seq && !x.accepted) = some x →
    ∃ t, exec (.commitConfirmTimeout seq) s = .next t ∧
      t.blk.canopy = { s.blk.canopy with bundles := s.blk.canopy.bundles.filter (fun y => y.seq != seq) } ∧
      t.blk.rd (sk x.session Obj.CommitSession.Status) =
        (if s.blk.rd (sk x.session Obj.CommitSession.Sequence) = seq then 6 else s.blk.rd (sk x.session Obj.CommitSession.Status)) ∧
      KeepsObjects [sk x.session Obj.CommitSession.Status, Obj.CanopyStatus.StagingUsed, Obj.CanopyStatus.CommitsPending] s t ∧
      OnlyObjects { s with blk := { s.blk with canopy := t.blk.canopy } } t ∧ SameArrays s t)

/-- O31. A submit that passes every check takes the lowest free handle; a cancel in time, a firing and a timeout free it. ACTION_SUBMIT outside GRAVE with every check of R72 passed enters the request under the lowest handle no entry holds, accepted at once where no partner has to confirm it, with status 0 and that handle; a check that fails answers its status, handle 0xFFFF, and counts the refusal. ACTION_CANCEL of the session's own accepted entry at least 4 ticks before it fires removes it and answers 0. ACTION_CONFIRM_TIMEOUT removes an unconfirmed entry with status 7. RESERVED_ENTRY_OBTAINED at a cycle boundary with a reserved entry free enters the first function that waits. MARK when due fires: it has no effect but its record, which holds its Argument, and its handle is free. Rules: R69 R71 R72 R75 R77. -/
def Obligations.ActionsAreSubmittedCancelledAndReserved : Prop :=
  (∀ (s : State) (n e : Nat), Settled s → n < 32 → s.blk.inGrave = false →
    (let g := fun k => s.blk.rd (sk n k)
     let c := g Obj.ActionRequest.Cycle
     let st := s.blk.submitStatus (g Obj.ActionRequest.Operation) (g Obj.ActionRequest.TargetKind) (g Obj.ActionRequest.TargetIndex)
       (g Obj.ActionRequest.Angle) (some (e, c))
     let objects := [sk n Obj.ActionRequest.ResolvedEpoch, sk n Obj.ActionRequest.Status, sk n Obj.ActionRequest.Handle]
     s.blk.resolveEpoch (g Obj.ActionRequest.Epoch) c = some e →
     (st = 0 → ∃ t, exec (.actionSubmit n) s = .next t ∧ t.blk.entry? s.blk.freeHandle =
         some { session := n, op := g Obj.ActionRequest.Operation, kind := g Obj.ActionRequest.TargetKind, target := g Obj.ActionRequest.TargetIndex,
                arg := g Obj.ActionRequest.Argument, epoch := e, cycle := c, angle := g Obj.ActionRequest.Angle, order := s.blk.actions.next,
                accepted := !s.blk.linkUp } ∧
       (∀ h, h ≠ s.blk.freeHandle → t.blk.entry? h = s.blk.entry? h) ∧ t.blk.rd (sk n Obj.ActionRequest.Status) = 0 ∧
       t.blk.rd (sk n Obj.ActionRequest.Handle) = s.blk.freeHandle ∧ t.blk.rd (sk n Obj.ActionRequest.ResolvedEpoch) = e ∧
       t.blk.rd Obj.ActionTable.InUse = t.blk.actions.table.length ∧
       KeepsObjects (Obj.ActionTable.InUse :: Obj.ActionTable.HighWater :: objects) s t ∧ SameArrays s t) ∧
     (st ≠ 0 → ∃ t, exec (.actionSubmit n) s = .next t ∧ t.blk.rd (sk n Obj.ActionRequest.Status) = st ∧
       t.blk.rd (sk n Obj.ActionRequest.Handle) = 0xFFFF ∧ t.blk.rd Obj.ActionTable.Refused = min (s.blk.rd Obj.ActionTable.Refused + 1) 0xFFFFFFFF ∧
       KeepsObjects (Obj.ActionTable.Refused :: objects) s t ∧ OnlyObjects s t ∧ SameArrays s t))) ∧
  (∀ (s : State) (n h : Nat) (a : Action), Settled s → n < 32 → s.blk.entry? h = some a → a.session = n → a.accepted = true →
    4 ≤ s.blk.ticksTo (s.blk.entryPlace a) →
    ∃ t, exec (.actionCancel n h) s = .next t ∧ t.blk.entry? h = none ∧ (∀ k, k ≠ h → t.blk.entry? k = s.blk.entry? k) ∧
      t.blk.rd (sk n Obj.ActionRequest.CancelStatus) = 0 ∧ KeepsObjects (sk n Obj.ActionRequest.CancelStatus :: recordObjects) s t ∧ SameArrays s t) ∧
  (∀ (s : State) (h : Nat) (a : Action), Settled s → s.blk.entry? h = some a → a.accepted = false →
    ∃ t, exec (.actionConfirmTimeout h) s = .next t ∧ t.blk.entry? h = none ∧ (∀ k, k ≠ h → t.blk.entry? k = s.blk.entry? k) ∧
      t.blk.rd (sk a.session Obj.ActionRequest.Status) = 7 ∧ t.blk.rd (sk a.session Obj.ActionRequest.Handle) = 0xFFFF ∧
      KeepsObjects [sk a.session Obj.ActionRequest.Status, sk a.session Obj.ActionRequest.Handle, Obj.ActionTable.InUse, Obj.ActionTable.HighWater,
        Obj.ActionTable.Refused] s t ∧ SameArrays s t) ∧
  (∀ (s : State) (w : Waiting) (rest : List Waiting), Settled s → s.blk.actions.waiting = w :: rest → s.blk.glade.boundary = true → s.blk.ownEntries < 64 →
    ∃ t, exec .reservedEntryObtained s = .next t ∧ t.blk.actions.waiting = rest ∧
      (t.blk.entry? s.blk.freeHandle).map (fun a => (a.session, a.op, a.kind, a.target, a.arg, a.angle, a.accepted)) =
        some (0xFF, w.op, w.kind, w.target, w.arg, w.angle, true) ∧
      KeepsObjects [Obj.ActionTable.InUse, Obj.ActionTable.HighWater] s t ∧ SameArrays s t) ∧
  (∀ (s : State) (h : Nat) (a : Action), Settled s → Due s.blk h 8 a → s.blk.rings.freezeEnd = none →
    ∃ t, exec (.mark h) s = .next t ∧ t.blk.entry? h = none ∧
      (∃ r, t.blk.rings.buffer.getLast? = some r ∧ r.code = 0x0100 ∧ r.data.take 2 = leBytes 2 h ∧ (r.data.drop 18).take 4 = leBytes 4 a.arg) ∧
      KeepsObjects recordObjects s t ∧ SameArrays s t)

/-- O32. A close waits for the input, clears the latch, then frames the close; an open is commanded; retries count and reset. FEED_CLOSE firing on a feed that is OPEN, TRIPPED or LOCKED_OUT, FEED_INPUT_QUALIFIED on one that waits, and FEED_RETRY at the end of a TRIPPED feed's back-off close the feed: WAIT_INPUT with the transistors off while the input is not qualified; a LATCH_RESET first where the head is safe; otherwise CLOSING in the next tick with MODE ARMED, the close timed from that tick. FEED_CLOSE returns RetriesUsed to 0 and FEED_RETRY counts it. FEED_OPEN firing from WAIT_INPUT, CLOSING, CLOSED or NO_LINK opens the feed with cause COMMANDED, and from TRIPPED or LOCKED_OUT makes it OPEN. RETRY_RESET and CLEAR_SUSPECT return RetriesUsed to 0; CLEAR_SUSPECT takes a SUSPECT feed to OPEN and ends both its conditions. No object but the feed's, the record's and the conditions' changes. Rules: R272 R276 R277 R281 R283 R284. -/
def Obligations.FeedsCloseOpenAndRetry : Prop :=
  ∀ (s : State) (f p : Nat), Settled s → f < 256 → s.blk.feedPort f = some p →
    (let closes (t : State) : Prop := SameArrays s t ∧
       (s.blk.inputQualified f = false → t.blk.feedNext f = fsWAIT_INPUT ∧ (t.blk.feed f).step = 0 ∧ (t.blk.port p).cmdN.head? = some 0) ∧
       (s.blk.inputQualified f = true → s.blk.statusN p 7 = true → (t.blk.feed f).step = 2 ∧
         (s.blk.inTraining p = false → (t.blk.port p).shots.map (·.op) = (s.blk.port p).shots.map (·.op) ++ [osLATCH_RESET])) ∧
       (s.blk.inputQualified f = true → s.blk.statusN p 7 = false → t.blk.feedNext f = fsCLOSING ∧ (t.blk.feed f).step = 4 ∧
         (t.blk.feed f).closeAt = s.blk.glade.ticks + 1 ∧ (t.blk.port p).cmdN.head? = some 4096)
     let inState (l : List Nat) : Prop := s.blk.feedState f ∈ l ∧ s.blk.feedNext f = s.blk.feedState f
     (∀ h a, Due s.blk h 1 a → a.target = f → inState [fsOPEN, fsTRIPPED, fsLOCKED_OUT] → (s.blk.feed f).step = 0 →
       ∃ t, exec (.feedClose h) s = .next t ∧ closes t ∧ t.blk.rdN (Obj.FeedRecord.RetriesUsed f) = 0 ∧ t.blk.entry? h = none ∧
         KeepsObjects (feedObjects f ++ recordObjects) s t) ∧
     (inState [fsWAIT_INPUT] → (s.blk.feed f).step = 0 → s.blk.inputQualified f = true →
       ∃ t, exec (.feedInputQualified f) s = .next t ∧ closes t ∧ KeepsObjects (feedObjects f ++ recordObjects) s t) ∧
     (∀ at', inState [fsTRIPPED] → (s.blk.feed f).retryAt = some at' → at' ≤ s.blk.glade.ticks + 1 →
       ∃ t, exec (.feedRetry f) s = .next t ∧ closes t ∧
         t.blk.rdN (Obj.FeedRecord.RetriesUsed f) = s.blk.rdN (Obj.FeedRecord.RetriesUsed f) + 1 ∧
         KeepsObjects (feedObjects f ++ recordObjects) s t) ∧
     (∀ h a, Due s.blk h 2 a → a.target = f → s.blk.feedNext f ∈ [fsWAIT_INPUT, fsCLOSING, fsCLOSED, fsNO_LINK, fsTRIPPED, fsLOCKED_OUT] →
       ∃ t, exec (.feedOpen h) s = .next t ∧ t.blk.feedNext f = fsOPEN ∧ (t.blk.port p).cmdN.head? = some 0 ∧
         t.blk.rdN (Obj.FeedRecord.RetriesUsed f) = 0 ∧ t.blk.entry? h = none ∧
         (s.blk.feedNext f ∈ [fsWAIT_INPUT, fsCLOSING, fsCLOSED, fsNO_LINK] → t.blk.rdN (Obj.FeedRecord.LastOpenCause f) = ocCOMMANDED) ∧
         KeepsObjects (feedObjects f ++ recordObjects) s t ∧ SameArrays s t) ∧
     (inState [fsCLOSED] → (s.blk.feed f).closedAt + s.blk.rd (Obj.FeedRecord.RetryResetCycles f) * s.blk.glade.nt ≤ s.blk.glade.ticks →
       ∃ t, exec (.retryReset f) s = .next t ∧ t.blk.rdN (Obj.FeedRecord.RetriesUsed f) = 0 ∧ KeepsObjects [Obj.FeedRecord.RetriesUsed f] s t ∧
         OnlyObjects s t ∧ SameArrays s t) ∧
     (s.blk.feedNext f = fsSUSPECT → ∃ t, exec (.clearSuspect f) s = .next t ∧ t.blk.feedNext f = fsOPEN ∧
         t.blk.rdN (Obj.FeedRecord.RetriesUsed f) = 0 ∧ t.blk.isPresent Src.BRK_GATE_SUSPECT f = false ∧
         t.blk.isPresent Src.BRK_PASS_SHORT f = false ∧ KeepsObjects (feedObjects f) s t ∧ SameArrays s t))

/-- O33. A trip opens the feed with its cause, counts, and backs off while retries are left; a bad gate makes it SUSPECT. A feed's opening puts its cause and the tick's place in its record and MODE OPEN in its command for the next tick. CLOSE_TIMEOUT of a CLOSING feed, FEED_CURVE_TRIP of a CLOSED feed in curve mode whose accumulator has reached 1 and FEED_TIMER_TRIP of one in timer mode whose fault timer has run out trip it: TRIPPED with a retry after RetryBackoff times 2 to the retries used while retries are left, LOCKED_OUT with its condition after that, TripCount and FEED_TRIP in both cases. FEED_INPUT_FAULT opens a CLOSED feed with cause INPUT, to WAIT_INPUT where AutoReclose is set. GATE_CHECK in the sample of its tick passes a gate that is up and makes the feed SUSPECT otherwise; PASS_SHORT after 100 ticks makes an open feed SUSPECT. Rules: R277 R278 R279 R280 R281 R282 R283. -/
def Obligations.FeedsTripByCurveTimerInputAndGate : Prop :=
  ∀ (s : State) (f p : Nat), Settled s → f < 256 → s.blk.feedPort f = some p →
    (let inState (l : List Nat) : Prop := s.blk.feedState f ∈ l ∧ s.blk.feedNext f = s.blk.feedState f
     let opened (t : State) (cause st : Nat) : Prop := t.blk.feedNext f = st ∧ t.blk.rdN (Obj.FeedRecord.LastOpenCause f) = cause ∧
       t.blk.rdN (Obj.FeedRecord.LastOpenEpoch f) = s.blk.glade.epoch ∧ t.blk.rdN (Obj.FeedRecord.LastOpenCycle f) = s.blk.glade.cycle ∧
       t.blk.rdN (Obj.FeedRecord.LastOpenTick f) = s.blk.glade.tick ∧ (t.blk.port p).cmdN.head? = some 0 ∧ (t.blk.feed f).step = 0 ∧
       (t.blk.feed f).gateWant = false ∧ (∀ g, g ≠ f → t.blk.feed g = s.blk.feed g) ∧ (∀ q, q ≠ p → t.blk.port q = s.blk.port q) ∧
       KeepsObjects (feedObjects f ++ recordObjects) s t ∧ SameArrays s t
     let used := s.blk.rdN (Obj.FeedRecord.RetriesUsed f)
     let limit := s.blk.rd (Obj.FeedRecord.RetryLimit f)
     let tripped (t : State) (cause : Nat) : Prop := opened t cause (if used < limit then fsTRIPPED else fsLOCKED_OUT) ∧
       t.blk.rd (Obj.FeedRecord.TripCount f) = min (s.blk.rd (Obj.FeedRecord.TripCount f) + 1) 0xFFFFFFFF ∧
       ({ src := Src.FEED_TRIP, inst := f, detail := [(cause : Nat)] } : Report) ∈ t.blk.faults.reports ∧
       (t.blk.feed f).retryAt = (if used < limit then some (s.blk.glade.ticks + s.blk.rd (Obj.FeedRecord.RetryBackoff f) * 2 ^ used * s.blk.glade.nt) else none) ∧
       t.blk.isPresent Src.FEED_LOCKED_OUT f = decide (limit ≤ used)
     (inState [fsCLOSING] → (s.blk.feed f).closeAt + s.blk.rd (Obj.FeedRecord.CloseTimeout f) ≤ s.blk.glade.ticks →
       ∃ t, exec (.closeTimeout f) s = .next t ∧ tripped t ocCLOSE_TIMEOUT) ∧
     (inState [fsCLOSED] → 2 ^ 30 ≤ (s.blk.feed f).acc → s.blk.rd (Obj.FeedRecord.CurveMode f) = 0 →
       ∃ t, exec (.feedCurveTrip f) s = .next t ∧ tripped t ocCURVE) ∧
     (inState [fsCLOSED] → s.blk.rd (Obj.FeedRecord.FaultTimer f) * 10 ^ 6 ≤ (s.blk.feed f).timer → s.blk.rd (Obj.FeedRecord.CurveMode f) = 1 →
       ∃ t, exec (.feedTimerTrip f) s = .next t ∧ tripped t ocTIMER) ∧
     (inState [fsCLOSED] → s.blk.rd (Obj.FeedRecord.InputFaultTicks f) ≤ (s.blk.feed f).inBad →
       ∃ t, exec (.feedInputFault f) s = .next t ∧
         opened t ocINPUT (if s.blk.rd (Obj.FeedRecord.AutoReclose f) = 1 then fsWAIT_INPUT else fsOPEN) ∧
         ({ src := Src.FEED_INPUT_FAULT, inst := f } : Report) ∈ t.blk.faults.reports) ∧
     (∀ r, inState [fsCLOSING, fsCLOSED] → (s.blk.feed f).gateWant = true → (s.blk.feed f).gateAt = s.blk.glade.ticks → (s.blk.port p).entered = some r →
       (bitOf (r.words.getD 6 0) 1 = true → ∃ t, exec (.gateCheck f) s = .next t ∧ t.blk.feed f = { s.blk.feed f with gateWant := false } ∧
         t.blk = { s.blk with feedTab := t.blk.feedTab } ∧ SameArrays s t) ∧
       (bitOf (r.words.getD 6 0) 1 = false → ∃ t, exec (.gateCheck f) s = .next t ∧ opened t ocGATE fsSUSPECT ∧
         t.blk.isPresent Src.BRK_GATE_SUSPECT f = true)) ∧
     (inState [fsOPEN, fsTRIPPED, fsLOCKED_OUT] → 100 ≤ (s.blk.feed f).shortTicks →
       ∃ t, exec (.passShort f) s = .next t ∧ opened t ocPASS_SHORT fsSUSPECT ∧ t.blk.isPresent Src.BRK_PASS_SHORT f = true))

/-- O34. A group's start resets its phases' latches, calibrates, and ends in RUNNING, or fails and stops it. GROUP_START of a STOPPED or OV_LATCHED group with phases, outside GRAVE, waits while a port still carries its 32 ticks of MODE OFF; otherwise the group is STARTING at step 1 from this cycle, with nothing of an earlier run, GROUP_OV ends, and a LATCH_RESET is fired on every phase taken. GROUP_START_ADVANCE after step 3 with every ZERO_CAL done begins step 4 with a read of register 0x36 of each phase and cold spare; with one that failed the start fails; at step 5, in a BAT group or once the output stands within 2 percent of Setpoint with fresh feedback, the group is RUNNING with LastStartResult 1. GROUP_START_TIMEOUT after StartTimeout cycles fails the start: STOPPED with MODE OFF to every phase and result 2, or 3 with the output above Setpoint. PORT_ADMIT_AFTER_OFF makes a port in service ADMITTED. Rules: R181 R182 R183 R227 R292 R612. -/
def Obligations.GroupsStartStepByStepAndStop : Prop :=
  (∀ (s : State) (g : Nat), Settled s → g < 64 →
    (let x := s.blk.group g
     let others (t : State) : Prop := (∀ h, h ≠ g → t.blk.group h = s.blk.group h) ∧ SameArrays s t
     let failed (t : State) (src : Nat) : Prop := t.blk.groupState g = gsSTOPPED ∧ (t.blk.group g).step = 0 ∧ (t.blk.group g).result = 2 ∧
       t.blk.rd (Obj.GroupRecord.LastStartResult g) = (if src = Src.PREBIAS_HIGH then 3 else 2) ∧
       (∀ p ∈ s.blk.groupPorts g, (t.blk.port p).cmdN = [0, 0, 0, 0]) ∧ ({ src := src, inst := g } : Report) ∈ t.blk.faults.reports ∧
       KeepsObjects (stopObjects s.blk g) s t ∧ others t
     ((s.blk.groupState g = gsSTOPPED ∨ s.blk.groupState g = gsOV_LATCHED) → s.blk.groupPorts g ≠ [] → s.blk.inGrave = false →
       ((s.blk.groupPorts g).any (fun p => (s.blk.port p).offUntil.isSome) = true →
         ∃ t, exec (.groupStart g) s = .next t ∧ t.blk.group g = { x with waiting := true, result := 0, startAt := s.blk.glade.cycles } ∧
           t.blk = { s.blk with groupTab := t.blk.groupTab } ∧ others t) ∧
       ((s.blk.groupPorts g).any (fun p => (s.blk.port p).offUntil.isSome) = false →
         ∃ t, exec (.groupStart g) s = .next t ∧ t.blk.groupState g = gsSTARTING ∧ t.blk.isPresent Src.GROUP_OV g = false ∧
           (t.blk.group g).step = 1 ∧ (t.blk.group g).startAt = s.blk.glade.cycles ∧ (t.blk.group g).waiting = false ∧ (t.blk.group g).result = 0 ∧
           (t.blk.group g).veff = 0 ∧ (t.blk.group g).iint = 0 ∧ (t.blk.group g).ig = 0 ∧
           (∀ p ∈ (t.blk.group g).phases, s.blk.inTraining p = false → osLATCH_RESET ∈ (t.blk.port p).shots.map (·.op)) ∧
           KeepsObjects (Obj.GroupRecord.State g :: Obj.SourceConfig.PresentInstances Src.GROUP_OV :: Obj.SourceConfig.PresentInstances Src.GROUP_SHORT ::
             ((s.blk.units g).flatten.map Obj.PortRecord.Role ++ (s.blk.groupFeeds g).flatMap (fun f => Obj.FeedRecord.CapNotices f :: feedObjects f) ++
              recordObjects)) s t ∧ others t)) ∧
     (s.blk.groupState g = gsSTARTING → x.step = 3 → s.blk.shotsDone osZERO_CAL x.phases = true →
       (s.blk.shotsOk osZERO_CAL x.phases = true → ∃ t, exec (.groupStartAdvance g) s = .next t ∧ t.blk.group g = { x with step := 4 } ∧
         (∀ p ∈ x.phases ++ x.spares, ({ write := false, addr := 0x36 } : Cfg) ∈ (t.blk.port p).cfg ∨ (s.blk.port p).cfg.any (fun c => !c.write && c.addr == 0x36) = true) ∧
         (∀ p, p ∉ x.phases ++ x.spares → t.blk.port p = s.blk.port p) ∧
         t.blk = { s.blk with groupTab := t.blk.groupTab, ports := t.blk.ports } ∧ others t) ∧
       (s.blk.shotsOk osZERO_CAL x.phases = false → ∃ t, exec (.groupStartAdvance g) s = .next t ∧ failed t Src.GROUP_START_FAIL)) ∧
     (s.blk.groupState g = gsSTARTING → x.step = 5 →
       (let sp : Int := (s.blk.rd (Obj.GroupRecord.Setpoint g) * 1000 : Nat)
        s.blk.groupClass g = 3 ∨ (x.veff = sp ∧ x.stale = 0 ∧ (x.fb - sp).natAbs * 50 ≤ sp.natAbs)) →
       ∃ t, exec (.groupStartAdvance g) s = .next t ∧ t.blk.groupState g = gsRUNNING ∧ t.blk.rd (Obj.GroupRecord.LastStartResult g) = 1 ∧
         t.blk.group g = { x with step := 0, result := 1 } ∧
         (s.blk.groupClass g = 1 → s.blk.holdupState = huSTOPPED → t.blk.holdupState = huMAINS) ∧
         (∀ n, s.blk.groupString g = some n → n < 16 → t.blk.stringMode n = smREST) ∧ KeepsObjects (stopObjects s.blk g) s t ∧ others t) ∧
     (s.blk.groupState g = gsSTARTING → x.startAt + s.blk.rd (Obj.GroupRecord.StartTimeout g) ≤ s.blk.glade.cycles →
       ∃ t, exec (.groupStartTimeout g) s = .next t ∧ failed t (if x.prebias then Src.PREBIAS_HIGH else Src.GROUP_START_FAIL)))) ∧
  (∀ (s : State) (p at' : Nat), Settled s → p < 512 → (s.blk.port p).offUntil = some at' → at' ≤ s.blk.glade.ticks + 1 →
    ∃ t, exec (.portAdmitAfterOff p) s = .next t ∧ t.blk.port p = { s.blk.port p with offUntil := none } ∧
      t.blk.portState p = (if s.blk.portState p = psIN_SERVICE then psADMITTED else s.blk.portState p) ∧
      (∀ q, q ≠ p → t.blk.port q = s.blk.port q) ∧ KeepsObjects [Obj.PortRecord.PortState p] s t ∧
      t.blk = { s.blk with ports := t.blk.ports, dict := t.blk.dict, wimg := t.blk.wimg } ∧ SameArrays s t)

/-- O35. A unit is shed after ShedDelay, a setpoint is taken when it passes its checks, lost feedback is a condition. THIN_SHED of a RUNNING group whose command has been low for ShedDelay cycles puts the switching unit that R178 names in SHED in the next tick, counts it in ThinEvents, reports THIN_SHED and begins the delay again, and touches no port of another group; before that, or with nothing switching, it changes nothing. GROUP_SENSE_LOST of a group that starts or runs after 4 ticks without fresh feedback makes the condition present for it, with a report where it was not. GROUP_SETPOINT firing with an argument that passes the checks of R189 is the group's Setpoint; another is refused with SETPOINT_REFUSED and leaves it. Nothing else changes but the entry and its record. Rules: R169 R170 R177 R189. -/
def Obligations.GroupsShedSetpointsAndSenseLoss : Prop :=
  (∀ (s : State) (g : Nat), Settled s → g < 64 →
    (let due := s.blk.groupState g = gsRUNNING ∧ s.blk.rd (Obj.GroupRecord.ShedDelay g) * s.blk.glade.nt ≤ (s.blk.group g).low
     (∀ u, due → s.blk.shedUnit g = some u → ∃ t, exec (.thinShed g) s = .next t ∧ (∀ p ∈ u, (t.blk.port p).cmdN.headD 0 / 4096 = mdSHED) ∧
       t.blk.rd (Obj.GroupRecord.ThinEvents g) = min (s.blk.rd (Obj.GroupRecord.ThinEvents g) + 1) 0xFFFFFFFF ∧
       Reports s t [{ src := Src.THIN_SHED, inst := g, detail := [(Block.unitPort u : Nat)] }] ∧
       t.blk.group g = { s.blk.group g with low := 0 } ∧ (∀ h, h ≠ g → t.blk.group h = s.blk.group h) ∧
       (∀ p, p ∉ s.blk.groupPorts g → t.blk.port p = s.blk.port p) ∧
       KeepsObjects [Obj.GroupRecord.ThinEvents g, Obj.GroupRecord.RunPhases g] s t ∧ SameArrays s t) ∧
     (¬ due → exec (.thinShed g) s = .next s) ∧ (s.blk.shedUnit g = none → exec (.thinShed g) s = .next s) ∧
     (4 ≤ (s.blk.group g).stale → (s.blk.groupState g = gsRUNNING ∨ s.blk.groupState g = gsSTARTING) →
       ∃ t, exec (.groupSenseLost g) s = .next t ∧ t.blk.isPresent Src.GROUP_SENSE_LOST g = true ∧
         t.blk.faults.reports = s.blk.faults.reports ++ (if s.blk.isPresent Src.GROUP_SENSE_LOST g then [] else [{ src := Src.GROUP_SENSE_LOST, inst := g }]) ∧
         KeepsObjects [Obj.SourceConfig.PresentInstances Src.GROUP_SENSE_LOST] s t ∧ SameArrays s t))) ∧
  (∀ (s : State) (h : Nat) (a : Action), Settled s → Due s.blk h 5 a → a.target < 64 →
    ∃ t, exec (.groupSetpoint h) s = .next t ∧ t.blk.entry? h = none ∧ SameArrays s t ∧
      (s.blk.setpointOk a.target a.arg = true → t.blk.rd (Obj.GroupRecord.Setpoint a.target) = a.arg ∧ t.blk.faults = s.blk.faults ∧
        KeepsObjects (Obj.GroupRecord.Setpoint a.target :: recordObjects) s t) ∧
      (s.blk.setpointOk a.target a.arg = false → Reports s t [{ src := Src.SETPOINT_REFUSED, inst := a.target, detail := [(a.arg : Nat)] }] ∧
        KeepsObjects recordObjects s t))

/-- O36. SEQ_UP and SEQ_RETRY start an attempt and SEQ_DOWN a down, with every member's due tick from the common start. SEQ_UP firing takes the sequence to GOING_UP from the tick that opens next, with the members of its slot entries in entry order, each due at the common start plus its on-slot, no retry used, and the planned place as its start. SEQ_RETRY firing on a sequence in RETRY_WAIT does the same and counts the retry. SEQ_DOWN firing takes it to GOING_DOWN with every member due at its off-slot, ends what ran, returns RetriesUsed to 0, and where an attempt, an undo or a retry was under way its LastResult is 5, superseded. Only the sequence's record, its entries' counts and what the record of the action writes change, and no other sequence's members. Rules: R313 R314 R318 R319 R320 R326. -/
def Obligations.SequencesRunTheirMembersAndRetry : Prop :=
  ∀ (s : State) (h : Nat) (a : Action), Settled s → a.target < 16 →
    (let q := a.target
     let others (t : State) : Prop := (∀ k, k ≠ q → t.blk.seq k = s.blk.seq k) ∧ t.blk.entry? h = none ∧
       t.blk.rd (Obj.SequenceRecord.StartEpoch q) = a.epoch ∧ t.blk.rd (Obj.SequenceRecord.StartCycle q) = a.cycle ∧
       t.blk.rd (Obj.SequenceRecord.StartAngle q) = a.angle ∧ KeepsObjects (sequenceObjects s.blk q) s t ∧ SameArrays s t
     let attempt (t : State) : Prop := t.blk.seqState q = sqGOING_UP ∧ t.blk.seq q =
         { s.blk.seq q with members := s.blk.seqMembers q (s.blk.glade.ticks + 1) s.blk.onSlot, downs := [], fail := none, seen := 0, angle := a.angle } ∧
       t.blk.rd (Obj.SequenceRecord.MembersTotal q) = (t.blk.seq q).members.length ∧ t.blk.rd (Obj.SequenceRecord.MembersUp q) = 0 ∧ others t
     (Due s.blk h 3 a → ∃ t, exec (.seqUp h) s = .next t ∧ attempt t ∧ t.blk.rd (Obj.SequenceRecord.RetriesUsed q) = 0) ∧
     (Due s.blk h opSEQ_RETRY a → s.blk.seqState q = sqRETRY_WAIT → ∃ t, exec (.seqRetry h) s = .next t ∧ attempt t ∧
       t.blk.rd (Obj.SequenceRecord.RetriesUsed q) = min (s.blk.rd (Obj.SequenceRecord.RetriesUsed q) + 1) 255) ∧
     (Due s.blk h 4 a → ∃ t, exec (.seqDown h) s = .next t ∧ t.blk.seqState q = sqGOING_DOWN ∧ t.blk.seq q =
         { s.blk.seq q with members := [], downs := s.blk.seqMembers q (s.blk.glade.ticks + 1) s.blk.offSlot, fail := none, seen := 0 } ∧
       t.blk.rd (Obj.SequenceRecord.RetriesUsed q) = 0 ∧
       (s.blk.seqState q ∈ [sqGOING_UP, sqUNDOING, sqRETRY_WAIT] → t.blk.rd (Obj.SequenceRecord.LastResult q) = 5) ∧ others t))

/-- O37. A member due in an attempt is commanded, one in a down is taken off, and one not up in time fails. SEQ_MEMBER_ON_DUE of a waiting member of a running attempt: UP where it is up already; a feed that serves and is neither locked out nor suspect is COMMANDED, one that does not serve fails with reason 5, and a STOPPED group that can start is COMMANDED. SEQ_MEMBER_OFF_DUE of a waiting member of a down commands it: a feed that is CLOSED opens with cause COMMANDED. SEQ_UP_TIMEOUT of a commanded member that is not up fails it with reason 2: counted with its unit and place, the attempt failed where its entry is critical, SEQ_MEMBER_FAIL otherwise. SEQ_SNAPSHOT_RELEASE frees the area. ABORT_SEQUENCE of a running sequence is put off by 400 ticks and its session waits; of another it answers 1. Rules: R315 R316 R320 R323 R325 R329 R511. -/
def Obligations.MembersComeUpGoDownAndFail : Prop :=
  (∀ (s : State) (e i : Nat) (m : Member), Settled s → e < 128 → s.blk.rd (Obj.SlotEntry.Sequence e) < 16 →
    (let q := s.blk.rd (Obj.SlotEntry.Sequence e)
     let marked (t : State) (v : Nat) : Prop :=
       t.blk.seq q = { s.blk.seq q with members := Block.putMember (s.blk.seq q).members { m with status := v, since := s.blk.glade.ticks } } ∧
       (∀ k, k ≠ q → t.blk.seq k = s.blk.seq k) ∧ SameArrays s t
     let failObjects := [Obj.SlotEntry.FailCount m.entry, Obj.SlotEntry.LastFailUnit m.entry, Obj.SlotEntry.LastFailReason m.entry,
       Obj.SlotEntry.LastFailEpoch m.entry, Obj.SlotEntry.LastFailCycle m.entry, Obj.SlotEntry.LastFailTick m.entry]
     let fails (t : State) (reason : Nat) : Prop := t.blk.rd (Obj.SlotEntry.FailCount m.entry) = min (s.blk.rd (Obj.SlotEntry.FailCount m.entry) + 1) 0xFFFFFFFF ∧
       t.blk.rd (Obj.SlotEntry.LastFailUnit m.entry) = m.unit ∧ t.blk.rd (Obj.SlotEntry.LastFailReason m.entry) = reason ∧
       t.blk.rd (Obj.SlotEntry.LastFailTick m.entry) = s.blk.glade.tick ∧
       (s.blk.rd (Obj.SlotEntry.Critical m.entry) = 1 → (t.blk.seq q).fail.isSome = true ∧ t.blk.faults = s.blk.faults) ∧
       (s.blk.rd (Obj.SlotEntry.Critical m.entry) ≠ 1 → marked t msFAILED ∧
         Reports s t [{ src := Src.SEQ_MEMBER_FAIL, inst := m.entry, detail := [(m.unit : Nat), (reason : Nat)] }]) ∧ KeepsObjects failObjects s t ∧ SameArrays s t
     (s.blk.seqState q = sqGOING_UP → s.blk.findMember (s.blk.seq q).members e i = some m → m.status = msWAITING → m.due ≤ s.blk.glade.ticks + 1 →
       (s.blk.memberUp m = true → ∃ t, exec (.seqMemberOnDue e i) s = .next t ∧ marked t msUP ∧ t.blk = { s.blk with seqTab := t.blk.seqTab }) ∧
       (∀ p, s.blk.memberUp m = false → m.kind = kdFEED → s.blk.feedPort m.unit = some p → s.blk.portState p = psIN_SERVICE →
         s.blk.feedNext m.unit ≠ fsLOCKED_OUT → s.blk.feedNext m.unit ≠ fsSUSPECT → ∃ t, exec (.seqMemberOnDue e i) s = .next t ∧ marked t msCOMMANDED ∧
           KeepsObjects (feedObjects m.unit ++ recordObjects) s t) ∧
       (∀ p, s.blk.memberUp m = false → m.kind = kdFEED → s.blk.feedPort m.unit = some p → s.blk.portState p ≠ psIN_SERVICE →
         ∃ t, exec (.seqMemberOnDue e i) s = .next t ∧ fails t 5) ∧
       (m.kind = kdGROUP → s.blk.groupState m.unit = gsSTOPPED → s.blk.rd (Obj.GroupRecord.SupplyState m.unit) ≠ ssBELOW_MIN →
         ∃ t, exec (.seqMemberOnDue e i) s = .next t ∧ marked t msCOMMANDED)) ∧
     (s.blk.seqState q = sqGOING_UP → s.blk.findMember (s.blk.seq q).members e i = some m → m.status = msCOMMANDED →
       m.due + s.blk.rd (Obj.SlotEntry.UpTimeout e) ≤ s.blk.glade.ticks →
       (s.blk.memberUp m = true → ∃ t, exec (.seqUpTimeout e i) s = .next t ∧ marked t msUP ∧ t.blk = { s.blk with seqTab := t.blk.seqTab }) ∧
       (s.blk.memberUp m = false → ∃ t, exec (.seqUpTimeout e i) s = .next t ∧ fails t 2)) ∧
     (∀ p, s.blk.seqState q ∈ [sqGOING_DOWN, sqUNDOING] → s.blk.findMember (s.blk.seq q).downs e i = some m → m.status = msWAITING →
       m.due ≤ s.blk.glade.ticks + 1 → s.blk.findMember (s.blk.seq q).forced e i = none → m.kind = kdFEED → s.blk.feedPort m.unit = some p →
       s.blk.feedNext m.unit = fsCLOSED →
       ∃ t, exec (.seqMemberOffDue e i) s = .next t ∧ t.blk.feedNext m.unit = fsOPEN ∧ t.blk.rdN (Obj.FeedRecord.LastOpenCause m.unit) = ocCOMMANDED ∧
         t.blk.seq q = { s.blk.seq q with downs := Block.putMember (s.blk.seq q).downs { m with status := msCOMMANDED } } ∧
         KeepsObjects (feedObjects m.unit ++ recordObjects) s t ∧ SameArrays s t))) ∧
  (∀ (s : State) (a : Nat), Settled s → a < 8 → ∃ t, exec (.seqSnapshotRelease a) s = .next t ∧
    t.blk.rd Obj.SeqSnapshotStatus.AreasHeld = putBit (s.blk.rd Obj.SeqSnapshotStatus.AreasHeld) a false ∧
    KeepsObjects [Obj.SeqSnapshotStatus.AreasHeld] s t ∧ OnlyObjects s t ∧ SameArrays s t) ∧
  (∀ (s : State) (n q : Nat), Settled s → n < 32 → q < 16 →
    (s.blk.seqRuns q = true → ∃ t, exec (.abortSequence n q) s = .next t ∧
      t.blk.seq q = { s.blk.seq q with abortAt := some ((s.blk.seq q).abortAt.getD (s.blk.glade.ticks + 400)) } ∧
      (t.blk.sess n).abort = some (2, q, s.blk.glade.ticks) ∧ t.blk.rd (sk n Obj.Abort.Result) = 5 ∧
      KeepsObjects [sk n Obj.Abort.Result, sk n Obj.Abort.Elapsed] s t ∧ SameArrays s t) ∧
    (s.blk.seqRuns q = false → ∃ t, exec (.abortSequence n q) s = .next t ∧ t.blk.rd (sk n Obj.Abort.Result) = 1 ∧
      KeepsObjects [sk n Obj.Abort.Result, sk n Obj.Abort.Elapsed] s t ∧ OnlyObjects s t ∧ SameArrays s t))

/-- O38. A string's test runs when it may, full and open-circuit anchors set its Soc, the cutoff ends its support. STRING_TEST firing on a string that may be tested starts the test in mode TEST with its current, voltage and length kept; on another it is refused with status 3. STRING_TEST_END at the end of its cycles records the resistance, a free value where the current has not changed, and the string rests next. STRING_FULL after TaperCycles anchors Soc at 100 percent. OCV_ANCHOR after RestCycles of rest takes the Soc of the table where its segment rises by OcvMinSlope, once a rest. CUTOFF_VOLTAGE after CutoffTicks puts the discharge level at 3, holds Soc under CutoffSoc and takes the string out of the support set. STRING_STORE stores its values once 3,000 cycles have passed. PRESENCE_GAIN after PresenceCycles in-band results makes the string PRESENT with PACK_INSERTED. Rules: R249 R250 R251 R252 R253 R256 R257 R258 R261 R262. -/
def Obligations.StringsAreSensedTestedAndAnchored : Prop :=
  (∀ (s : State) (h : Nat) (a : Action), Settled s → Due s.blk h 10 a → a.target < 16 →
    (let n := a.target
     let v := s.blk.rdI 32 (Obj.StringRecord.Voltage n)
     let rec' : Int := (s.blk.recGroup.map (fun g => (s.blk.group g).ig)).getD 0
     (s.blk.holdupState = huMAINS → s.blk.stringMode n ∈ [smREST, smCHARGE] → s.blk.rd (Obj.StringRecord.DischargeLevel n) < 2 →
       a.arg * 1000 ≤ s.blk.rd (Obj.StringRecord.DischargeLimit n) → 10 * (a.arg * 10 ^ 9 : Nat) * (v * 1000) ≤ 8 * rec' * s.blk.holdup.busMean →
       s.blk.rd (Obj.StringRecord.TestStatus n) ≠ 1 →
       ∃ t, exec (.stringTest h) s = .next t ∧ t.blk.rd (Obj.StringRecord.TestStatus n) = 1 ∧ t.blk.stringMode n = smTEST ∧
         t.blk.bat n = { s.blk.bat n with testI := (a.arg * 10 ^ 9 : Nat), testV := v, testPre := s.blk.rdI 32 (Obj.StringRecord.Current n), testLeft := s.blk.rd (Obj.StringRecord.StringTestCycles n) + 1 } ∧
         t.blk.entry? h = none ∧ KeepsObjects (stringObjects n ++ recordObjects) s t ∧ SameArrays s t) ∧
     (s.blk.holdupState ≠ huMAINS → ∃ t, exec (.stringTest h) s = .next t ∧ t.blk.rd (Obj.StringRecord.TestStatus n) = 3 ∧
         t.blk.stringMode n = s.blk.stringMode n ∧ Reports s t [{ src := Src.STRING_TEST_REFUSED, inst := n }] ∧
         KeepsObjects (Obj.StringRecord.TestStatus n :: recordObjects) s t ∧ SameArrays s t))) ∧
  (∀ (s : State) (n : Nat), Settled s → n < 16 →
    (let x := s.blk.bat n
     let others (t : State) : Prop := (∀ m, m ≠ n → t.blk.bat m = s.blk.bat m) ∧ SameArrays s t
     let anchored (t : State) (soc : Nat) : Prop := t.blk.rd (Obj.StringRecord.Soc n) = soc ∧ t.blk.rd (Obj.StringRecord.LastAnchorSoc n) = soc ∧
       (t.blk.bat n).q = (t.blk.bat n).cap * soc / 10000 ∧ (t.blk.bat n).dq = 0 ∧ (t.blk.bat n).anchored = true ∧
       t.blk.estFlag n efSOC_COARSE = false ∧ t.blk.estFlag n efQ_CLAMPED = false ∧ KeepsObjects (stringObjects n) s t ∧ others t
     (s.blk.rd (Obj.StringRecord.TestStatus n) = 1 → x.testLeft = 0 → s.blk.meas.delivered = true →
       ∃ t, exec (.stringTestEnd n) s = .next t ∧ t.blk.rd (Obj.StringRecord.TestStatus n) = 2 ∧ t.blk.bat n = { x with nextMode := some smREST } ∧
         Reports s t [{ src := Src.STRING_TEST_DONE, inst := n }] ∧
         (let di := s.blk.rdI 32 (Obj.StringRecord.Current n) - x.testPre
          let dv := x.testV - s.blk.rdI 32 (Obj.StringRecord.Voltage n)
          di ≠ 0 → t.blk.rd (Obj.StringRecord.InternalResistance n) = (clampI 0 0xFFFFFFFF (roundDiv (dv * 10 ^ 6) di)).toNat ∧ t.blk.free = s.blk.free) ∧
         KeepsObjects [Obj.StringRecord.TestStatus n, Obj.StringRecord.InternalResistance n] s t ∧ others t) ∧
     (s.blk.stringMode n = smCHARGE → s.blk.rd (Obj.StringRecord.TaperCycles n) ≤ x.taper →
       ∃ t, exec (.stringFull n) s = .next t ∧ anchored t 10000 ∧ (t.blk.bat n).nextMode = some smREST ∧ (t.blk.bat n).taper = 0) ∧
     (∀ seg, x.ocvDone = false → s.blk.rd (Obj.StringRecord.RestCycles n) ≤ x.rest → s.blk.ocvSegment n (s.blk.cellVolts n) = some seg → seg.2.1 < seg.2.2 →
       s.blk.rd (Obj.StringRecord.OcvMinSlope n) ≤ seg.2.2 - seg.2.1 →
       ∃ t, exec (.ocvAnchor n) s = .next t ∧ anchored t (Block.ocvSoc (s.blk.cellVolts n) seg) ∧ (t.blk.bat n).ocvDone = true) ∧
     (x.ocvDone = true → exec (.ocvAnchor n) s = .next s) ∧
     (s.blk.rd (Obj.StringRecord.CutoffTicks n) ≤ x.cutTicks → s.blk.rd (Obj.StringRecord.DischargeLevel n) ≠ 3 →
       ∃ t, exec (.cutoffVoltage n) s = .next t ∧ t.blk.rd (Obj.StringRecord.DischargeLevel n) = 3 ∧
         t.blk.rd (Obj.StringRecord.Soc n) = min (s.blk.rd (Obj.StringRecord.Soc n)) (s.blk.rd (Obj.StringRecord.CutoffSoc n)) ∧
         t.blk.estFlag n efSOC_COARSE = true ∧ (t.blk.bat n).support = false ∧ (t.blk.bat n).charged = false ∧ t.blk.stringMode n ≠ smSUPPORT ∧
         t.blk.rd (Obj.StringRecord.DischargeLimit n) = 0 ∧ t.blk.isPresent Src.BAT_CUTOFF n = true ∧
         KeepsObjects (stringObjects n ++ (List.range 16).map Obj.StringRecord.SupportWeight) s t ∧ others t) ∧
     (s.blk.stringOn n = true → x.storedAt + 3000 ≤ s.blk.glade.cycles → s.blk.heartwoodRefuses (Block.setAddress 8) = false →
       ∃ t, exec (.stringStore n) s = .next t ∧ (t.blk.bat n).storedAt = s.blk.glade.cycles ∧ (t.blk.bat n).store.q = x.q ∧
         (t.blk.bat n).store.cap = x.cap ∧ (t.blk.bat n).store.packId = s.blk.rd (Obj.StringRecord.PackId n) ∧
         (t.blk.bat n).store.anchorSoc = s.blk.rd (Obj.StringRecord.LastAnchorSoc n) ∧ (t.blk.bat n).storeBefore = x.store ∧
         t.blk = { s.blk with stringTab := t.blk.stringTab } ∧ others t) ∧
     (s.blk.stringOn n = true → s.blk.rd (Obj.StringRecord.Presence n) ≠ prPRESENT → s.blk.rd (Obj.StringRecord.PresenceCycles n) ≤ x.inBand →
       ∃ t, exec (.presenceGain n) s = .next t ∧ t.blk.rd (Obj.StringRecord.Presence n) = prPRESENT ∧ t.blk.isPresent Src.STRING_ABSENT n = false ∧
         t.blk.isPresent Src.STRING_THERM_SHORT n = false ∧ ({ src := Src.PACK_INSERTED, inst := n } : Report) ∈ t.blk.faults.reports ∧
         (t.blk.bat n).absentSeen = false ∧ (t.blk.bat n).startWanted = true ∧ KeepsObjects ((List.range 16).flatMap stringObjects) s t ∧ SameArrays s t)))

/-- O39. A pack is authenticated by the HMAC of a fresh nonce and its id; a wrong answer, a silent pack and an abort end otherwise. AUTHENTICATE and AUTH_INTERVAL_EXPIRY on the holder, for a string with a port and no attempt running, queue an attempt with Identity PENDING. AUTH_START on a free port writes a nonce of 16 free bytes and counts the attempt; where the pack took it the response is due, otherwise the write is repeated by AUTH_NACK_RETRY, whose failure is NO_RESPONSE. AUTH_READ of 41 bytes with an even first byte is AUTHENTICATED, with the pack's id and the next attempt after AuthInterval, where the 32 bytes are the HMAC of nonce and id under the string's key, and AUTH_FAILED after 500 cycles, counted, otherwise; a bad read is repeated by AUTH_REREAD, whose failure is PACK_ID_CONFLICT. ABORT_AUTHENTICATION of a running attempt restores the Identity before it and answers 0; without one it answers 1. Rules: R258 R263 R264 R265 R511 R512. -/
def Obligations.PacksAnswerAChallenge : Prop :=
  ∀ (s : State) (n : Nat), Settled s → n < 16 →
    (let x := s.blk.bat n
     let k := s.blk.rd (Obj.StringRecord.AuthPort n)
     let identity (t : State) : Nat := t.blk.rd (Obj.StringRecord.Identity n)
     let others (t : State) : Prop := (∀ m, m ≠ n → t.blk.bat m = s.blk.bat m) ∧ SameArrays s t
     let queued (t : State) : Prop := t.blk.bat n = { x with auth := 1, identityBefore := identity s, nextAuth := none } ∧ identity t = idPENDING ∧
       KeepsObjects (stringObjects n) s t ∧ others t
     let served : Prop := k ∈ [1, 2, 3] ∧ (s.blk.twPort k).cur = none ∧ s.blk.twStuck k = false ∧ s.blk.faults.pecLeft = 0
     let onWire (t : State) : Prop := t.blk.rd (Obj.TwPortStatus.Transactions k) = min (s.blk.rd (Obj.TwPortStatus.Transactions k) + 1) 0xFFFFFFFF ∧
       KeepsObjects (stringObjects n ++ wireObjects k) s t ∧ others t
     let ended (t : State) (v wait : Nat) : Prop := identity t = v ∧ (t.blk.bat n).auth = 0 ∧ (t.blk.bat n).nonce = [] ∧
       (t.blk.bat n).nextAuth = some (s.blk.glade.cycles + wait) ∧ t.blk.rd (Obj.StringRecord.LastAuthCycle n) = s.blk.glade.cycle ∧
       t.blk.rd (Obj.StringRecord.AuthFailures n) = (if v = idAUTHENTICATED then s.blk.rd (Obj.StringRecord.AuthFailures n)
         else min (s.blk.rd (Obj.StringRecord.AuthFailures n) + 1) 0xFFFFFFFF) ∧ onWire t
     (s.blk.isHolder = true → k ≠ 0 → x.auth = 0 → (∃ t, exec (.authenticate n) s = .next t ∧ queued t) ∧
       (∀ c, x.nextAuth = some c → c ≤ s.blk.glade.cycles → ∃ t, exec (.authIntervalExpiry n) s = .next t ∧ queued t)) ∧
     (served → s.blk.isHolder = true → s.blk.authFree n = true → x.auth = 2 → ∀ o, o < 5 →
       ∃ t, exec (.authStart n o) s = .next t ∧ (t.blk.bat n).nonce.length = 16 ∧ (t.blk.bat n).auth = (if o = twOK then 3 else 4) ∧
         t.blk.rd (Obj.StringRecord.AuthAttempts n) = min (s.blk.rd (Obj.StringRecord.AuthAttempts n) + 1) 0xFFFFFFFF ∧ identity t = identity s ∧ onWire t) ∧
     (served → x.auth = 4 → (∃ t, exec (.authNackRetry n twOK) s = .next t ∧ t.blk.bat n = { x with auth := 3 } ∧ identity t = identity s ∧ onWire t) ∧
       (∃ t, exec (.authNackRetry n twNACK_ADDRESS) s = .next t ∧ ended t idNO_RESPONSE 500)) ∧
     (∀ data : List Nat, served → data.length = 41 → data.headD 0 % 2 = 0 →
       (let id := (data.drop 1).take 8
        let good := hmac256 (s.blk.authKey n) (x.nonce ++ id) = data.drop 9
        let settled (t : State) : Prop := (good → ended t idAUTHENTICATED (s.blk.rd (Obj.StringRecord.AuthInterval n)) ∧
            t.blk.rd (Obj.StringRecord.PackId n) = beValue id) ∧ (¬ good → ended t idAUTH_FAILED 500)
        (x.auth = 3 → ∃ t, exec (.authRead n twOK data) s = .next t ∧ settled t) ∧ (x.auth = 5 → ∃ t, exec (.authReread n twOK data) s = .next t ∧ settled t))) ∧
     (served → x.auth = 3 → ∃ t, exec (.authRead n twNACK_DATA []) s = .next t ∧ t.blk.bat n = { x with auth := 5 } ∧ identity t = identity s ∧ onWire t) ∧
     (served → x.auth = 5 → ∃ t, exec (.authReread n twNACK_DATA []) s = .next t ∧ ended t idPACK_ID_CONFLICT 500) ∧
     (∀ m, m < 32 → k ≤ 3 → (∀ e ∈ s.blk.sessions, ∀ since, e.2.abort ≠ some (3, n, since)) →
       (x.auth ≠ 0 → ∃ t, exec (.abortAuthentication m n) s = .next t ∧ identity t = x.identityBefore ∧ (t.blk.bat n).auth = 0 ∧ (t.blk.bat n).nonce = [] ∧
         t.blk.rd (sk m Obj.Abort.Result) = 0 ∧
         KeepsObjects (sk m Obj.Abort.Result :: sk m Obj.Abort.Elapsed :: (stringObjects n ++ wireObjects k)) s t ∧ others t) ∧
       (x.auth = 0 → ∃ t, exec (.abortAuthentication m n) s = .next t ∧ t.blk.rd (sk m Obj.Abort.Result) = 1 ∧
         KeepsObjects [sk m Obj.Abort.Result, sk m Obj.Abort.Elapsed] s t ∧ OnlyObjects s t ∧ SameArrays s t)))

/-- O40. A write is checked in order; a read-only object ignores it, a session object takes it, a staged one joins the open bundle. OBJECT_WRITE to an object that does not exist answers DICT_NO_OBJECT or DICT_NO_SUBINDEX, and with a length that does not fit its type DICT_TYPE_LENGTH; to a read-only object it answers DICT_OK and changes nothing. A value in range written to SnapshotSession RequestCycle is in the session's own copy at once. A staged write of a session with an open bundle, not refused in GRAVE or while ARCHIVED and within the limits of staging, is the bundle's write of that object, the last one if it had one, and changes no object. Only the session's reply, the bundle and the counts change. Rules: R91 R96 R98 R100 R484 R487. -/
def Obligations.ObjectWritesAreCheckedAndServed : Prop :=
  ∀ (s : State) (n index sub : Nat) (data : List Nat), Settled s → n < 32 → index < 65536 → sub < 256 →
    (let key := objKey index sub
     let told (t : State) (r : Reply) : Prop := (t.blk.sess n).reply = r ∧ (∀ m, m ≠ n → t.blk.sess m = s.blk.sess m) ∧ SameArrays s t
     let refused (t : State) (r : Reply) : Prop := told t r ∧ t.blk = { s.blk with sessions := t.blk.sessions }
     (objectStatus key ≠ dsOK → ∃ t, exec (.objectWrite n index sub data) s = .next t ∧ refused t { status := objectStatus key, flags := flRESPONSE }) ∧
     (objectStatus key = dsOK → lengthOk key data.length = false →
       ∃ t, exec (.objectWrite n index sub data) s = .next t ∧ refused t { status := dsTYPE_LENGTH, flags := flRESPONSE }) ∧
     (objectStatus key = dsOK → lengthOk key data.length = true → objectAccess key = .ro →
       ∃ t, exec (.objectWrite n index sub data) s = .next t ∧ refused t { flags := flRESPONSE }) ∧
     (key = Obj.SnapshotSession.RequestCycle → data.length = 4 → s.blk.nowInRange key (leValue data) = true →
       ∃ t, exec (.objectWrite n index sub data) s = .next t ∧ t.blk.rd (sk n key) = leValue data ∧ told t { flags := flRESPONSE } ∧
         KeepsObjects [sk n key] s t) ∧
     (objectStatus key = dsOK → lengthOk key data.length = true → objectAccess key ≠ .ro → objectMode key = .staged → s.blk.graveRefuses key = false →
       s.blk.archiveRefuses key = false → (s.blk.sess n).bundle = true →
       (let ws := Block.putStaged (s.blk.sess n).staged key data
        Block.stagedBytes ws ≤ 131072 → s.blk.stagingUsed - Block.stagedBytes (s.blk.sess n).staged + Block.stagedBytes ws ≤ 524288 →
        ∃ t, exec (.objectWrite n index sub data) s = .next t ∧ t.blk.sess n = { s.blk.sess n with staged := ws, reply := { flags := flRESPONSE } } ∧
          told t { flags := flRESPONSE } ∧ t.blk.rd (sk n Obj.CommitSession.Entries) = ws.length ∧ t.blk.rd (sk n Obj.CommitSession.Bytes) = Block.stagedBytes ws ∧
          KeepsObjects [sk n Obj.CommitSession.Entries, sk n Obj.CommitSession.Bytes, Obj.CanopyStatus.StagingUsed, Obj.CanopyStatus.CommitsPending] s t)))

/-- O41. EDP opens the first free session, serves each request once under its id, and closes a session with all it holds. EDP_OPEN at an address answered here, with a BufferSize of 512 to 1,408 and a session free, opens the lowest free one with that size and names it. A request of an open EDP session served here whose id lies ahead of those cached restarts its idle time, and its response is cached, waiting where a partner must confirm it; reads are answered at once. EDP_READ answers the little-endian value of a scalar object, EDP_READ_SEG the bytes of its transfer's copy from the offset, EDP_WRITE writes an object or starts a transfer, EDP_WRITE_SEG adds bytes to it, EDP_END ends a read transfer, EDP_ALERT_ACK moves the acknowledgement forward, EDP_KEEPALIVE only answers. EDP_CLOSE leaves nothing of the session: no record and every object of it at its default. Rules: R488 R489 R490 R491 R493 R494 R495 R496 R500 R509. -/
def Obligations.EdpServesItsSessions : Prop :=
  (∀ (s : State) (id size n : Nat) (sub seat : Bool), Settled s → s.blk.answersEdp seat = true → 512 ≤ size → size ≤ 1408 → s.blk.freeSession = some n →
    ∃ t, exec (.edpOpen id size sub seat) s = .next t ∧ t.blk.net.opened = n ∧ (t.blk.sess n).opened = true ∧ (t.blk.sess n).network = nwEDP ∧
      (t.blk.sess n).onSeat = seat ∧ (t.blk.sess n).subscribe = sub ∧ t.blk.rd (sk n Obj.SessionConfig.BufferSize) = size ∧
      t.blk.rd (sk n Obj.SnapshotSession.PinLimit) = s.blk.glade.fnom * 30 ∧ (∀ m, m ≠ n → t.blk.sess m = s.blk.sess m) ∧
      KeepsObjects [Obj.EthStatus.Datagrams, sk n Obj.SnapshotSession.SessionId, sk n Obj.SnapshotSession.PinLimit, Obj.SessionTable.SessionEntry n,
        Obj.CanopyStatus.SessionsOpen, sk n Obj.SessionConfig.BufferSize] s t ∧ SameArrays s t) ∧
  (∀ (s : State) (n id : Nat), Settled s → n < 28 → s.blk.serves = true → (s.blk.sess n).opened = true → (s.blk.sess n).network = nwEDP →
    s.blk.servedHere (s.blk.sess n) = true →
    (let x := s.blk.sess n
     let fresh : Prop := x.cache.all (fun r => ahead 32 id r.id) = true
     let counts := [Obj.EthStatus.Datagrams, Obj.SessionTable.SessionEntry n]
     let answered (t : State) (r : Reply) (isRead : Bool) : Prop := (t.blk.sess n).idle = 0 ∧
       (t.blk.sess n).cache.getLast? = some { id := id, reply := r, waiting := !isRead && s.blk.linkUp } ∧
       (isRead = true ∨ s.blk.linkUp = false → (t.blk.sess n).reply = r) ∧ (∀ m, m ≠ n → t.blk.sess m = s.blk.sess m) ∧
       t.blk.rd Obj.EthStatus.Datagrams = min (s.blk.rd Obj.EthStatus.Datagrams + 1) 0xFFFFFFFF ∧ SameArrays s t
     (fresh → ∃ t, exec (.edpKeepalive n id true) s = .next t ∧ answered t { flags := flRESPONSE } false ∧ KeepsObjects counts s t) ∧
     (∀ seq, fresh → seq < 2 ^ 32 → ahead 32 seq x.ackSeq = true → ∃ t, exec (.edpAlertAck n id seq true) s = .next t ∧ (t.blk.sess n).ackSeq = seq ∧
       answered t { flags := flRESPONSE } false ∧ KeepsObjects (Obj.AlertStatus.Queued :: counts) s t) ∧
     (∀ index sub k, fresh → index < 65536 → sub < 256 → (let key := objKey index sub
       objectStatus key = dsOK → isLive key = false → s.blk.rd (sk n Obj.SnapshotSession.Mode) = 0 → objectType key = .uint k →
       k ≤ s.bufferSize n → key ∉ counts →
       ∃ t, exec (.edpRead n id index sub true) s = .next t ∧ answered t { flags := flRESPONSE, data := leBytes k (s.blk.scalarOf n key) } true ∧
         KeepsObjects counts s t)) ∧
     (∀ index sub off tr, fresh → index < 65536 → sub < 256 → x.transfer = some tr → tr.key = objKey index sub → tr.kind = 1 → tr.slot = none →
       tr.stale = false → off < tr.total →
       ∃ t, exec (.edpReadSeg n id index sub off true) s = .next t ∧
         (t.blk.sess n).reply.data = ((tr.bytes.map (·.2)).drop off).take (s.bufferSize n) ∧ (t.blk.sess n).reply.status = dsOK ∧
         (t.blk.sess n).transfer = some { tr with idle := 0 } ∧ KeepsObjects counts s t ∧ SameArrays s t) ∧
     (∀ data, fresh → data.length = 4 → s.blk.nowInRange Obj.SnapshotSession.RequestCycle (leValue data) = true →
       ∃ t, exec (.edpWrite n id 0x2080 4 4 false true data) s = .next t ∧ t.blk.rd (sk n Obj.SnapshotSession.RequestCycle) = leValue data ∧
         answered t { flags := flRESPONSE } false ∧ KeepsObjects (sk n Obj.SnapshotSession.RequestCycle :: counts) s t) ∧
     (∀ index sub total data, fresh → index < 65536 → sub < 256 → objectStatus (objKey index sub) = dsOK → total ≤ 65536 → data.length ≤ total →
       s.blk.poolFree n = true →
       ∃ t, exec (.edpWrite n id index sub total true true data) s = .next t ∧
         (t.blk.sess n).transfer = some { kind := 2, key := objKey index sub, total := total, bytes := Block.putBytes [] 0 data } ∧
         answered t { flags := flRESPONSE } false ∧ KeepsObjects (Obj.CanopyStatus.SlotsPinned :: counts) s t) ∧
     (∀ index sub off data tr, fresh → index < 65536 → sub < 256 → x.transfer = some tr → tr.key = objKey index sub → tr.kind = 2 → tr.stale = false →
       off + data.length ≤ tr.total →
       ∃ t, exec (.edpWriteSeg n id index sub off true data) s = .next t ∧
         (t.blk.sess n).transfer = some { tr with idle := 0, bytes := Block.putBytes tr.bytes off data } ∧
         answered t { flags := flRESPONSE } false ∧ KeepsObjects counts s t) ∧
     (∀ tr, fresh → x.transfer = some tr → tr.kind ≠ 2 → tr.stale = false → (∀ e ∈ s.blk.sessions, ∀ since, e.2.abort ≠ some (1, n, since)) →
       ∃ t, exec (.edpEnd n id true) s = .next t ∧ (t.blk.sess n).transfer = none ∧ answered t { flags := flRESPONSE } false ∧
         KeepsObjects (Obj.CanopyStatus.SlotsPinned :: counts) s t) ∧
     (∃ t, exec (.edpClose n id true) s = .next t ∧ t.blk.sess n = {} ∧ (∀ k, k / 0x1000000 = n + 1 → t.blk.rd k = dictDefault k) ∧
       (x.readerFreeze = false → (∀ m, m ≠ n → t.blk.sess m = s.blk.sess m) ∧
         (∀ k, k / 0x1000000 ≠ n + 1 → k ∉ [Obj.CanopyStatus.SlotsPinned, Obj.CanopyStatus.StagingUsed, Obj.CanopyStatus.CommitsPending,
           Obj.CanopyStatus.SessionsOpen] ++ counts → t.blk.rd k = s.blk.rd k) ∧ SameArrays s t))))

/-- O42. An idle session closes, an idle transfer ends, alerts are repeated, and an abort ends its function or is reset at its bound. SESSION_IDLE of an open session served here that has been idle for SessionIdle cycles leaves nothing of it. TRANSFER_IDLE after 250 cycles ends the transfer, so that its next segment is answered DICT_TIMEOUT, and raises TRANSFER_TIMEOUT. ALERT_REPEAT sends a subscriber its oldest unacknowledged alerts again. DICT_CONFIRM_TIMEOUT answers a request that waits for the partner with DICT_PARTNER_NO_ACK. ABORT_TRANSFER ends the transfer and answers 0, or 1 where none runs. ABORT_OVERDUE of a transfer's abort that still waits at its bound resets the function, answers 3 and raises LRS_ABORT_RESET. Rules: R355 R487 R489 R491 R496 R509 R511 R512 R513. -/
def Obligations.SessionsEndByIdleTimeAndAbort : Prop :=
  (∀ (s : State) (n : Nat), Settled s → n < 32 →
    (let x := s.blk.sess n
     (x.opened = true → s.blk.servedHere x = true → s.blk.rd (sk n Obj.SessionConfig.SessionIdle) ≤ x.idle →
       ∃ t, exec (.sessionIdle n) s = .next t ∧ t.blk.sess n = {} ∧ (∀ k, k / 0x1000000 = n + 1 → t.blk.rd k = dictDefault k) ∧
         (x.readerFreeze = false → (∀ m, m ≠ n → t.blk.sess m = s.blk.sess m) ∧ SameArrays s t)) ∧
     (x.idle < s.blk.rd (sk n Obj.SessionConfig.SessionIdle) → exec (.sessionIdle n) s = .next s) ∧
     (∀ tr, x.transfer = some tr → 250 ≤ tr.idle → (∀ e ∈ s.blk.sessions, ∀ since, e.2.abort ≠ some (1, n, since)) →
       ∃ t, exec (.transferIdle n) s = .next t ∧ t.blk.sess n = { x with transfer := none, ended := { status := dsTIMEOUT, flags := flRESPONSE } } ∧
         (∀ m, m ≠ n → t.blk.sess m = s.blk.sess m) ∧ Reports s t [{ src := Src.TRANSFER_TIMEOUT, inst := n }] ∧
         KeepsObjects [Obj.CanopyStatus.SlotsPinned] s t ∧ SameArrays s t) ∧
     (∀ e, s.blk.net.sentAt.find? (fun e => e.1 == n) = some e → s.blk.isHolder = true → x.opened = true → x.subscribe = true → s.blk.unacked n ≠ [] →
       s.blk.rd Obj.AlertConfig.RepeatInterval * 1000 ≤ s.blk.microsSince e.2 →
       ∃ t, exec (.alertRepeat n) s = .next t ∧ Tab.look [] t.blk.net.alertOut n = ((s.blk.unacked n).take 64).map (·.seq) ∧
         Tab.look 0 t.blk.net.sentAt n = s.blk.glade.ticks ∧ t.blk = { s.blk with net := t.blk.net } ∧ SameArrays s t) ∧
     (∀ id r, x.cache.find? (fun r => r.id == id && r.waiting) = some r →
       ∃ t, exec (.dictConfirmTimeout n id) s = .next t ∧ (t.blk.sess n).reply = { status := dsPARTNER_NO_ACK, flags := flRESPONSE } ∧
         (t.blk.sess n).cache.any (fun r => r.id == id && r.waiting) = false ∧ (∀ m, m ≠ n → t.blk.sess m = s.blk.sess m) ∧
         KeepsObjects [sk n Obj.FaultControl.Result] s t ∧ SameArrays s t) ∧
     (∀ m, m < 32 → (∀ e ∈ s.blk.sessions, ∀ since, e.2.abort ≠ some (1, n, since)) →
       (x.transfer.isSome = true → ∃ t, exec (.abortTransfer m n) s = .next t ∧
         t.blk.sess n = { x with transfer := none, ended := { status := dsABORTED, flags := flRESPONSE } } ∧ t.blk.rd (sk m Obj.Abort.Result) = 0 ∧
         KeepsObjects [Obj.CanopyStatus.SlotsPinned, sk m Obj.Abort.Result, sk m Obj.Abort.Elapsed] s t ∧ SameArrays s t) ∧
       (x.transfer.isSome = false → ∃ t, exec (.abortTransfer m n) s = .next t ∧ t.blk.rd (sk m Obj.Abort.Result) = 1 ∧
         KeepsObjects [sk m Obj.Abort.Result, sk m Obj.Abort.Elapsed] s t ∧ OnlyObjects s t ∧ SameArrays s t)) ∧
     (∀ m since, m < 32 → (s.blk.sess m).abort = some (1, n, since) → 1000 ≤ s.blk.microsSince since → x.transfer.isSome = true →
       ∃ t, exec (.abortOverdue 1 n) s = .next t ∧ (t.blk.sess n).transfer = none ∧ (t.blk.sess m).abort = none ∧ t.blk.rd (sk m Obj.Abort.Result) = 3 ∧
         t.blk.rd Obj.LrsStatus.AbortResets = min (s.blk.rd Obj.LrsStatus.AbortResets + 1) 0xFFFFFFFF ∧
         Reports s t [{ src := Src.LRS_ABORT_RESET, inst := 0 }] ∧ SameArrays s t)))

/-- O43. A host transaction on TW1 to TW3 is queued for its port and pending; its end is the session's result, and counts. SEND_BYTE, WRITE_BYTE, WRITE_WORD, BLOCK_WRITE, RECEIVE_BYTE, READ_BYTE, READ_WORD and BLOCK_READ outside GRAVE, to an address from 0x08 to 0x77 that no authenticator of the port has (another is refused with outcome 7), by a session with no transaction pending, on a port whose bus is not stuck, add the transaction of their kind: on an idle port with nothing waiting it is the one in progress at once, with BusState 1. The session's result is pending. TW_TRANSACTION_DONE without an injected check ends it: the outcome, with up to 255 bytes of a read that succeeded, is the session's result, and the transaction, a NACK or a PEC error is counted. Rules: R263 R529 R530 R532 R535. -/
def Obligations.HostTransactionsQueueOnTheirPort : Prop :=
  (∀ (s : State) (n k addr cmd : Nat) (pec : Bool) (data : List Nat), Settled s → n < 32 → s.blk.inGrave = false → k ∈ [1, 2, 3] →
    s.blk.packAddress k addr = false → 0x08 ≤ addr → addr ≤ 0x77 → s.blk.twPending n = false → s.blk.rd (Obj.TwPortStatus.BusState k) < bsSTUCK_SCL →
    s.blk.authWaits k = false → (s.blk.twPort k).cur = none → (s.blk.twPort k).queue = [] →
    ∀ (c : Instr) (kind code : Nat) (bytes : List Nat), (c, kind, code, bytes) ∈
      [(Instr.sendByte n k addr cmd pec, 1, cmd, []), (.writeByte n k addr cmd pec data, 2, cmd, data), (.writeWord n k addr cmd pec data, 3, cmd, data),
       (.blockWrite n k addr cmd pec data, 4, cmd, data), (.receiveByte n k addr pec, 5, 0, []), (.readByte n k addr cmd pec, 6, cmd, []),
       (.readWord n k addr cmd pec, 7, cmd, []), (.blockRead n k addr cmd pec, 8, cmd, [])] →
    ∃ t, exec c s = .next t ∧ t.blk.twPort k = { s.blk.twPort k with cur := some { session := n, addr := addr, kind := kind, cmd := code, pec := pec, data := bytes }, queue := [], lost := false } ∧
      Tab.look [] t.blk.tw.results n = [twPENDING, 0] ∧ t.blk.rd (Obj.TwPortStatus.BusState k) = bsBUSY ∧
      (∀ j, j ≠ k → t.blk.twPort j = s.blk.twPort j) ∧ KeepsObjects [Obj.TwPortStatus.BusState k] s t ∧
      t.blk = { s.blk with tw := t.blk.tw, dict := t.blk.dict, wimg := t.blk.wimg } ∧ SameArrays s t) ∧
  (∀ (s : State) (n k addr cmd : Nat) (pec : Bool) (data : List Nat), Settled s → n < 32 → s.blk.inGrave = false → k ∈ [1, 2, 3] →
    (addr < 0x08 ∨ 0x77 < addr) →
    ∀ c ∈ [Instr.sendByte n k addr cmd pec, .writeByte n k addr cmd pec data, .writeWord n k addr cmd pec data, .blockWrite n k addr cmd pec data,
      .receiveByte n k addr pec, .readByte n k addr cmd pec, .readWord n k addr cmd pec, .blockRead n k addr cmd pec],
    ∃ t, exec c s = .next t ∧ Tab.look [] t.blk.tw.results n = [twRESERVED_ADDRESS, 0] ∧ t.blk.tw.ports = s.blk.tw.ports ∧
      t.blk = { s.blk with tw := t.blk.tw } ∧ SameArrays s t) ∧
  (∀ (s : State) (k o : Nat) (data : List Nat) (r : TwReq), Settled s → k ∈ [1, 2, 3] → o < 7 → (s.blk.twPort k).cur = some r → r.session < 32 →
    s.blk.faults.pecLeft = 0 → (s.blk.twPort k).queue = [] →
    (let answer := if o = twOK ∧ 5 ≤ r.kind then data.take 255 else []
     ∃ t, exec (.twTransactionDone k o data) s = .next t ∧ (t.blk.twPort k) = { s.blk.twPort k with cur := none, lost := false } ∧
       Tab.look [] t.blk.tw.results r.session = [o, answer.length] ++ answer ∧
       t.blk.rd (Obj.TwPortStatus.Transactions k) = min (s.blk.rd (Obj.TwPortStatus.Transactions k) + 1) 0xFFFFFFFF ∧
       (o = twNACK_ADDRESS ∨ o = twNACK_DATA → t.blk.rd (Obj.TwPortStatus.Nacks k) = min (s.blk.rd (Obj.TwPortStatus.Nacks k) + 1) 0xFFFFFFFF) ∧
       (o = twPEC_ERROR → t.blk.rd (Obj.TwPortStatus.PecErrors k) = min (s.blk.rd (Obj.TwPortStatus.PecErrors k) + 1) 0xFFFFFFFF ∧
         Reports s t [{ src := Src.TW_PEC_ERROR, inst := k }]) ∧
       (s.blk.rd (Obj.TwPortStatus.BusState k) < bsSTUCK_SCL → t.blk.rd (Obj.TwPortStatus.BusState k) = bsIDLE) ∧
       KeepsObjects (wireObjects k) s t ∧ SameArrays s t))

/-- O44. A stretch, a stuck line, a lost arbitration and a device's alert are counted, raised and end what they end. TW_STRETCH_TIMEOUT counts, raises TW_STRETCH_TIMEOUT and, on TW1 to TW3, ends the transaction in progress with outcome 5; TW_SELF_RELEASE counts and raises. TW_BUS_CLEAR on an idle port counts one of at most three attempts. TW_BUS_STUCK with SCL, or with SDA after three attempts, makes BusState 2 or 3, refuses what waits and raises the condition; TW_BUS_STUCK_END returns BusState to 0 and ends it. TW_ARB_LOST counts, raises and marks the transaction; TW_ARB_RETRY retries it while ArbRetries allows and ends it with outcome 4 after that. TW_DEVICE_ALERT with its input enabled, on an idle port not served within 10 ms, records the address, counts the response and raises TW_DEVICE_ALERT. Rules: R519 R529 R530 R531. -/
def Obligations.BusesStretchClearAndArbitrate : Prop :=
  ∀ (s : State) (k : Nat), Settled s → k ∈ [1, 2, 3] →
    (let x := s.blk.twPort k
     let up (o : Nat) (t : State) : Prop := t.blk.rd o = min (s.blk.rd o + 1) 0xFFFFFFFF
     let ends (t : State) (r : TwReq) (o : Nat) : Prop := t.blk.twPort k = { x with cur := none, lost := false } ∧
       Tab.look [] t.blk.tw.results r.session = [o, 0] ∧ up (Obj.TwPortStatus.Transactions k) t ∧ SameArrays s t
     (∀ e r, e < 4 → x.cur = some r → r.session < 32 → x.queue = [] → s.blk.faults.pecLeft = 0 →
       (∃ t, exec (.twStretchTimeout k e) s = .next t ∧ ends t r twTIMEOUT ∧ up (Obj.TwPortStatus.StretchTimeouts k) t ∧
         Reports s t [{ src := Src.TW_STRETCH_TIMEOUT, inst := k }] ∧ KeepsObjects (Obj.TwPortStatus.StretchTimeouts k :: wireObjects k) s t) ∧
       (x.lost = true → s.blk.rd (Obj.TwPortConfig.ArbRetries k) ≤ r.tries → ∃ t, exec (.twArbRetry k) s = .next t ∧ ends t r twARB_FAIL ∧
         Reports s t [{ src := Src.TW_ARB_FAIL, inst := k }] ∧ KeepsObjects (wireObjects k) s t) ∧
       (x.lost = true → r.tries < s.blk.rd (Obj.TwPortConfig.ArbRetries k) → ∃ t, exec (.twArbRetry k) s = .next t ∧
         t.blk.twPort k = { x with lost := false, cur := some { r with tries := r.tries + 1 } } ∧ t.blk = { s.blk with tw := t.blk.tw } ∧ SameArrays s t) ∧
       (∃ t, exec (.twArbLost k) s = .next t ∧ t.blk.twPort k = { x with lost := true } ∧ up (Obj.TwPortStatus.ArbLost k) t ∧
         Reports s t [{ src := Src.TW_ARB_LOST, inst := k }] ∧ KeepsObjects [Obj.TwPortStatus.ArbLost k] s t ∧ SameArrays s t)) ∧
     (∃ t, exec (.twSelfRelease k) s = .next t ∧ up (Obj.TwPortStatus.SelfReleases k) t ∧ Reports s t [{ src := Src.TW_SELF_RELEASE, inst := k }] ∧
       t.blk.tw = s.blk.tw ∧ KeepsObjects [Obj.TwPortStatus.SelfReleases k] s t ∧ SameArrays s t) ∧
     (∀ freed, x.cur = none → s.blk.twStuck k = false → x.clears < 3 → ∃ t, exec (.twBusClear k freed) s = .next t ∧
       t.blk.twPort k = { x with clears := if freed then 0 else x.clears + 1 } ∧ up (Obj.TwPortStatus.BusClears k) t ∧
       KeepsObjects [Obj.TwPortStatus.BusClears k] s t ∧ t.blk.faults = s.blk.faults ∧ SameArrays s t) ∧
     (∀ sda, x.cur = none → s.blk.twStuck k = false → (sda = true → 3 ≤ x.clears) → s.blk.isPresent Src.TW_BUS_STUCK k = false →
       ∃ t, exec (.twBusStuck k sda) s = .next t ∧ t.blk.rd (Obj.TwPortStatus.BusState k) = (if sda then bsSTUCK_SDA else bsSTUCK_SCL) ∧
         t.blk.twPort k = { x with queue := [] } ∧ (∀ r ∈ x.queue, r.session < 32 → Tab.look [] t.blk.tw.results r.session = [twBUS_STUCK, 0]) ∧
         Reports s t [{ src := Src.TW_BUS_STUCK, inst := k }] ∧ t.blk.isPresent Src.TW_BUS_STUCK k = true ∧
         KeepsObjects [Obj.TwPortStatus.BusState k, Obj.SourceConfig.PresentInstances Src.TW_BUS_STUCK] s t ∧ SameArrays s t) ∧
     (s.blk.twStuck k = true → x.cur = none → x.queue = [] → ∃ t, exec (.twBusStuckEnd k) s = .next t ∧ t.blk.rd (Obj.TwPortStatus.BusState k) = bsIDLE ∧
       t.blk.twPort k = { x with clears := 0 } ∧ t.blk.isPresent Src.TW_BUS_STUCK k = false ∧
       KeepsObjects [Obj.TwPortStatus.BusState k, Obj.SourceConfig.PresentInstances Src.TW_BUS_STUCK] s t ∧ SameArrays s t) ∧
     (∀ addr, s.blk.rd (Obj.TwPortConfig.AlertInputEnable k) = 1 → x.araAt = none → x.cur = none → x.queue = [] → s.blk.twStuck k = false → s.blk.authWaits k = false →
       ∃ t, exec (.twDeviceAlert k addr true) s = .next t ∧ t.blk.twPort k = { x with araAt := some s.blk.glade.ticks } ∧
         t.blk.rd (Obj.TwPortStatus.LastAlertAddress k) = addr ∧ up (Obj.TwPortStatus.AlertResponses k) t ∧
         Reports s t [{ src := Src.TW_DEVICE_ALERT, inst := k, detail := [(addr : Nat)] }] ∧
         KeepsObjects [Obj.TwPortStatus.LastAlertAddress k, Obj.TwPortStatus.AlertResponses k] s t ∧ SameArrays s t))

/-- O45. TW0 answers its identity, selects, reads and writes objects by blocks with PEC, and serves its alerts. On an address answered here whose session is open: CAPABILITY, MFR_ID, MFR_MODEL, DICT_STATUS and ALERT_READ return their bytes, a block with its count first, and the PEC over the whole transaction. DICT_SELECT sets index and sub-index at offset 0, DICT_OFFSET the offset, and DICT_READ returns the flags, the offset and the little-endian value of a scalar object and advances the offset. DICT_WRITE of one block writes the selected object. ALERT_ACK moves the address's cursor forward. A wrong PEC discards the write and raises TW_PEC_ERROR. TW_UNKNOWN_COMMAND is counted and raised. ALERT_RESPONSE returns the lowest alerting address and disarms it where it wins; ALERT_REARM arms it again after RepeatInterval. Rules: R517 R522 R523 R524 R525 R526 R527 R528. -/
def Obligations.TheTargetWindowReadsAndWrites : Prop :=
  (∀ (s : State) (e : Nat), Settled s → e < 4 → s.blk.answersEntry e = true → (s.blk.sess (28 + e)).opened = true →
    (let x := s.blk.window e
     let a := (s.blk.entryAddress e).getD 0
     let counts := [Obj.TwPortStatus.Transactions 0, Obj.SessionTable.SessionEntry (28 + e)]
     let counted (t : State) : Prop := t.blk.rd (Obj.TwPortStatus.Transactions 0) = min (s.blk.rd (Obj.TwPortStatus.Transactions 0) + 1) 0xFFFFFFFF ∧ SameArrays s t
     let returns (t : State) (code : Nat) (bytes : List Nat) : Prop := (t.blk.window e).out = bytes ++ [pecOf ([a * 2, code, a * 2 + 1] ++ bytes)] ∧
       counted t ∧ KeepsObjects counts s t
     (∃ t, exec (.capability e) s = .next t ∧ returns t 0x19 [0xD0]) ∧
     (∃ t, exec (.mfrId e) s = .next t ∧ returns t 0x99 [6, 0x4E, 0x47, 0x41, 0x4D, 0x55, 0x53]) ∧
     (∃ t, exec (.mfrModel e) s = .next t ∧ returns t 0x9A [8, 0x45, 0x55, 0x53, 0x2D, 0x35, 0x31, 0x32, 0x30]) ∧
     (∃ t, exec (.dictStatus e) s = .next t ∧ returns t 0xD3 (8 :: (leBytes 2 x.status ++ [x.detail, x.result] ++ leBytes 4 x.total))) ∧
     (∃ t, exec (.alertRead e) s = .next t ∧ (let l := ((s.blk.windowAlerts e).take 15).flatMap Block.alertBytes; returns t 0xD8 (l.length :: l))) ∧
     (∀ k, x.last = none → x.begun = false → x.offset = 0 → objectStatus (s.blk.selected e) = dsOK → isLive (s.blk.selected e) = false →
       s.blk.rd (sk (28 + e) Obj.SnapshotSession.Mode) = 0 → objectType (s.blk.selected e) = .uint k → k ≤ 252 → s.blk.selected e ∉ counts →
       (let v := leBytes k (s.blk.scalarOf (28 + e) (s.blk.selected e))
        ∃ t, exec (.dictRead e true) s = .next t ∧ returns t 0xD1 ((k + 3) :: ([2] ++ leBytes 2 0 ++ v)) ∧ (t.blk.window e).offset = k ∧
          (t.blk.window e).total = k)) ∧
     (let right := s.blk.rd Obj.TwTargetConfig.PecRequired
      s.blk.pecInjected 0 = false → right ≤ 1 →
      (∀ index sub, index < 65536 → sub < 256 → (s.blk.sess (28 + e)).transfer = none →
        ∃ t, exec (.dictSelect e index sub right true) s = .next t ∧ (t.blk.window e).index = index ∧ (t.blk.window e).sub = sub ∧
          (t.blk.window e).offset = 0 ∧ (t.blk.window e).result = 0 ∧ counted t ∧ KeepsObjects counts s t) ∧
      (∀ off, off < 65536 → ∃ t, exec (.dictOffset e off right true) s = .next t ∧ t.blk.window e = { x with offset := off, result := 0 } ∧
        counted t ∧ KeepsObjects counts s t) ∧
      (∀ data, s.blk.selected e = Obj.SnapshotSession.RequestCycle → x.wrote = none → data.length = 4 →
        s.blk.nowInRange Obj.SnapshotSession.RequestCycle (leValue data) = true →
        ∃ t, exec (.dictWrite e 2 0 right true data) s = .next t ∧ t.blk.rd (sk (28 + e) Obj.SnapshotSession.RequestCycle) = leValue data ∧
          (t.blk.window e).status = dsOK ∧ counted t ∧ KeepsObjects (sk (28 + e) Obj.SnapshotSession.RequestCycle :: counts) s t) ∧
      (∀ seq, seq < 2 ^ 32 → ahead 32 seq x.cursor = true → ∃ t, exec (.alertAck e seq right true) s = .next t ∧ (t.blk.window e).cursor = seq ∧
        counted t ∧ KeepsObjects (Obj.AlertStatus.Queued :: counts) s t) ∧
      (∀ off, ∃ t, exec (.dictOffset e off 2 true) s = .next t ∧ t.blk.window e = { x with result := 1 } ∧
        Reports s t [{ src := Src.TW_PEC_ERROR, inst := 0 }] ∧ counted t)) ∧
     (∀ code, code ∉ twCodes → ∃ t, exec (.twUnknownCommand e code) s = .next t ∧
       t.blk.rd (Obj.TwPortStatus.UnknownCommands 0) = min (s.blk.rd (Obj.TwPortStatus.UnknownCommands 0) + 1) 0xFFFFFFFF ∧
       Reports s t [{ src := Src.TW_UNKNOWN_COMMAND, inst := 0, detail := [(code : Nat)] }] ∧ KeepsObjects [Obj.TwPortStatus.UnknownCommands 0] s t ∧ SameArrays s t))) ∧
  (∀ (s : State) (e : Nat), Settled s → e < 4 → s.blk.lowestAlert = some e →
    (∃ t, exec (.alertResponse true) s = .next t ∧ (t.blk.window e).out = [(s.blk.entryAddress e).getD 0 * 2] ∧ (t.blk.window e).armed = false ∧
      (t.blk.window e).disarmedAt = some s.blk.glade.ticks ∧
      t.blk.rd (Obj.TwPortStatus.AlertResponses 0) = min (s.blk.rd (Obj.TwPortStatus.AlertResponses 0) + 1) 0xFFFFFFFF ∧
      KeepsObjects [Obj.TwPortStatus.AlertResponses 0] s t ∧ SameArrays s t) ∧
    (∃ t, exec (.alertResponse false) s = .next t ∧ (t.blk.window e).armed = (s.blk.window e).armed ∧ KeepsObjects [] s t ∧ SameArrays s t)) ∧
  (∀ (s : State) (e at' : Nat), Settled s → e < 4 → (s.blk.window e).disarmedAt = some at' → s.blk.rd Obj.AlertConfig.RepeatInterval * 1000 ≤ s.blk.microsSince at' →
    s.blk.windowAlerts e ≠ [] → ∃ t, exec (.alertRearm e) s = .next t ∧ t.blk.window e = { s.blk.window e with armed := true, disarmedAt := none } ∧
      t.blk = { s.blk with tw := t.blk.tw } ∧ SameArrays s t)

/-- O46. NMT commands set a node's state and close its sessions, a USDO read answers a value, and a port's error state follows. On an enabled port NMT_START, NMT_PRE_OPERATIONAL, NMT_STOP, NMT_RESET_COMMUNICATION and NMT_RESET_NODE set the state of that node alone; the last three leave nothing of its sessions. USDO_REQUEST with specifier 0 of a client whose session is open, to a node that answers, answers the little-endian value of a scalar object with abort code 0. HEARTBEAT of a node with a producer time sends the NMT state byte. TPDO_TRANSMIT in tick 100 of a cycle of its type, on an Operational RackNodeId of the holder, sends the mapped objects of the newest complete image. CAN_BUS_OFF, CAN_ERROR_PASSIVE and CAN_BUS_OFF_RECOVERY move CanState, count and raise as they say. Rules: R488 R502 R503 R504 R505 R506 R507. -/
def Obligations.CanNodesAnswerAndChangeTheirState : Prop :=
  (∀ (s : State) (can : Nat) (rack : Bool), Settled s → can < 2 →
    (let key := can * 2 + b2n rack
     let nmt (t : State) (v : Nat) : Prop := t.blk.nmtOf key = v ∧ (∀ j, j ≠ key → t.blk.nmtOf j = s.blk.nmtOf j)
     let closed (t : State) : Prop := ∀ n, n < 28 → (s.blk.sess n).opened = true → (s.blk.sess n).network = nwCAN0 + can → (s.blk.sess n).onSeat = !rack →
       t.blk.sess n = {}
     (bitOf (s.blk.rd Obj.CanConfig.PortEnable) can = true →
       (∃ t, exec (.nmtStart can rack) s = .next t ∧ nmt t 1 ∧ t.blk = { s.blk with net := { s.blk.net with nmt := t.blk.net.nmt } } ∧ SameArrays s t) ∧
       (∃ t, exec (.nmtPreOperational can rack) s = .next t ∧ nmt t 0 ∧ t.blk = { s.blk with net := { s.blk.net with nmt := t.blk.net.nmt } } ∧ SameArrays s t) ∧
       (∃ t, exec (.nmtStop can rack) s = .next t ∧ nmt t 2 ∧ closed t) ∧
       (∃ t, exec (.nmtResetCommunication can rack) s = .next t ∧ nmt t 0 ∧ closed t) ∧
       (∃ t, exec (.nmtResetNode can rack) s = .next t ∧ nmt t 0 ∧ closed t)) ∧
     (s.blk.serves = true → s.blk.canPort can = true → (rack = true → s.blk.isHolder = true) → s.blk.rd Obj.Comm.ProducerHeartbeatTime ≠ 0 →
       ∃ t, exec (.heartbeat can rack) s = .next t ∧
         Tab.look 0 t.blk.net.beats key = (if s.blk.nmtOf key = 1 then 5 else if s.blk.nmtOf key = 2 then 4 else 127) ∧
         t.blk = { s.blk with net := { s.blk.net with beats := t.blk.net.beats } } ∧ SameArrays s t) ∧
     (∀ client n index sub off total size k data, client < 128 → s.blk.nodeAnswers can rack = true → s.blk.usdoSession can client = some n → index < 65536 →
       sub < 256 → (let o := objKey index sub
       objectStatus o = dsOK → isLive o = false → s.blk.rd (sk n Obj.SnapshotSession.Mode) = 0 → objectType o = .uint k → k ≤ size →
       o ≠ Obj.SessionTable.SessionEntry n →
       ∃ t, exec (.usdoRequest can rack client 0 index sub off total size data) s = .next t ∧
         t.blk.net.usdo = [can, client, 0] ++ leBytes k (s.blk.scalarOf n o) ∧ (t.blk.sess n).reply = { flags := flRESPONSE, data := leBytes k (s.blk.scalarOf n o) } ∧
         KeepsObjects [Obj.SessionTable.SessionEntry n] s t ∧ SameArrays s t)) ∧
     (∀ u e, u < 8 → (let ty := s.blk.rd (Obj.TpdoComm.TransmissionType u)
       s.blk.serves = true → s.blk.canPort can = true → s.blk.isHolder = true → s.blk.nmtOf (can * 2 + 1) = 1 → s.blk.rd (Obj.TpdoComm.CobId u) < 2 ^ 31 →
       1 ≤ ty → ty ≤ 240 → s.blk.glade.boundary = false → s.blk.glade.tick = 100 → s.blk.glade.cycle % ty = 0 → s.blk.newestImage = some e →
       ∃ t, exec (.tpdoTransmit can u) s = .next t ∧
         Tab.look [] t.blk.net.tpdo (can * 8 + u) = (s.blk.tpdoEntries u).flatMap (fun m => s.blk.imageValue e.2 0xFF m.1) ∧
         t.blk = { s.blk with net := { s.blk.net with tpdo := t.blk.net.tpdo } } ∧ SameArrays s t)) ∧
     (let st := s.blk.rd (Obj.CanStatus.CanState can)
      (st ≠ 2 → bitOf (s.blk.rd Obj.CanConfig.PortEnable) can = true → ∃ t, exec (.canBusOff can) s = .next t ∧ t.blk.rd (Obj.CanStatus.CanState can) = 2 ∧
        t.blk.rd (Obj.CanStatus.BusOffs can) = min (s.blk.rd (Obj.CanStatus.BusOffs can) + 1) 0xFFFFFFFF ∧
        Reports s t [{ src := Src.CAN_BUS_OFF, inst := 0, detail := [(can : Nat)] }] ∧
        KeepsObjects [Obj.CanStatus.CanState can, Obj.CanStatus.BusOffs can] s t ∧ SameArrays s t) ∧
      (st = 0 → ∃ t, exec (.canErrorPassive can true) s = .next t ∧ t.blk.rd (Obj.CanStatus.CanState can) = 1 ∧
        Reports s t [{ src := Src.CAN_ERROR_PASSIVE, inst := 0, detail := [(can : Nat)] }] ∧ KeepsObjects [Obj.CanStatus.CanState can] s t ∧ SameArrays s t) ∧
      (st = 1 → ∃ t, exec (.canErrorPassive can false) s = .next t ∧ t.blk.rd (Obj.CanStatus.CanState can) = 0 ∧
        KeepsObjects [Obj.CanStatus.CanState can] s t ∧ OnlyObjects s t ∧ SameArrays s t) ∧
      (st = 2 → ∃ t, exec (.canBusOffRecovery can) s = .next t ∧ t.blk.rd (Obj.CanStatus.CanState can) = 0 ∧
        KeepsObjects [Obj.CanStatus.CanState can] s t ∧ OnlyObjects s t ∧ SameArrays s t))))

/-- O47. Supervision frames fill the node table, silence empties it, links raise the LAN condition, and own addresses answer. SUPERVISION_FRAME_RECEIVED while the firmware serves enters its sender with this tick in a table of at most 256 nodes, or counts a duplicate; a copy from the wrong LAN is counted for its LAN and raised. PRP_NODE_FORGET takes a node out after 60 s. PRP_SUPERVISION, ARP_REQUEST and ICMP_ECHO to an address of this controller are answered once each, and to another address not. ETH_LAN_DOWN and ETH_LINK_UP set the link's speed, and the condition is present exactly while a link is down. Rules: R497 R498 R501 R516. -/
def Obligations.EthernetKeepsItsNodesAndLinks : Prop :=
  (∀ (s : State) (lan mac : Nat), Settled s → lan < 2 → s.blk.serves = true →
    (let wrong := if lan = 0 then Obj.EthStatus.WrongLanA else Obj.EthStatus.WrongLanB
     ((s.blk.net.nodes.filter (fun e => e.1 != mac)).length < 256 → ∃ t, exec (.supervisionFrameReceived lan mac false false) s = .next t ∧
       t.blk.net = { s.blk.net with nodes := s.blk.net.nodes.filter (fun e => e.1 != mac) ++ [(mac, s.blk.glade.ticks)] } ∧
       t.blk.rd Obj.EthStatus.NodeTableEntries = t.blk.net.nodes.length ∧ KeepsObjects [Obj.EthStatus.NodeTableEntries] s t ∧ SameArrays s t) ∧
     (∃ t, exec (.supervisionFrameReceived lan mac false true) s = .next t ∧
       t.blk.rd Obj.EthStatus.Duplicates = min (s.blk.rd Obj.EthStatus.Duplicates + 1) 0xFFFFFFFF ∧ KeepsObjects [Obj.EthStatus.Duplicates] s t ∧
       OnlyObjects s t ∧ SameArrays s t) ∧
     (∃ t, exec (.supervisionFrameReceived lan mac true true) s = .next t ∧ t.blk.rd wrong = min (s.blk.rd wrong + 1) 0xFFFFFFFF ∧
       Reports s t [{ src := Src.PRP_WRONG_LAN, inst := 0, detail := [(lan : Nat)] }] ∧ KeepsObjects [wrong, Obj.EthStatus.Duplicates] s t ∧ SameArrays s t))) ∧
  (∀ (s : State) (mac : Nat) (e : Nat × Nat), Settled s → s.blk.net.nodes.find? (fun e => e.1 == mac) = some e →
    (60000000 ≤ s.blk.microsSince e.2 → ∃ t, exec (.prpNodeForget mac) s = .next t ∧
      t.blk.net = { s.blk.net with nodes := s.blk.net.nodes.filter (fun e => e.1 != mac) } ∧
      t.blk.rd Obj.EthStatus.NodeTableEntries = t.blk.net.nodes.length ∧ KeepsObjects [Obj.EthStatus.NodeTableEntries] s t ∧ SameArrays s t) ∧
    (s.blk.microsSince e.2 < 60000000 → exec (.prpNodeForget mac) s = .next s)) ∧
  (∀ s : State, Settled s → s.blk.serves = true → ∃ t, exec .prpSupervision s = .next t ∧ t.blk.net = { s.blk.net with supervision := s.blk.net.supervision + 1 } ∧
    t.blk = { s.blk with net := t.blk.net } ∧ SameArrays s t) ∧
  (∀ (s : State) (lan addr : Nat), Settled s → lan < 2 →
    (s.blk.ownsAddress addr = true →
      (∃ t, exec (.arpRequest lan addr) s = .next t ∧ t.blk = { s.blk with net := { s.blk.net with arps := s.blk.net.arps + 1 } } ∧ SameArrays s t) ∧
      (∃ t, exec (.icmpEcho lan addr) s = .next t ∧ t.blk = { s.blk with net := { s.blk.net with echoes := s.blk.net.echoes + 1 } } ∧ SameArrays s t)) ∧
    (s.blk.ownsAddress addr = false → exec (.arpRequest lan addr) s = .next s ∧ exec (.icmpEcho lan addr) s = .next s)) ∧
  (∀ (s : State) (lan speed : Nat), Settled s → lan < 2 →
    (let link := if lan = 0 then Obj.EthStatus.LinkA else Obj.EthStatus.LinkB
     let linked (t : State) (v : Nat) : Prop := t.blk.rd link = v ∧
       t.blk.isPresent Src.ETH_LAN_DOWN 0 = (t.blk.rd Obj.EthStatus.LinkA == 0 || t.blk.rd Obj.EthStatus.LinkB == 0) ∧
       KeepsObjects [link, Obj.SourceConfig.PresentInstances Src.ETH_LAN_DOWN] s t ∧ SameArrays s t
     (∃ t, exec (.ethLanDown lan) s = .next t ∧ linked t 0) ∧ (∃ t, exec (.ethLinkUp lan speed) s = .next t ∧ linked t (max 1 (min 2 speed)))))

/-- O48. Acknowledge, Withhold and Clear of a root wait for the boundary; a Withhold in time cancels the reaction; Sticky is cleared. FAULT_ACKNOWLEDGE and FAULT_CLEAR of a live root of this controller, named by its seat and its number, are kept for the boundary, the acknowledgement with Result 0. FAULT_WITHHOLD is kept as well; where the root's reaction is pending and undecided and its rule is withholdable, the outcome becomes WITHHELD with Result 0, and after the decision Result is 6. A name that no live root of this seat has answers 1 and keeps nothing. ACKNOWLEDGE_ALL and CLEAR_ALL are kept with Result 0. CLEAR_STICKY clears every Sticky bit and STICKY_W1C the one named. Nothing else changes but what a record changes, and the message to the partner. Rules: R344 R350 R351 R362. -/
def Obligations.HostsAcknowledgeWithholdAndClearRoots : Prop :=
  (∀ (s : State) (n number : Nat) (r : Root), Settled s → n < 32 → number < 65536 → s.blk.seat < 256 → s.blk.root? number = some r →
    (let name := s.blk.seat * 2 ^ 24 + number
     let kept (op : Nat) : Faults := { s.blk.faults with commands := s.blk.faults.commands ++ [⟨n, op, number⟩] }
     (∃ t, exec (.faultAcknowledge n name) s = .next t ∧ t.blk.faults = kept 1 ∧ t.blk.rd (sk n Obj.FaultControl.Result) = fcOK ∧
       KeepsObjects [sk n Obj.FaultControl.Result] s t ∧ t.blk = { s.blk with faults := t.blk.faults, dict := t.blk.dict, wimg := t.blk.wimg } ∧ SameArrays s t) ∧
     exec (.faultClear n name) s = .next { s with blk := { s.blk with faults := kept 3 } } ∧
     (r.outcome = roPENDING → r.acts = none → s.blk.rd (Obj.ReactionRule.Withholdable r.rule) = 1 →
       ∃ t, exec (.faultWithhold n name) s = .next t ∧ t.blk.root? number = some { r with outcome := roWITHHELD, withheld := true } ∧
         t.blk.faults.commands = (kept 2).commands ∧ t.blk.rd (sk n Obj.FaultControl.Result) = fcOK ∧
         (∀ m, m ≠ number → t.blk.root? m = s.blk.root? m) ∧
         KeepsObjects ([sk n Obj.FaultControl.Result, Obj.CodeRate.Written Src.REACTION_WITHHELD, Obj.CodeRate.SuppressedTotal Src.REACTION_WITHHELD] ++
           recordObjects) s t ∧ SameArrays s t) ∧
     (r.outcome = roEXECUTED → ∃ t, exec (.faultWithhold n name) s = .next t ∧ t.blk.faults = kept 2 ∧ t.blk.rd (sk n Obj.FaultControl.Result) = fcTOO_LATE ∧
       KeepsObjects [sk n Obj.FaultControl.Result] s t ∧ SameArrays s t))) ∧
  (∀ (s : State) (n number : Nat), Settled s → n < 32 → number < 65536 → s.blk.seat < 256 → s.blk.root? number = none →
    ∀ c ∈ [Instr.faultAcknowledge n (s.blk.seat * 2 ^ 24 + number), .faultWithhold n (s.blk.seat * 2 ^ 24 + number), .faultClear n (s.blk.seat * 2 ^ 24 + number)],
    ∃ t, exec c s = .next t ∧ t.blk.rd (sk n Obj.FaultControl.Result) = fcBAD_ROOT ∧ KeepsObjects [sk n Obj.FaultControl.Result] s t ∧ OnlyObjects s t ∧ SameArrays s t) ∧
  (∀ (s : State) (n : Nat), Settled s → n < 32 →
    (∀ (c : Instr) (op : Nat), (c, op) ∈ [(Instr.acknowledgeAll n, 4), (.clearAll n, 5)] →
      ∃ t, exec c s = .next t ∧ t.blk.faults = { s.blk.faults with commands := s.blk.faults.commands ++ [⟨n, op, 0⟩] } ∧
        t.blk.rd (sk n Obj.FaultControl.Result) = fcOK ∧ KeepsObjects [sk n Obj.FaultControl.Result] s t ∧ SameArrays s t) ∧
    (∃ t, exec (.clearSticky n) s = .next t ∧ (∀ c, c < 224 → t.blk.rd (Obj.SourceConfig.Sticky c) = 0) ∧ t.blk.rd (sk n Obj.FaultControl.Result) = fcOK ∧
      KeepsObjects (sk n Obj.FaultControl.Result :: (List.range 224).map Obj.SourceConfig.Sticky) s t ∧ t.blk.faults = s.blk.faults ∧ SameArrays s t)) ∧
  (∀ (s : State) (c : Nat), Settled s → c < 224 → ∃ t, exec (.stickyW1c c) s = .next t ∧ t.blk.rd (Obj.SourceConfig.Sticky c) = 0 ∧
    KeepsObjects [Obj.SourceConfig.Sticky c] s t ∧ OnlyObjects s t ∧ SameArrays s t)

/-- O49. Windthrow windows and firebreaks end at their time, a persisting consequence is reported; checks are armed; an alarm is a condition. WINDTHROW_WINDOW_CLOSE closes exactly the windows whose four ticks have passed. FIREBREAK_CLOSE takes out the firebreaks whose end has come, and every linked condition that is still present becomes a report of the tick. SRAM_ARM, PARTNER_CRC_INJECT and TWO_WIRE_PEC_INJECT on the controller that TargetSeat names arm their check with the count and the selection written, and Armed shows it; without InjectEnable nothing changes. ALARM_INPUT sets the input's bit and its condition, which is reported when it comes. Rules: R337 R338 R348 R349 R358 R359. -/
def Obligations.WindowsCloseChecksAreInjectedAndAlarmsPassOn : Prop :=
  (∀ s : State, Settled s → (s.blk.faults.windows.map (·.1)).Nodup →
    ∃ t, exec .windthrowWindowClose s = .next t ∧
      t.blk.faults = { s.blk.faults with windows := s.blk.faults.windows.filter (fun e => decide (s.blk.glade.ticks ≤ e.2.opened + 3)) } ∧ SameArrays s t ∧
      KeepsObjects (recordObjects ++ s.blk.faults.windows.flatMap (fun e =>
        [e.1, e.2.root.src].flatMap (fun c => [Obj.CodeRate.Written c, Obj.CodeRate.SuppressedTotal c]))) s t) ∧
  (∀ s : State, Settled s →
    (let past := s.blk.faults.firebreaks.filter (fun w => decide (w.closeAt ≤ s.blk.glade.ticks))
     let left := past.flatMap (fun w => w.linked.filter s.blk.faults.present.contains)
     let still := s.blk.faults.firebreaks.filter (fun w => decide (s.blk.glade.ticks < w.closeAt))
     let more : List Report := left.map (fun k => { src := k / 65536, inst := k % 65536 })
     let f := { s.blk.faults with firebreaks := still, reports := s.blk.faults.reports ++ more }
     exec .firebreakClose s = .next { s with blk := { s.blk with faults := f } })) ∧
  (∀ (s : State) (v : Nat), Settled s →
    (let f := s.blk.faults
     ∀ (c : Instr) (g : Faults), (c, g) ∈ [(Instr.sramArm, { f with sramArmed := true }),
       (.partnerCrcInject v, { f with partnerCrcLeft := v / 256 % 256, partnerCrcSel := v % 4 }),
       (.twoWirePecInject v, { f with pecLeft := v / 256 % 256, pecSel := v % 16 })] →
     (s.blk.rd Obj.FaultInject.InjectEnable = 1 → s.blk.rd Obj.FaultInject.TargetSeat = s.blk.seat →
       ∃ t, exec c s = .next t ∧ t.blk.faults = g ∧
         t.blk.rd Obj.FaultInject.Armed = (if g.sramArmed then 1 else 0) + (if g.partnerCrcLeft ≠ 0 then 2 else 0) + (if g.pecLeft ≠ 0 then 4 else 0) ∧
         KeepsObjects [Obj.FaultInject.Armed] s t ∧ t.blk = { s.blk with faults := t.blk.faults, dict := t.blk.dict, wimg := t.blk.wimg } ∧ SameArrays s t) ∧
     (s.blk.rd Obj.FaultInject.InjectEnable ≠ 1 → exec c s = .next s))) ∧
  (∀ (s : State) (a : Nat) (on : Bool), Settled s → a < 2 → s.blk.isPresent (Src.ALARM0 + a) 0 = !on →
    ∃ t, exec (.alarmInput a on) s = .next t ∧ (∀ j, j < 2 → bitOf (t.blk.rd Obj.AlarmInputs.AlarmState) j = (if j = a then on else bitOf (s.blk.rd Obj.AlarmInputs.AlarmState) j)) ∧
      t.blk.isPresent (Src.ALARM0 + a) 0 = on ∧ Reports s t (if on then [{ src := Src.ALARM0 + a, inst := 0 }] else []) ∧
      KeepsObjects [Obj.AlarmInputs.AlarmState, Obj.SourceConfig.PresentInstances (Src.ALARM0 + a)] s t ∧
      t.blk = { s.blk with faults := t.blk.faults, dict := t.blk.dict, wimg := t.blk.wimg } ∧ SameArrays s t)

/-- O50. A decided reaction executes once and opens its firebreak; the last-resort triggers lead into GRAVE, which gives up the rack. REACTION_DECIDE with one decided root executes it: YIELD on the holder with a READY partner releases the token, and where its firebreak has a length it opens for that many ticks; a reaction without a target raises REACTION_NO_TARGET; either way the outcome is EXECUTED. COLLECTOR_WEDGED, SUPERVISOR_WEDGED, SUPERVISOR_LOCKSTEP and STAND_WEDGED report their source and call for GRAVE. GRAVE_ENTER then sets the grave latch with its source, gives up the token and the ports, is BARRED, drops the pending reactions, stops SYNC_OUT, and owes a dump where the trigger leaves the supervisors able to write one. A holder whose partner is not READY broadcasts SAFE to every port that is not OFF. Rules: R341 R343 R345 R348 R354 R356 R387. -/
def Obligations.ReactionsExecuteAndGraveIsEntered : Prop :=
  (∀ (s : State) (r : Root) (l : List Nat), Settled s → s.blk.inGrave = false → s.blk.faults.roots = [r] → s.blk.faults.untabled = [] → s.blk.faults.carried = [] →
    s.blk.faults.late = [] → s.blk.isHolder = true → r.outcome = roPENDING → r.acts = some l → r.seat = s.blk.seat →
    (let len := s.blk.rd (objKey 0x4003 r.reaction)
     (r.reaction = rxYIELD → s.blk.tokenIn = tkREADY →
       ∃ t, exec .reactionDecide s = .next t ∧ t.blk.faults.roots = [{ r with outcome := roEXECUTED }] ∧ t.blk.rd Obj.RedundancyStatus.Role = 0 ∧
         t.blk.readiness = (if s.blk.isPresent Src.SEAT_MISMATCH 0 then rdBARRED else rdDIVERGED) ∧ t.blk.rd Obj.RedundancyStatus.Yields = min (s.blk.rd Obj.RedundancyStatus.Yields + 1) 0xFFFFFFFF ∧ t.blk.masks.silent = true ∧
         Reports s t [{ src := Src.YIELDED, inst := 0, detail := [1] }] ∧
         t.blk.faults.firebreaks = s.blk.faults.firebreaks ++
           (if len = 0 then [] else [⟨r.seat, r.number, rxYIELD, s.blk.glade.ticks + 1, s.blk.glade.ticks + 1 + len, [], []⟩]) ∧
         KeepsObjects [Obj.RedundancyStatus.Role, Obj.RedundancyStatus.Readiness, Obj.RedundancyStatus.Yields] s t ∧ SameArrays s t) ∧
     (Block.noTarget r.reaction (s.blk.rootTargets r l) = true →
       (let rs := s.blk.faults.reports ++ [{ src := Src.REACTION_NO_TARGET, inst := 0, detail := [r.number, r.reaction] }]
        let f := { s.blk.faults with roots := [{ r with outcome := roEXECUTED }], reports := rs }
        exec .reactionDecide s = .next { s with blk := { s.blk with faults := f } })))) ∧
  (∀ (s : State) (stand : Nat), Settled s → s.blk.inGrave = false → stand < 16 →
    ∀ (c : Instr) (src : Nat), (c, src) ∈ [(Instr.collectorWedged, Src.COLLECTOR_WEDGED), (.supervisorWedged, Src.SUPERVISOR_WEDGED),
      (.supervisorLockstep, Src.SUPERVISOR_LOCKSTEP), (.standWedged stand, Src.STAND_WEDGED)] →
    (let f := { s.blk.faults with gravePending := some src, reports := s.blk.faults.reports ++ [{ src := src, inst := 0 }] }
     exec c s = .next { s with blk := { s.blk with faults := f } })) ∧
  (∀ (s : State) (src : Nat), Settled s → s.blk.inGrave = false → s.blk.faults.gravePending = some src →
    ∃ t, exec .graveEnter s = .next t ∧ t.blk.inGrave = true ∧ t.blk.faults.graveSrc = src ∧ t.blk.faults.gravePending = none ∧ t.blk.faults.lrsFault = true ∧
      t.blk.isHolder = false ∧ t.blk.readiness = rdBARRED ∧ t.blk.masks.silent = true ∧ t.blk.glade.syncDrive = false ∧ t.blk.tokenOut = tkNOT_READY ∧
      t.blk.rd Obj.LrsStatus.LastTrigger = src ∧ (∀ r ∈ t.blk.liveRoots, r.outcome ≠ roPENDING) ∧
      (s.blk.isHolder = true → ({ src := Src.YIELDED, inst := 0, detail := [4] } : Report) ∈ t.blk.faults.reports ∧
        t.blk.rd Obj.RedundancyStatus.Yields = min (s.blk.rd Obj.RedundancyStatus.Yields + 1) 0xFFFFFFFF ∧
        (s.blk.tokenIn ≠ tkREADY → ∀ p, p < 512 → s.blk.portState p ≠ psOFF → (t.blk.port p).bcast.isSome = true)) ∧
      (src ∉ [Src.SUPERVISOR_WEDGED, Src.SUPERVISOR_LOCKSTEP, Src.RAIL_OV] → t.blk.dump.due = some src) ∧
      t.pending = s.pending ∧ t.flash = s.flash)

/-- O51. A cycle's codes are corrected and clamped, kept apart by controller, and calibrations and the reference run their course. MEAS_RESULTS_READY for windows that ended, once: every enabled channel without calibration has as local result its code less the offset, times the gain, rounded and held within 24 bits; on the holder an uncalibrating channel's result is the local one. PARTNER_RESULTS in time sets the partner's results. RESULTS_MISSING from tick 50 on a standby without the holder's set uses its own, marked LOCAL, and raises MEAS_LOCAL. CALIBRATE and CALIBRATE_ALL ask for a run from 400 ticks later. CALIBRATION_DONE adopts an offset and a gain within bounds, and otherwise reports MEAS_CAL_FAIL and keeps the old factors. REF_FAULT raises its condition; REF_READY ends the settling. Rules: R196 R197 R198 R201 R205 R206 R207. -/
def Obligations.ResultsAreDeliveredAndChannelsCalibrate : Prop :=
  (∀ (s : State) (raw : List Nat) (past : Nat) (w : Window72), Settled s → s.blk.meas.ended = some w → s.blk.meas.delivered = false →
    ∃ t, exec (.measResultsReady raw past) s = .next t ∧ t.blk.meas.delivered = true ∧ t.pending = s.pending ∧
      (∀ c, c < 72 → w.enabled.getD c false = true → (s.blk.cal c).ended = 0 →
        (let f := if w.ranges.getD c 0 = 1 then (s.blk.rdI 32 (Obj.Channel.CalOffset1 c), s.blk.rd (Obj.Channel.CalGain1 c))
          else (s.blk.rdI 32 (Obj.Channel.CalOffset0 c), s.blk.rd (Obj.Channel.CalGain0 c))
         let v := clampI (-(2 ^ 23)) (2 ^ 23 - 1) (roundDiv ((toI 24 (raw.getD c 0) - f.1) * f.2) (2 ^ 30))
         t.blk.rdI 32 (Obj.Channel.LocalResult c) = v ∧ (s.blk.isHolder = true → t.blk.rdI 32 (Obj.Channel.Result c) = v))) ∧
      (s.blk.isHolder = false → SameArrays s t ∧ KeepsObjects (allChannels.flatMap (fun c => [Obj.Channel.LocalResult c, Obj.Channel.OverRangeCount c])) s t)) ∧
  (∀ (s : State) (lane mseq : Nat) (results flags : List Nat), Settled s → Arrives s.blk lane mseq → s.blk.isHolder = true →
    ∃ t, exec (.partnerResults lane mseq true false results flags) s = .next t ∧ t.blk.meas.partnerCame = true ∧ t.blk.meas.partnerFlags = flags ∧
      (∀ c, c < 72 → t.blk.rdI 32 (Obj.Channel.PartnerResult c) = toI 24 (results.getD c 0)) ∧
      KeepsObjects (linkObjects ++ allChannels.map Obj.Channel.PartnerResult) s t ∧ SameArrays s t) ∧
  (∀ (s : State) (w : Window72), Settled s → s.blk.meas.ended = some w → s.blk.meas.delivered = true → s.blk.isHolder = false → s.blk.meas.partnerCame = false →
    s.blk.glade.boundary = false → 50 ≤ s.blk.glade.tick → s.blk.meas.ownFlags.all (fun f => decide (f < 512)) = true →
    ∃ t, exec .resultsMissing s = .next t ∧ t.blk.isPresent Src.MEAS_LOCAL 0 = true ∧ t.pending = s.pending ∧
      ∀ c, c < 72 → bitOf (t.blk.rd (Obj.Channel.Flags c)) mfLOCAL = true ∧ t.blk.rd (Obj.Channel.ResultCycle c) = w.cycle ∧
        (bitOf (s.blk.meas.ownFlags.getD c 0) mfCAL = false → t.blk.rdI 32 (Obj.Channel.Result c) = s.blk.rdI 32 (Obj.Channel.LocalResult c))) ∧
  (∀ (s : State) (c : Nat), Settled s → c < 72 →
    (let wants (x : Cal) : Cal := if x.due.isSome then x else { x with due := some (s.blk.glade.ticks + 400) }
     (∃ t, exec (.calibrate c) s = .next t ∧ (∀ k, t.blk.cal k = if k = c then wants (s.blk.cal k) else s.blk.cal k) ∧
       t.blk = { s.blk with meas := t.blk.meas } ∧ SameArrays s t) ∧
     (∃ t, exec .calibrateAll s = .next t ∧ (∀ k, t.blk.cal k = if k < 72 then wants (s.blk.cal k) else s.blk.cal k) ∧
       t.blk = { s.blk with meas := t.blk.meas } ∧ SameArrays s t) ∧
     (∀ q, (s.blk.cal c).gain = some q →
       (let x := s.blk.cal c
        let gain := roundDiv (2 ^ 30 * 6990507) (q - x.zero)
        (x.zero.natAbs ≤ 8389 → 0 < q - x.zero → 98 * 2 ^ 30 ≤ gain * 100 → gain * 100 ≤ 102 * 2 ^ 30 →
          (let o := if x.range = 1 then Obj.Channel.CalOffset1 c else Obj.Channel.CalOffset0 c
           let g := if x.range = 1 then Obj.Channel.CalGain1 c else Obj.Channel.CalGain0 c
           ∃ t, exec (.calibrationDone c) s = .next t ∧ t.blk.rdI 32 o = x.zero ∧ t.blk.rd g = gain.toNat ∧ t.blk.rd (Obj.Channel.CalSource c) = 1 ∧
             (t.blk.cal c).gain = none ∧ KeepsObjects [o, g, Obj.Channel.CalSource c, Obj.HeartwoodStatus.WriteRefusals] s t ∧ SameArrays s t)) ∧
        (8389 < x.zero.natAbs → 0 < q - x.zero →
          ∃ t, exec (.calibrationDone c) s = .next t ∧ ({ src := Src.MEAS_CAL_FAIL, inst := c, detail := [x.zero, gain] } : Report) ∈ t.blk.faults.reports ∧
            (t.blk.cal c).gain = none ∧ KeepsObjects [Obj.HeartwoodStatus.WriteRefusals] s t ∧ SameArrays s t))))) ∧
  (∀ s : State, Settled s →
    (s.blk.rd Obj.Channel.RefState ≠ 0 → s.blk.isPresent Src.REF_FAULT 0 = false → ∃ t, exec .refFault s = .next t ∧ t.blk.rd Obj.Channel.RefState = rsFAULT ∧
      t.blk.meas.settling = true ∧ t.blk.isPresent Src.REF_FAULT 0 = true ∧ Reports s t [{ src := Src.REF_FAULT, inst := 0 }] ∧
      KeepsObjects [Obj.Channel.RefState, Obj.SourceConfig.PresentInstances Src.REF_FAULT] s t ∧ SameArrays s t) ∧
    (s.blk.rd Obj.Channel.RefState = rsSETTLING → s.blk.rd Obj.Channel.RefLeadRemaining = 0 → ∃ t, exec .refReady s = .next t ∧
      t.blk.rd Obj.Channel.RefState = rsREADY ∧ KeepsObjects [Obj.Channel.RefState] s t ∧ OnlyObjects s t ∧ SameArrays s t))

/-- O52. A tick boundary opens the next tick, a cycle boundary the next cycle; the supervisors answer by the deadline or overrun. TICK_BOUNDARY while Glade runs, at a cycle's boundary or where the cycle has a further tick, counts one tick; the tick in progress is tick 0 after a cycle boundary, and otherwise the next one where the tick before it had been closed. CYCLE_BOUNDARY after the last tick counts one cycle and closes the tick; once a port has been in service, and without a renumbering, the cycle number is the next one and no tick of the cycle has begun. SUPERVISOR_DONE from tick 4 to nine tenths of the cycle makes the results ready, before it changes nothing. SUP_OVERRUN at the deadline without results reports itself and nothing else. Rules: R27 R31 R33 R35 R36. -/
def Obligations.TicksAndCyclesAdvance : Prop :=
  (∀ (s : State) (overrun : List Nat) (err : Nat), Settled s → overrun.all (fun p => decide (p < 512)) = true → s.blk.glade.running = true →
    (s.blk.glade.boundary = true ∨ s.blk.glade.tick + 1 < s.blk.glade.nt) →
    ∃ t, exec (.tickBoundary overrun err) s = .next t ∧ t.blk.glade.ticks = s.blk.glade.ticks + 1 ∧ t.blk.glade.boundary = false ∧ t.blk.glade.ended = false ∧
      t.blk.glade.cycles = s.blk.glade.cycles ∧ t.pending = s.pending ∧
      (s.blk.glade.ended = true → t.blk.glade.tick = (if s.blk.glade.boundary then 0 else s.blk.glade.tick + 1))) ∧
  (∀ (s : State) (ppm err : Nat), Settled s → s.blk.glade.running = true → s.blk.glade.boundary = false → s.blk.glade.nt ≤ s.blk.glade.tick + 1 →
    ∃ t, exec (.cycleBoundary ppm err) s = .next t ∧ t.blk.glade.cycles = s.blk.glade.cycles + 1 ∧ t.blk.glade.ended = true ∧ t.blk.glade.ticks = s.blk.glade.ticks ∧
      t.pending = s.pending ∧
      (s.blk.glade.everInService = true → s.blk.glade.renumber = none → (t.blk.glade.epoch, t.blk.glade.cycle) = Block.nextCycle s.blk.glade.epoch s.blk.glade.cycle ∧
        t.blk.glade.tick = 0 ∧ t.blk.glade.boundary = true)) ∧
  (∀ s : State, Settled s → s.blk.glade.running = true → s.blk.glade.boundary = false → s.blk.sup.ready = false → s.blk.sup.overrun = false →
    (4 ≤ s.blk.glade.tick → s.blk.glade.tick * 10 ≤ s.blk.glade.nt * 9 → ∃ t, exec .supervisorDone s = .next t ∧ t.blk.sup.ready = true ∧ t.pending = s.pending) ∧
    (s.blk.glade.tick < 4 → exec .supervisorDone s = .next s) ∧
    (s.blk.glade.nt * 9 ≤ s.blk.glade.tick * 10 →
      (let f := { s.blk.faults with reports := s.blk.faults.reports ++ [{ src := Src.SUP_OVERRUN, inst := 0 }] }
       exec .supOverrun s = .next { s with blk := { s.blk with sup := { s.blk.sup with overrun := true }, faults := f } })))

/-- O53. TIME, MASK, digests, ROOT and BULK of the partner are taken over; a differing digest makes the standby DIVERGED. A message that arrives whole and new. PARTNER_TIME on the holder: Role, generation, E, Readiness and the view of the mains are those of the message, and generation and E follow the newer order; a partner that holds with a newer generation makes this holder concede. PARTNER_MASK: the sets and the successes are noted. A tick digest that differs on stands whose records are all shadowed, or a cycle boundary entry that differs, makes a READY standby DIVERGED with SHADOW_MISMATCH; an equal one in VERIFY counts a verified cycle. PARTNER_ROOT adds a root to the copy of the partner's table, acknowledges it, and takes it out. PARTNER_BULK installs objects on a standby and nothing on the holder. A late copy is counted. Rules: R109 R346 R350 R375 R376 R379 R380 R388 R389 R394. -/
def Obligations.ThePartnerTellsItsStateAndDigests : Prop :=
  (∀ (s : State) (lane mseq : Nat), Settled s → Arrives s.blk lane mseq →
    (let own := s.blk.rd Obj.EventOrder.Generation
     (∀ epoch cycle angle source freq mq me mf role gen e ready grave, s.blk.isHolder = true →
       (role ≠ 1 → ∃ t, exec (.partnerTime lane mseq true false epoch cycle angle source freq mq me mf role gen e ready grave) s = .next t ∧ t.blk.pair.role = role ∧
         t.blk.pair.gen = gen ∧ t.blk.pair.timeSeen = true ∧ t.blk.glade.partnerErr = me ∧ t.blk.glade.partnerFreq = mf ∧ t.blk.glade.partnerSource = source ∧
         t.blk.rd Obj.EventOrder.PartnerSequence = e ∧ (s.blk.linkUp = true → t.blk.rd Obj.RedundancyStatus.PartnerReadiness = ready) ∧
         (grave = false → t.blk.pair.graveAt = none) ∧ t.blk.isHolder = true ∧
         (gen = own → t.blk.rd Obj.EventOrder.Generation = own ∧ t.blk.rd Obj.EventOrder.EventSequence = max (s.blk.rd Obj.EventOrder.EventSequence) e) ∧
         (gen ≠ own → ahead 16 gen own = true → t.blk.rd Obj.EventOrder.Generation = gen ∧ t.blk.rd Obj.EventOrder.EventSequence = e) ∧
         (gen ≠ own → ahead 16 gen own = false → t.blk.rd Obj.EventOrder.Generation = own ∧
           t.blk.rd Obj.EventOrder.EventSequence = s.blk.rd Obj.EventOrder.EventSequence) ∧ SameArrays s t) ∧
       (ahead 16 gen own = true → s.blk.inGrave = false →
         ∃ t, exec (.partnerTime lane mseq true false epoch cycle angle source freq mq me mf 1 gen e ready grave) s = .next t ∧ t.blk.isHolder = false ∧
           t.blk.readiness = (if s.blk.isPresent Src.SEAT_MISMATCH 0 then rdBARRED else rdDIVERGED) ∧ ({ src := Src.TOKEN_CONCEDED, inst := 0 } : Report) ∈ t.blk.faults.reports ∧
           ({ src := Src.SPLIT_BRAIN, inst := 0, detail := [(gen : Nat)] } : Report) ∈ t.blk.faults.reports ∧ t.pending = s.pending)) ∧
     (∀ retry sets ok, ∃ t, exec (.partnerMask lane mseq true false retry sets ok) s = .next t ∧ t.blk.masks.okNow = s.blk.masks.okNow ||| ok ∧
       (if retry then t.blk.masks.sets1 = sets ∧ t.blk.masks.came1 = true ∧ t.blk.masks.sets0 = s.blk.masks.sets0
        else t.blk.masks.sets0 = sets ∧ t.blk.masks.came0 = true ∧ t.blk.masks.sets1 = s.blk.masks.sets1) ∧
       ((∀ p, (s.blk.port p).received = []) → KeepsObjects linkObjects s t ∧ t.blk.ports = s.blk.ports ∧ SameArrays s t)) ∧
     (s.blk.isHolder = false → s.blk.pair.role = 1 → s.blk.pair.unshadowed = [] →
       (let apart (c : Instr) (what : List Nat) : Prop := ∃ t, exec c s = .next t ∧ t.blk.readiness = rdDIVERGED ∧
          t.blk.rd Obj.RedundancyStatus.Mismatches = min (s.blk.rd Obj.RedundancyStatus.Mismatches + 1) 0xFFFFFFFF ∧ t.blk.pair.resync = 1 ∧
          ({ src := Src.SHADOW_MISMATCH, inst := 0, detail := what.map Int.ofNat } : Report) ∈ t.blk.faults.reports ∧
          KeepsObjects ([Obj.RedundancyStatus.Mismatches, Obj.RedundancyStatus.Readiness] ++ linkObjects) s t ∧ SameArrays s t
        (∀ differ boundary, s.blk.readiness = rdREADY → s.blk.rd Obj.RedundancyStatus.ResyncPhase = 0 →
          (differ ≠ [] → apart (.partnerTickDigest lane mseq true false differ []) differ) ∧
          (boundary ≠ s.blk.canopy.digest → apart (.partnerCycleDigest lane mseq true false boundary differ) differ) ∧
          (∃ t, exec (.partnerTickDigest lane mseq true false [] []) s = .next t ∧ KeepsObjects linkObjects s t ∧ SameArrays s t)) ∧
        (s.blk.readiness = rdVERIFY → ∃ t, exec (.partnerCycleDigest lane mseq true false s.blk.canopy.digest []) s = .next t ∧
          t.blk.pair.verified = s.blk.pair.verified + 1 ∧ KeepsObjects linkObjects s t ∧ SameArrays s t))) ∧
     (∀ n src cls scope rule reaction left insts detail,
       (let p := s.blk.faults.partnerRoots
        let told (op : Nat) (l : List Root) : Prop := ∃ t, exec (.partnerRoot lane mseq true false op n src cls scope rule reaction left insts detail) s = .next t ∧
          t.blk.faults.partnerRoots = l ∧ t.blk.faults.roots = s.blk.faults.roots ∧ KeepsObjects linkObjects s t ∧ SameArrays s t
        (∃ r : Root, r.number = n ∧ r.src = src ∧ r.cls = cls ∧ r.scope = scope ∧ r.rule = rule ∧ r.reaction = reaction ∧ r.instances = insts ∧ r.detail = detail ∧
          r.decideAt = s.blk.glade.ticks + left ∧ r.acknowledged = false ∧ told 0 (p.filter (fun x => x.number != n) ++ [r])) ∧
        told 1 (p.map (fun r => if r.number = n then { r with acknowledged := true } else r)) ∧
        told 3 (p.filter (fun r => r.number != n)))) ∧
     (∀ unit k v carry, k ∉ linkObjects →
       (s.blk.isHolder = false → ∃ t, exec (.partnerBulk lane mseq true 0 unit [(k, v)] carry []) s = .next t ∧ t.blk.rd k = v ∧
         KeepsObjects (k :: linkObjects) s t ∧ SameArrays s t) ∧
       (s.blk.isHolder = true → ∃ t, exec (.partnerBulk lane mseq true 0 unit [(k, v)] carry []) s = .next t ∧ KeepsObjects linkObjects s t ∧ SameArrays s t)) ∧
     (∀ differ, ∃ t, exec (.partnerTickDigest lane mseq true true differ []) s = .next t ∧
       t.blk.rd Obj.PartnerLink.LateMessages = min (s.blk.rd Obj.PartnerLink.LateMessages + 1) 0xFFFFFFFF ∧
       KeepsObjects (Obj.PartnerLink.LateMessages :: linkObjects) s t ∧ SameArrays s t)))

/-- O54. COMMIT, ACTION, SESSION and SWAP of the partner are mirrored once; an acknowledgement confirms what waited for it. A message that arrives whole and new. PARTNER_COMMIT adds the partner's bundle with its sequence, unaccepted, cancels it, or accepts it. PARTNER_ACTION puts an accepted entry under its handle or takes it out. PARTNER_SESSION opens the session here, and its acknowledgement sets the alert cursor. PARTNER_SWAP with no swap pending schedules the partner's boundary. PARTNER_ACK takes the acknowledged message out and accepts the entry it was about. A frame whose CRC is bad is counted on its lane and changes nothing else, and a second copy is a duplicate. Rules: R69 R75 R91 R104 R105 R374 R376 R390. -/
def Obligations.MessagesAreAppliedOnceAndConfirmed : Prop :=
  (∀ (s : State) (lane mseq : Nat), Settled s → Arrives s.blk lane mseq →
    (∀ seq n epoch cycle writes,
      (let l := s.blk.canopy.bundles
       let does (op : Nat) (keys : List Nat) (m : List Bundle) : Prop := ∃ t, exec (.partnerCommit lane mseq true op seq n epoch cycle writes) s = .next t ∧
         t.blk.canopy.bundles = m ∧ KeepsObjects (keys ++ linkObjects) s t ∧ SameArrays s t ∧ (op = 0 → t.blk.rd Obj.EventOrder.CommitSequence = seq)
       does 0 [Obj.EventOrder.CommitSequence] (l.filter (fun x => x.seq != seq) ++ [⟨seq, n, epoch, cycle, writes, false⟩]) ∧
       does 1 [] (l.filter (fun x => x.seq != seq)) ∧
       does 2 [Obj.CanopyStatus.StagingUsed, Obj.CanopyStatus.CommitsPending] (l.map (fun x => if x.seq = seq then { x with accepted := true } else x)))) ∧
    (∀ h n op kind target arg epoch cycle angle, h < 1024 →
      (∃ t, exec (.partnerAction lane mseq true 0 h n op kind target arg epoch cycle angle) s = .next t ∧
        t.blk.entry? h = some ⟨n, op, kind, target, arg, epoch, cycle, angle, s.blk.actions.next, true, false⟩ ∧
        (∀ k, k ≠ h → t.blk.entry? k = s.blk.entry? k) ∧ t.blk.actions.next = s.blk.actions.next + 1 ∧
        KeepsObjects ([Obj.ActionTable.InUse, Obj.ActionTable.HighWater] ++ linkObjects) s t ∧ SameArrays s t) ∧
      (∀ a, s.blk.entry? h = some a → ∃ t, exec (.partnerAction lane mseq true 1 h n op kind target arg epoch cycle angle) s = .next t ∧ t.blk.entry? h = none ∧
        (∀ k, k ≠ h → t.blk.entry? k = s.blk.entry? k) ∧ KeepsObjects (recordObjects ++ linkObjects) s t ∧ SameArrays s t)) ∧
    (∀ n v0 v1 v2 v3 data, n < 32 →
      (∃ t, exec (.partnerSession lane mseq true 0 n v0 v1 v2 v3 data) s = .next t ∧ (t.blk.sess n).opened = true ∧ (t.blk.sess n).network = v0 ∧
        (t.blk.sess n).node = v1 ∧ (t.blk.sess n).onSeat = decide (v2 % 2 = 1) ∧ (t.blk.sess n).subscribe = decide (v2 / 2 % 2 = 1) ∧
        (∀ k, k ≠ n → t.blk.sess k = s.blk.sess k) ∧ SameArrays s t) ∧
      (∃ t, exec (.partnerSession lane mseq true 6 n v0 v1 v2 v3 data) s = .next t ∧ t.blk.sess n = { s.blk.sess n with ackSeq := v0 } ∧
        (∀ k, k ≠ n → t.blk.sess k = s.blk.sess k) ∧ SameArrays s t)) ∧
    (∀ epoch cycle, s.blk.pair.swap = none → s.blk.swapMerges epoch cycle = false →
      ∃ t, exec (.partnerSwap lane mseq true epoch cycle) s = .next t ∧ t.blk.pair.swap = some (epoch, cycle) ∧
        t.blk.rd Obj.SwapControl.PendingEpoch = epoch ∧ t.blk.rd Obj.SwapControl.PendingCycle = cycle ∧
        KeepsObjects ([Obj.SwapControl.PendingEpoch, Obj.SwapControl.PendingCycle] ++ linkObjects) s t ∧ SameArrays s t)) ∧
  (∀ (s : State) (lane mseq result : Nat) (m : Msg) (h : Nat) (a : Action), Settled s → lane < 2 → s.blk.pair.out.find? (fun m => m.seq == mseq) = some m →
    m.kind = 3 → m.ref = [0, h] → s.blk.entry? h = some a →
    ∃ t, exec (.partnerAck lane true mseq result) s = .next t ∧ t.blk.pair.out = s.blk.pair.out.filter (fun m => m.seq != mseq) ∧
      t.blk.entry? h = some { a with accepted := true } ∧ (∀ k, k ≠ h → t.blk.entry? k = s.blk.entry? k) ∧ KeepsObjects [] s t ∧ SameArrays s t) ∧
  (∀ (s : State) (lane mseq epoch cycle result : Nat), Settled s → lane < 2 → s.blk.faults.partnerCrcLeft = 0 →
    (let bad := if lane = 0 then Obj.PartnerLink.CrcErrors0 else Obj.PartnerLink.CrcErrors1
     let counted (k : Nat) (t : State) : Prop := t.blk.rd k = min (s.blk.rd k + 1) 0xFFFFFFFF
     (∀ c ∈ [Instr.partnerSwap lane mseq false epoch cycle, .partnerAck lane false mseq result], ∃ t, exec c s = .next t ∧ counted bad t ∧
       KeepsObjects [bad] s t ∧ OnlyObjects s t ∧ SameArrays s t) ∧
     (s.blk.pair.seen.any (Block.inRangeOf (mseq % 2 ^ 32)) = true → ∃ t, exec (.partnerSwap lane mseq true epoch cycle) s = .next t ∧
       counted Obj.PartnerLink.Duplicates t ∧ KeepsObjects (Obj.PartnerLink.Duplicates :: linkObjects) s t ∧ t.blk.pair.swap = s.blk.pair.swap ∧ SameArrays s t)))

/-- O55. The partner link comes and goes by its frames; the token is read, taken warm or cold, and numbers a new generation. PARTNER_LINK_UP after 50 ticks with a valid TIME brings the link UP, and a standby that is not BARRED becomes DIVERGED and is to resynchronise. PARTNER_LINK_DOWN with both lanes silent for 3 ticks ends the link, accepts what waited for the partner, and leaves a standby ALONE. PARTNER_LANE_DOWN drops its lane. PARTNER_RETRANSMIT sends again what waited 2 ticks. TOKEN_IN_CHANGE classifies the line; HOLDING that ends is a warm trigger for a READY standby. TOKEN_TAKE at its claiming tick and COLD_TAKE after its wait make this controller the holder with the next generation. Rules: R346 R372 R373 R376 R377 R383 R384 R386 R402 R405. -/
def Obligations.TheLinkAndTheTokenChangeHands : Prop :=
  (∀ (s : State) (ns : Nat), Settled s → s.blk.linkUp = false → 50 ≤ s.blk.pair.timeRun + (if s.blk.pair.timeSeen then 1 else 0) →
    ∃ t, exec (.partnerLinkUp ns) s = .next t ∧ t.blk.linkUp = true ∧ t.blk.rd Obj.PartnerLink.Latency = min ns 65535 ∧ t.blk.isPresent Src.PARTNER_LINK_DOWN 0 = false ∧
      (s.blk.isHolder = false → s.blk.readiness ≠ rdBARRED → t.blk.readiness = rdDIVERGED ∧ t.blk.pair.resync = 1 ∧ t.blk.pair.resyncFrom = s.blk.glade.cycles) ∧
      (s.blk.isHolder = true ∨ s.blk.readiness = rdBARRED → t.blk.readiness = s.blk.readiness) ∧
      KeepsObjects [Obj.PartnerLink.LinkState, Obj.PartnerLink.Latency, Obj.RedundancyStatus.Readiness, Obj.SourceConfig.PresentInstances Src.PARTNER_LINK_DOWN] s t ∧
      SameArrays s t) ∧
  (∀ s : State, Settled s → s.blk.linkUp = true → 3 ≤ s.blk.pair.silent0 → 3 ≤ s.blk.pair.silent1 →
    ∃ t, exec .partnerLinkDown s = .next t ∧ t.blk.linkUp = false ∧ t.blk.rd Obj.PartnerLink.Lane0Up = 0 ∧ t.blk.rd Obj.PartnerLink.Lane1Up = 0 ∧
      t.blk.rd Obj.RedundancyStatus.PartnerReadiness = 0xFF ∧ t.blk.rd Obj.PartnerLink.LinkDowns = min (s.blk.rd Obj.PartnerLink.LinkDowns + 1) 0xFFFFFFFF ∧
      t.blk.isPresent Src.PARTNER_LINK_DOWN 0 = true ∧ t.blk.pair.out = [] ∧ (∀ e ∈ t.blk.actions.table, e.2.accepted = true) ∧
      (∀ x ∈ t.blk.canopy.bundles, x.accepted = true) ∧ (s.blk.isHolder = false → s.blk.readiness ≠ rdBARRED → t.blk.readiness = rdALONE) ∧
      (s.blk.isHolder = true → t.blk.readiness = s.blk.readiness) ∧ SameArrays s t) ∧
  (∀ (s : State) (lane : Nat), Settled s → lane < 2 → 3 ≤ (if lane = 0 then s.blk.pair.silent0 else s.blk.pair.silent1) → s.blk.isPresent Src.PARTNER_LANE_DOWN 0 = false →
    ∃ t, exec (.partnerLaneDown lane) s = .next t ∧ t.blk.rd (if lane = 0 then Obj.PartnerLink.Lane0Up else Obj.PartnerLink.Lane1Up) = 0 ∧
      t.blk.isPresent Src.PARTNER_LANE_DOWN 0 = true ∧ Reports s t [{ src := Src.PARTNER_LANE_DOWN, inst := 0, detail := [(lane : Nat)] }] ∧
      KeepsObjects linkObjects s t ∧ SameArrays s t) ∧
  (∀ s : State, Settled s →
    (let due (m : Msg) : Bool := decide (m.sent + 2 ≤ s.blk.glade.ticks)
     ∃ t, exec .partnerRetransmit s = .next t ∧ t.blk.pair = { s.blk.pair with out := s.blk.pair.out.map (fun m => if due m then { m with sent := s.blk.glade.ticks } else m) } ∧
       t.blk.rd Obj.PartnerLink.Retransmits = min (s.blk.rd Obj.PartnerLink.Retransmits + (s.blk.pair.out.filter due).length) 0xFFFFFFFF ∧
       KeepsObjects [Obj.PartnerLink.Retransmits] s t ∧ SameArrays s t)) ∧
  (∀ (s : State) (cls : Nat) (fits early : Bool), Settled s → cls ≤ 2 →
    ∃ t, exec (.tokenInChange cls fits early) s = .next t ∧ t.blk.tokenIn = (if fits then cls else tkNOT_READY) ∧ t.blk.isPresent Src.TOKEN_LINE_FAULT 0 = !fits ∧
      (s.blk.tokenIn = tkHOLDING → t.blk.tokenIn ≠ tkHOLDING → s.blk.isHolder = false → s.blk.readiness = rdREADY → s.blk.pair.claim = none →
        t.blk.pair.claim = some (ttRELEASE, s.blk.glade.ticks, s.blk.glade.ticks + (if early then 1 else 2))) ∧
      KeepsObjects [Obj.RedundancyStatus.TokenIn, Obj.SourceConfig.PresentInstances Src.TOKEN_LINE_FAULT] s t ∧ SameArrays s t) ∧
  (∀ s : State, Settled s → s.blk.isHolder = false →
    (let holds (c : Instr) (trigger gen : Nat) (r : Report) : Prop := ∃ t, exec c s = .next t ∧ t.blk.isHolder = true ∧ t.blk.readiness = rdHOLDING ∧
       t.blk.rd Obj.RedundancyStatus.LastTrigger = trigger ∧ t.blk.rd Obj.EventOrder.Generation = (gen + 1) % 65536 ∧ t.blk.masks.silent = false ∧
       t.blk.pair.claim = none ∧ t.blk.rd Obj.RedundancyStatus.Takeovers = min (s.blk.rd Obj.RedundancyStatus.Takeovers + 1) 0xFFFFFFFF ∧
       t.blk.rd Obj.RedundancyStatus.LastTakeEpoch = s.blk.glade.epoch ∧ t.blk.rd Obj.RedundancyStatus.LastTakeCycle = s.blk.glade.cycle ∧
       t.blk.faults.carried = s.blk.faults.partnerRoots.filter (fun r => r.outcome == roPENDING) ∧ r ∈ t.blk.faults.reports ∧ SameArrays s t
     let own := s.blk.rd Obj.EventOrder.Generation
     (∀ trigger k n, s.blk.pair.claim = some (trigger, k, n) → n ≤ s.blk.glade.ticks + 1 →
       holds .tokenTake trigger own { src := Src.TAKEOVER, inst := 0, detail := [(trigger : Nat)] }) ∧
     (s.blk.inGrave = false → s.blk.glade.running = true → s.blk.readiness ≠ rdREADY → s.blk.readiness ≠ rdBARRED → s.blk.pair.sawReady = false →
       s.blk.tokenIn = tkNOT_READY → s.blk.pair.waitFrom + s.blk.rd Obj.RedundancyConfig.ColdStartWait * (if s.blk.seat = 0x42 then 2 else 1) ≤ s.blk.glade.cycles →
       holds .coldTake ttCOLD (if ahead 16 s.blk.pair.gen own then s.blk.pair.gen else own) { src := Src.COLD_TAKE, inst := 0 })))

/-- O56. A swap is scheduled for a boundary and changes the roles there or is abandoned; drills swap twice; kills need their conditions. SWAP_NOW with a partner schedules the first boundary at least 200 ticks ahead; without one the Status is 2. SWAP_EXECUTE at that boundary, and a ROLE_SWAP entry at its own, make the holder a READY standby and the standby the holder where the conditions of R391 hold, and otherwise abandon the swap. DRILL_NOW and DRILL_INTERVAL_EXPIRY schedule a drill's first swap, DRILL_SECOND_SWAP its second after DrillDuration, and DRILL_CHECK_END yields where a check of the first 100 ticks failed. KILL_NOW with value 0x4B, enabled, by a holder the heads confirm and within KillLimit, drives the kill, KILL_ON_GRAVE does after KillDelay, and KILL_PULSE_END ends it after KillPulse. Rules: R390 R391 R392 R397 R398 R399 R403. -/
def Obligations.SwapsDrillsAndKillsAreRequestedAndRun : Prop :=
  (∀ (s : State) (n : Nat), Settled s → n < 32 →
    (let place := s.blk.swapBoundary
     let asked := s.blk.linkUp = true ∧ s.blk.tokenIn ≠ tkNOT_READY ∧ s.blk.swapMerges place.1 place.2 = false
     let swaps := [Obj.SwapControl.PendingEpoch, Obj.SwapControl.PendingCycle]
     let scheduled (c : Instr) (keys : List Nat) (drill : Nat) : Prop := ∃ t, exec c s = .next t ∧ t.blk.pair.swap = some place ∧ t.blk.rd Obj.SwapControl.PendingEpoch = place.1 ∧
       t.blk.rd Obj.SwapControl.PendingCycle = place.2 ∧ t.blk.rd Obj.SwapDrill.DrillState = drill ∧
       (∃ m ∈ t.blk.pair.out, m.kind = 5 ∧ m.ref = [place.1, place.2]) ∧ KeepsObjects (keys ++ swaps) s t ∧ SameArrays s t
     let drill := s.blk.rd Obj.SwapDrill.DrillState
     (asked → scheduled (.swapNow n) [sk n Obj.SwapControl.Status] drill) ∧
     (s.blk.linkUp = false → ∃ t, exec (.swapNow n) s = .next t ∧ t.blk.rd (sk n Obj.SwapControl.Status) = 2 ∧ KeepsObjects [sk n Obj.SwapControl.Status] s t ∧
       OnlyObjects s t ∧ SameArrays s t) ∧
     (asked → drill = 0 → scheduled .drillNow [Obj.SwapDrill.DrillState] 1 ∧
       (s.blk.rd Obj.SwapDrill.DrillInterval ≠ 0 → s.blk.pair.drillEnd + s.blk.rd Obj.SwapDrill.DrillInterval ≤ s.blk.glade.cycles →
         scheduled .drillIntervalExpiry [Obj.SwapDrill.DrillState] 1)) ∧
     (asked → drill = 2 → s.blk.pair.drillCycle + s.blk.rd Obj.SwapDrill.DrillDuration ≤ s.blk.glade.cycles →
       scheduled .drillSecondSwap [Obj.SwapDrill.DrillState] 3))) ∧
  (∀ (s : State), Settled s → s.blk.glade.boundary = true → s.blk.rd Obj.SwapDrill.DrillState = 0 →
    (let here := (s.blk.glade.epoch, s.blk.glade.cycle)
     let ran (t : State) : Prop := t.blk.pair.swap = none ∧ t.pending = s.pending ∧
       (s.blk.swapOk = true → s.blk.isHolder = true → t.blk.isHolder = false ∧ t.blk.readiness = rdREADY ∧ t.blk.rd Obj.GladeStatus.State = gladeSLAVED) ∧
       (s.blk.swapOk = true → s.blk.isHolder = false → t.blk.isHolder = true ∧ t.blk.readiness = rdHOLDING ∧ t.blk.rd Obj.RedundancyStatus.LastTrigger = ttSWAP) ∧
       (s.blk.swapOk = true → t.blk.rd Obj.SwapControl.LastOutcome = 1 ∧ t.blk.rd Obj.SwapControl.Swaps = min (s.blk.rd Obj.SwapControl.Swaps + 1) 0xFFFFFFFF ∧
         ({ src := Src.SWAP_DONE, inst := 0 } : Report) ∈ t.blk.faults.reports) ∧
       (s.blk.swapOk = false → t.blk.rd Obj.SwapControl.LastOutcome = 2 ∧ t.blk.isHolder = s.blk.isHolder ∧
         ({ src := Src.SWAP_ABANDONED, inst := 0 } : Report) ∈ t.blk.faults.reports)
     s.blk.pair.swap = some here →
       (∃ t, exec .swapExecute s = .next t ∧ ran t) ∧
       (∀ h a, Due s.blk h 9 a → ∃ t, exec (.roleSwap h) s = .next t ∧ ran t ∧ t.blk.entry? h = none))) ∧
  (∀ (s : State), Settled s → s.blk.rd Obj.SwapDrill.DrillState = 2 → s.blk.isHolder = true → s.blk.pair.drillTick + 100 ≤ s.blk.glade.ticks →
    (∀ p, p < 512 → s.blk.portState p ≠ psIN_SERVICE) → s.blk.tokenIn = tkREADY →
    (s.blk.pair.drillBad = 0 → exec .drillCheckEnd s = .next s) ∧
    (s.blk.pair.drillBad ≠ 0 → ∃ t, exec .drillCheckEnd s = .next t ∧ t.blk.rd Obj.SwapDrill.LastResult = 3 ∧ t.blk.rd Obj.SwapDrill.DrillState = 0 ∧ t.blk.isHolder = false ∧
      Reports s t [{ src := Src.DRILL_FAILED, inst := 0, detail := [3] }, { src := Src.YIELDED, inst := 0, detail := [3] }] ∧ SameArrays s t)) ∧
  (∀ (s : State), Settled s →
    (let recent := s.blk.pair.kills.filter (fun c => decide (s.blk.glade.cycles < c + 4320000))
     let kills (c : Instr) : Prop := ∃ t, exec c s = .next t ∧ t.blk.pair.kill = some s.blk.glade.ticks ∧ t.blk.pair.kills = s.blk.glade.cycles :: recent ∧
       t.blk.rd Obj.PartnerKill.LastResult = 1 ∧ t.blk.rd Obj.PartnerKill.Kills = min (s.blk.rd Obj.PartnerKill.Kills + 1) 0xFFFFFFFF ∧
       Reports s t [{ src := Src.PARTNER_KILLED, inst := 0 }] ∧ KeepsObjects [Obj.PartnerKill.LastResult, Obj.PartnerKill.Kills, Obj.LrsStatus.LastOperations] s t ∧ SameArrays s t
     (s.blk.rd Obj.PartnerKill.KillEnable = 1 → s.blk.isHolder = true → s.blk.headsConfirm = true → recent.length < s.blk.rd Obj.PartnerKill.KillLimit →
       kills (.killNow 0x4B) ∧
       (∀ at_, s.blk.pair.graveAt = some at_ → s.blk.rd Obj.PartnerKill.KillOnGrave = 1 → s.blk.rd Obj.PartnerKill.KillDelay * 1000 ≤ s.blk.microsSince at_ →
         kills .killOnGrave)) ∧
     (∀ v, v ≠ 0x4B → ∃ t, exec (.killNow v) s = .next t ∧ t.blk.rd Obj.PartnerKill.LastResult = 5 ∧ t.blk.pair = s.blk.pair ∧
       Reports s t [{ src := Src.PARTNER_KILL_REFUSED, inst := 0, detail := [5] }] ∧ KeepsObjects [Obj.PartnerKill.LastResult] s t ∧ SameArrays s t) ∧
     (∀ at_, s.blk.pair.kill = some at_ → s.blk.rd Obj.PartnerKill.KillPulse * 1000 ≤ s.blk.microsSince at_ →
       exec .killPulseEnd s = .next { s with blk := { s.blk with pair := { s.blk.pair with kill := none } } })))

/-- O57. A standby asks for resynchronisation; bulk, replay and verification follow each other, and verified cycles make it READY. RESYNC on a standby asks for a run from this cycle on, and clears SHADOW_UNSTABLE's bar; on the holder it changes nothing. RESYNC_BULK_DONE in phase 1 begins phase 2 while the engine clock is 600 MHz. RESYNC_REPLAY_DONE begins phase 3, VERIFY, with no cycle verified. RESYNC_VERIFY_DONE after ShadowVerifyCycles verified cycles makes the standby READY, counts the run and raises RESYNC_DONE. RESYNC_RETRY at a cycle boundary 50 cycles after a run that ended early starts the next run while the partner holds. Rules: R372 R382 R394 R395. -/
def Obligations.ResynchronisationRunsItsPhases : Prop :=
  ∀ s : State, Settled s →
    (s.blk.isHolder = true → exec .resync s = .next s) ∧
    (s.blk.isHolder = false → s.blk.pair.unstable = false →
      exec .resync s = .next { s with blk := { s.blk with pair := { s.blk.pair with resync := 1, resyncFrom := s.blk.glade.cycles } } }) ∧
    (s.blk.isHolder = false → s.blk.pair.unstable = true → s.blk.readiness = rdBARRED → s.blk.barred = false → ∃ t, exec .resync s = .next t ∧ t.blk.readiness = rdDIVERGED ∧
      t.blk.isPresent Src.SHADOW_UNSTABLE 0 = false ∧ t.blk.pair = { s.blk.pair with resync := 1, resyncFrom := s.blk.glade.cycles, unstable := false, fails := [] } ∧
      KeepsObjects [Obj.RedundancyStatus.Readiness, Obj.SourceConfig.PresentInstances Src.SHADOW_UNSTABLE] s t ∧ SameArrays s t) ∧
    (let phase := s.blk.rd Obj.RedundancyStatus.ResyncPhase
     (phase = 1 → s.blk.rd Obj.SupplyStatus.EngineClock = 600 → ∃ t, exec .resyncBulkDone s = .next t ∧ t.blk.rd Obj.RedundancyStatus.ResyncPhase = 2 ∧
       KeepsObjects [Obj.RedundancyStatus.ResyncPhase] s t ∧ OnlyObjects s t ∧ SameArrays s t) ∧
     (phase = 1 → s.blk.rd Obj.SupplyStatus.EngineClock ≠ 600 → exec .resyncBulkDone s = .next s) ∧
     (phase = 2 → ∃ t, exec .resyncReplayDone s = .next t ∧ t.blk.rd Obj.RedundancyStatus.ResyncPhase = 3 ∧ t.blk.readiness = rdVERIFY ∧
       t.blk.pair = { s.blk.pair with verified := 0 } ∧ KeepsObjects [Obj.RedundancyStatus.ResyncPhase, Obj.RedundancyStatus.Readiness] s t ∧ SameArrays s t) ∧
     (phase = 3 → s.blk.rd Obj.RedundancyConfig.ShadowVerifyCycles ≤ s.blk.pair.verified → ∃ t, exec .resyncVerifyDone s = .next t ∧
       t.blk.rd Obj.RedundancyStatus.ResyncPhase = 0 ∧ t.blk.readiness = rdREADY ∧
       t.blk.rd Obj.RedundancyStatus.Resyncs = min (s.blk.rd Obj.RedundancyStatus.Resyncs + 1) 0xFFFFFFFF ∧ Reports s t [{ src := Src.RESYNC_DONE, inst := 0 }] ∧
       KeepsObjects [Obj.RedundancyStatus.ResyncPhase, Obj.RedundancyStatus.Readiness, Obj.RedundancyStatus.Resyncs] s t ∧ SameArrays s t) ∧
     (phase = 3 → s.blk.pair.verified < s.blk.rd Obj.RedundancyConfig.ShadowVerifyCycles → exec .resyncVerifyDone s = .next s)) ∧
    (s.blk.pair.resync = 2 → s.blk.pair.resyncFrom ≤ s.blk.glade.cycles → s.blk.glade.boundary = true → s.blk.isHolder = false → s.blk.linkUp = true →
      s.blk.tokenIn = tkHOLDING → s.blk.readiness ≠ rdBARRED → ∃ t, exec .resyncRetry s = .next t ∧ t.blk.rd Obj.RedundancyStatus.ResyncPhase = 1 ∧
        t.blk.readiness = rdRESYNC ∧ t.blk.pair = { s.blk.pair with resync := 0, verified := 0 } ∧
        KeepsObjects [Obj.RedundancyStatus.ResyncPhase, Obj.RedundancyStatus.Readiness] s t ∧ SameArrays s t)

/-- O58. Flushes put the unflushed records into the next rows of the ring, readers return their range once, a clear sets the floors. RINGS_FLUSH starts a flush that covers what is unflushed. FLUSH_COMPLETE of a flush that Heartwood takes puts the covered records above the floor, oldest first, behind the ring's records and their 64 bytes into the next rows; every other byte of Heartwood stays. FLUSH_RETRY at a cycle boundary starts a refused flush again. FREEZE_LIMIT_EXPIRY ends the freeze. ARCHIVE_BATCH puts the oldest 1,024 unarchived records into the next sector, and marks it bad after two refusals. RINGS_CLEAR sets the floors named. RINGS_READER_OPEN bounds a reader at the newest record, RINGS_DATA_READ returns up to 1,024 records of its range, RINGS_READER_CLOSE closes it. RATE_SUMMARY writes the suppressed count of a code whose bucket stayed full. Rules: R413 R414 R416 R420 R421 R422 R423 R444. -/
def Obligations.TheRecorderFlushesReadsAndClears : Prop :=
  (∀ s : State, Settled s → s.blk.rings.freezeEnd = none →
    (s.blk.rings.retry = false → exec .ringsFlush s = .next { s with blk := { s.blk with rings := { s.blk.rings with flushing := true, covered := s.blk.rings.unflushed } } }) ∧
    (s.blk.rings.retry = true → s.blk.glade.boundary = true →
      exec .flushRetry s = .next { s with blk := { s.blk with rings := { s.blk.rings with retry := false, flushing := true, covered := s.blk.rings.unflushed } } }) ∧
    (let k := min s.blk.rings.covered s.blk.rings.unflushed
     let l := s.blk.toFlush k
     let row (i : Nat) : Nat := (s.blk.rings.row + i) % 32768 * 64
     s.blk.rings.row < 32768 → s.blk.store.work = [] → s.blk.rings.flushing = true → s.blk.heartwoodRefuses 0 = false → s.blk.rings.lost = 0 → s.blk.rings.ring.length + l.length ≤ 32768 →
       ∃ t, exec .flushComplete s = .next t ∧ t.blk.rings.ring = s.blk.rings.ring ++ l ∧ t.blk.rings.unflushed = s.blk.rings.unflushed - k ∧
         t.blk.rings.flushing = false ∧ t.blk.rings.retry = false ∧ t.blk.rings.buffer = s.blk.rings.buffer ∧
         t.blk.rd Obj.RingsStatus.Flushes = min (s.blk.rd Obj.RingsStatus.Flushes + 1) 0xFFFFFFFF ∧
         (∀ i r, l[i]? = some r → t.heartwoodBytes (row i) 64 = (Rec.bytes r).map (· % 256)) ∧
         (∀ a, (∀ i, i < l.length → a < row i ∨ row i + 64 ≤ a) → Memory.heartwoodByte t.heartwood a = Memory.heartwoodByte s.heartwood a) ∧
         t.flash = s.flash ∧ t.pending = s.pending)) ∧
  (∀ (s : State) (c : Nat), Settled s → s.blk.rings.freezeEnd = some c → c ≤ s.blk.glade.cycles →
    ∃ t, exec .freezeLimitExpiry s = .next t ∧ t.blk.rings.freezeEnd = none ∧ t.blk.rings.queue = [] ∧ t.blk.rd Obj.RingsStatus.FreezeActive = 0 ∧
      (∀ e ∈ t.blk.sessions, e.2.readerFreeze = false) ∧ SameArrays s t) ∧
  (∀ (s : State) (i : Nat), Settled s → s.blk.archiveReady = true → s.blk.archiveSector = some i →
    (let l := (s.blk.rings.ring.drop (s.blk.rings.ring.length - s.blk.rings.unarchived)).take 1024
     let outside (t : State) : Prop := ∀ a, a < 0x3000000 + i * 65536 ∨ 0x3000000 + (i + 1) * 65536 ≤ a → Memory.flashByte t.flash a = Memory.flashByte s.flash a
     l.length = 1024 →
       (∃ t, exec (.archiveBatch 0) s = .next t ∧ (i, l) ∈ t.blk.rings.archive ∧ t.blk.rings.unarchived = s.blk.rings.unarchived - 1024 ∧
         t.blk.rings.sector = (i + 1) % 256 ∧ outside t ∧ t.heartwood = s.heartwood ∧ t.pending = s.pending) ∧
       (∃ t, exec (.archiveBatch 2) s = .next t ∧ t.blk.rings.badSectors = i :: s.blk.rings.badSectors ∧ t.blk.rings.sector = (i + 1) % 256 ∧
         t.blk.rings.unarchived = s.blk.rings.unarchived ∧ ({ src := Src.ARCHIVE_SECTOR_BAD, inst := 0, detail := [(i : Nat)] } : Report) ∈ t.blk.faults.reports ∧
         outside t ∧ t.heartwood = s.heartwood ∧ t.pending = s.pending))) ∧
  (∀ (s : State) (n : Nat), Settled s → n < 32 →
    (let x := s.blk.sess n
     let top := s.blk.newestAppended
     (∀ mask, ∃ t, exec (.ringsClear n mask) s = .next t ∧ SameArrays s t ∧
       (∀ tier, tier < 3 → bitOf mask tier = true → t.blk.rd (Obj.RingsStatus.Floor tier) = top.2 ∧ t.blk.rd (Obj.RingsStatus.FloorGen tier) = top.1 * 65536) ∧
       (∀ tier, tier < 3 → bitOf mask tier = false → t.blk.rd (Obj.RingsStatus.Floor tier) = s.blk.rd (Obj.RingsStatus.Floor tier) ∧
         t.blk.rd (Obj.RingsStatus.FloorGen tier) = s.blk.rd (Obj.RingsStatus.FloorGen tier)) ∧ (bitOf mask 1 = true → t.blk.rings.unarchived = 0)) ∧
     (x.reader = false → s.blk.rd (sk n Obj.RingsReader.Mode) = 0 → ∃ t, exec (.ringsReaderOpen n) s = .next t ∧ (t.blk.sess n).reader = true ∧
       t.blk.rd (sk n Obj.RingsReader.BoundGeneration) = top.1 ∧ t.blk.rd (sk n Obj.RingsReader.BoundSequence) = top.2 ∧ t.blk.rd (sk n Obj.RingsReader.Returned) = 0 ∧
       t.blk.rings = s.blk.rings ∧ (∀ m, m ≠ n → t.blk.sess m = s.blk.sess m) ∧ SameArrays s t) ∧
     (x.readerFreeze = false → ∃ t, exec (.ringsReaderClose n) s = .next t ∧ t.blk.sess n = { x with reader := false, readerNote := 0, readerLost := 0 } ∧
       t.blk.rd (sk n Obj.RingsReader.Status) = 5 ∧ (∀ m, m ≠ n → t.blk.sess m = s.blk.sess m) ∧ KeepsObjects [sk n Obj.RingsReader.Status] s t ∧ SameArrays s t) ∧
     (x.reader = false → ∃ t, exec (.ringsDataRead n) s = .next t ∧ (t.blk.sess n).reply.data = [] ∧ t.blk.rd (sk n Obj.RingsReader.Status) = 5 ∧
       KeepsObjects [sk n Obj.RingsReader.Status] s t ∧ SameArrays s t) ∧
     (x.reader = true → x.readerNote = 0 → x.readerLost = 0 →
       (let l := (s.blk.visible (s.blk.rd (sk n Obj.RingsReader.Tier))).filter (fun r => !Block.recBefore r.gen r.seq x.cursorGen x.cursorSeq &&
          !Block.recBefore (s.blk.rd (sk n Obj.RingsReader.BoundGeneration)) (s.blk.rd (sk n Obj.RingsReader.BoundSequence)) r.gen r.seq)
        ∃ t, exec (.ringsDataRead n) s = .next t ∧ (t.blk.sess n).reply.data = (l.take 1024).flatMap Rec.bytes ∧
          t.blk.rd (sk n Obj.RingsReader.Status) = (if l.length ≤ 1024 then 1 else 0) ∧
          t.blk.rd (sk n Obj.RingsReader.Returned) = min (s.blk.rd (sk n Obj.RingsReader.Returned) + (l.take 1024).length) 0xFFFFFFFF ∧
          KeepsObjects [sk n Obj.RingsReader.Status, sk n Obj.RingsReader.Returned] s t ∧ t.blk.rings = s.blk.rings ∧ SameArrays s t)))) ∧
  (∀ (s : State) (c : Nat), Settled s → c < 224 → Tab.look 0 s.blk.rings.suppressed c ≠ 0 → 50 ≤ Tab.look 0 s.blk.rings.full c → s.blk.glade.fnom ≤ s.blk.bucketTokens c →
    s.blk.rings.freezeEnd = none →
    ∃ t, exec (.rateSummary c) s = .next t ∧ Tab.look 0 t.blk.rings.suppressed c = 0 ∧
      (∃ r, t.blk.rings.buffer.getLast? = some r ∧ r.code = c ∧ r.flags = 16 ∧ r.suppressed = min (Tab.look 0 s.blk.rings.suppressed c) 0xFFFF) ∧
      KeepsObjects (Obj.CodeRate.Written c :: recordObjects) s t ∧ SameArrays s t)

/-- O59. A dump goes to the first erased area, or reduced to Heartwood; its end, its release and its erase change the area's state. DUMP_NOW on a standby with no dump due or running owes one with cause 0xFFFF and makes it DIVERGED; on the holder the Result is 1. DUMP_START of a dump that is due goes to D0 where its flash is ready and the area is erased, and otherwise, with both areas taken or no flash, into the reduced area of Heartwood, which it changes alone. DUMP_COMPLETE of the reduced dump marks it complete, names its cause and counts it. DUMP_RELEASE releases an area that no dump uses. DUMP_ERASE_DONE leaves a released flash area all ones and ERASED and the rest of the flash as it was. ABORT_DUMP ends a dump in progress as PARTIAL with Result 0, and answers 1 where none runs. Rules: R425 R426 R427 R428 R429 R430 R512. -/
def Obligations.FatalDumpsAreWrittenReleasedAndErased : Prop :=
  (∀ (s : State) (n : Nat), Settled s → n < 32 →
    (let say (t : State) (v : Nat) : Prop := t.blk.rd (sk n Obj.DumpControl.Result) = v
     (s.blk.isHolder = true → ∃ t, exec (.dumpNow n) s = .next t ∧ say t 1 ∧ KeepsObjects [sk n Obj.DumpControl.Result] s t ∧ OnlyObjects s t ∧ SameArrays s t) ∧
     (s.blk.isHolder = false → s.blk.dump.area = none → s.blk.dump.due = none → s.blk.readiness ≠ rdBARRED → ∃ t, exec (.dumpNow n) s = .next t ∧ say t 0 ∧
       t.blk.dump.due = some 0xFFFF ∧ t.blk.dump.cause = 0xFFFF ∧ t.blk.readiness = rdDIVERGED ∧ SameArrays s t) ∧
     (∀ a, a < 3 → s.blk.dump.area ≠ some a → ∃ t, exec (.dumpRelease n a) s = .next t ∧ say t 0 ∧ t.blk.dumpState a = (if a = 2 then 0 else 1) ∧
       KeepsObjects [sk n Obj.DumpControl.Result, Obj.DumpControl.StateD0 + a, Obj.HeartwoodStatus.WriteRefusals] s t ∧ SameArrays s t) ∧
     (∀ a, 3 ≤ a → ∃ t, exec (.dumpRelease n a) s = .next t ∧ say t 3 ∧ KeepsObjects [sk n Obj.DumpControl.Result] s t ∧ OnlyObjects s t ∧ SameArrays s t) ∧
     ((∀ e ∈ s.blk.sessions, ∀ since, e.2.abort ≠ some (6, 0, since)) →
       (∀ a, a < 3 → s.blk.dump.area = some a → ∃ t, exec (.abortDump n) s = .next t ∧ t.blk.dumpState a = 4 ∧ t.blk.dump.area = none ∧
         t.blk.rd Obj.DumpControl.LastArea = a ∧ t.blk.rd Obj.DumpControl.LastCause = s.blk.dump.cause ∧ t.blk.rd Obj.DumpControl.Dumps = s.blk.rd Obj.DumpControl.Dumps ∧
         t.blk.rd (sk n Obj.Abort.Result) = 0 ∧ SameArrays s t) ∧
       (s.blk.dump.area = none → s.blk.dump.due = none → ∃ t, exec (.abortDump n) s = .next t ∧ t.blk.rd (sk n Obj.Abort.Result) = 1 ∧
         KeepsObjects [sk n Obj.Abort.Result, sk n Obj.Abort.Elapsed] s t ∧ OnlyObjects s t ∧ SameArrays s t)))) ∧
  (∀ (s : State) (cause : Nat), Settled s → s.blk.dump.due = some cause →
    (s.blk.flashReady = true → s.blk.dumpState 0 = 0 → (∀ a, 0x2000000 ≤ a → a < 0x2800000 → Memory.flashByte s.flash a = 0xFF) →
      ∃ t, exec .dumpStart s = .next t ∧ t.blk.dump.area = some 0 ∧ t.blk.dump.due = none ∧ t.blk.dump.stopped = true ∧ t.blk.dumpState 0 = 2 ∧
        t.flashBytes 0x2000000 4 = [0x45, 0x55, 0x53, 0x44] ∧
        (∀ a, a < 0x2000000 ∨ 0x2800000 ≤ a → Memory.flashByte t.flash a = Memory.flashByte s.flash a) ∧ t.heartwood = s.heartwood ∧ t.pending = s.pending) ∧
    (s.blk.flashReady = false ∨ (s.blk.dumpState 0 ≠ 0 ∧ s.blk.dumpState 1 ≠ 0) → s.blk.dumpState 2 = 0 → s.blk.heartwoodRefuses 0x220000 = false →
      ∃ t, exec .dumpStart s = .next t ∧ t.blk.dump.area = some 2 ∧ t.blk.dump.due = none ∧ t.blk.dump.stopped = true ∧ t.blk.dumpState 2 = 2 ∧
        t.heartwoodBytes 0x220000 4 = [0x45, 0x55, 0x53, 0x44] ∧
        (∀ a, a < 0x220000 ∨ 0x260000 ≤ a → Memory.heartwoodByte t.heartwood a = Memory.heartwoodByte s.heartwood a) ∧ t.flash = s.flash ∧ t.pending = s.pending)) ∧
  (∀ (s : State), Settled s → s.blk.dump.area = some 2 → s.blk.heartwoodRefuses 0x220000 = false →
    ∃ t, exec (.dumpComplete []) s = .next t ∧ t.blk.dumpState 2 = 3 ∧ t.blk.dump.area = none ∧ Memory.heartwoodByte t.heartwood 0x220005 = 0x3F ∧
      t.blk.rd Obj.DumpControl.LastArea = 2 ∧ t.blk.rd Obj.DumpControl.LastCause = s.blk.dump.cause ∧
      t.blk.rd Obj.DumpControl.Dumps = min (s.blk.rd Obj.DumpControl.Dumps + 1) 0xFFFFFFFF ∧ (s.blk.dump.cause = 0xFFFF → t.blk.pair.resync = 1) ∧
      (s.blk.dump.cause ≠ 0xFFFF → t.blk.dump.stopped = true) ∧ t.flash = s.flash ∧ t.pending = s.pending) ∧
  (∀ (s : State) (a : Nat), Settled s → a < 2 → s.blk.dumpState a = 1 →
    (let lo := if a = 0 then 0x2000000 else 0x2800000
     ∃ t, exec (.dumpEraseDone a) s = .next t ∧ t.blk.dumpState a = 0 ∧
       (∀ k, Memory.flashByte t.flash k = if lo ≤ k ∧ k < lo + 0x800000 then 0xFF else Memory.flashByte s.flash k) ∧
       t.blk.rd Obj.FlashStatus.Erases = min (s.blk.rd Obj.FlashStatus.Erases + 128) 0xFFFFFFFF ∧
       KeepsObjects [Obj.FlashStatus.Erases, Obj.DumpControl.StateD0 + a, Obj.HeartwoodStatus.WriteRefusals] s t ∧ t.heartwood = s.heartwood ∧ t.pending = s.pending))

/-- O60. The flash serves owners in turn; an update erases, receives, verifies and applies into the other slot, and stops where it must. FLASH_REQUEST of an owner for its own area is taken where nothing is in progress, and another's is refused with OWNER. FLASH_OP_DONE programs the bytes, which keep every 0 bit, or erases whole sectors, and changes no other byte. UPDATE_BEGIN, UPDATE_VERIFY and UPDATE_APPLY move the State outside GRAVE, ARCHIVED and protection; UPDATE_ERASE_DONE leaves staging all ones, UPDATE_DATA programs it, UPDATE_VERIFY_DONE names the first check that fails, UPDATE_APPLY erases the other slot. UPDATE_APPLY_DONE with a consistent payload writes it there and boots it next; with a wrong tag the apply stops. ABORT_APPLY stops it with Reason 0x0D, ABORT_FLASH empties the manager. REVOKE_KEY revokes a key that is not in use. Rules: R453 R454 R455 R456 R459 R470 R471 R472 R478 R480 R481 R513. -/
def Obligations.UpdatesAreStagedVerifiedAndApplied : Prop :=
  (∀ (s : State) (owner kind addr len : Nat) (data : List Nat), Settled s → s.blk.flashReady = true →
    (let r : FlashReq := ⟨owner, kind, addr, len, data⟩
     (s.blk.flashMan.cur = none → s.blk.flashMan.suspended = none → s.blk.flashMan.queue = [] → 1 ≤ owner → owner ≤ 5 → s.blk.flashOwns r = true → len ≠ 0 → (kind = 3 → len ≤ 4096) →
       ∃ t, exec (.flashRequest owner kind addr len data) s = .next t ∧ t.blk.flashMan.cur = some r ∧ t.blk.flashMan.queue = [] ∧
         t.blk.rd Obj.FlashStatus.Owner = owner ∧ KeepsObjects [Obj.FlashStatus.Owner] s t ∧ SameArrays s t) ∧
     (s.blk.flashOwns r = false → ∃ t, exec (.flashRequest owner kind addr len data) s = .next t ∧ t.blk.rd Obj.FlashStatus.LastStatus = flOWNER ∧
       t.blk.rd Obj.FlashStatus.LastAddress = addr ∧ KeepsObjects [Obj.FlashStatus.LastStatus, Obj.FlashStatus.LastAddress] s t ∧ OnlyObjects s t ∧ SameArrays s t))) ∧
  (∀ (s : State) (r : FlashReq), Settled s → s.blk.flashMan.cur = some r → s.blk.flashMan.suspended = none → s.blk.flashMan.queue = [] → 0 < r.len →
    (let bytes := (r.data ++ List.replicate r.len 0xFF).take r.len
     let done (t : State) : Prop := t.blk.flashMan.cur = none ∧ t.blk.rd Obj.FlashStatus.LastStatus = flOK ∧ t.blk.rd Obj.FlashStatus.Owner = 0 ∧ t.heartwood = s.heartwood ∧ t.pending = s.pending
     (r.kind = 3 → s.notErased r.addr bytes = none → ∃ t, exec (.flashOpDone 0) s = .next t ∧ done t ∧
       (∀ a, Memory.flashByte t.flash a = if r.addr ≤ a ∧ a < r.addr + r.len then bytes.getD (a - r.addr) 0 % 256 else Memory.flashByte s.flash a) ∧
       KeepsObjects [Obj.FlashStatus.LastStatus, Obj.FlashStatus.Owner, Obj.FlashStatus.Programs] s t) ∧
     (r.kind = 1 → ∃ t, exec (.flashOpDone 0) s = .next t ∧ done t ∧
       (∀ a, Memory.flashByte t.flash a = if r.addr / 65536 ≤ a / 65536 ∧ a / 65536 ≤ (r.addr + r.len - 1) / 65536 then 0xFF else Memory.flashByte s.flash a) ∧
       KeepsObjects [Obj.FlashStatus.LastStatus, Obj.FlashStatus.Owner, Obj.FlashStatus.Erases] s t))) ∧
  (∀ (s : State) (n : Nat), Settled s → n < 32 →
    (let st := s.blk.updState
     let told (t : State) (v : Nat) : Prop := t.blk.rd (sk n Obj.UpdateControl.Result) = v ∧ t.pending = s.pending ∧ t.heartwood = s.heartwood
     let free := s.blk.inGrave = false ∧ s.blk.archived = false ∧ s.blk.rd Obj.HeartwoodProtect.LevelAtReset < 2
     let keys := [Obj.UpdateStatus.State, sk n Obj.UpdateControl.Result, Obj.HeartwoodStatus.WriteRefusals]
     (free → st ∉ [usERASING, usVERIFYING, usAPPLYING] → ∃ t, exec (.updateBegin n) s = .next t ∧ told t upOK ∧ t.blk.updState = usERASING ∧
       t.blk.update.session = n ∧ KeepsObjects keys s t ∧ t.flash = s.flash) ∧
     (s.blk.inGrave = true → ∀ c ∈ [Instr.updateBegin n, .updateVerify n, .updateApply n], ∃ t, exec c s = .next t ∧ told t upGRAVE ∧
       KeepsObjects [sk n Obj.UpdateControl.Result] s t ∧ OnlyObjects s t ∧ t.flash = s.flash) ∧
     (free → st ∈ [usRECEIVING, usINTERRUPTED] → ∃ t, exec (.updateVerify n) s = .next t ∧ told t upOK ∧ t.blk.updState = usVERIFYING ∧
       KeepsObjects keys s t ∧ t.flash = s.flash) ∧
     (∀ data, s.blk.archived = false → st = usRECEIVING → data.length ≤ 4096 →
       (let off := s.blk.rd (sk n Obj.UpdateWindow.Offset)
        off % 256 = 0 → off + data.length ≤ 8388608 → s.notErased (stagingBase + off) data = none → ∃ t, exec (.updateData n data 0) s = .next t ∧ told t upOK ∧
          t.blk.rd Obj.UpdateStatus.BytesReceived = max (s.blk.rd Obj.UpdateStatus.BytesReceived) (off + data.length) ∧
          ∀ a, Memory.flashByte t.flash a = if stagingBase + off ≤ a ∧ a < stagingBase + off + data.length then data.getD (a - (stagingBase + off)) 0 % 256
            else Memory.flashByte s.flash a)) ∧
     (free → st = usVERIFIED → (let lo := slotBase (1 - s.blk.rd Obj.UpdateStatus.InService)
       ∃ t, exec (.updateApply n) s = .next t ∧ told t upOK ∧ t.blk.updState = usAPPLYING ∧ t.blk.rd Obj.UpdateStatus.ApplyProgress = 0 ∧
         ∀ a, Memory.flashByte t.flash a = if lo ≤ a ∧ a < lo + 0xC00000 then 0xFF else Memory.flashByte s.flash a)) ∧
     (∀ k, k < 4 → s.blk.archived = false → s.blk.rd (Obj.Slot.SigningKeyIndex (s.blk.rd Obj.UpdateStatus.InService)) ≠ k →
       ∃ t, exec (.revokeKey n (0x5200 + k)) s = .next t ∧ told t upOK ∧ t.blk.rd (Obj.SigningKeys.KeyState k) = 1 ∧
         KeepsObjects [Obj.SigningKeys.KeyState k, sk n Obj.UpdateControl.Result] s t ∧ OnlyObjects s t ∧ t.flash = s.flash) ∧
     (∀ kind, kind ∈ [4, 5] → (∀ e ∈ s.blk.sessions, ∀ since, e.2.abort ≠ some (kind, 0, since)) →
       (kind = 5 → st = usAPPLYING → ∃ t, exec (.abortApply n) s = .next t ∧ t.blk.rd (sk n Obj.Abort.Result) = 0 ∧ t.blk.updState = usREFUSED ∧
         t.blk.rd Obj.UpdateStatus.Reason = upABORTED ∧ ({ src := Src.UPD_APPLY_FAILED, inst := 0, detail := [0xD] } : Report) ∈ t.blk.faults.reports ∧ t.pending = s.pending) ∧
       (kind = 4 → ∀ pages r, s.blk.flashMan.cur = some r → r.kind ≠ 3 → s.blk.dump.area = none → st ∉ [usERASING, usAPPLYING] →
         ∃ t, exec (.abortFlash n pages) s = .next t ∧ t.blk.rd (sk n Obj.Abort.Result) = 0 ∧ t.blk.flashMan = {} ∧
           t.blk.rd Obj.FlashStatus.LastStatus = flABORTED ∧ t.blk.rd Obj.FlashStatus.LastAddress = r.addr ∧ SameArrays s t)))) ∧
  (∀ (s : State), Settled s →
    (let src := s.blk.rd Obj.UpdateStatus.InService
     (s.blk.updState = usERASING → ∃ t, exec .updateEraseDone s = .next t ∧ t.blk.updState = usRECEIVING ∧ t.blk.rd Obj.UpdateStatus.BytesReceived = 0 ∧
       (∀ a, Memory.flashByte t.flash a = if stagingBase ≤ a ∧ a < stagingBase + 0x800000 then 0xFF else Memory.flashByte s.flash a) ∧ t.pending = s.pending) ∧
     (s.blk.updState = usVERIFYING → ∀ tagOk,
       (let r := s.blk.containerFault s.container (s.descriptor src)
        let why := if r = upOK ∧ tagOk = false then upAUTH_FAIL else r
        ∃ t, exec (.updateVerifyDone tagOk) s = .next t ∧ t.blk.rd Obj.UpdateStatus.Reason = why ∧ SameArrays s t ∧
          (why = upOK → t.blk.updState = usVERIFIED ∧ t.blk.rd Obj.UpdateStatus.TargetVersion = fieldOf s.container 16 4) ∧
          (why ≠ upOK → t.blk.updState = usREFUSED ∧ ({ src := Src.UPD_REFUSED, inst := 0, detail := [(why : Nat)] } : Report) ∈ t.blk.faults.reports))) ∧
     (s.blk.updState = usAPPLYING → src ≤ 1 → ∀ payload,
       (let lo := slotBase (1 - src)
        let out := runPatch (fun i => Memory.flashByte s.flash (slotBase src + 0x1000 + i)) (fieldOf (s.descriptor src) 12 4) (fieldOf s.container 20 4) (payload.length / 12 + 1) payload []
        (∀ a, lo ≤ a → a < lo + 0xC00000 → Memory.flashByte s.flash a = 0xFF) → out.1.length ≤ 0xBFF000 →
          (out.2 = true → ∃ t, exec (.updateApplyDone payload true 0) s = .next t ∧ t.blk.updState = usAPPLIED ∧ t.blk.rd Obj.UpdateStatus.NextBoot = 1 - src ∧
            t.blk.rd Obj.UpdateStatus.InService = src ∧ ({ src := Src.UPD_APPLIED, inst := 0 } : Report) ∈ t.blk.faults.reports ∧ t.pending = s.pending ∧
            (∀ i v, out.1[i]? = some v → Memory.flashByte t.flash (lo + 0x1000 + i) = v % 256) ∧
            (∀ a, a < lo ∨ lo + 0xC00000 ≤ a → Memory.flashByte t.flash a = Memory.flashByte s.flash a)) ∧
          (∃ t, exec (.updateApplyDone payload false 0) s = .next t ∧ t.blk.updState = usREFUSED ∧ t.blk.rd Obj.UpdateStatus.Reason = upPATCH_CORRUPT ∧
            t.blk.rd Obj.UpdateStatus.NextBoot = s.blk.rd Obj.UpdateStatus.NextBoot ∧ t.pending = s.pending)))))
end

