-- ==== Sys2Proof/Laws/Tab.lean ====
section
/-! SUPPORT. Laws of sparse tables: read after write, and the canonical form. -/

namespace Sys2Proof.Machine

variable {α : Type}

theorem Tab.look_drop_self (d : α) (m : Tab α) (n : Nat) : Tab.look d (Tab.drop m n) n = d := by
  induction m with
  | nil => rfl
  | cons e r ih =>
    obtain ⟨k, v⟩ := e
    by_cases h : k = n <;> simp [Tab.drop, Tab.look, h] at ih ⊢ <;> exact ih

theorem Tab.look_drop_of_ne (d : α) (m : Tab α) {n j : Nat} (h : j ≠ n) : Tab.look d (Tab.drop m n) j = Tab.look d m j := by
  induction m with
  | nil => rfl
  | cons e r ih =>
    obtain ⟨k, v⟩ := e
    by_cases hk : k = n
    · subst hk; simp [Tab.drop, Tab.look, Ne.symm h] at ih ⊢; exact ih
    · simp [Tab.drop, Tab.look, hk] at ih ⊢; split <;> simp_all

theorem Tab.look_insert_self (d : α) (m : Tab α) (n : Nat) (v : α) (h : ∀ e ∈ m, e.1 ≠ n) : Tab.look d (Tab.insert n v m) n = v := by
  induction m with
  | nil => simp [Tab.insert, Tab.look]
  | cons e r ih =>
    obtain ⟨k, w⟩ := e
    have hk : k ≠ n := h (k, w) (by simp)
    by_cases hn : n < k
    · simp [Tab.insert, hn, Tab.look]
    · simp [Tab.insert, hn, Tab.look, hk, ih (fun e he => h e (by simp [he]))]

theorem Tab.look_insert_of_ne (d : α) (m : Tab α) {n j : Nat} (v : α) (h : j ≠ n) : Tab.look d (Tab.insert n v m) j = Tab.look d m j := by
  induction m with
  | nil => simp [Tab.insert, Tab.look, Ne.symm h]
  | cons e r ih =>
    obtain ⟨k, w⟩ := e
    by_cases hn : n < k
    · simp [Tab.insert, hn, Tab.look, Ne.symm h]
    · simp [Tab.insert, hn, Tab.look, ih]

theorem Tab.mem_drop {m : Tab α} {n : Nat} {e : Nat × α} : e ∈ Tab.drop m n ↔ e ∈ m ∧ e.1 ≠ n := by simp [Tab.drop]

@[simp] theorem Tab.look_set_self (d : α) (m : Tab α) (n : Nat) (v : α) : Tab.look d (Tab.set m n v) n = v :=
  Tab.look_insert_self d _ n v (fun _ he => (Tab.mem_drop.1 he).2)

theorem Tab.look_set_of_ne (d : α) (m : Tab α) {n j : Nat} (v : α) (h : j ≠ n) : Tab.look d (Tab.set m n v) j = Tab.look d m j := by
  rw [Tab.set, Tab.look_insert_of_ne _ _ _ h, Tab.look_drop_of_ne _ _ h]

/-- Read after write, at any key. -/
theorem Tab.look_set (d : α) (m : Tab α) (n j : Nat) (v : α) : Tab.look d (Tab.set m n v) j = if j = n then v else Tab.look d m j := by
  split
  · next h => subst h; simp
  · next h => exact Tab.look_set_of_ne d m v h

theorem Tab.look_put_self [DecidableEq α] (d : α) (m : Tab α) (n : Nat) (v : α) : Tab.look d (Tab.put d m n v) n = v := by
  unfold Tab.put
  split
  · next h => subst h; exact Tab.look_drop_self _ _ _
  · simp

theorem Tab.look_put_of_ne [DecidableEq α] (d e : α) (m : Tab α) {n j : Nat} (v : α) (h : j ≠ n) :
    Tab.look e (Tab.put d m n v) j = Tab.look e m j := by
  unfold Tab.put
  split
  · exact Tab.look_drop_of_ne _ _ h
  · exact Tab.look_set_of_ne _ _ _ h

/-- Read after a canonical write, at any key. -/
theorem Tab.look_put [DecidableEq α] (d : α) (m : Tab α) (n j : Nat) (v : α) :
    Tab.look d (Tab.put d m n v) j = if j = n then v else Tab.look d m j := by
  split
  · next h => subst h; exact Tab.look_put_self _ _ _ _
  · next h => exact Tab.look_put_of_ne _ _ _ _ h

/-! ### The canonical form -/

theorem Tab.sorted_filter (p : Nat × α → Bool) (m : Tab α) (h : Tab.sorted m = true) : Tab.sorted (m.filter p) = true := by
  induction m with
  | nil => rfl
  | cons e r ih =>
    obtain ⟨k, v⟩ := e
    simp only [Tab.sorted, Bool.and_eq_true, List.all_eq_true] at h
    by_cases hp : p (k, v) = true
    · simp only [List.filter_cons, hp, if_true, Tab.sorted, Bool.and_eq_true, List.all_eq_true]
      exact ⟨fun e he => h.1 e (List.mem_filter.1 he).1, ih h.2⟩
    · simp only [List.filter_cons, hp]; exact ih h.2

theorem Tab.sorted_drop (m : Tab α) (n : Nat) (h : Tab.sorted m = true) : Tab.sorted (Tab.drop m n) = true := Tab.sorted_filter _ _ h

theorem Tab.mem_insert {m : Tab α} {n : Nat} {v : α} {e : Nat × α} : e ∈ Tab.insert n v m ↔ e = (n, v) ∨ e ∈ m := by
  induction m with
  | nil => simp [Tab.insert]
  | cons x r ih =>
    obtain ⟨k, w⟩ := x
    by_cases hn : n < k
    · simp [Tab.insert, hn]
    · simp [Tab.insert, hn, ih]; tauto

theorem Tab.sorted_insert (m : Tab α) (n : Nat) (v : α) (h : Tab.sorted m = true) (hn : ∀ e ∈ m, e.1 ≠ n) :
    Tab.sorted (Tab.insert n v m) = true := by
  induction m with
  | nil => rfl
  | cons x r ih =>
    obtain ⟨k, w⟩ := x
    have hk : k ≠ n := hn (k, w) (by simp)
    simp only [Tab.sorted, Bool.and_eq_true, List.all_eq_true, decide_eq_true_eq] at h
    by_cases hlt : n < k
    · simp only [Tab.insert, hlt, if_true, Tab.sorted, Bool.and_eq_true, List.all_eq_true, decide_eq_true_eq]
      refine ⟨fun e he => ?_, h.1, h.2⟩
      rcases List.mem_cons.1 he with rfl | he
      · exact hlt
      · exact lt_trans hlt (h.1 e he)
    · simp only [Tab.insert, hlt, if_false, Tab.sorted, Bool.and_eq_true, List.all_eq_true, decide_eq_true_eq]
      refine ⟨fun e he => ?_, ih h.2 (fun e he => hn e (by simp [he]))⟩
      rcases Tab.mem_insert.1 he with rfl | he
      · simp only; omega
      · exact h.1 e he

theorem Tab.sorted_set (m : Tab α) (n : Nat) (v : α) (h : Tab.sorted m = true) : Tab.sorted (Tab.set m n v) = true :=
  Tab.sorted_insert _ _ _ (Tab.sorted_drop _ _ h) (fun _ he => (Tab.mem_drop.1 he).2)

theorem Tab.wf_filter [DecidableEq α] (d : Nat → α) (p : Nat × α → Bool) (m : Tab α) (h : Tab.wf d m = true) : Tab.wf d (m.filter p) = true := by
  simp only [Tab.wf, Bool.and_eq_true, List.all_eq_true] at h ⊢
  exact ⟨Tab.sorted_filter _ _ h.1, fun e he => h.2 e (List.mem_filter.1 he).1⟩

/-- A canonical write keeps the canonical form. -/
theorem Tab.wf_put [DecidableEq α] (d : Nat → α) (m : Tab α) (n : Nat) (v : α) (h : Tab.wf d m = true) : Tab.wf d (Tab.put (d n) m n v) = true := by
  unfold Tab.put
  split
  · exact Tab.wf_filter _ _ _ h
  · next hv =>
    simp only [Tab.wf, Bool.and_eq_true, List.all_eq_true] at h ⊢
    refine ⟨Tab.sorted_set _ _ _ h.1, fun e he => ?_⟩
    rcases Tab.mem_insert.1 he with rfl | he
    · simpa using hv
    · exact h.2 e (Tab.mem_drop.1 he).1

/-- Below its tail's keys a rising table lists nothing. -/
theorem Tab.sorted_not_mem_head {k : Nat} {v : α} {r : Tab α} (h : Tab.sorted ((k, v) :: r) = true) (d : α) (n : Nat) (hn : n ≤ k) :
    Tab.look d r n = d := by
  simp only [Tab.sorted, Bool.and_eq_true, List.all_eq_true, decide_eq_true_eq] at h
  have h1 := h.1
  clear h
  induction r with
  | nil => rfl
  | cons e r ih =>
    obtain ⟨j, w⟩ := e
    have hj : k < j := h1 (j, w) (by simp)
    have hne : j ≠ n := by omega
    simp only [Tab.look, hne, if_false]
    exact ih (fun e he => h1 e (by simp [he]))

/-- Two canonical tables that read alike everywhere are equal data. -/
theorem Tab.ext_of_wf [DecidableEq α] (d : α) (m m' : Tab α) (h : Tab.wf (fun _ => d) m = true) (h' : Tab.wf (fun _ => d) m' = true)
    (he : ∀ n, Tab.look d m n = Tab.look d m' n) : m = m' := by
  induction m generalizing m' with
  | nil =>
    cases m' with
    | nil => rfl
    | cons e r =>
      obtain ⟨k, v⟩ := e
      have := he k
      simp [Tab.wf, Tab.look] at this h'
      exact absurd this.symm h'.2.1
  | cons e r ih =>
    obtain ⟨k, v⟩ := e
    cases m' with
    | nil =>
      have := he k
      simp [Tab.wf, Tab.look] at this h
      exact absurd this h.2.1
    | cons e' r' =>
      obtain ⟨k', v'⟩ := e'
      have hs : Tab.sorted ((k, v) :: r) = true := by simp only [Tab.wf, Bool.and_eq_true] at h; exact h.1
      have hs' : Tab.sorted ((k', v') :: r') = true := by simp only [Tab.wf, Bool.and_eq_true] at h'; exact h'.1
      have hv : v ≠ d := by simp [Tab.wf] at h; exact h.2.1
      have hv' : v' ≠ d := by simp [Tab.wf] at h'; exact h'.2.1
      have hk : k = k' := by
        rcases lt_trichotomy k k' with hlt | heq | hgt
        · have := he k
          have hne : ¬ k' = k := by omega
          simp only [Tab.look, if_true, if_neg hne, Tab.sorted_not_mem_head hs' d k (by omega)] at this
          exact absurd this hv
        · exact heq
        · have := he k'
          have hne : ¬ k = k' := by omega
          simp only [Tab.look, if_true, if_neg hne, Tab.sorted_not_mem_head hs d k' (by omega)] at this
          exact absurd this.symm hv'
      subst hk
      have hvv : v = v' := by simpa [Tab.look] using he k
      subst hvv
      have hr : r = r' := by
        apply ih r'
        · simp [Tab.wf, Tab.sorted] at h ⊢; exact ⟨h.1.2, h.2.2⟩
        · simp [Tab.wf, Tab.sorted] at h' ⊢; exact ⟨h'.1.2, h'.2.2⟩
        · intro n
          by_cases hn : k = n
          · subst hn
            rw [Tab.sorted_not_mem_head hs d k le_rfl, Tab.sorted_not_mem_head hs' d k le_rfl]
          · simpa [Tab.look, hn] using he n
      rw [hr]

end Sys2Proof.Machine
end

