-- ==== Sys2Proof/Laws/Memory.lean ====
section
/-! SUPPORT. Laws of the two addressed memories: every operation keeps the canonical form, and a read after writes. -/

namespace Sys2Proof.Machine

/-- Every list of writes keeps the canonical form. -/
theorem Memory.write_wf (fill : BitVec 8) (l : List (Nat × Nat)) (m : List Host.Cell) (h : Memory.wf fill m = true) :
    Memory.wf fill (Memory.write fill m l) = true := by
  induction l generalizing m with
  | nil => exact h
  | cons e r ih => exact ih _ (Tab.wf_put (fun _ => fill) m e.1 _ h)

/-- An erase keeps the canonical form: it only takes bytes off the list. -/
theorem Memory.filter_wf (fill : BitVec 8) (p : Nat × BitVec 8 → Bool) (m : List Host.Cell) (h : Memory.wf fill m = true) :
    Memory.wf fill (m.filter p) = true := Tab.wf_filter _ p m h

/-- Addresses that no write names read as before. -/
theorem Memory.look_write_of_notMem (fill : BitVec 8) (l : List (Nat × Nat)) (m : List Host.Cell) (a : Nat) (h : ∀ e ∈ l, e.1 ≠ a) :
    Tab.look fill (Memory.write fill m l) a = Tab.look fill m a := by
  induction l generalizing m with
  | nil => rfl
  | cons e r ih =>
    rw [Memory.write, List.foldl_cons, ← Memory.write, ih _ (fun e he => h e (by simp [he]))]
    exact Tab.look_put_of_ne _ _ _ _ (Ne.symm (h e (by simp)))

/-- The last write to an address is what it reads as. -/
theorem Memory.look_write_snoc (fill : BitVec 8) (l : List (Nat × Nat)) (m : List Host.Cell) (a v : Nat) :
    Tab.look fill (Memory.write fill m (l ++ [(a, v)])) a = BitVec.ofNat 8 v := by
  simp [Memory.write, Tab.look_put_self]

@[simp] theorem Memory.write_nil (fill : BitVec 8) (m : List Host.Cell) : Memory.write fill m [] = m := rfl

/-- What the arrays take at the end of a command keeps both in canonical form, and nothing is left to take. -/
theorem State.settle_wf (s : State) (hh : Memory.wf heartwoodFill s.heartwood = true) (hf : Memory.wf flashFill s.flash = true) :
    Memory.wf heartwoodFill s.settle.heartwood = true ∧ Memory.wf flashFill s.settle.flash = true ∧ s.settle.blk.writes = {} :=
  ⟨Memory.write_wf _ _ _ hh, Memory.write_wf _ _ _ hf, rfl⟩

/-- A sector erase keeps the flash in canonical form. -/
theorem State.eraseSector_wf (s : State) (i : Nat) (h : Memory.wf flashFill s.flash = true) :
    Memory.wf flashFill (s.eraseSector i).flash = true := Memory.filter_wf _ _ _ h

/-- A sector erase leaves every other sector as it was, and its own all ones. -/
theorem State.eraseSector_look (s : State) (i a : Nat) :
    Tab.look flashFill (s.eraseSector i).flash a = if a / 65536 = i then flashFill else Tab.look flashFill s.flash a := by
  simp only [State.eraseSector]
  induction s.flash with
  | nil => simp [Tab.look]
  | cons e r ih =>
    obtain ⟨k, v⟩ := e
    by_cases hk : k / 65536 = i
    · simp only [List.filter_cons, hk, bne_self_eq_false, Bool.false_eq_true, if_false, ih, Tab.look]
      split
      · rfl
      · next hne =>
        have hka : ¬ k = a := by rintro rfl; exact hne hk
        rw [if_neg hka]
    · simp only [List.filter_cons, bne_iff_ne, ne_eq, hk, not_false_iff, if_true, Tab.look, ih]
      by_cases hka : k = a
      · subst hka; simp [hk]
      · simp [hka]

end Sys2Proof.Machine
end

