-- ==== Sys2Proof/Laws/State.lean ====
section
/-! SUPPORT. What each update leaves unchanged: one lemma per field and update, true by definition. -/

namespace Sys2Proof.Machine

@[simp] theorem State.mapBlk_pending (s : State) (f : Block → Block) : (s.mapBlk f).pending = s.pending := rfl
@[simp] theorem State.mapBlk_blk (s : State) (f : Block → Block) : (s.mapBlk f).blk = f s.blk := rfl
@[simp] theorem State.mapBlk_heartwood (s : State) (f : Block → Block) : (s.mapBlk f).heartwood = s.heartwood := rfl
@[simp] theorem State.mapBlk_flash (s : State) (f : Block → Block) : (s.mapBlk f).flash = s.flash := rfl
@[simp] theorem State.settle_pending (s : State) : s.settle.pending = s.pending := rfl
@[simp] theorem State.settle_writes (s : State) : s.settle.blk.writes = {} := rfl
@[simp] theorem State.settle_dict (s : State) : s.settle.blk.dict = s.blk.dict := rfl
@[simp] theorem State.settle_wimg (s : State) : s.settle.blk.wimg = s.blk.wimg := rfl
@[simp] theorem State.settle_free (s : State) : s.settle.blk.free = s.blk.free := rfl
@[simp] theorem State.settle_glade (s : State) : s.settle.blk.glade = s.blk.glade := rfl
@[simp] theorem State.settle_actions (s : State) : s.settle.blk.actions = s.blk.actions := rfl
@[simp] theorem State.settle_canopy (s : State) : s.settle.blk.canopy = s.blk.canopy := rfl
@[simp] theorem State.settle_faults (s : State) : s.settle.blk.faults = s.blk.faults := rfl
@[simp] theorem State.settle_pair (s : State) : s.settle.blk.pair = s.blk.pair := rfl
@[simp] theorem State.settle_rings (s : State) : s.settle.blk.rings = s.blk.rings := rfl
@[simp] theorem State.settle_sessions (s : State) : s.settle.blk.sessions = s.blk.sessions := rfl
@[simp] theorem State.settle_domains (s : State) : s.settle.blk.domains = s.blk.domains := rfl
@[simp] theorem State.settle_ports (s : State) : s.settle.blk.ports = s.blk.ports := rfl
@[simp] theorem State.settle_masks (s : State) : s.settle.blk.masks = s.blk.masks := rfl
@[simp] theorem State.settle_groupTab (s : State) : s.settle.blk.groupTab = s.blk.groupTab := rfl
@[simp] theorem State.settle_feedTab (s : State) : s.settle.blk.feedTab = s.blk.feedTab := rfl
@[simp] theorem State.settle_holdup (s : State) : s.settle.blk.holdup = s.blk.holdup := rfl
@[simp] theorem State.settle_stringTab (s : State) : s.settle.blk.stringTab = s.blk.stringTab := rfl
@[simp] theorem State.settle_seqTab (s : State) : s.settle.blk.seqTab = s.blk.seqTab := rfl
@[simp] theorem State.settle_sup (s : State) : s.settle.blk.sup = s.blk.sup := rfl
@[simp] theorem State.settle_meas (s : State) : s.settle.blk.meas = s.blk.meas := rfl
@[simp] theorem State.settle_events (s : State) : s.settle.blk.events = s.blk.events := rfl
@[simp] theorem State.settle_store (s : State) : s.settle.blk.store = s.blk.store := rfl
@[simp] theorem State.settle_flashMan (s : State) : s.settle.blk.flashMan = s.blk.flashMan := rfl
@[simp] theorem State.settle_dump (s : State) : s.settle.blk.dump = s.blk.dump := rfl
@[simp] theorem State.settle_update (s : State) : s.settle.blk.update = s.blk.update := rfl
@[simp] theorem State.settle_net (s : State) : s.settle.blk.net = s.blk.net := rfl
@[simp] theorem State.settle_tw (s : State) : s.settle.blk.tw = s.blk.tw := rfl
@[simp] theorem State.settle_aon (s : State) : s.settle.blk.aon = s.blk.aon := rfl
@[simp] theorem State.settle_rd (s : State) (k : Nat) : s.settle.blk.rd k = s.blk.rd k := rfl

namespace Block

@[simp] theorem wr_free (b : Block) (k v : Nat) : (b.wr k v).free = b.free := rfl
@[simp] theorem wr_glade (b : Block) (k v : Nat) : (b.wr k v).glade = b.glade := rfl
@[simp] theorem wr_actions (b : Block) (k v : Nat) : (b.wr k v).actions = b.actions := rfl
@[simp] theorem wr_canopy (b : Block) (k v : Nat) : (b.wr k v).canopy = b.canopy := rfl
@[simp] theorem wr_faults (b : Block) (k v : Nat) : (b.wr k v).faults = b.faults := rfl
@[simp] theorem wr_pair (b : Block) (k v : Nat) : (b.wr k v).pair = b.pair := rfl
@[simp] theorem wr_rings (b : Block) (k v : Nat) : (b.wr k v).rings = b.rings := rfl
@[simp] theorem wr_sessions (b : Block) (k v : Nat) : (b.wr k v).sessions = b.sessions := rfl
@[simp] theorem wr_domains (b : Block) (k v : Nat) : (b.wr k v).domains = b.domains := rfl
@[simp] theorem wr_ports (b : Block) (k v : Nat) : (b.wr k v).ports = b.ports := rfl
@[simp] theorem wr_masks (b : Block) (k v : Nat) : (b.wr k v).masks = b.masks := rfl
@[simp] theorem wr_groupTab (b : Block) (k v : Nat) : (b.wr k v).groupTab = b.groupTab := rfl
@[simp] theorem wr_feedTab (b : Block) (k v : Nat) : (b.wr k v).feedTab = b.feedTab := rfl
@[simp] theorem wr_holdup (b : Block) (k v : Nat) : (b.wr k v).holdup = b.holdup := rfl
@[simp] theorem wr_stringTab (b : Block) (k v : Nat) : (b.wr k v).stringTab = b.stringTab := rfl
@[simp] theorem wr_seqTab (b : Block) (k v : Nat) : (b.wr k v).seqTab = b.seqTab := rfl
@[simp] theorem wr_sup (b : Block) (k v : Nat) : (b.wr k v).sup = b.sup := rfl
@[simp] theorem wr_meas (b : Block) (k v : Nat) : (b.wr k v).meas = b.meas := rfl
@[simp] theorem wr_events (b : Block) (k v : Nat) : (b.wr k v).events = b.events := rfl
@[simp] theorem wr_store (b : Block) (k v : Nat) : (b.wr k v).store = b.store := rfl
@[simp] theorem wr_flashMan (b : Block) (k v : Nat) : (b.wr k v).flashMan = b.flashMan := rfl
@[simp] theorem wr_dump (b : Block) (k v : Nat) : (b.wr k v).dump = b.dump := rfl
@[simp] theorem wr_update (b : Block) (k v : Nat) : (b.wr k v).update = b.update := rfl
@[simp] theorem wr_net (b : Block) (k v : Nat) : (b.wr k v).net = b.net := rfl
@[simp] theorem wr_tw (b : Block) (k v : Nat) : (b.wr k v).tw = b.tw := rfl
@[simp] theorem wr_aon (b : Block) (k v : Nat) : (b.wr k v).aon = b.aon := rfl
@[simp] theorem wr_writes (b : Block) (k v : Nat) : (b.wr k v).writes = b.writes := rfl

@[simp] theorem wrI_free (b : Block) (w k : Nat) (v : Int) : (b.wrI w k v).free = b.free := rfl
@[simp] theorem wrI_glade (b : Block) (w k : Nat) (v : Int) : (b.wrI w k v).glade = b.glade := rfl
@[simp] theorem wrI_actions (b : Block) (w k : Nat) (v : Int) : (b.wrI w k v).actions = b.actions := rfl
@[simp] theorem wrI_canopy (b : Block) (w k : Nat) (v : Int) : (b.wrI w k v).canopy = b.canopy := rfl
@[simp] theorem wrI_faults (b : Block) (w k : Nat) (v : Int) : (b.wrI w k v).faults = b.faults := rfl
@[simp] theorem wrI_pair (b : Block) (w k : Nat) (v : Int) : (b.wrI w k v).pair = b.pair := rfl
@[simp] theorem wrI_rings (b : Block) (w k : Nat) (v : Int) : (b.wrI w k v).rings = b.rings := rfl
@[simp] theorem wrI_sessions (b : Block) (w k : Nat) (v : Int) : (b.wrI w k v).sessions = b.sessions := rfl
@[simp] theorem wrI_domains (b : Block) (w k : Nat) (v : Int) : (b.wrI w k v).domains = b.domains := rfl
@[simp] theorem wrI_ports (b : Block) (w k : Nat) (v : Int) : (b.wrI w k v).ports = b.ports := rfl
@[simp] theorem wrI_masks (b : Block) (w k : Nat) (v : Int) : (b.wrI w k v).masks = b.masks := rfl
@[simp] theorem wrI_groupTab (b : Block) (w k : Nat) (v : Int) : (b.wrI w k v).groupTab = b.groupTab := rfl
@[simp] theorem wrI_feedTab (b : Block) (w k : Nat) (v : Int) : (b.wrI w k v).feedTab = b.feedTab := rfl
@[simp] theorem wrI_holdup (b : Block) (w k : Nat) (v : Int) : (b.wrI w k v).holdup = b.holdup := rfl
@[simp] theorem wrI_stringTab (b : Block) (w k : Nat) (v : Int) : (b.wrI w k v).stringTab = b.stringTab := rfl
@[simp] theorem wrI_seqTab (b : Block) (w k : Nat) (v : Int) : (b.wrI w k v).seqTab = b.seqTab := rfl
@[simp] theorem wrI_sup (b : Block) (w k : Nat) (v : Int) : (b.wrI w k v).sup = b.sup := rfl
@[simp] theorem wrI_meas (b : Block) (w k : Nat) (v : Int) : (b.wrI w k v).meas = b.meas := rfl
@[simp] theorem wrI_events (b : Block) (w k : Nat) (v : Int) : (b.wrI w k v).events = b.events := rfl
@[simp] theorem wrI_store (b : Block) (w k : Nat) (v : Int) : (b.wrI w k v).store = b.store := rfl
@[simp] theorem wrI_flashMan (b : Block) (w k : Nat) (v : Int) : (b.wrI w k v).flashMan = b.flashMan := rfl
@[simp] theorem wrI_dump (b : Block) (w k : Nat) (v : Int) : (b.wrI w k v).dump = b.dump := rfl
@[simp] theorem wrI_update (b : Block) (w k : Nat) (v : Int) : (b.wrI w k v).update = b.update := rfl
@[simp] theorem wrI_net (b : Block) (w k : Nat) (v : Int) : (b.wrI w k v).net = b.net := rfl
@[simp] theorem wrI_tw (b : Block) (w k : Nat) (v : Int) : (b.wrI w k v).tw = b.tw := rfl
@[simp] theorem wrI_aon (b : Block) (w k : Nat) (v : Int) : (b.wrI w k v).aon = b.aon := rfl
@[simp] theorem wrI_writes (b : Block) (w k : Nat) (v : Int) : (b.wrI w k v).writes = b.writes := rfl

@[simp] theorem bump_free (b : Block) (k w n : Nat) : (b.bump k w n).free = b.free := rfl
@[simp] theorem bump_glade (b : Block) (k w n : Nat) : (b.bump k w n).glade = b.glade := rfl
@[simp] theorem bump_actions (b : Block) (k w n : Nat) : (b.bump k w n).actions = b.actions := rfl
@[simp] theorem bump_canopy (b : Block) (k w n : Nat) : (b.bump k w n).canopy = b.canopy := rfl
@[simp] theorem bump_faults (b : Block) (k w n : Nat) : (b.bump k w n).faults = b.faults := rfl
@[simp] theorem bump_pair (b : Block) (k w n : Nat) : (b.bump k w n).pair = b.pair := rfl
@[simp] theorem bump_rings (b : Block) (k w n : Nat) : (b.bump k w n).rings = b.rings := rfl
@[simp] theorem bump_sessions (b : Block) (k w n : Nat) : (b.bump k w n).sessions = b.sessions := rfl
@[simp] theorem bump_domains (b : Block) (k w n : Nat) : (b.bump k w n).domains = b.domains := rfl
@[simp] theorem bump_ports (b : Block) (k w n : Nat) : (b.bump k w n).ports = b.ports := rfl
@[simp] theorem bump_masks (b : Block) (k w n : Nat) : (b.bump k w n).masks = b.masks := rfl
@[simp] theorem bump_groupTab (b : Block) (k w n : Nat) : (b.bump k w n).groupTab = b.groupTab := rfl
@[simp] theorem bump_feedTab (b : Block) (k w n : Nat) : (b.bump k w n).feedTab = b.feedTab := rfl
@[simp] theorem bump_holdup (b : Block) (k w n : Nat) : (b.bump k w n).holdup = b.holdup := rfl
@[simp] theorem bump_stringTab (b : Block) (k w n : Nat) : (b.bump k w n).stringTab = b.stringTab := rfl
@[simp] theorem bump_seqTab (b : Block) (k w n : Nat) : (b.bump k w n).seqTab = b.seqTab := rfl
@[simp] theorem bump_sup (b : Block) (k w n : Nat) : (b.bump k w n).sup = b.sup := rfl
@[simp] theorem bump_meas (b : Block) (k w n : Nat) : (b.bump k w n).meas = b.meas := rfl
@[simp] theorem bump_events (b : Block) (k w n : Nat) : (b.bump k w n).events = b.events := rfl
@[simp] theorem bump_store (b : Block) (k w n : Nat) : (b.bump k w n).store = b.store := rfl
@[simp] theorem bump_flashMan (b : Block) (k w n : Nat) : (b.bump k w n).flashMan = b.flashMan := rfl
@[simp] theorem bump_dump (b : Block) (k w n : Nat) : (b.bump k w n).dump = b.dump := rfl
@[simp] theorem bump_update (b : Block) (k w n : Nat) : (b.bump k w n).update = b.update := rfl
@[simp] theorem bump_net (b : Block) (k w n : Nat) : (b.bump k w n).net = b.net := rfl
@[simp] theorem bump_tw (b : Block) (k w n : Nat) : (b.bump k w n).tw = b.tw := rfl
@[simp] theorem bump_aon (b : Block) (k w n : Nat) : (b.bump k w n).aon = b.aon := rfl
@[simp] theorem bump_writes (b : Block) (k w n : Nat) : (b.bump k w n).writes = b.writes := rfl

@[simp] theorem wrN_dict (b : Block) (k v : Nat) : (b.wrN k v).dict = b.dict := rfl
@[simp] theorem wrN_free (b : Block) (k v : Nat) : (b.wrN k v).free = b.free := rfl
@[simp] theorem wrN_glade (b : Block) (k v : Nat) : (b.wrN k v).glade = b.glade := rfl
@[simp] theorem wrN_actions (b : Block) (k v : Nat) : (b.wrN k v).actions = b.actions := rfl
@[simp] theorem wrN_canopy (b : Block) (k v : Nat) : (b.wrN k v).canopy = b.canopy := rfl
@[simp] theorem wrN_faults (b : Block) (k v : Nat) : (b.wrN k v).faults = b.faults := rfl
@[simp] theorem wrN_pair (b : Block) (k v : Nat) : (b.wrN k v).pair = b.pair := rfl
@[simp] theorem wrN_rings (b : Block) (k v : Nat) : (b.wrN k v).rings = b.rings := rfl
@[simp] theorem wrN_sessions (b : Block) (k v : Nat) : (b.wrN k v).sessions = b.sessions := rfl
@[simp] theorem wrN_domains (b : Block) (k v : Nat) : (b.wrN k v).domains = b.domains := rfl
@[simp] theorem wrN_ports (b : Block) (k v : Nat) : (b.wrN k v).ports = b.ports := rfl
@[simp] theorem wrN_masks (b : Block) (k v : Nat) : (b.wrN k v).masks = b.masks := rfl
@[simp] theorem wrN_groupTab (b : Block) (k v : Nat) : (b.wrN k v).groupTab = b.groupTab := rfl
@[simp] theorem wrN_feedTab (b : Block) (k v : Nat) : (b.wrN k v).feedTab = b.feedTab := rfl
@[simp] theorem wrN_holdup (b : Block) (k v : Nat) : (b.wrN k v).holdup = b.holdup := rfl
@[simp] theorem wrN_stringTab (b : Block) (k v : Nat) : (b.wrN k v).stringTab = b.stringTab := rfl
@[simp] theorem wrN_seqTab (b : Block) (k v : Nat) : (b.wrN k v).seqTab = b.seqTab := rfl
@[simp] theorem wrN_sup (b : Block) (k v : Nat) : (b.wrN k v).sup = b.sup := rfl
@[simp] theorem wrN_meas (b : Block) (k v : Nat) : (b.wrN k v).meas = b.meas := rfl
@[simp] theorem wrN_events (b : Block) (k v : Nat) : (b.wrN k v).events = b.events := rfl
@[simp] theorem wrN_store (b : Block) (k v : Nat) : (b.wrN k v).store = b.store := rfl
@[simp] theorem wrN_flashMan (b : Block) (k v : Nat) : (b.wrN k v).flashMan = b.flashMan := rfl
@[simp] theorem wrN_dump (b : Block) (k v : Nat) : (b.wrN k v).dump = b.dump := rfl
@[simp] theorem wrN_update (b : Block) (k v : Nat) : (b.wrN k v).update = b.update := rfl
@[simp] theorem wrN_net (b : Block) (k v : Nat) : (b.wrN k v).net = b.net := rfl
@[simp] theorem wrN_tw (b : Block) (k v : Nat) : (b.wrN k v).tw = b.tw := rfl
@[simp] theorem wrN_aon (b : Block) (k v : Nat) : (b.wrN k v).aon = b.aon := rfl
@[simp] theorem wrN_writes (b : Block) (k v : Nat) : (b.wrN k v).writes = b.writes := rfl
@[simp] theorem wrN_rd (b : Block) (k v : Nat) (j : Nat) : (b.wrN k v).rd j = b.rd j := rfl

@[simp] theorem wrNI_dict (b : Block) (w k : Nat) (v : Int) : (b.wrNI w k v).dict = b.dict := rfl
@[simp] theorem wrNI_free (b : Block) (w k : Nat) (v : Int) : (b.wrNI w k v).free = b.free := rfl
@[simp] theorem wrNI_glade (b : Block) (w k : Nat) (v : Int) : (b.wrNI w k v).glade = b.glade := rfl
@[simp] theorem wrNI_actions (b : Block) (w k : Nat) (v : Int) : (b.wrNI w k v).actions = b.actions := rfl
@[simp] theorem wrNI_canopy (b : Block) (w k : Nat) (v : Int) : (b.wrNI w k v).canopy = b.canopy := rfl
@[simp] theorem wrNI_faults (b : Block) (w k : Nat) (v : Int) : (b.wrNI w k v).faults = b.faults := rfl
@[simp] theorem wrNI_pair (b : Block) (w k : Nat) (v : Int) : (b.wrNI w k v).pair = b.pair := rfl
@[simp] theorem wrNI_rings (b : Block) (w k : Nat) (v : Int) : (b.wrNI w k v).rings = b.rings := rfl
@[simp] theorem wrNI_sessions (b : Block) (w k : Nat) (v : Int) : (b.wrNI w k v).sessions = b.sessions := rfl
@[simp] theorem wrNI_domains (b : Block) (w k : Nat) (v : Int) : (b.wrNI w k v).domains = b.domains := rfl
@[simp] theorem wrNI_ports (b : Block) (w k : Nat) (v : Int) : (b.wrNI w k v).ports = b.ports := rfl
@[simp] theorem wrNI_masks (b : Block) (w k : Nat) (v : Int) : (b.wrNI w k v).masks = b.masks := rfl
@[simp] theorem wrNI_groupTab (b : Block) (w k : Nat) (v : Int) : (b.wrNI w k v).groupTab = b.groupTab := rfl
@[simp] theorem wrNI_feedTab (b : Block) (w k : Nat) (v : Int) : (b.wrNI w k v).feedTab = b.feedTab := rfl
@[simp] theorem wrNI_holdup (b : Block) (w k : Nat) (v : Int) : (b.wrNI w k v).holdup = b.holdup := rfl
@[simp] theorem wrNI_stringTab (b : Block) (w k : Nat) (v : Int) : (b.wrNI w k v).stringTab = b.stringTab := rfl
@[simp] theorem wrNI_seqTab (b : Block) (w k : Nat) (v : Int) : (b.wrNI w k v).seqTab = b.seqTab := rfl
@[simp] theorem wrNI_sup (b : Block) (w k : Nat) (v : Int) : (b.wrNI w k v).sup = b.sup := rfl
@[simp] theorem wrNI_meas (b : Block) (w k : Nat) (v : Int) : (b.wrNI w k v).meas = b.meas := rfl
@[simp] theorem wrNI_events (b : Block) (w k : Nat) (v : Int) : (b.wrNI w k v).events = b.events := rfl
@[simp] theorem wrNI_store (b : Block) (w k : Nat) (v : Int) : (b.wrNI w k v).store = b.store := rfl
@[simp] theorem wrNI_flashMan (b : Block) (w k : Nat) (v : Int) : (b.wrNI w k v).flashMan = b.flashMan := rfl
@[simp] theorem wrNI_dump (b : Block) (w k : Nat) (v : Int) : (b.wrNI w k v).dump = b.dump := rfl
@[simp] theorem wrNI_update (b : Block) (w k : Nat) (v : Int) : (b.wrNI w k v).update = b.update := rfl
@[simp] theorem wrNI_net (b : Block) (w k : Nat) (v : Int) : (b.wrNI w k v).net = b.net := rfl
@[simp] theorem wrNI_tw (b : Block) (w k : Nat) (v : Int) : (b.wrNI w k v).tw = b.tw := rfl
@[simp] theorem wrNI_aon (b : Block) (w k : Nat) (v : Int) : (b.wrNI w k v).aon = b.aon := rfl
@[simp] theorem wrNI_writes (b : Block) (w k : Nat) (v : Int) : (b.wrNI w k v).writes = b.writes := rfl
@[simp] theorem wrNI_rd (b : Block) (w k : Nat) (v : Int) (j : Nat) : (b.wrNI w k v).rd j = b.rd j := rfl

@[simp] theorem setSess_dict (b : Block) (n : Nat) (x : Session) : (b.setSess n x).dict = b.dict := rfl
@[simp] theorem setSess_wimg (b : Block) (n : Nat) (x : Session) : (b.setSess n x).wimg = b.wimg := rfl
@[simp] theorem setSess_free (b : Block) (n : Nat) (x : Session) : (b.setSess n x).free = b.free := rfl
@[simp] theorem setSess_glade (b : Block) (n : Nat) (x : Session) : (b.setSess n x).glade = b.glade := rfl
@[simp] theorem setSess_actions (b : Block) (n : Nat) (x : Session) : (b.setSess n x).actions = b.actions := rfl
@[simp] theorem setSess_canopy (b : Block) (n : Nat) (x : Session) : (b.setSess n x).canopy = b.canopy := rfl
@[simp] theorem setSess_faults (b : Block) (n : Nat) (x : Session) : (b.setSess n x).faults = b.faults := rfl
@[simp] theorem setSess_pair (b : Block) (n : Nat) (x : Session) : (b.setSess n x).pair = b.pair := rfl
@[simp] theorem setSess_rings (b : Block) (n : Nat) (x : Session) : (b.setSess n x).rings = b.rings := rfl
@[simp] theorem setSess_domains (b : Block) (n : Nat) (x : Session) : (b.setSess n x).domains = b.domains := rfl
@[simp] theorem setSess_ports (b : Block) (n : Nat) (x : Session) : (b.setSess n x).ports = b.ports := rfl
@[simp] theorem setSess_masks (b : Block) (n : Nat) (x : Session) : (b.setSess n x).masks = b.masks := rfl
@[simp] theorem setSess_groupTab (b : Block) (n : Nat) (x : Session) : (b.setSess n x).groupTab = b.groupTab := rfl
@[simp] theorem setSess_feedTab (b : Block) (n : Nat) (x : Session) : (b.setSess n x).feedTab = b.feedTab := rfl
@[simp] theorem setSess_holdup (b : Block) (n : Nat) (x : Session) : (b.setSess n x).holdup = b.holdup := rfl
@[simp] theorem setSess_stringTab (b : Block) (n : Nat) (x : Session) : (b.setSess n x).stringTab = b.stringTab := rfl
@[simp] theorem setSess_seqTab (b : Block) (n : Nat) (x : Session) : (b.setSess n x).seqTab = b.seqTab := rfl
@[simp] theorem setSess_sup (b : Block) (n : Nat) (x : Session) : (b.setSess n x).sup = b.sup := rfl
@[simp] theorem setSess_meas (b : Block) (n : Nat) (x : Session) : (b.setSess n x).meas = b.meas := rfl
@[simp] theorem setSess_events (b : Block) (n : Nat) (x : Session) : (b.setSess n x).events = b.events := rfl
@[simp] theorem setSess_store (b : Block) (n : Nat) (x : Session) : (b.setSess n x).store = b.store := rfl
@[simp] theorem setSess_flashMan (b : Block) (n : Nat) (x : Session) : (b.setSess n x).flashMan = b.flashMan := rfl
@[simp] theorem setSess_dump (b : Block) (n : Nat) (x : Session) : (b.setSess n x).dump = b.dump := rfl
@[simp] theorem setSess_update (b : Block) (n : Nat) (x : Session) : (b.setSess n x).update = b.update := rfl
@[simp] theorem setSess_net (b : Block) (n : Nat) (x : Session) : (b.setSess n x).net = b.net := rfl
@[simp] theorem setSess_tw (b : Block) (n : Nat) (x : Session) : (b.setSess n x).tw = b.tw := rfl
@[simp] theorem setSess_aon (b : Block) (n : Nat) (x : Session) : (b.setSess n x).aon = b.aon := rfl
@[simp] theorem setSess_writes (b : Block) (n : Nat) (x : Session) : (b.setSess n x).writes = b.writes := rfl
@[simp] theorem setSess_rd (b : Block) (n : Nat) (x : Session) (j : Nat) : (b.setSess n x).rd j = b.rd j := rfl

@[simp] theorem setPort_dict (b : Block) (p : Nat) (x : Port) : (b.setPort p x).dict = b.dict := rfl
@[simp] theorem setPort_wimg (b : Block) (p : Nat) (x : Port) : (b.setPort p x).wimg = b.wimg := rfl
@[simp] theorem setPort_free (b : Block) (p : Nat) (x : Port) : (b.setPort p x).free = b.free := rfl
@[simp] theorem setPort_glade (b : Block) (p : Nat) (x : Port) : (b.setPort p x).glade = b.glade := rfl
@[simp] theorem setPort_actions (b : Block) (p : Nat) (x : Port) : (b.setPort p x).actions = b.actions := rfl
@[simp] theorem setPort_canopy (b : Block) (p : Nat) (x : Port) : (b.setPort p x).canopy = b.canopy := rfl
@[simp] theorem setPort_faults (b : Block) (p : Nat) (x : Port) : (b.setPort p x).faults = b.faults := rfl
@[simp] theorem setPort_pair (b : Block) (p : Nat) (x : Port) : (b.setPort p x).pair = b.pair := rfl
@[simp] theorem setPort_rings (b : Block) (p : Nat) (x : Port) : (b.setPort p x).rings = b.rings := rfl
@[simp] theorem setPort_sessions (b : Block) (p : Nat) (x : Port) : (b.setPort p x).sessions = b.sessions := rfl
@[simp] theorem setPort_domains (b : Block) (p : Nat) (x : Port) : (b.setPort p x).domains = b.domains := rfl
@[simp] theorem setPort_masks (b : Block) (p : Nat) (x : Port) : (b.setPort p x).masks = b.masks := rfl
@[simp] theorem setPort_groupTab (b : Block) (p : Nat) (x : Port) : (b.setPort p x).groupTab = b.groupTab := rfl
@[simp] theorem setPort_feedTab (b : Block) (p : Nat) (x : Port) : (b.setPort p x).feedTab = b.feedTab := rfl
@[simp] theorem setPort_holdup (b : Block) (p : Nat) (x : Port) : (b.setPort p x).holdup = b.holdup := rfl
@[simp] theorem setPort_stringTab (b : Block) (p : Nat) (x : Port) : (b.setPort p x).stringTab = b.stringTab := rfl
@[simp] theorem setPort_seqTab (b : Block) (p : Nat) (x : Port) : (b.setPort p x).seqTab = b.seqTab := rfl
@[simp] theorem setPort_sup (b : Block) (p : Nat) (x : Port) : (b.setPort p x).sup = b.sup := rfl
@[simp] theorem setPort_meas (b : Block) (p : Nat) (x : Port) : (b.setPort p x).meas = b.meas := rfl
@[simp] theorem setPort_events (b : Block) (p : Nat) (x : Port) : (b.setPort p x).events = b.events := rfl
@[simp] theorem setPort_store (b : Block) (p : Nat) (x : Port) : (b.setPort p x).store = b.store := rfl
@[simp] theorem setPort_flashMan (b : Block) (p : Nat) (x : Port) : (b.setPort p x).flashMan = b.flashMan := rfl
@[simp] theorem setPort_dump (b : Block) (p : Nat) (x : Port) : (b.setPort p x).dump = b.dump := rfl
@[simp] theorem setPort_update (b : Block) (p : Nat) (x : Port) : (b.setPort p x).update = b.update := rfl
@[simp] theorem setPort_net (b : Block) (p : Nat) (x : Port) : (b.setPort p x).net = b.net := rfl
@[simp] theorem setPort_tw (b : Block) (p : Nat) (x : Port) : (b.setPort p x).tw = b.tw := rfl
@[simp] theorem setPort_aon (b : Block) (p : Nat) (x : Port) : (b.setPort p x).aon = b.aon := rfl
@[simp] theorem setPort_writes (b : Block) (p : Nat) (x : Port) : (b.setPort p x).writes = b.writes := rfl
@[simp] theorem setPort_rd (b : Block) (p : Nat) (x : Port) (j : Nat) : (b.setPort p x).rd j = b.rd j := rfl

@[simp] theorem modPort_dict (b : Block) (p : Nat) (f : Port → Port) : (b.modPort p f).dict = b.dict := rfl
@[simp] theorem modPort_wimg (b : Block) (p : Nat) (f : Port → Port) : (b.modPort p f).wimg = b.wimg := rfl
@[simp] theorem modPort_free (b : Block) (p : Nat) (f : Port → Port) : (b.modPort p f).free = b.free := rfl
@[simp] theorem modPort_glade (b : Block) (p : Nat) (f : Port → Port) : (b.modPort p f).glade = b.glade := rfl
@[simp] theorem modPort_actions (b : Block) (p : Nat) (f : Port → Port) : (b.modPort p f).actions = b.actions := rfl
@[simp] theorem modPort_canopy (b : Block) (p : Nat) (f : Port → Port) : (b.modPort p f).canopy = b.canopy := rfl
@[simp] theorem modPort_faults (b : Block) (p : Nat) (f : Port → Port) : (b.modPort p f).faults = b.faults := rfl
@[simp] theorem modPort_pair (b : Block) (p : Nat) (f : Port → Port) : (b.modPort p f).pair = b.pair := rfl
@[simp] theorem modPort_rings (b : Block) (p : Nat) (f : Port → Port) : (b.modPort p f).rings = b.rings := rfl
@[simp] theorem modPort_sessions (b : Block) (p : Nat) (f : Port → Port) : (b.modPort p f).sessions = b.sessions := rfl
@[simp] theorem modPort_domains (b : Block) (p : Nat) (f : Port → Port) : (b.modPort p f).domains = b.domains := rfl
@[simp] theorem modPort_masks (b : Block) (p : Nat) (f : Port → Port) : (b.modPort p f).masks = b.masks := rfl
@[simp] theorem modPort_groupTab (b : Block) (p : Nat) (f : Port → Port) : (b.modPort p f).groupTab = b.groupTab := rfl
@[simp] theorem modPort_feedTab (b : Block) (p : Nat) (f : Port → Port) : (b.modPort p f).feedTab = b.feedTab := rfl
@[simp] theorem modPort_holdup (b : Block) (p : Nat) (f : Port → Port) : (b.modPort p f).holdup = b.holdup := rfl
@[simp] theorem modPort_stringTab (b : Block) (p : Nat) (f : Port → Port) : (b.modPort p f).stringTab = b.stringTab := rfl
@[simp] theorem modPort_seqTab (b : Block) (p : Nat) (f : Port → Port) : (b.modPort p f).seqTab = b.seqTab := rfl
@[simp] theorem modPort_sup (b : Block) (p : Nat) (f : Port → Port) : (b.modPort p f).sup = b.sup := rfl
@[simp] theorem modPort_meas (b : Block) (p : Nat) (f : Port → Port) : (b.modPort p f).meas = b.meas := rfl
@[simp] theorem modPort_events (b : Block) (p : Nat) (f : Port → Port) : (b.modPort p f).events = b.events := rfl
@[simp] theorem modPort_store (b : Block) (p : Nat) (f : Port → Port) : (b.modPort p f).store = b.store := rfl
@[simp] theorem modPort_flashMan (b : Block) (p : Nat) (f : Port → Port) : (b.modPort p f).flashMan = b.flashMan := rfl
@[simp] theorem modPort_dump (b : Block) (p : Nat) (f : Port → Port) : (b.modPort p f).dump = b.dump := rfl
@[simp] theorem modPort_update (b : Block) (p : Nat) (f : Port → Port) : (b.modPort p f).update = b.update := rfl
@[simp] theorem modPort_net (b : Block) (p : Nat) (f : Port → Port) : (b.modPort p f).net = b.net := rfl
@[simp] theorem modPort_tw (b : Block) (p : Nat) (f : Port → Port) : (b.modPort p f).tw = b.tw := rfl
@[simp] theorem modPort_aon (b : Block) (p : Nat) (f : Port → Port) : (b.modPort p f).aon = b.aon := rfl
@[simp] theorem modPort_writes (b : Block) (p : Nat) (f : Port → Port) : (b.modPort p f).writes = b.writes := rfl
@[simp] theorem modPort_rd (b : Block) (p : Nat) (f : Port → Port) (j : Nat) : (b.modPort p f).rd j = b.rd j := rfl

@[simp] theorem setGroup_dict (b : Block) (g : Nat) (x : Group) : (b.setGroup g x).dict = b.dict := rfl
@[simp] theorem setGroup_wimg (b : Block) (g : Nat) (x : Group) : (b.setGroup g x).wimg = b.wimg := rfl
@[simp] theorem setGroup_free (b : Block) (g : Nat) (x : Group) : (b.setGroup g x).free = b.free := rfl
@[simp] theorem setGroup_glade (b : Block) (g : Nat) (x : Group) : (b.setGroup g x).glade = b.glade := rfl
@[simp] theorem setGroup_actions (b : Block) (g : Nat) (x : Group) : (b.setGroup g x).actions = b.actions := rfl
@[simp] theorem setGroup_canopy (b : Block) (g : Nat) (x : Group) : (b.setGroup g x).canopy = b.canopy := rfl
@[simp] theorem setGroup_faults (b : Block) (g : Nat) (x : Group) : (b.setGroup g x).faults = b.faults := rfl
@[simp] theorem setGroup_pair (b : Block) (g : Nat) (x : Group) : (b.setGroup g x).pair = b.pair := rfl
@[simp] theorem setGroup_rings (b : Block) (g : Nat) (x : Group) : (b.setGroup g x).rings = b.rings := rfl
@[simp] theorem setGroup_sessions (b : Block) (g : Nat) (x : Group) : (b.setGroup g x).sessions = b.sessions := rfl
@[simp] theorem setGroup_domains (b : Block) (g : Nat) (x : Group) : (b.setGroup g x).domains = b.domains := rfl
@[simp] theorem setGroup_ports (b : Block) (g : Nat) (x : Group) : (b.setGroup g x).ports = b.ports := rfl
@[simp] theorem setGroup_masks (b : Block) (g : Nat) (x : Group) : (b.setGroup g x).masks = b.masks := rfl
@[simp] theorem setGroup_feedTab (b : Block) (g : Nat) (x : Group) : (b.setGroup g x).feedTab = b.feedTab := rfl
@[simp] theorem setGroup_holdup (b : Block) (g : Nat) (x : Group) : (b.setGroup g x).holdup = b.holdup := rfl
@[simp] theorem setGroup_stringTab (b : Block) (g : Nat) (x : Group) : (b.setGroup g x).stringTab = b.stringTab := rfl
@[simp] theorem setGroup_seqTab (b : Block) (g : Nat) (x : Group) : (b.setGroup g x).seqTab = b.seqTab := rfl
@[simp] theorem setGroup_sup (b : Block) (g : Nat) (x : Group) : (b.setGroup g x).sup = b.sup := rfl
@[simp] theorem setGroup_meas (b : Block) (g : Nat) (x : Group) : (b.setGroup g x).meas = b.meas := rfl
@[simp] theorem setGroup_events (b : Block) (g : Nat) (x : Group) : (b.setGroup g x).events = b.events := rfl
@[simp] theorem setGroup_store (b : Block) (g : Nat) (x : Group) : (b.setGroup g x).store = b.store := rfl
@[simp] theorem setGroup_flashMan (b : Block) (g : Nat) (x : Group) : (b.setGroup g x).flashMan = b.flashMan := rfl
@[simp] theorem setGroup_dump (b : Block) (g : Nat) (x : Group) : (b.setGroup g x).dump = b.dump := rfl
@[simp] theorem setGroup_update (b : Block) (g : Nat) (x : Group) : (b.setGroup g x).update = b.update := rfl
@[simp] theorem setGroup_net (b : Block) (g : Nat) (x : Group) : (b.setGroup g x).net = b.net := rfl
@[simp] theorem setGroup_tw (b : Block) (g : Nat) (x : Group) : (b.setGroup g x).tw = b.tw := rfl
@[simp] theorem setGroup_aon (b : Block) (g : Nat) (x : Group) : (b.setGroup g x).aon = b.aon := rfl
@[simp] theorem setGroup_writes (b : Block) (g : Nat) (x : Group) : (b.setGroup g x).writes = b.writes := rfl
@[simp] theorem setGroup_rd (b : Block) (g : Nat) (x : Group) (j : Nat) : (b.setGroup g x).rd j = b.rd j := rfl

@[simp] theorem setFeed_dict (b : Block) (f : Nat) (x : Feed) : (b.setFeed f x).dict = b.dict := rfl
@[simp] theorem setFeed_wimg (b : Block) (f : Nat) (x : Feed) : (b.setFeed f x).wimg = b.wimg := rfl
@[simp] theorem setFeed_free (b : Block) (f : Nat) (x : Feed) : (b.setFeed f x).free = b.free := rfl
@[simp] theorem setFeed_glade (b : Block) (f : Nat) (x : Feed) : (b.setFeed f x).glade = b.glade := rfl
@[simp] theorem setFeed_actions (b : Block) (f : Nat) (x : Feed) : (b.setFeed f x).actions = b.actions := rfl
@[simp] theorem setFeed_canopy (b : Block) (f : Nat) (x : Feed) : (b.setFeed f x).canopy = b.canopy := rfl
@[simp] theorem setFeed_faults (b : Block) (f : Nat) (x : Feed) : (b.setFeed f x).faults = b.faults := rfl
@[simp] theorem setFeed_pair (b : Block) (f : Nat) (x : Feed) : (b.setFeed f x).pair = b.pair := rfl
@[simp] theorem setFeed_rings (b : Block) (f : Nat) (x : Feed) : (b.setFeed f x).rings = b.rings := rfl
@[simp] theorem setFeed_sessions (b : Block) (f : Nat) (x : Feed) : (b.setFeed f x).sessions = b.sessions := rfl
@[simp] theorem setFeed_domains (b : Block) (f : Nat) (x : Feed) : (b.setFeed f x).domains = b.domains := rfl
@[simp] theorem setFeed_ports (b : Block) (f : Nat) (x : Feed) : (b.setFeed f x).ports = b.ports := rfl
@[simp] theorem setFeed_masks (b : Block) (f : Nat) (x : Feed) : (b.setFeed f x).masks = b.masks := rfl
@[simp] theorem setFeed_groupTab (b : Block) (f : Nat) (x : Feed) : (b.setFeed f x).groupTab = b.groupTab := rfl
@[simp] theorem setFeed_holdup (b : Block) (f : Nat) (x : Feed) : (b.setFeed f x).holdup = b.holdup := rfl
@[simp] theorem setFeed_stringTab (b : Block) (f : Nat) (x : Feed) : (b.setFeed f x).stringTab = b.stringTab := rfl
@[simp] theorem setFeed_seqTab (b : Block) (f : Nat) (x : Feed) : (b.setFeed f x).seqTab = b.seqTab := rfl
@[simp] theorem setFeed_sup (b : Block) (f : Nat) (x : Feed) : (b.setFeed f x).sup = b.sup := rfl
@[simp] theorem setFeed_meas (b : Block) (f : Nat) (x : Feed) : (b.setFeed f x).meas = b.meas := rfl
@[simp] theorem setFeed_events (b : Block) (f : Nat) (x : Feed) : (b.setFeed f x).events = b.events := rfl
@[simp] theorem setFeed_store (b : Block) (f : Nat) (x : Feed) : (b.setFeed f x).store = b.store := rfl
@[simp] theorem setFeed_flashMan (b : Block) (f : Nat) (x : Feed) : (b.setFeed f x).flashMan = b.flashMan := rfl
@[simp] theorem setFeed_dump (b : Block) (f : Nat) (x : Feed) : (b.setFeed f x).dump = b.dump := rfl
@[simp] theorem setFeed_update (b : Block) (f : Nat) (x : Feed) : (b.setFeed f x).update = b.update := rfl
@[simp] theorem setFeed_net (b : Block) (f : Nat) (x : Feed) : (b.setFeed f x).net = b.net := rfl
@[simp] theorem setFeed_tw (b : Block) (f : Nat) (x : Feed) : (b.setFeed f x).tw = b.tw := rfl
@[simp] theorem setFeed_aon (b : Block) (f : Nat) (x : Feed) : (b.setFeed f x).aon = b.aon := rfl
@[simp] theorem setFeed_writes (b : Block) (f : Nat) (x : Feed) : (b.setFeed f x).writes = b.writes := rfl
@[simp] theorem setFeed_rd (b : Block) (f : Nat) (x : Feed) (j : Nat) : (b.setFeed f x).rd j = b.rd j := rfl

@[simp] theorem setBat_dict (b : Block) (n : Nat) (x : BatString) : (b.setBat n x).dict = b.dict := rfl
@[simp] theorem setBat_wimg (b : Block) (n : Nat) (x : BatString) : (b.setBat n x).wimg = b.wimg := rfl
@[simp] theorem setBat_free (b : Block) (n : Nat) (x : BatString) : (b.setBat n x).free = b.free := rfl
@[simp] theorem setBat_glade (b : Block) (n : Nat) (x : BatString) : (b.setBat n x).glade = b.glade := rfl
@[simp] theorem setBat_actions (b : Block) (n : Nat) (x : BatString) : (b.setBat n x).actions = b.actions := rfl
@[simp] theorem setBat_canopy (b : Block) (n : Nat) (x : BatString) : (b.setBat n x).canopy = b.canopy := rfl
@[simp] theorem setBat_faults (b : Block) (n : Nat) (x : BatString) : (b.setBat n x).faults = b.faults := rfl
@[simp] theorem setBat_pair (b : Block) (n : Nat) (x : BatString) : (b.setBat n x).pair = b.pair := rfl
@[simp] theorem setBat_rings (b : Block) (n : Nat) (x : BatString) : (b.setBat n x).rings = b.rings := rfl
@[simp] theorem setBat_sessions (b : Block) (n : Nat) (x : BatString) : (b.setBat n x).sessions = b.sessions := rfl
@[simp] theorem setBat_domains (b : Block) (n : Nat) (x : BatString) : (b.setBat n x).domains = b.domains := rfl
@[simp] theorem setBat_ports (b : Block) (n : Nat) (x : BatString) : (b.setBat n x).ports = b.ports := rfl
@[simp] theorem setBat_masks (b : Block) (n : Nat) (x : BatString) : (b.setBat n x).masks = b.masks := rfl
@[simp] theorem setBat_groupTab (b : Block) (n : Nat) (x : BatString) : (b.setBat n x).groupTab = b.groupTab := rfl
@[simp] theorem setBat_feedTab (b : Block) (n : Nat) (x : BatString) : (b.setBat n x).feedTab = b.feedTab := rfl
@[simp] theorem setBat_holdup (b : Block) (n : Nat) (x : BatString) : (b.setBat n x).holdup = b.holdup := rfl
@[simp] theorem setBat_seqTab (b : Block) (n : Nat) (x : BatString) : (b.setBat n x).seqTab = b.seqTab := rfl
@[simp] theorem setBat_sup (b : Block) (n : Nat) (x : BatString) : (b.setBat n x).sup = b.sup := rfl
@[simp] theorem setBat_meas (b : Block) (n : Nat) (x : BatString) : (b.setBat n x).meas = b.meas := rfl
@[simp] theorem setBat_events (b : Block) (n : Nat) (x : BatString) : (b.setBat n x).events = b.events := rfl
@[simp] theorem setBat_store (b : Block) (n : Nat) (x : BatString) : (b.setBat n x).store = b.store := rfl
@[simp] theorem setBat_flashMan (b : Block) (n : Nat) (x : BatString) : (b.setBat n x).flashMan = b.flashMan := rfl
@[simp] theorem setBat_dump (b : Block) (n : Nat) (x : BatString) : (b.setBat n x).dump = b.dump := rfl
@[simp] theorem setBat_update (b : Block) (n : Nat) (x : BatString) : (b.setBat n x).update = b.update := rfl
@[simp] theorem setBat_net (b : Block) (n : Nat) (x : BatString) : (b.setBat n x).net = b.net := rfl
@[simp] theorem setBat_tw (b : Block) (n : Nat) (x : BatString) : (b.setBat n x).tw = b.tw := rfl
@[simp] theorem setBat_aon (b : Block) (n : Nat) (x : BatString) : (b.setBat n x).aon = b.aon := rfl
@[simp] theorem setBat_writes (b : Block) (n : Nat) (x : BatString) : (b.setBat n x).writes = b.writes := rfl
@[simp] theorem setBat_rd (b : Block) (n : Nat) (x : BatString) (j : Nat) : (b.setBat n x).rd j = b.rd j := rfl

@[simp] theorem setSeq_dict (b : Block) (q : Nat) (x : Seq) : (b.setSeq q x).dict = b.dict := rfl
@[simp] theorem setSeq_wimg (b : Block) (q : Nat) (x : Seq) : (b.setSeq q x).wimg = b.wimg := rfl
@[simp] theorem setSeq_free (b : Block) (q : Nat) (x : Seq) : (b.setSeq q x).free = b.free := rfl
@[simp] theorem setSeq_glade (b : Block) (q : Nat) (x : Seq) : (b.setSeq q x).glade = b.glade := rfl
@[simp] theorem setSeq_actions (b : Block) (q : Nat) (x : Seq) : (b.setSeq q x).actions = b.actions := rfl
@[simp] theorem setSeq_canopy (b : Block) (q : Nat) (x : Seq) : (b.setSeq q x).canopy = b.canopy := rfl
@[simp] theorem setSeq_faults (b : Block) (q : Nat) (x : Seq) : (b.setSeq q x).faults = b.faults := rfl
@[simp] theorem setSeq_pair (b : Block) (q : Nat) (x : Seq) : (b.setSeq q x).pair = b.pair := rfl
@[simp] theorem setSeq_rings (b : Block) (q : Nat) (x : Seq) : (b.setSeq q x).rings = b.rings := rfl
@[simp] theorem setSeq_sessions (b : Block) (q : Nat) (x : Seq) : (b.setSeq q x).sessions = b.sessions := rfl
@[simp] theorem setSeq_domains (b : Block) (q : Nat) (x : Seq) : (b.setSeq q x).domains = b.domains := rfl
@[simp] theorem setSeq_ports (b : Block) (q : Nat) (x : Seq) : (b.setSeq q x).ports = b.ports := rfl
@[simp] theorem setSeq_masks (b : Block) (q : Nat) (x : Seq) : (b.setSeq q x).masks = b.masks := rfl
@[simp] theorem setSeq_groupTab (b : Block) (q : Nat) (x : Seq) : (b.setSeq q x).groupTab = b.groupTab := rfl
@[simp] theorem setSeq_feedTab (b : Block) (q : Nat) (x : Seq) : (b.setSeq q x).feedTab = b.feedTab := rfl
@[simp] theorem setSeq_holdup (b : Block) (q : Nat) (x : Seq) : (b.setSeq q x).holdup = b.holdup := rfl
@[simp] theorem setSeq_stringTab (b : Block) (q : Nat) (x : Seq) : (b.setSeq q x).stringTab = b.stringTab := rfl
@[simp] theorem setSeq_sup (b : Block) (q : Nat) (x : Seq) : (b.setSeq q x).sup = b.sup := rfl
@[simp] theorem setSeq_meas (b : Block) (q : Nat) (x : Seq) : (b.setSeq q x).meas = b.meas := rfl
@[simp] theorem setSeq_events (b : Block) (q : Nat) (x : Seq) : (b.setSeq q x).events = b.events := rfl
@[simp] theorem setSeq_store (b : Block) (q : Nat) (x : Seq) : (b.setSeq q x).store = b.store := rfl
@[simp] theorem setSeq_flashMan (b : Block) (q : Nat) (x : Seq) : (b.setSeq q x).flashMan = b.flashMan := rfl
@[simp] theorem setSeq_dump (b : Block) (q : Nat) (x : Seq) : (b.setSeq q x).dump = b.dump := rfl
@[simp] theorem setSeq_update (b : Block) (q : Nat) (x : Seq) : (b.setSeq q x).update = b.update := rfl
@[simp] theorem setSeq_net (b : Block) (q : Nat) (x : Seq) : (b.setSeq q x).net = b.net := rfl
@[simp] theorem setSeq_tw (b : Block) (q : Nat) (x : Seq) : (b.setSeq q x).tw = b.tw := rfl
@[simp] theorem setSeq_aon (b : Block) (q : Nat) (x : Seq) : (b.setSeq q x).aon = b.aon := rfl
@[simp] theorem setSeq_writes (b : Block) (q : Nat) (x : Seq) : (b.setSeq q x).writes = b.writes := rfl
@[simp] theorem setSeq_rd (b : Block) (q : Nat) (x : Seq) (j : Nat) : (b.setSeq q x).rd j = b.rd j := rfl

@[simp] theorem setMf_dict (b : Block) (f : Nat) (x : MainsFeed) : (b.setMf f x).dict = b.dict := rfl
@[simp] theorem setMf_wimg (b : Block) (f : Nat) (x : MainsFeed) : (b.setMf f x).wimg = b.wimg := rfl
@[simp] theorem setMf_free (b : Block) (f : Nat) (x : MainsFeed) : (b.setMf f x).free = b.free := rfl
@[simp] theorem setMf_glade (b : Block) (f : Nat) (x : MainsFeed) : (b.setMf f x).glade = b.glade := rfl
@[simp] theorem setMf_actions (b : Block) (f : Nat) (x : MainsFeed) : (b.setMf f x).actions = b.actions := rfl
@[simp] theorem setMf_canopy (b : Block) (f : Nat) (x : MainsFeed) : (b.setMf f x).canopy = b.canopy := rfl
@[simp] theorem setMf_faults (b : Block) (f : Nat) (x : MainsFeed) : (b.setMf f x).faults = b.faults := rfl
@[simp] theorem setMf_pair (b : Block) (f : Nat) (x : MainsFeed) : (b.setMf f x).pair = b.pair := rfl
@[simp] theorem setMf_rings (b : Block) (f : Nat) (x : MainsFeed) : (b.setMf f x).rings = b.rings := rfl
@[simp] theorem setMf_sessions (b : Block) (f : Nat) (x : MainsFeed) : (b.setMf f x).sessions = b.sessions := rfl
@[simp] theorem setMf_domains (b : Block) (f : Nat) (x : MainsFeed) : (b.setMf f x).domains = b.domains := rfl
@[simp] theorem setMf_ports (b : Block) (f : Nat) (x : MainsFeed) : (b.setMf f x).ports = b.ports := rfl
@[simp] theorem setMf_masks (b : Block) (f : Nat) (x : MainsFeed) : (b.setMf f x).masks = b.masks := rfl
@[simp] theorem setMf_groupTab (b : Block) (f : Nat) (x : MainsFeed) : (b.setMf f x).groupTab = b.groupTab := rfl
@[simp] theorem setMf_feedTab (b : Block) (f : Nat) (x : MainsFeed) : (b.setMf f x).feedTab = b.feedTab := rfl
@[simp] theorem setMf_stringTab (b : Block) (f : Nat) (x : MainsFeed) : (b.setMf f x).stringTab = b.stringTab := rfl
@[simp] theorem setMf_seqTab (b : Block) (f : Nat) (x : MainsFeed) : (b.setMf f x).seqTab = b.seqTab := rfl
@[simp] theorem setMf_sup (b : Block) (f : Nat) (x : MainsFeed) : (b.setMf f x).sup = b.sup := rfl
@[simp] theorem setMf_meas (b : Block) (f : Nat) (x : MainsFeed) : (b.setMf f x).meas = b.meas := rfl
@[simp] theorem setMf_events (b : Block) (f : Nat) (x : MainsFeed) : (b.setMf f x).events = b.events := rfl
@[simp] theorem setMf_store (b : Block) (f : Nat) (x : MainsFeed) : (b.setMf f x).store = b.store := rfl
@[simp] theorem setMf_flashMan (b : Block) (f : Nat) (x : MainsFeed) : (b.setMf f x).flashMan = b.flashMan := rfl
@[simp] theorem setMf_dump (b : Block) (f : Nat) (x : MainsFeed) : (b.setMf f x).dump = b.dump := rfl
@[simp] theorem setMf_update (b : Block) (f : Nat) (x : MainsFeed) : (b.setMf f x).update = b.update := rfl
@[simp] theorem setMf_net (b : Block) (f : Nat) (x : MainsFeed) : (b.setMf f x).net = b.net := rfl
@[simp] theorem setMf_tw (b : Block) (f : Nat) (x : MainsFeed) : (b.setMf f x).tw = b.tw := rfl
@[simp] theorem setMf_aon (b : Block) (f : Nat) (x : MainsFeed) : (b.setMf f x).aon = b.aon := rfl
@[simp] theorem setMf_writes (b : Block) (f : Nat) (x : MainsFeed) : (b.setMf f x).writes = b.writes := rfl
@[simp] theorem setMf_rd (b : Block) (f : Nat) (x : MainsFeed) (j : Nat) : (b.setMf f x).rd j = b.rd j := rfl

@[simp] theorem setCal_dict (b : Block) (c : Nat) (x : Cal) : (b.setCal c x).dict = b.dict := rfl
@[simp] theorem setCal_wimg (b : Block) (c : Nat) (x : Cal) : (b.setCal c x).wimg = b.wimg := rfl
@[simp] theorem setCal_free (b : Block) (c : Nat) (x : Cal) : (b.setCal c x).free = b.free := rfl
@[simp] theorem setCal_glade (b : Block) (c : Nat) (x : Cal) : (b.setCal c x).glade = b.glade := rfl
@[simp] theorem setCal_actions (b : Block) (c : Nat) (x : Cal) : (b.setCal c x).actions = b.actions := rfl
@[simp] theorem setCal_canopy (b : Block) (c : Nat) (x : Cal) : (b.setCal c x).canopy = b.canopy := rfl
@[simp] theorem setCal_faults (b : Block) (c : Nat) (x : Cal) : (b.setCal c x).faults = b.faults := rfl
@[simp] theorem setCal_pair (b : Block) (c : Nat) (x : Cal) : (b.setCal c x).pair = b.pair := rfl
@[simp] theorem setCal_rings (b : Block) (c : Nat) (x : Cal) : (b.setCal c x).rings = b.rings := rfl
@[simp] theorem setCal_sessions (b : Block) (c : Nat) (x : Cal) : (b.setCal c x).sessions = b.sessions := rfl
@[simp] theorem setCal_domains (b : Block) (c : Nat) (x : Cal) : (b.setCal c x).domains = b.domains := rfl
@[simp] theorem setCal_ports (b : Block) (c : Nat) (x : Cal) : (b.setCal c x).ports = b.ports := rfl
@[simp] theorem setCal_masks (b : Block) (c : Nat) (x : Cal) : (b.setCal c x).masks = b.masks := rfl
@[simp] theorem setCal_groupTab (b : Block) (c : Nat) (x : Cal) : (b.setCal c x).groupTab = b.groupTab := rfl
@[simp] theorem setCal_feedTab (b : Block) (c : Nat) (x : Cal) : (b.setCal c x).feedTab = b.feedTab := rfl
@[simp] theorem setCal_holdup (b : Block) (c : Nat) (x : Cal) : (b.setCal c x).holdup = b.holdup := rfl
@[simp] theorem setCal_stringTab (b : Block) (c : Nat) (x : Cal) : (b.setCal c x).stringTab = b.stringTab := rfl
@[simp] theorem setCal_seqTab (b : Block) (c : Nat) (x : Cal) : (b.setCal c x).seqTab = b.seqTab := rfl
@[simp] theorem setCal_sup (b : Block) (c : Nat) (x : Cal) : (b.setCal c x).sup = b.sup := rfl
@[simp] theorem setCal_events (b : Block) (c : Nat) (x : Cal) : (b.setCal c x).events = b.events := rfl
@[simp] theorem setCal_store (b : Block) (c : Nat) (x : Cal) : (b.setCal c x).store = b.store := rfl
@[simp] theorem setCal_flashMan (b : Block) (c : Nat) (x : Cal) : (b.setCal c x).flashMan = b.flashMan := rfl
@[simp] theorem setCal_dump (b : Block) (c : Nat) (x : Cal) : (b.setCal c x).dump = b.dump := rfl
@[simp] theorem setCal_update (b : Block) (c : Nat) (x : Cal) : (b.setCal c x).update = b.update := rfl
@[simp] theorem setCal_net (b : Block) (c : Nat) (x : Cal) : (b.setCal c x).net = b.net := rfl
@[simp] theorem setCal_tw (b : Block) (c : Nat) (x : Cal) : (b.setCal c x).tw = b.tw := rfl
@[simp] theorem setCal_aon (b : Block) (c : Nat) (x : Cal) : (b.setCal c x).aon = b.aon := rfl
@[simp] theorem setCal_writes (b : Block) (c : Nat) (x : Cal) : (b.setCal c x).writes = b.writes := rfl
@[simp] theorem setCal_rd (b : Block) (c : Nat) (x : Cal) (j : Nat) : (b.setCal c x).rd j = b.rd j := rfl

@[simp] theorem setAvg_dict (b : Block) (c : Nat) (x : Avg) : (b.setAvg c x).dict = b.dict := rfl
@[simp] theorem setAvg_wimg (b : Block) (c : Nat) (x : Avg) : (b.setAvg c x).wimg = b.wimg := rfl
@[simp] theorem setAvg_free (b : Block) (c : Nat) (x : Avg) : (b.setAvg c x).free = b.free := rfl
@[simp] theorem setAvg_glade (b : Block) (c : Nat) (x : Avg) : (b.setAvg c x).glade = b.glade := rfl
@[simp] theorem setAvg_actions (b : Block) (c : Nat) (x : Avg) : (b.setAvg c x).actions = b.actions := rfl
@[simp] theorem setAvg_canopy (b : Block) (c : Nat) (x : Avg) : (b.setAvg c x).canopy = b.canopy := rfl
@[simp] theorem setAvg_faults (b : Block) (c : Nat) (x : Avg) : (b.setAvg c x).faults = b.faults := rfl
@[simp] theorem setAvg_pair (b : Block) (c : Nat) (x : Avg) : (b.setAvg c x).pair = b.pair := rfl
@[simp] theorem setAvg_rings (b : Block) (c : Nat) (x : Avg) : (b.setAvg c x).rings = b.rings := rfl
@[simp] theorem setAvg_sessions (b : Block) (c : Nat) (x : Avg) : (b.setAvg c x).sessions = b.sessions := rfl
@[simp] theorem setAvg_domains (b : Block) (c : Nat) (x : Avg) : (b.setAvg c x).domains = b.domains := rfl
@[simp] theorem setAvg_ports (b : Block) (c : Nat) (x : Avg) : (b.setAvg c x).ports = b.ports := rfl
@[simp] theorem setAvg_masks (b : Block) (c : Nat) (x : Avg) : (b.setAvg c x).masks = b.masks := rfl
@[simp] theorem setAvg_groupTab (b : Block) (c : Nat) (x : Avg) : (b.setAvg c x).groupTab = b.groupTab := rfl
@[simp] theorem setAvg_feedTab (b : Block) (c : Nat) (x : Avg) : (b.setAvg c x).feedTab = b.feedTab := rfl
@[simp] theorem setAvg_holdup (b : Block) (c : Nat) (x : Avg) : (b.setAvg c x).holdup = b.holdup := rfl
@[simp] theorem setAvg_stringTab (b : Block) (c : Nat) (x : Avg) : (b.setAvg c x).stringTab = b.stringTab := rfl
@[simp] theorem setAvg_seqTab (b : Block) (c : Nat) (x : Avg) : (b.setAvg c x).seqTab = b.seqTab := rfl
@[simp] theorem setAvg_sup (b : Block) (c : Nat) (x : Avg) : (b.setAvg c x).sup = b.sup := rfl
@[simp] theorem setAvg_events (b : Block) (c : Nat) (x : Avg) : (b.setAvg c x).events = b.events := rfl
@[simp] theorem setAvg_store (b : Block) (c : Nat) (x : Avg) : (b.setAvg c x).store = b.store := rfl
@[simp] theorem setAvg_flashMan (b : Block) (c : Nat) (x : Avg) : (b.setAvg c x).flashMan = b.flashMan := rfl
@[simp] theorem setAvg_dump (b : Block) (c : Nat) (x : Avg) : (b.setAvg c x).dump = b.dump := rfl
@[simp] theorem setAvg_update (b : Block) (c : Nat) (x : Avg) : (b.setAvg c x).update = b.update := rfl
@[simp] theorem setAvg_net (b : Block) (c : Nat) (x : Avg) : (b.setAvg c x).net = b.net := rfl
@[simp] theorem setAvg_tw (b : Block) (c : Nat) (x : Avg) : (b.setAvg c x).tw = b.tw := rfl
@[simp] theorem setAvg_aon (b : Block) (c : Nat) (x : Avg) : (b.setAvg c x).aon = b.aon := rfl
@[simp] theorem setAvg_writes (b : Block) (c : Nat) (x : Avg) : (b.setAvg c x).writes = b.writes := rfl
@[simp] theorem setAvg_rd (b : Block) (c : Nat) (x : Avg) (j : Nat) : (b.setAvg c x).rd j = b.rd j := rfl

@[simp] theorem setLine_dict (b : Block) (n : Nat) (x : Line) : (b.setLine n x).dict = b.dict := rfl
@[simp] theorem setLine_wimg (b : Block) (n : Nat) (x : Line) : (b.setLine n x).wimg = b.wimg := rfl
@[simp] theorem setLine_free (b : Block) (n : Nat) (x : Line) : (b.setLine n x).free = b.free := rfl
@[simp] theorem setLine_glade (b : Block) (n : Nat) (x : Line) : (b.setLine n x).glade = b.glade := rfl
@[simp] theorem setLine_actions (b : Block) (n : Nat) (x : Line) : (b.setLine n x).actions = b.actions := rfl
@[simp] theorem setLine_faults (b : Block) (n : Nat) (x : Line) : (b.setLine n x).faults = b.faults := rfl
@[simp] theorem setLine_pair (b : Block) (n : Nat) (x : Line) : (b.setLine n x).pair = b.pair := rfl
@[simp] theorem setLine_rings (b : Block) (n : Nat) (x : Line) : (b.setLine n x).rings = b.rings := rfl
@[simp] theorem setLine_sessions (b : Block) (n : Nat) (x : Line) : (b.setLine n x).sessions = b.sessions := rfl
@[simp] theorem setLine_domains (b : Block) (n : Nat) (x : Line) : (b.setLine n x).domains = b.domains := rfl
@[simp] theorem setLine_ports (b : Block) (n : Nat) (x : Line) : (b.setLine n x).ports = b.ports := rfl
@[simp] theorem setLine_masks (b : Block) (n : Nat) (x : Line) : (b.setLine n x).masks = b.masks := rfl
@[simp] theorem setLine_groupTab (b : Block) (n : Nat) (x : Line) : (b.setLine n x).groupTab = b.groupTab := rfl
@[simp] theorem setLine_feedTab (b : Block) (n : Nat) (x : Line) : (b.setLine n x).feedTab = b.feedTab := rfl
@[simp] theorem setLine_holdup (b : Block) (n : Nat) (x : Line) : (b.setLine n x).holdup = b.holdup := rfl
@[simp] theorem setLine_stringTab (b : Block) (n : Nat) (x : Line) : (b.setLine n x).stringTab = b.stringTab := rfl
@[simp] theorem setLine_seqTab (b : Block) (n : Nat) (x : Line) : (b.setLine n x).seqTab = b.seqTab := rfl
@[simp] theorem setLine_sup (b : Block) (n : Nat) (x : Line) : (b.setLine n x).sup = b.sup := rfl
@[simp] theorem setLine_meas (b : Block) (n : Nat) (x : Line) : (b.setLine n x).meas = b.meas := rfl
@[simp] theorem setLine_events (b : Block) (n : Nat) (x : Line) : (b.setLine n x).events = b.events := rfl
@[simp] theorem setLine_store (b : Block) (n : Nat) (x : Line) : (b.setLine n x).store = b.store := rfl
@[simp] theorem setLine_flashMan (b : Block) (n : Nat) (x : Line) : (b.setLine n x).flashMan = b.flashMan := rfl
@[simp] theorem setLine_dump (b : Block) (n : Nat) (x : Line) : (b.setLine n x).dump = b.dump := rfl
@[simp] theorem setLine_update (b : Block) (n : Nat) (x : Line) : (b.setLine n x).update = b.update := rfl
@[simp] theorem setLine_net (b : Block) (n : Nat) (x : Line) : (b.setLine n x).net = b.net := rfl
@[simp] theorem setLine_tw (b : Block) (n : Nat) (x : Line) : (b.setLine n x).tw = b.tw := rfl
@[simp] theorem setLine_aon (b : Block) (n : Nat) (x : Line) : (b.setLine n x).aon = b.aon := rfl
@[simp] theorem setLine_writes (b : Block) (n : Nat) (x : Line) : (b.setLine n x).writes = b.writes := rfl
@[simp] theorem setLine_rd (b : Block) (n : Nat) (x : Line) (j : Nat) : (b.setLine n x).rd j = b.rd j := rfl

@[simp] theorem setTwPort_dict (b : Block) (k : Nat) (x : TwPort) : (b.setTwPort k x).dict = b.dict := rfl
@[simp] theorem setTwPort_wimg (b : Block) (k : Nat) (x : TwPort) : (b.setTwPort k x).wimg = b.wimg := rfl
@[simp] theorem setTwPort_free (b : Block) (k : Nat) (x : TwPort) : (b.setTwPort k x).free = b.free := rfl
@[simp] theorem setTwPort_glade (b : Block) (k : Nat) (x : TwPort) : (b.setTwPort k x).glade = b.glade := rfl
@[simp] theorem setTwPort_actions (b : Block) (k : Nat) (x : TwPort) : (b.setTwPort k x).actions = b.actions := rfl
@[simp] theorem setTwPort_canopy (b : Block) (k : Nat) (x : TwPort) : (b.setTwPort k x).canopy = b.canopy := rfl
@[simp] theorem setTwPort_faults (b : Block) (k : Nat) (x : TwPort) : (b.setTwPort k x).faults = b.faults := rfl
@[simp] theorem setTwPort_pair (b : Block) (k : Nat) (x : TwPort) : (b.setTwPort k x).pair = b.pair := rfl
@[simp] theorem setTwPort_rings (b : Block) (k : Nat) (x : TwPort) : (b.setTwPort k x).rings = b.rings := rfl
@[simp] theorem setTwPort_sessions (b : Block) (k : Nat) (x : TwPort) : (b.setTwPort k x).sessions = b.sessions := rfl
@[simp] theorem setTwPort_domains (b : Block) (k : Nat) (x : TwPort) : (b.setTwPort k x).domains = b.domains := rfl
@[simp] theorem setTwPort_ports (b : Block) (k : Nat) (x : TwPort) : (b.setTwPort k x).ports = b.ports := rfl
@[simp] theorem setTwPort_masks (b : Block) (k : Nat) (x : TwPort) : (b.setTwPort k x).masks = b.masks := rfl
@[simp] theorem setTwPort_groupTab (b : Block) (k : Nat) (x : TwPort) : (b.setTwPort k x).groupTab = b.groupTab := rfl
@[simp] theorem setTwPort_feedTab (b : Block) (k : Nat) (x : TwPort) : (b.setTwPort k x).feedTab = b.feedTab := rfl
@[simp] theorem setTwPort_holdup (b : Block) (k : Nat) (x : TwPort) : (b.setTwPort k x).holdup = b.holdup := rfl
@[simp] theorem setTwPort_stringTab (b : Block) (k : Nat) (x : TwPort) : (b.setTwPort k x).stringTab = b.stringTab := rfl
@[simp] theorem setTwPort_seqTab (b : Block) (k : Nat) (x : TwPort) : (b.setTwPort k x).seqTab = b.seqTab := rfl
@[simp] theorem setTwPort_sup (b : Block) (k : Nat) (x : TwPort) : (b.setTwPort k x).sup = b.sup := rfl
@[simp] theorem setTwPort_meas (b : Block) (k : Nat) (x : TwPort) : (b.setTwPort k x).meas = b.meas := rfl
@[simp] theorem setTwPort_events (b : Block) (k : Nat) (x : TwPort) : (b.setTwPort k x).events = b.events := rfl
@[simp] theorem setTwPort_store (b : Block) (k : Nat) (x : TwPort) : (b.setTwPort k x).store = b.store := rfl
@[simp] theorem setTwPort_flashMan (b : Block) (k : Nat) (x : TwPort) : (b.setTwPort k x).flashMan = b.flashMan := rfl
@[simp] theorem setTwPort_dump (b : Block) (k : Nat) (x : TwPort) : (b.setTwPort k x).dump = b.dump := rfl
@[simp] theorem setTwPort_update (b : Block) (k : Nat) (x : TwPort) : (b.setTwPort k x).update = b.update := rfl
@[simp] theorem setTwPort_net (b : Block) (k : Nat) (x : TwPort) : (b.setTwPort k x).net = b.net := rfl
@[simp] theorem setTwPort_aon (b : Block) (k : Nat) (x : TwPort) : (b.setTwPort k x).aon = b.aon := rfl
@[simp] theorem setTwPort_writes (b : Block) (k : Nat) (x : TwPort) : (b.setTwPort k x).writes = b.writes := rfl
@[simp] theorem setTwPort_rd (b : Block) (k : Nat) (x : TwPort) (j : Nat) : (b.setTwPort k x).rd j = b.rd j := rfl

@[simp] theorem setWindow_dict (b : Block) (e : Nat) (x : TwAddress) : (b.setWindow e x).dict = b.dict := rfl
@[simp] theorem setWindow_wimg (b : Block) (e : Nat) (x : TwAddress) : (b.setWindow e x).wimg = b.wimg := rfl
@[simp] theorem setWindow_free (b : Block) (e : Nat) (x : TwAddress) : (b.setWindow e x).free = b.free := rfl
@[simp] theorem setWindow_glade (b : Block) (e : Nat) (x : TwAddress) : (b.setWindow e x).glade = b.glade := rfl
@[simp] theorem setWindow_actions (b : Block) (e : Nat) (x : TwAddress) : (b.setWindow e x).actions = b.actions := rfl
@[simp] theorem setWindow_canopy (b : Block) (e : Nat) (x : TwAddress) : (b.setWindow e x).canopy = b.canopy := rfl
@[simp] theorem setWindow_faults (b : Block) (e : Nat) (x : TwAddress) : (b.setWindow e x).faults = b.faults := rfl
@[simp] theorem setWindow_pair (b : Block) (e : Nat) (x : TwAddress) : (b.setWindow e x).pair = b.pair := rfl
@[simp] theorem setWindow_rings (b : Block) (e : Nat) (x : TwAddress) : (b.setWindow e x).rings = b.rings := rfl
@[simp] theorem setWindow_sessions (b : Block) (e : Nat) (x : TwAddress) : (b.setWindow e x).sessions = b.sessions := rfl
@[simp] theorem setWindow_domains (b : Block) (e : Nat) (x : TwAddress) : (b.setWindow e x).domains = b.domains := rfl
@[simp] theorem setWindow_ports (b : Block) (e : Nat) (x : TwAddress) : (b.setWindow e x).ports = b.ports := rfl
@[simp] theorem setWindow_masks (b : Block) (e : Nat) (x : TwAddress) : (b.setWindow e x).masks = b.masks := rfl
@[simp] theorem setWindow_groupTab (b : Block) (e : Nat) (x : TwAddress) : (b.setWindow e x).groupTab = b.groupTab := rfl
@[simp] theorem setWindow_feedTab (b : Block) (e : Nat) (x : TwAddress) : (b.setWindow e x).feedTab = b.feedTab := rfl
@[simp] theorem setWindow_holdup (b : Block) (e : Nat) (x : TwAddress) : (b.setWindow e x).holdup = b.holdup := rfl
@[simp] theorem setWindow_stringTab (b : Block) (e : Nat) (x : TwAddress) : (b.setWindow e x).stringTab = b.stringTab := rfl
@[simp] theorem setWindow_seqTab (b : Block) (e : Nat) (x : TwAddress) : (b.setWindow e x).seqTab = b.seqTab := rfl
@[simp] theorem setWindow_sup (b : Block) (e : Nat) (x : TwAddress) : (b.setWindow e x).sup = b.sup := rfl
@[simp] theorem setWindow_meas (b : Block) (e : Nat) (x : TwAddress) : (b.setWindow e x).meas = b.meas := rfl
@[simp] theorem setWindow_events (b : Block) (e : Nat) (x : TwAddress) : (b.setWindow e x).events = b.events := rfl
@[simp] theorem setWindow_store (b : Block) (e : Nat) (x : TwAddress) : (b.setWindow e x).store = b.store := rfl
@[simp] theorem setWindow_flashMan (b : Block) (e : Nat) (x : TwAddress) : (b.setWindow e x).flashMan = b.flashMan := rfl
@[simp] theorem setWindow_dump (b : Block) (e : Nat) (x : TwAddress) : (b.setWindow e x).dump = b.dump := rfl
@[simp] theorem setWindow_update (b : Block) (e : Nat) (x : TwAddress) : (b.setWindow e x).update = b.update := rfl
@[simp] theorem setWindow_net (b : Block) (e : Nat) (x : TwAddress) : (b.setWindow e x).net = b.net := rfl
@[simp] theorem setWindow_aon (b : Block) (e : Nat) (x : TwAddress) : (b.setWindow e x).aon = b.aon := rfl
@[simp] theorem setWindow_writes (b : Block) (e : Nat) (x : TwAddress) : (b.setWindow e x).writes = b.writes := rfl
@[simp] theorem setWindow_rd (b : Block) (e : Nat) (x : TwAddress) (j : Nat) : (b.setWindow e x).rd j = b.rd j := rfl

@[simp] theorem modPair_dict (b : Block) (f : Pair → Pair) : (b.modPair f).dict = b.dict := rfl
@[simp] theorem modPair_wimg (b : Block) (f : Pair → Pair) : (b.modPair f).wimg = b.wimg := rfl
@[simp] theorem modPair_free (b : Block) (f : Pair → Pair) : (b.modPair f).free = b.free := rfl
@[simp] theorem modPair_glade (b : Block) (f : Pair → Pair) : (b.modPair f).glade = b.glade := rfl
@[simp] theorem modPair_actions (b : Block) (f : Pair → Pair) : (b.modPair f).actions = b.actions := rfl
@[simp] theorem modPair_canopy (b : Block) (f : Pair → Pair) : (b.modPair f).canopy = b.canopy := rfl
@[simp] theorem modPair_faults (b : Block) (f : Pair → Pair) : (b.modPair f).faults = b.faults := rfl
@[simp] theorem modPair_rings (b : Block) (f : Pair → Pair) : (b.modPair f).rings = b.rings := rfl
@[simp] theorem modPair_sessions (b : Block) (f : Pair → Pair) : (b.modPair f).sessions = b.sessions := rfl
@[simp] theorem modPair_domains (b : Block) (f : Pair → Pair) : (b.modPair f).domains = b.domains := rfl
@[simp] theorem modPair_ports (b : Block) (f : Pair → Pair) : (b.modPair f).ports = b.ports := rfl
@[simp] theorem modPair_masks (b : Block) (f : Pair → Pair) : (b.modPair f).masks = b.masks := rfl
@[simp] theorem modPair_groupTab (b : Block) (f : Pair → Pair) : (b.modPair f).groupTab = b.groupTab := rfl
@[simp] theorem modPair_feedTab (b : Block) (f : Pair → Pair) : (b.modPair f).feedTab = b.feedTab := rfl
@[simp] theorem modPair_holdup (b : Block) (f : Pair → Pair) : (b.modPair f).holdup = b.holdup := rfl
@[simp] theorem modPair_stringTab (b : Block) (f : Pair → Pair) : (b.modPair f).stringTab = b.stringTab := rfl
@[simp] theorem modPair_seqTab (b : Block) (f : Pair → Pair) : (b.modPair f).seqTab = b.seqTab := rfl
@[simp] theorem modPair_sup (b : Block) (f : Pair → Pair) : (b.modPair f).sup = b.sup := rfl
@[simp] theorem modPair_meas (b : Block) (f : Pair → Pair) : (b.modPair f).meas = b.meas := rfl
@[simp] theorem modPair_events (b : Block) (f : Pair → Pair) : (b.modPair f).events = b.events := rfl
@[simp] theorem modPair_store (b : Block) (f : Pair → Pair) : (b.modPair f).store = b.store := rfl
@[simp] theorem modPair_flashMan (b : Block) (f : Pair → Pair) : (b.modPair f).flashMan = b.flashMan := rfl
@[simp] theorem modPair_dump (b : Block) (f : Pair → Pair) : (b.modPair f).dump = b.dump := rfl
@[simp] theorem modPair_update (b : Block) (f : Pair → Pair) : (b.modPair f).update = b.update := rfl
@[simp] theorem modPair_net (b : Block) (f : Pair → Pair) : (b.modPair f).net = b.net := rfl
@[simp] theorem modPair_tw (b : Block) (f : Pair → Pair) : (b.modPair f).tw = b.tw := rfl
@[simp] theorem modPair_aon (b : Block) (f : Pair → Pair) : (b.modPair f).aon = b.aon := rfl
@[simp] theorem modPair_writes (b : Block) (f : Pair → Pair) : (b.modPair f).writes = b.writes := rfl
@[simp] theorem modPair_rd (b : Block) (f : Pair → Pair) (j : Nat) : (b.modPair f).rd j = b.rd j := rfl

@[simp] theorem modAon_dict (b : Block) (f : Aon → Aon) : (b.modAon f).dict = b.dict := rfl
@[simp] theorem modAon_wimg (b : Block) (f : Aon → Aon) : (b.modAon f).wimg = b.wimg := rfl
@[simp] theorem modAon_free (b : Block) (f : Aon → Aon) : (b.modAon f).free = b.free := rfl
@[simp] theorem modAon_glade (b : Block) (f : Aon → Aon) : (b.modAon f).glade = b.glade := rfl
@[simp] theorem modAon_actions (b : Block) (f : Aon → Aon) : (b.modAon f).actions = b.actions := rfl
@[simp] theorem modAon_canopy (b : Block) (f : Aon → Aon) : (b.modAon f).canopy = b.canopy := rfl
@[simp] theorem modAon_faults (b : Block) (f : Aon → Aon) : (b.modAon f).faults = b.faults := rfl
@[simp] theorem modAon_pair (b : Block) (f : Aon → Aon) : (b.modAon f).pair = b.pair := rfl
@[simp] theorem modAon_rings (b : Block) (f : Aon → Aon) : (b.modAon f).rings = b.rings := rfl
@[simp] theorem modAon_sessions (b : Block) (f : Aon → Aon) : (b.modAon f).sessions = b.sessions := rfl
@[simp] theorem modAon_domains (b : Block) (f : Aon → Aon) : (b.modAon f).domains = b.domains := rfl
@[simp] theorem modAon_ports (b : Block) (f : Aon → Aon) : (b.modAon f).ports = b.ports := rfl
@[simp] theorem modAon_masks (b : Block) (f : Aon → Aon) : (b.modAon f).masks = b.masks := rfl
@[simp] theorem modAon_groupTab (b : Block) (f : Aon → Aon) : (b.modAon f).groupTab = b.groupTab := rfl
@[simp] theorem modAon_feedTab (b : Block) (f : Aon → Aon) : (b.modAon f).feedTab = b.feedTab := rfl
@[simp] theorem modAon_holdup (b : Block) (f : Aon → Aon) : (b.modAon f).holdup = b.holdup := rfl
@[simp] theorem modAon_stringTab (b : Block) (f : Aon → Aon) : (b.modAon f).stringTab = b.stringTab := rfl
@[simp] theorem modAon_seqTab (b : Block) (f : Aon → Aon) : (b.modAon f).seqTab = b.seqTab := rfl
@[simp] theorem modAon_sup (b : Block) (f : Aon → Aon) : (b.modAon f).sup = b.sup := rfl
@[simp] theorem modAon_meas (b : Block) (f : Aon → Aon) : (b.modAon f).meas = b.meas := rfl
@[simp] theorem modAon_events (b : Block) (f : Aon → Aon) : (b.modAon f).events = b.events := rfl
@[simp] theorem modAon_store (b : Block) (f : Aon → Aon) : (b.modAon f).store = b.store := rfl
@[simp] theorem modAon_flashMan (b : Block) (f : Aon → Aon) : (b.modAon f).flashMan = b.flashMan := rfl
@[simp] theorem modAon_dump (b : Block) (f : Aon → Aon) : (b.modAon f).dump = b.dump := rfl
@[simp] theorem modAon_update (b : Block) (f : Aon → Aon) : (b.modAon f).update = b.update := rfl
@[simp] theorem modAon_net (b : Block) (f : Aon → Aon) : (b.modAon f).net = b.net := rfl
@[simp] theorem modAon_tw (b : Block) (f : Aon → Aon) : (b.modAon f).tw = b.tw := rfl
@[simp] theorem modAon_writes (b : Block) (f : Aon → Aon) : (b.modAon f).writes = b.writes := rfl
@[simp] theorem modAon_rd (b : Block) (f : Aon → Aon) (j : Nat) : (b.modAon f).rd j = b.rd j := rfl

@[simp] theorem report_dict (b : Block) (src inst : Nat) (detail : List Int) : (b.report src inst detail).dict = b.dict := rfl
@[simp] theorem report_wimg (b : Block) (src inst : Nat) (detail : List Int) : (b.report src inst detail).wimg = b.wimg := rfl
@[simp] theorem report_free (b : Block) (src inst : Nat) (detail : List Int) : (b.report src inst detail).free = b.free := rfl
@[simp] theorem report_glade (b : Block) (src inst : Nat) (detail : List Int) : (b.report src inst detail).glade = b.glade := rfl
@[simp] theorem report_actions (b : Block) (src inst : Nat) (detail : List Int) : (b.report src inst detail).actions = b.actions := rfl
@[simp] theorem report_canopy (b : Block) (src inst : Nat) (detail : List Int) : (b.report src inst detail).canopy = b.canopy := rfl
@[simp] theorem report_pair (b : Block) (src inst : Nat) (detail : List Int) : (b.report src inst detail).pair = b.pair := rfl
@[simp] theorem report_rings (b : Block) (src inst : Nat) (detail : List Int) : (b.report src inst detail).rings = b.rings := rfl
@[simp] theorem report_sessions (b : Block) (src inst : Nat) (detail : List Int) : (b.report src inst detail).sessions = b.sessions := rfl
@[simp] theorem report_domains (b : Block) (src inst : Nat) (detail : List Int) : (b.report src inst detail).domains = b.domains := rfl
@[simp] theorem report_ports (b : Block) (src inst : Nat) (detail : List Int) : (b.report src inst detail).ports = b.ports := rfl
@[simp] theorem report_masks (b : Block) (src inst : Nat) (detail : List Int) : (b.report src inst detail).masks = b.masks := rfl
@[simp] theorem report_groupTab (b : Block) (src inst : Nat) (detail : List Int) : (b.report src inst detail).groupTab = b.groupTab := rfl
@[simp] theorem report_feedTab (b : Block) (src inst : Nat) (detail : List Int) : (b.report src inst detail).feedTab = b.feedTab := rfl
@[simp] theorem report_holdup (b : Block) (src inst : Nat) (detail : List Int) : (b.report src inst detail).holdup = b.holdup := rfl
@[simp] theorem report_stringTab (b : Block) (src inst : Nat) (detail : List Int) : (b.report src inst detail).stringTab = b.stringTab := rfl
@[simp] theorem report_seqTab (b : Block) (src inst : Nat) (detail : List Int) : (b.report src inst detail).seqTab = b.seqTab := rfl
@[simp] theorem report_sup (b : Block) (src inst : Nat) (detail : List Int) : (b.report src inst detail).sup = b.sup := rfl
@[simp] theorem report_meas (b : Block) (src inst : Nat) (detail : List Int) : (b.report src inst detail).meas = b.meas := rfl
@[simp] theorem report_events (b : Block) (src inst : Nat) (detail : List Int) : (b.report src inst detail).events = b.events := rfl
@[simp] theorem report_store (b : Block) (src inst : Nat) (detail : List Int) : (b.report src inst detail).store = b.store := rfl
@[simp] theorem report_flashMan (b : Block) (src inst : Nat) (detail : List Int) : (b.report src inst detail).flashMan = b.flashMan := rfl
@[simp] theorem report_dump (b : Block) (src inst : Nat) (detail : List Int) : (b.report src inst detail).dump = b.dump := rfl
@[simp] theorem report_update (b : Block) (src inst : Nat) (detail : List Int) : (b.report src inst detail).update = b.update := rfl
@[simp] theorem report_net (b : Block) (src inst : Nat) (detail : List Int) : (b.report src inst detail).net = b.net := rfl
@[simp] theorem report_tw (b : Block) (src inst : Nat) (detail : List Int) : (b.report src inst detail).tw = b.tw := rfl
@[simp] theorem report_aon (b : Block) (src inst : Nat) (detail : List Int) : (b.report src inst detail).aon = b.aon := rfl
@[simp] theorem report_writes (b : Block) (src inst : Nat) (detail : List Int) : (b.report src inst detail).writes = b.writes := rfl
@[simp] theorem report_rd (b : Block) (src inst : Nat) (detail : List Int) (j : Nat) : (b.report src inst detail).rd j = b.rd j := rfl

@[simp] theorem supWr_dict (b : Block) (k v : Nat) : (b.supWr k v).dict = b.dict := rfl
@[simp] theorem supWr_wimg (b : Block) (k v : Nat) : (b.supWr k v).wimg = b.wimg := rfl
@[simp] theorem supWr_free (b : Block) (k v : Nat) : (b.supWr k v).free = b.free := rfl
@[simp] theorem supWr_glade (b : Block) (k v : Nat) : (b.supWr k v).glade = b.glade := rfl
@[simp] theorem supWr_actions (b : Block) (k v : Nat) : (b.supWr k v).actions = b.actions := rfl
@[simp] theorem supWr_canopy (b : Block) (k v : Nat) : (b.supWr k v).canopy = b.canopy := rfl
@[simp] theorem supWr_faults (b : Block) (k v : Nat) : (b.supWr k v).faults = b.faults := rfl
@[simp] theorem supWr_pair (b : Block) (k v : Nat) : (b.supWr k v).pair = b.pair := rfl
@[simp] theorem supWr_rings (b : Block) (k v : Nat) : (b.supWr k v).rings = b.rings := rfl
@[simp] theorem supWr_sessions (b : Block) (k v : Nat) : (b.supWr k v).sessions = b.sessions := rfl
@[simp] theorem supWr_domains (b : Block) (k v : Nat) : (b.supWr k v).domains = b.domains := rfl
@[simp] theorem supWr_ports (b : Block) (k v : Nat) : (b.supWr k v).ports = b.ports := rfl
@[simp] theorem supWr_masks (b : Block) (k v : Nat) : (b.supWr k v).masks = b.masks := rfl
@[simp] theorem supWr_groupTab (b : Block) (k v : Nat) : (b.supWr k v).groupTab = b.groupTab := rfl
@[simp] theorem supWr_feedTab (b : Block) (k v : Nat) : (b.supWr k v).feedTab = b.feedTab := rfl
@[simp] theorem supWr_holdup (b : Block) (k v : Nat) : (b.supWr k v).holdup = b.holdup := rfl
@[simp] theorem supWr_stringTab (b : Block) (k v : Nat) : (b.supWr k v).stringTab = b.stringTab := rfl
@[simp] theorem supWr_seqTab (b : Block) (k v : Nat) : (b.supWr k v).seqTab = b.seqTab := rfl
@[simp] theorem supWr_meas (b : Block) (k v : Nat) : (b.supWr k v).meas = b.meas := rfl
@[simp] theorem supWr_events (b : Block) (k v : Nat) : (b.supWr k v).events = b.events := rfl
@[simp] theorem supWr_store (b : Block) (k v : Nat) : (b.supWr k v).store = b.store := rfl
@[simp] theorem supWr_flashMan (b : Block) (k v : Nat) : (b.supWr k v).flashMan = b.flashMan := rfl
@[simp] theorem supWr_dump (b : Block) (k v : Nat) : (b.supWr k v).dump = b.dump := rfl
@[simp] theorem supWr_update (b : Block) (k v : Nat) : (b.supWr k v).update = b.update := rfl
@[simp] theorem supWr_net (b : Block) (k v : Nat) : (b.supWr k v).net = b.net := rfl
@[simp] theorem supWr_tw (b : Block) (k v : Nat) : (b.supWr k v).tw = b.tw := rfl
@[simp] theorem supWr_aon (b : Block) (k v : Nat) : (b.supWr k v).aon = b.aon := rfl
@[simp] theorem supWr_writes (b : Block) (k v : Nat) : (b.supWr k v).writes = b.writes := rfl
@[simp] theorem supWr_rd (b : Block) (k v : Nat) (j : Nat) : (b.supWr k v).rd j = b.rd j := rfl
@[simp] theorem draw_dict (b : Block) (w : Nat) : (b.draw w).2.dict = b.dict := rfl
@[simp] theorem draw_wimg (b : Block) (w : Nat) : (b.draw w).2.wimg = b.wimg := rfl
@[simp] theorem draw_glade (b : Block) (w : Nat) : (b.draw w).2.glade = b.glade := rfl
@[simp] theorem draw_actions (b : Block) (w : Nat) : (b.draw w).2.actions = b.actions := rfl
@[simp] theorem draw_canopy (b : Block) (w : Nat) : (b.draw w).2.canopy = b.canopy := rfl
@[simp] theorem draw_faults (b : Block) (w : Nat) : (b.draw w).2.faults = b.faults := rfl
@[simp] theorem draw_pair (b : Block) (w : Nat) : (b.draw w).2.pair = b.pair := rfl
@[simp] theorem draw_rings (b : Block) (w : Nat) : (b.draw w).2.rings = b.rings := rfl
@[simp] theorem draw_sessions (b : Block) (w : Nat) : (b.draw w).2.sessions = b.sessions := rfl
@[simp] theorem draw_domains (b : Block) (w : Nat) : (b.draw w).2.domains = b.domains := rfl
@[simp] theorem draw_ports (b : Block) (w : Nat) : (b.draw w).2.ports = b.ports := rfl
@[simp] theorem draw_masks (b : Block) (w : Nat) : (b.draw w).2.masks = b.masks := rfl
@[simp] theorem draw_groupTab (b : Block) (w : Nat) : (b.draw w).2.groupTab = b.groupTab := rfl
@[simp] theorem draw_feedTab (b : Block) (w : Nat) : (b.draw w).2.feedTab = b.feedTab := rfl
@[simp] theorem draw_holdup (b : Block) (w : Nat) : (b.draw w).2.holdup = b.holdup := rfl
@[simp] theorem draw_stringTab (b : Block) (w : Nat) : (b.draw w).2.stringTab = b.stringTab := rfl
@[simp] theorem draw_seqTab (b : Block) (w : Nat) : (b.draw w).2.seqTab = b.seqTab := rfl
@[simp] theorem draw_sup (b : Block) (w : Nat) : (b.draw w).2.sup = b.sup := rfl
@[simp] theorem draw_meas (b : Block) (w : Nat) : (b.draw w).2.meas = b.meas := rfl
@[simp] theorem draw_events (b : Block) (w : Nat) : (b.draw w).2.events = b.events := rfl
@[simp] theorem draw_store (b : Block) (w : Nat) : (b.draw w).2.store = b.store := rfl
@[simp] theorem draw_flashMan (b : Block) (w : Nat) : (b.draw w).2.flashMan = b.flashMan := rfl
@[simp] theorem draw_dump (b : Block) (w : Nat) : (b.draw w).2.dump = b.dump := rfl
@[simp] theorem draw_update (b : Block) (w : Nat) : (b.draw w).2.update = b.update := rfl
@[simp] theorem draw_net (b : Block) (w : Nat) : (b.draw w).2.net = b.net := rfl
@[simp] theorem draw_tw (b : Block) (w : Nat) : (b.draw w).2.tw = b.tw := rfl
@[simp] theorem draw_aon (b : Block) (w : Nat) : (b.draw w).2.aon = b.aon := rfl
@[simp] theorem draw_writes (b : Block) (w : Nat) : (b.draw w).2.writes = b.writes := rfl

end Block

end Sys2Proof.Machine
end

