-- ==== Sys2Proof/Laws/Ops.lean ====
section
/-! SUPPORT. What each shared operation can do, stated once: reads after writes, the outcomes of a command, reports, messages, entries. -/

namespace Sys2Proof.Machine

/-! ### The dictionary store -/

namespace Block

/-- A read after a write that takes effect at once. -/
theorem rd_wr (b : Block) (k v j : Nat) : (b.wr k v).rd j = if j = k then v else b.rd j := by
  unfold rd wr
  split
  · next h => subst h; exact Tab.look_put_self _ _ _ _
  · next h => exact Tab.look_put_of_ne _ _ _ _ h

@[simp] theorem rd_wr_self (b : Block) (k v : Nat) : (b.wr k v).rd k = v := by simp [rd_wr]

theorem rd_wr_of_ne (b : Block) {k j : Nat} (v : Nat) (h : j ≠ k) : (b.wr k v).rd j = b.rd j := by simp [rd_wr, h]

theorem rd_wrI (b : Block) (w k : Nat) (v : Int) (j : Nat) : (b.wrI w k v).rd j = if j = k then ofI w v else b.rd j := rd_wr _ _ _ _

theorem rd_bump (b : Block) (k w n j : Nat) : (b.bump k w n).rd j = if j = k then min (b.rd k + n) (2 ^ w - 1) else b.rd j := rd_wr _ _ _ _

@[simp] theorem wrs_nil (b : Block) : b.wrs [] = b := rfl
@[simp] theorem wrs_cons (b : Block) (e : Nat × Nat) (l : List (Nat × Nat)) : b.wrs (e :: l) = (b.wr e.1 e.2).wrs l := rfl

/-- Writes leave every object that they do not name. -/
theorem rd_wrs_of_notMem (b : Block) (l : List (Nat × Nat)) (j : Nat) (h : ∀ e ∈ l, e.1 ≠ j) : (b.wrs l).rd j = b.rd j := by
  induction l generalizing b with
  | nil => rfl
  | cons e r ih =>
    rw [wrs_cons, ih _ (fun x hx => h x (by simp [hx])), rd_wr_of_ne _ _ (Ne.symm (h e (by simp)))]

/-- What no write changes, a list of writes does not change. -/
theorem wrs_of {α : Type} (f : Block → α) (h : ∀ (b : Block) (k v : Nat), f (b.wr k v) = f b) (b : Block) (l : List (Nat × Nat)) :
    f (b.wrs l) = f b := by
  induction l generalizing b with
  | nil => rfl
  | cons e r ih => rw [wrs_cons, ih, h]

@[simp] theorem wrs_free (b : Block) (l : List (Nat × Nat)) : (b.wrs l).free = b.free := wrs_of (·.free) (fun _ _ _ => rfl) b l
@[simp] theorem wrs_glade (b : Block) (l : List (Nat × Nat)) : (b.wrs l).glade = b.glade := wrs_of (·.glade) (fun _ _ _ => rfl) b l
@[simp] theorem wrs_actions (b : Block) (l : List (Nat × Nat)) : (b.wrs l).actions = b.actions := wrs_of (·.actions) (fun _ _ _ => rfl) b l
@[simp] theorem wrs_canopy (b : Block) (l : List (Nat × Nat)) : (b.wrs l).canopy = b.canopy := wrs_of (·.canopy) (fun _ _ _ => rfl) b l
@[simp] theorem wrs_faults (b : Block) (l : List (Nat × Nat)) : (b.wrs l).faults = b.faults := wrs_of (·.faults) (fun _ _ _ => rfl) b l
@[simp] theorem wrs_pair (b : Block) (l : List (Nat × Nat)) : (b.wrs l).pair = b.pair := wrs_of (·.pair) (fun _ _ _ => rfl) b l
@[simp] theorem wrs_rings (b : Block) (l : List (Nat × Nat)) : (b.wrs l).rings = b.rings := wrs_of (·.rings) (fun _ _ _ => rfl) b l
@[simp] theorem wrs_sessions (b : Block) (l : List (Nat × Nat)) : (b.wrs l).sessions = b.sessions := wrs_of (·.sessions) (fun _ _ _ => rfl) b l
@[simp] theorem wrs_domains (b : Block) (l : List (Nat × Nat)) : (b.wrs l).domains = b.domains := wrs_of (·.domains) (fun _ _ _ => rfl) b l
@[simp] theorem wrs_ports (b : Block) (l : List (Nat × Nat)) : (b.wrs l).ports = b.ports := wrs_of (·.ports) (fun _ _ _ => rfl) b l
@[simp] theorem wrs_masks (b : Block) (l : List (Nat × Nat)) : (b.wrs l).masks = b.masks := wrs_of (·.masks) (fun _ _ _ => rfl) b l
@[simp] theorem wrs_groupTab (b : Block) (l : List (Nat × Nat)) : (b.wrs l).groupTab = b.groupTab := wrs_of (·.groupTab) (fun _ _ _ => rfl) b l
@[simp] theorem wrs_feedTab (b : Block) (l : List (Nat × Nat)) : (b.wrs l).feedTab = b.feedTab := wrs_of (·.feedTab) (fun _ _ _ => rfl) b l
@[simp] theorem wrs_holdup (b : Block) (l : List (Nat × Nat)) : (b.wrs l).holdup = b.holdup := wrs_of (·.holdup) (fun _ _ _ => rfl) b l
@[simp] theorem wrs_stringTab (b : Block) (l : List (Nat × Nat)) : (b.wrs l).stringTab = b.stringTab := wrs_of (·.stringTab) (fun _ _ _ => rfl) b l
@[simp] theorem wrs_seqTab (b : Block) (l : List (Nat × Nat)) : (b.wrs l).seqTab = b.seqTab := wrs_of (·.seqTab) (fun _ _ _ => rfl) b l
@[simp] theorem wrs_sup (b : Block) (l : List (Nat × Nat)) : (b.wrs l).sup = b.sup := wrs_of (·.sup) (fun _ _ _ => rfl) b l
@[simp] theorem wrs_meas (b : Block) (l : List (Nat × Nat)) : (b.wrs l).meas = b.meas := wrs_of (·.meas) (fun _ _ _ => rfl) b l
@[simp] theorem wrs_events (b : Block) (l : List (Nat × Nat)) : (b.wrs l).events = b.events := wrs_of (·.events) (fun _ _ _ => rfl) b l
@[simp] theorem wrs_store (b : Block) (l : List (Nat × Nat)) : (b.wrs l).store = b.store := wrs_of (·.store) (fun _ _ _ => rfl) b l
@[simp] theorem wrs_flashMan (b : Block) (l : List (Nat × Nat)) : (b.wrs l).flashMan = b.flashMan := wrs_of (·.flashMan) (fun _ _ _ => rfl) b l
@[simp] theorem wrs_dump (b : Block) (l : List (Nat × Nat)) : (b.wrs l).dump = b.dump := wrs_of (·.dump) (fun _ _ _ => rfl) b l
@[simp] theorem wrs_update (b : Block) (l : List (Nat × Nat)) : (b.wrs l).update = b.update := wrs_of (·.update) (fun _ _ _ => rfl) b l
@[simp] theorem wrs_net (b : Block) (l : List (Nat × Nat)) : (b.wrs l).net = b.net := wrs_of (·.net) (fun _ _ _ => rfl) b l
@[simp] theorem wrs_tw (b : Block) (l : List (Nat × Nat)) : (b.wrs l).tw = b.tw := wrs_of (·.tw) (fun _ _ _ => rfl) b l
@[simp] theorem wrs_aon (b : Block) (l : List (Nat × Nat)) : (b.wrs l).aon = b.aon := wrs_of (·.aon) (fun _ _ _ => rfl) b l
@[simp] theorem wrs_writes (b : Block) (l : List (Nat × Nat)) : (b.wrs l).writes = b.writes := wrs_of (·.writes) (fun _ _ _ => rfl) b l

/-- A write for the next tick leaves every other object of the next tick (R81). -/
theorem wr_comm_rdN (b : Block) (k v j : Nat) (h : j ≠ k) : (b.wrN k v).rdN j = b.rdN j := by
  simp only [rdN, wrN]
  rw [Tab.look_set_of_ne _ _ _ h]
  rfl

@[simp] theorem rdN_wrN_self (b : Block) (k v : Nat) : (b.wrN k v).rdN k = v := by simp [rdN, wrN]

/-- A write that takes effect at once is what the next tick has too. -/
@[simp] theorem rdN_wr_self (b : Block) (k v : Nat) : (b.wr k v).rdN k = v := by
  simp only [rdN]
  rw [show (b.wr k v).wimg = Tab.drop b.wimg k from rfl, Tab.look_drop_self]
  exact rd_wr_self b k v

/-- What the next tick has of an object, after a write that takes effect at once. -/
theorem rdN_wr (b : Block) (k v j : Nat) : (b.wr k v).rdN j = if j = k then v else b.rdN j := by
  by_cases h : j = k
  · subst h; simp
  · simp only [rdN, h, if_false]
    rw [show (b.wr k v).wimg = Tab.drop b.wimg k from rfl, Tab.look_drop_of_ne _ _ h, rd_wr_of_ne _ _ h]

theorem rdN_bump (b : Block) (k w n j : Nat) : (b.bump k w n).rdN j = if j = k then min (b.rd k + n) (2 ^ w - 1) else b.rdN j := rdN_wr _ _ _ _

/-- What the next tick has of an object, after a write for the next tick. -/
theorem rdN_wrN (b : Block) (k v j : Nat) : (b.wrN k v).rdN j = if j = k then v else b.rdN j := by
  by_cases h : j = k
  · subst h; simp
  · rw [wr_comm_rdN _ _ _ _ h, if_neg h]

/-- A write for the next tick is not seen in this one. -/
@[simp] theorem rd_wrN (b : Block) (k v j : Nat) : (b.wrN k v).rd j = b.rd j := rfl

/-! ### Records beside the dictionary -/

theorem sess_setSess (b : Block) (n m : Nat) (x : Session) : (b.setSess n x).sess m = if m = n then x else b.sess m := Tab.look_put _ _ _ _ _
theorem port_setPort (b : Block) (p q : Nat) (x : Port) : (b.setPort p x).port q = if q = p then x else b.port q := Tab.look_put _ _ _ _ _
theorem port_modPort (b : Block) (p q : Nat) (f : Port → Port) : (b.modPort p f).port q = if q = p then f (b.port p) else b.port q :=
  Tab.look_put _ _ _ _ _
theorem group_setGroup (b : Block) (g h : Nat) (x : Group) : (b.setGroup g x).group h = if h = g then x else b.group h := Tab.look_put _ _ _ _ _
theorem feed_setFeed (b : Block) (f h : Nat) (x : Feed) : (b.setFeed f x).feed h = if h = f then x else b.feed h := Tab.look_put _ _ _ _ _
theorem bat_setBat (b : Block) (n m : Nat) (x : BatString) : (b.setBat n x).bat m = if m = n then x else b.bat m := Tab.look_put _ _ _ _ _
theorem seq_setSeq (b : Block) (q r : Nat) (x : Seq) : (b.setSeq q x).seq r = if r = q then x else b.seq r := Tab.look_put _ _ _ _ _
theorem cal_setCal (b : Block) (c d : Nat) (x : Cal) : (b.setCal c x).cal d = if d = c then x else b.cal d := Tab.look_put _ _ _ _ _
theorem line_setLine (b : Block) (n m : Nat) (x : Line) : (b.setLine n x).line m = if m = n then x else b.line m := Tab.look_put _ _ _ _ _
theorem twPort_setTwPort (b : Block) (k j : Nat) (x : TwPort) : (b.setTwPort k x).twPort j = if j = k then x else b.twPort j :=
  Tab.look_put _ _ _ _ _
theorem window_setWindow (b : Block) (e d : Nat) (x : TwAddress) : (b.setWindow e x).window d = if d = e then x else b.window d :=
  Tab.look_put _ _ _ _ _

@[simp] theorem sess_setSess_self (b : Block) (n : Nat) (x : Session) : (b.setSess n x).sess n = x := by simp [sess_setSess]
@[simp] theorem port_setPort_self (b : Block) (p : Nat) (x : Port) : (b.setPort p x).port p = x := by simp [port_setPort]
@[simp] theorem port_modPort_self (b : Block) (p : Nat) (f : Port → Port) : (b.modPort p f).port p = f (b.port p) := by simp [port_modPort]
@[simp] theorem group_setGroup_self (b : Block) (g : Nat) (x : Group) : (b.setGroup g x).group g = x := by simp [group_setGroup]
@[simp] theorem feed_setFeed_self (b : Block) (f : Nat) (x : Feed) : (b.setFeed f x).feed f = x := by simp [feed_setFeed]
@[simp] theorem bat_setBat_self (b : Block) (n : Nat) (x : BatString) : (b.setBat n x).bat n = x := by simp [bat_setBat]
@[simp] theorem cal_setCal_self (b : Block) (c : Nat) (x : Cal) : (b.setCal c x).cal c = x := by simp [cal_setCal]
@[simp] theorem line_setLine_self (b : Block) (n : Nat) (x : Line) : (b.setLine n x).line n = x := by simp [line_setLine]

/-! ### Reports, conditions, messages -/

/-- A report joins those of the tick in progress, after the earlier ones (R332, R336), and changes nothing else. -/
theorem report_reports (b : Block) (src inst : Nat) (d : List Int) :
    (b.report src inst d).faults.reports = b.faults.reports ++ [{ src, inst, detail := d }] := rfl

@[simp] theorem report_present (b : Block) (src inst : Nat) (d : List Int) : (b.report src inst d).faults.present = b.faults.present := rfl
@[simp] theorem report_roots (b : Block) (src inst : Nat) (d : List Int) : (b.report src inst d).faults.roots = b.faults.roots := rfl
@[simp] theorem report_grave (b : Block) (src inst : Nat) (d : List Int) : (b.report src inst d).faults.grave = b.faults.grave := rfl

/-- A condition's instance does what its presence says: nothing where it is as it was, a report where it appears, and no report where
it goes (R333). -/
theorem condition_cases (b : Block) (src inst : Nat) (p : Bool) (d : List Int) :
    (p = b.isPresent src inst ∧ b.condition src inst p d = b) ∨
    (p = true ∧ b.isPresent src inst = false ∧
      (b.condition src inst p d).faults.reports = b.faults.reports ++ [{ src, inst, detail := d }] ∧
      (b.condition src inst p d).faults.present = instKey src inst :: b.faults.present) ∨
    (p = false ∧ b.isPresent src inst = true ∧ (b.condition src inst p d).faults.reports = b.faults.reports ∧
      (b.condition src inst p d).faults.present = b.faults.present.filter (· != instKey src inst)) := by
  by_cases h : p = b.isPresent src inst
  · exact .inl ⟨h, by simp [condition, h]⟩
  · cases p with
    | true =>
      have hb : b.isPresent src inst = false := by simpa using (Ne.symm h)
      exact .inr (.inl ⟨rfl, hb, by simp [condition, hb, raise, report_reports], by simp [condition, hb, raise]⟩)
    | false =>
      have hb : b.isPresent src inst = true := by simpa using (Ne.symm h)
      exact .inr (.inr ⟨rfl, hb, by simp [condition, hb], by simp [condition, hb]⟩)

/-- A message to the partner: none while the link is DOWN, otherwise the next sequence joins those not acknowledged (R376, R377). -/
theorem send_cases (b : Block) (kind : Nat) (ref : List Nat) :
    (b.linkUp = false ∧ b.send kind ref = b) ∨
    (b.linkUp = true ∧ b.send kind ref = b.modPair (fun x =>
      { x with tx := (x.tx + 1) % 2 ^ 32, out := x.out ++ [{ seq := (x.tx + 1) % 2 ^ 32, kind, ref, sent := b.glade.ticks }] })) := by
  cases h : b.linkUp <;> simp [send, h, modPair]

/-! ### Pending actions -/

/-- An entry that completes leaves the table (R69). -/
theorem fireEntry_none (b : Block) (h op : Nat) (eff : Action → Block → Block) (hn : b.entry? h = none) : b.fireEntry h op eff = b := by
  simp [fireEntry, hn]

/-- What an entry that fires does (R74, R75, R77): the effect of its operation, then its completion; one that a later entry of the same
tick supersedes only completes. -/
theorem fireEntry_some (b : Block) (h op : Nat) (eff : Action → Block → Block) (a : Action) (ha : b.entry? h = some a)
    (hok : a.accepted = true) (hop : a.op = op) (hdue : b.pastNext (b.entryPlace a) ≤ 0) :
    b.fireEntry h op eff = if b.superseded h a then b.completeEntry h a actSUPERSEDED
      else (eff a b).completeEntry h a (if a.late then actFIRED_LATE else actFIRED) := by
  simp [fireEntry, ha, hok, hop, hdue]

end Block

/-! ### The outcome of a command -/

theorem State.act_eq (s : State) (f : Block → Block) : s.act f = .next ({ s with blk := f s.blk }).settle := rfl

/-- A command on a unit that exists acts; on one that does not it is a fault. -/
theorem State.actOn_of (s : State) {ok : Bool} (h : ok = true) (k : UnitKind) (n : Nat) (f : Block → Block) : s.actOn ok k n f = s.act f := by
  simp [State.actOn, h]

theorem State.actOn_of_not (s : State) {ok : Bool} (h : ok = false) (k : UnitKind) (n : Nat) (f : Block → Block) :
    s.actOn ok k n f = .fault (.noSuchUnit k n) := by simp [State.actOn, h]

theorem State.runOn_of (s : State) {ok : Bool} (h : ok = true) (k : UnitKind) (n : Nat) (f : State → State) : s.runOn ok k n f = s.run f := by
  simp [State.runOn, h]

/-- What every command on the block keeps and does: the queue stays, the block is the meaning's but for the writes it hands over, and the
arrays take those writes. -/
theorem State.act_next {s t : State} {f : Block → Block} (h : s.act f = .next t) :
    t.pending = s.pending ∧ t.blk = { f s.blk with writes := {} } ∧
    t.heartwood = Memory.write heartwoodFill s.heartwood (f s.blk).writes.heartwood ∧
    t.flash = Memory.write flashFill s.flash (f s.blk).writes.flash := by
  simp only [State.act, Host.Outcome.next.injEq] at h
  subst h
  exact ⟨rfl, rfl, rfl, rfl⟩

/-- A command whose meaning hands over no write leaves both arrays as they were. -/
theorem State.act_frame (s : State) (f : Block → Block) (h : (f s.blk).writes = {}) :
    s.act f = .next { s with blk := f s.blk } := by
  simp only [State.act, State.settle, h, Memory.write_nil]
  rw [← h]

end Sys2Proof.Machine
end

