-- ==== Sys2Proof/Tests/Slice0.lean ====
section
/-! SUPPORT. Small tests: the checks of WellFormed, and states that meet the hypotheses of each statement. -/

set_option maxRecDepth 20000

namespace Sys2Proof.Tests

open Sys2Proof.Machine Sys2Proof.Safety

/-- A small state: the objects listed hold the values given, everything else is as in an empty block, changed by `f`. -/
def small (l : List (Nat × Nat)) (f : Block → Block := fun b => b) : State :=
  { pending := [], blk := f { dict := l.foldl (fun t e => Tab.set t e.1 e.2) [] }, heartwood := [], flash := [] }

/-! ### The checks of WellFormed: one command just outside each range, and one just inside -/

theorem test_ill_formed_1 : ([Instr.railGood 4 0, .vbatSwitchover 0 65536 false, .cellAlarmLatch 2 0, .tickBoundary [512] 0, .retrySlot 512,
    .upstreamFrame 0 false 0 false false [256], .mainsLossDetect 2, .zeroCrossing 3 false 0 0, .pinNewest 32] : List Instr).all (fun c => !c.wf) = true := by decide
theorem test_ill_formed_2 : ([Instr.objectWrite 0 0 256 [], .directoryRead 65536 0 0, .directoryRead 0 17 0, .actionCancel 0 1024, .stringTestEnd 16, .groupStart 64,
    .partnerResults 2 0 false false [] [], .calibrate 72, .feedInputQualified 256] : List Instr).all (fun c => !c.wf) = true := by decide
theorem test_ill_formed_3 : ([Instr.seqMemberOnDue 128 0, .seqSnapshotRelease 8, .stickyW1c 224, .standWedged 16, .abortSequence 0 16, .dumpEraseDone 3,
    .edpClose 28 0 false, .usdoRequest 2 false 0 0 0 0 0 0 0 [], .tpdoTransmit 0 8] : List Instr).all (fun c => !c.wf) = true := by decide
theorem test_ill_formed_4 : ([Instr.ethLanDown 2, .capability 4, .twStretchTimeout 4 0] : List Instr).all (fun c => !c.wf) = true := by decide
theorem test_well_formed_1 : ([Instr.railGood 3 0, .vbatSwitchover 0 65535 false, .cellAlarmLatch 1 0, .tickBoundary [511] 0, .retrySlot 511,
    .upstreamFrame 0 false 0 false false [255], .mainsLossDetect 1, .zeroCrossing 2 false 0 0, .pinNewest 31] : List Instr).all Instr.wf = true := by decide
theorem test_well_formed_2 : ([Instr.objectWrite 0 0 255 [], .directoryRead 65535 0 0, .directoryRead 0 16 0, .actionCancel 0 1023, .stringTestEnd 15, .groupStart 63,
    .partnerResults 1 0 false false [] [], .calibrate 71, .feedInputQualified 255] : List Instr).all Instr.wf = true := by decide
theorem test_well_formed_3 : ([Instr.seqMemberOnDue 127 0, .seqSnapshotRelease 7, .stickyW1c 223, .standWedged 15, .abortSequence 0 15, .dumpEraseDone 2,
    .edpClose 27 0 false, .usdoRequest 1 false 0 0 0 0 0 0 0 [], .tpdoTransmit 0 7] : List Instr).all Instr.wf = true := by decide
theorem test_well_formed_4 : ([Instr.ethLanDown 1, .capability 3, .twStretchTimeout 3 0] : List Instr).all Instr.wf = true := by decide

/-! ### Values that the spec or a standard it names gives -/

/-- A phase of a class on port 5, at 50 Hz with 2,000 ticks per cycle, with its head's registers and its sample. -/
def phaseAt (cls mult vin vout ind turns ifs : Nat) (s : List Nat) : Block :=
  (small [(Obj.PortRecord.ConfiguredClass 5, cls), (Obj.PortRecord.Group 5, 3), (Obj.PortRecord.SwitchMult 5, mult)] (fun b =>
    let regs := [(0x08, ifs), (0x09, vin), (0x0A, vout), (0x0C, 0xFFFF), (0x30, ind), (0x31, turns)]
    let x : Port := { sample := s, regs := regs }
    { b with glade := { nt := 2000, fnom := 50 }, ports := [(5, x)] })).blk

/-- The worked values of chapter 5: the full-load commands of the Reach-7 phases, CNV 54 V, CNV 12 V and REC. -/
theorem test_worked_cnv54 : ((phaseAt 2 2 10240 640 100 2560 1600 [0, 27648, 24320]).switchWords 5 mdRUN 0 74074074074 false 0).1 = [0x1000, 0x93CB, 0x2066, 0] := by decide
theorem test_worked_cnv12 : ((phaseAt 2 4 10240 160 10 10240 2500 [0, 24576, 24320]).switchWords 5 mdRUN 0 125000000000 false 0).1 = [0x1000, 0x9436, 0x170A, 0] := by decide
theorem test_worked_rec : ((phaseAt 1 1 10240 10240 2000 256 800 [0, 10409, 24320]).switchWords 5 mdRUN 0 36890000000 false 0).1 = [0x1000, 0xA2C6, 0x342B, 0] := by decide
/-- The worked example of chapter 6: AIN17 and AIN18 of string B03. -/
theorem test_worked_voltage : ((small [(Obj.Channel.Scale 17, 1000000)]).blk.engValue 17 0 0x417E4B).1 = 614000 := by decide
theorem test_worked_current : ((small [(Obj.Channel.Scale 18, 500000)]).blk.engValue 18 1 (-2236962)).1 = -40000 := by decide
/-- The check values of CRC-32C (R107) and of the SMBus PEC (R517) over the digits 1 to 9. -/
theorem test_crc32c : crc32c [0x31, 0x32, 0x33, 0x34, 0x35, 0x36, 0x37, 0x38, 0x39] = 0xE3069283 := by decide
theorem test_pec_check_value : pecOf [0x31, 0x32, 0x33, 0x34, 0x35, 0x36, 0x37, 0x38, 0x39] = 0xF4 := by decide


/-! ### StepRunsTheCommandInFront -/

theorem witness_step_front : ({ State.reset with pending := [.pfNRise] } : State).pending = .pfNRise :: [] := rfl

/-! ### EmptyQueueIdles -/

theorem witness_idle : State.reset.pending = [] := rfl

/-! ### EveryStepKeepsTheMachineInvariant -/

theorem witness_invariant : Inv State.reset ∧ step State.reset = .next State.reset := ⟨⟨by decide, by decide, rfl⟩, rfl⟩

/-! ### EveryWellFormedCommandCompletes -/

theorem witness_completes : (Instr.powerUpVinRise 3 true true 3000 0).wf = true := by decide

/-! ### AMissingUnitIsAFault -/

theorem witness_missing_units : 512 ≤ 512 ∧ 64 ≤ 64 ∧ 256 ≤ 256 ∧ 16 ≤ 16 ∧ 32 ≤ 32 := by decide

/-! ### ObjectsReadBackWhatWasWritten -/

theorem witness_images : Tab.sorted (({} : Block).wrN 5 7).wimg = true := by decide

/-! ### PowerUpCountsTheCycleAndStartsTheRails -/

/-- VIN absent, the domain on the cell. -/
def onCell (l : List (Nat × Nat)) : State := small l (fun b => { b with aon := { phase := 0, rail := 0, onCell := true } })

theorem witness_power_up : let s := onCell [(Obj.BackupDomain.PowerCycles, 0xFFFFFE)]
    Settled s ∧ s.blk.aon.phase = 0 ∧ s.blk.aon.dead = false ∧ 1000 ≤ 3000 ∧ 0xFFFFFF ≤ s.blk.rd Obj.BackupDomain.PowerCycles % 2 ^ 24 + 1 := by
  decide
theorem witness_undervoltage : Settled (onCell []) ∧ (onCell []).blk.aon.phase = 0 := by decide
theorem witness_switchover : let s := small []
    Settled s ∧ s.blk.aon.phase ≠ 0 ∧ s.blk.aon.noCell = false ∧ s.blk.store.work = [] ∧ s.blk.flashMan.cur = none ∧
      s.blk.flashMan.suspended = none := by decide
theorem witness_hours : let s := small [(Obj.BackupDomain.OperatingHours, 0xFFFFFFFE)]
    Settled s ∧ s.blk.aon.phase ≠ 0 ∧ 0xFFFFFFFF ≤ s.blk.rd Obj.BackupDomain.OperatingHours + 1 := by decide

/-! ### RailsStartInOrderAndRetryThreeTimes -/

/-- The rails start: rail `r`, `n` retries made. -/
def starting (phase r n : Nat) : State := small [] (fun b => { b with aon := { phase := phase, rail := r, retries := n } })

theorem witness_rails_start : (let s := starting 1 1 0; Settled s ∧ s.blk.aon.phase = 1 ∧ s.blk.aon.rail = 1 ∧ 1 < 2) ∧
    (let s := starting 1 2 0; Settled s ∧ s.blk.aon.phase = 1 ∧ s.blk.aon.rail = 2) ∧
    (let s := starting 2 0 2; Settled s ∧ s.blk.aon.phase = 2 ∧ s.blk.aon.retries < 3) ∧
    (let s := starting 2 0 3; Settled s ∧ s.blk.aon.phase = 2 ∧ 3 ≤ s.blk.aon.retries) := by decide
theorem witness_rail_uv : let s := small [(Obj.RailRecord.State 2, 2)]
    Settled s ∧ 2 < 3 ∧ s.blk.rd (Obj.RailRecord.State 2) = rlGOOD ∧ s.blk.isPresent Src.RAIL_UV 0 = false := by decide
theorem witness_rail_oc : let s := small [(Obj.RailRecord.State 3, 2)]
    Settled s ∧ 3 < 4 ∧ s.blk.rd (Obj.RailRecord.State 3) = rlGOOD := by decide

/-! ### OverVoltageCrowbarsAndEntersGrave -/

theorem witness_crowbar : let s := small [(Obj.RailRecord.State 0, 2)]
    Settled s ∧ 0 < 3 ∧ s.blk.rd (Obj.RailRecord.State 0) = rlGOOD ∧ s.blk.faults.grave = false ∧ s.blk.flashMan.cur = none ∧
      s.blk.flashMan.suspended = none := by decide

/-! ### ACellAlarmIsLoggedAndAlerts -/

theorem witness_cell_alarm : let s := onCell [(Obj.BackupDomain.Flags, 32), (Obj.BackupDomain.CellAlarmCount, 0xFFFF)]
    Settled s ∧ 1 < 2 ∧ s.blk.aon.phase = 0 ∧ s.blk.aon.onCell = true ∧ s.blk.aon.dead = false ∧ s.blk.backupFlag bfALERT_ARMED = true := by decide
theorem witness_alert_low : let s := small [] (fun b => { b with aon := { phase := 0, rail := 0, onCell := true, bkpAlertLow := true } })
    (s.blk.aon.bkpAlertLow = true ∧ s.blk.aon.dead = false ∧ 1000 ≤ 3000) ∧
      exec .pfNRise s = .next (s.mapBlk (fun b => { b with aon := { b.aon with pfLow := false } })) := ⟨by decide, rfl⟩

/-! ### TheStartRunsFromTheReleaseToGlade -/

/-- The start at a phase. -/
def atPhase (n : Nat) (l : List (Nat × Nat)) (f : Aon → Aon := fun a => a) : State := small l (fun b => { b with aon := f { phase := n } })

theorem witness_release : let s := atPhase 3 []
    Settled s ∧ s.blk.aon.phase = 3 ∧ s.blk.aon.pfLow = false ∧ s.blk.aon.coreBad = false ∧ s.blk.isPresent Src.REFCLK_FAIL 0 = false := by decide
theorem witness_resample : let s := atPhase 3 [] (fun a => { a with strapBad := true, coreBad := true })
    Settled s ∧ s.blk.aon.phase = 3 ∧ s.blk.aon.strapBad = true ∧ s.blk.aon.pfLow = false ∧ s.blk.aon.coreBad = true := by decide
theorem witness_firmware : (atPhase 5 []).blk.aon.phase = 5 := by decide
theorem witness_glade_start : let s := atPhase 6 []
    Settled s ∧ s.blk.aon.phase = 6 ∧ s.blk.aon.unreported = 0 ∧ s.blk.stored 1 0 = none := by decide
theorem witness_glade_stored : let s := small [] (fun b => { b with
      aon := { phase := 6 }, store := { sets := [(1, { cur := { vals := [(0, 2), (1, 0xFFFFFFFF)] } })] } })
    Settled s ∧ s.blk.aon.phase = 6 ∧ s.blk.aon.unreported = 0 ∧ s.blk.stored 1 0 = some 2 ∧ s.blk.stored 1 1 = some 0xFFFFFFFF := by decide

/-! ### RecallProbeAndBootCheckDecideTheStart -/

theorem witness_recall : let s := atPhase 4 [(Obj.HeartwoodStatus.RecallState, 0)]
    Settled s ∧ s.blk.rd Obj.HeartwoodStatus.RecallState = 0 ∧ 4 ≤ s.blk.aon.phase ∧ s.blk.store.cuts = [] ∧ s.blk.store.invalid = [] ∧
      65535 < 65536 ∧ 15 < 16 := by decide
theorem witness_probe : let s := atPhase 4 [(Obj.FlashStatus.DeviceState, 0)]
    Settled s ∧ s.blk.rd Obj.FlashStatus.DeviceState = 0 ∧ 4 ≤ s.blk.aon.phase ∧ 65536 ≤ 65536 := by decide
/-- A flash whose slot A holds a descriptor that passes: magic, format 1, State 0x3F, version 7, part 0x1400, key 0. -/
def withImage (l : List (Nat × Nat)) : State := { atPhase 4 l with
  flash := [(0, 0x45), (1, 0x55), (2, 0x53), (3, 0x49), (4, 1), (5, 0x3F), (8, 7), (9, 0), (10, 0), (11, 0), (16, 0), (17, 0x14), (18, 0xB1), (19, 0)] }

theorem witness_boot : let s := withImage [(Obj.HeartwoodStatus.RecallState, 1), (Obj.FlashStatus.DeviceState, 1), (Obj.UpdateStatus.InService, 0),
      (Obj.UpdateStatus.NextBoot, 0), (Obj.SigningKeys.KeyState 0, 0), (Obj.HeartwoodProtect.LevelInForce, 0)]
    Settled s ∧ s.blk.aon.phase = 4 ∧ s.blk.rd Obj.HeartwoodStatus.RecallState = 1 ∧ s.blk.flashReady = true ∧ s.blk.store.sets = [] ∧ 0 < 2 ∧
      s.blk.rd Obj.UpdateStatus.InService = 0 ∧ s.blk.rd Obj.UpdateStatus.NextBoot = 0 ∧ s.slotCheck 0 1 1 0 = 0 ∧
      s.blk.heartwoodRefuses 0x280000 = false := by decide

/-! ### ResetsKeepTheAlwaysOnDomain -/

theorem witness_reset : let s := atPhase 7 [(Obj.RedundancyStatus.Role, 0), (Obj.UpdateStatus.State, 0), (Obj.HeartwoodStatus.RecallState, 1)]
    Settled s ∧ s.blk.aon.phase = 7 ∧ s.blk.isHolder = false ∧ s.blk.rings = {} ∧ s.blk.flashMan = {} ∧ 31 < 32 ∧ s.blk.faults.grave = false ∧
      s.blk.archived = false ∧ s.blk.updState = 0 := by decide
theorem witness_reboot_holder : (atPhase 7 [(Obj.RedundancyStatus.Role, 1)]).blk.isHolder = true := by decide
theorem witness_power_fail : (let s := atPhase 4 []; Settled s ∧ s.blk.aon.phase = 4 ∧ s.blk.aon.pfLow = false ∧ s.blk.flashMan = {}) ∧
    (let s := atPhase 10 []; Settled s ∧ s.blk.aon.phase = 10 ∧ s.blk.store.work = []) := by decide

/-! ### SelfCycleAutoStartAndTestPort -/

theorem witness_self_cycle : let s := small [(Obj.LrsStatus.SelfCycleEnable, 1)] (fun b => { b with faults := { grave := true } })
    Settled s ∧ s.blk.faults.grave = true ∧ s.blk.rd Obj.LrsStatus.SelfCycleEnable = 1 ∧ s.blk.aon.graveTick = none ∧
      (small []).blk.faults.grave = false := by decide
theorem witness_autostart : let s := small [(Obj.RedundancyStatus.Role, 1), (Obj.Channel.RefState, 2), (Obj.SupplyConfig.AutoStartWait, 250)] (fun b => { b with aon := { phase := 7, autoStart := some 10 }, glade := { running := true, boundary := true, cycles := 260 } })
    Settled s ∧ s.blk.aon.autoStart = some 10 ∧ s.blk.glade.boundary = true ∧ s.blk.isHolder = true ∧ s.blk.rd Obj.Channel.RefState = rsREADY ∧
      10 + s.blk.rd Obj.SupplyConfig.AutoStartWait ≤ s.blk.glade.cycles := by decide
theorem witness_test_port : let s := atPhase 8 [(Obj.FlashStatus.DeviceState, 1)] (fun a => { a with testEn := true })
    Settled s ∧ s.blk.aon.testEn = true ∧ s.blk.flashReady = true ∧ 0x3FFFFFC + 4 ≤ 0x4000000 ∧ s.notErased 0x3FFFFFC (leBytes 4 0x12345678) = none := by
  decide

/-! ### TheEngineClockStepsWithTheSupply -/

theorem witness_sag_down : let s := small [(Obj.SupplyConfig.Sag1Threshold, 14000), (Obj.SupplyConfig.Sag2Threshold, 13000),
      (Obj.SupplyConfig.ClockFloor, 300), (Obj.SupplyStatus.VinState, 0), (Obj.SupplyStatus.EngineClock, 600), (Obj.RedundancyStatus.ResyncPhase, 0)] (fun b => { b with glade := { running := true } })
    Settled s ∧ s.blk.glade.running = true ∧ s.blk.rdN Obj.SupplyStatus.VinState < 2 ∧ s.blk.rd Obj.SupplyConfig.Sag2Threshold ≠ 0 ∧
      12999 < s.blk.rd Obj.SupplyConfig.Sag2Threshold ∧ s.blk.sagClock 2 < s.blk.rdN Obj.SupplyStatus.EngineClock ∧ s.blk.sagClock 2 < 600 ∧
      s.blk.rd Obj.RedundancyStatus.ResyncPhase ≠ 2 := by decide
theorem witness_sag_off : let s := small [(Obj.SupplyConfig.Sag1Threshold, 0)]
    Settled s ∧ s.blk.rd (if 1 = 1 then Obj.SupplyConfig.Sag1Threshold else Obj.SupplyConfig.Sag2Threshold) = 0 := by decide
theorem witness_sag_up : let s := small [(Obj.SupplyConfig.Sag1Threshold, 14000), (Obj.SupplyConfig.Sag2Threshold, 13000),
      (Obj.SupplyConfig.ClockFloor, 300), (Obj.SupplyStatus.VinState, 2), (Obj.SupplyStatus.EngineClock, 300), (Obj.RedundancyStatus.ResyncPhase, 0)] (fun b => { b with glade := { running := true, boundary := true } })
    Settled s ∧ s.blk.glade.boundary = true ∧ s.blk.rdN Obj.SupplyStatus.VinState = 2 ∧ s.blk.rd Obj.SupplyConfig.Sag1Threshold ≠ 0 ∧
      s.blk.rd Obj.SupplyConfig.Sag2Threshold + 200 < 13201 ∧ s.blk.rd Obj.SupplyConfig.ClockFloor = 300 ∧
      s.blk.rdN Obj.SupplyStatus.EngineClock = 300 ∧ s.blk.rd Obj.RedundancyStatus.ResyncPhase ≠ 2 := by decide

/-! ### GladeLosesASourceAndHoldsOver -/

theorem witness_mains_timeout : let s := small [(Obj.GladeStatus.State, 1), (Obj.GladeStatus.Source, 0), (Obj.GladeStatus.QualifiedMask, 9)]
    Settled s ∧ s.blk.gState = gladeTRACK ∧ s.blk.gSource = 0 ∧ s.blk.qualified 1 = false ∧ s.blk.qualified 2 = false ∧ s.blk.gSource ≠ 2 := by decide
theorem witness_holdover : (let s := small [(Obj.GladeStatus.State, 3), (Obj.GladeConfig.HoldoverLimit, 5), (Obj.GladeStatus.HoldoverCycles, 5)]
    Settled s ∧ s.blk.gState = gladeHOLDOVER ∧ s.blk.rd Obj.GladeConfig.HoldoverLimit ≠ 0 ∧
      s.blk.rd Obj.GladeConfig.HoldoverLimit ≤ s.blk.rd Obj.GladeStatus.HoldoverCycles) ∧
    (let s := small [(Obj.GladeConfig.HoldoverLimit, 0)]; Settled s ∧ s.blk.rd Obj.GladeConfig.HoldoverLimit = 0) := by decide

/-! ### SyncInEdgesCarryBitsAndFrames -/

theorem witness_sync_edges : (let s := small [(Obj.GladeConfig.SyncInDelay, 0), (Obj.GladeStatus.Source, 3)]
    Settled s ∧ 2000 ≤ 12000 ∧ 12000 ≤ 18000 ∧ s.blk.glade.syncClk = 0 ∧ s.blk.rd Obj.GladeConfig.SyncInDelay = 0 ∧ s.blk.gSource ≠ 2) ∧ 1999 < 2000 := by
  decide
theorem witness_frame_bad : let s := small [] (fun b => { b with glade := { syncBits := true :: List.replicate 63 false } })
    Settled s ∧ s.blk.glade.syncBits.length = 64 ∧ s.blk.glade.syncBad = 0 ∧
      (let v := fromMsb s.blk.glade.syncBits.reverse; crc8Bits (msbBits 56 (v / 256)) 0 ≠ v % 256) := by decide
theorem witness_frame_good : let s := small [(Obj.GladeStatus.Source, 3)] (fun b => { b with glade := { syncBits := List.replicate 64 false, syncRun := 64 } })
    Settled s ∧ s.blk.glade.syncBits.length = 64 ∧ s.blk.gSource ≠ 2 ∧ 64 ≤ s.blk.glade.syncRun ∧
      (let v := fromMsb s.blk.glade.syncBits.reverse; crc8Bits (msbBits 56 (v / 256)) 0 = v % 256 ∧ v / 256 % 16 < 15) := by decide

/-! ### CrossingsAreJudgedAndAveragedPerHalfCycle -/

theorem witness_crossing : let s := small [(Obj.GladeConfig.MainsPhases, 1)]
    Settled s ∧ s.blk.meas.lastZc = [] ∧ s.blk.glade.lastClk = [] ∧ s.blk.rd Obj.GladeConfig.MainsPhases = 1 := by decide
theorem witness_half_cycle : let s := fun e => small [(Obj.GladeStatus.State, 1), (Obj.GladeStatus.Source, 0), (Obj.MainsConfig.FeedCount, 0)] (fun b => { b with glade := { halfErrors := e } })
    ∀ e ∈ [[], [(119304640 : Int), 119304646], [119304648]], Settled (s e) ∧ (∀ f < 2, ((s e).blk.mf f).halfTicks = 0 ∧ (s e).blk.losable f = false) ∧
      (s e).blk.gState = gladeTRACK ∧ (s e).blk.gSource = 0 := by decide

/-! ### MainsLossIsDetectedPerFeed -/

/-- A rack with one three-phase mains feed, AVAILABLE, whose three lines have one REC port each with a sample of V_IN of `v` parts of its full
scale of 40 V × 2^-15, at a nominal line voltage of 20 V; the hold-up function is STOPPED. -/
def oneFeed (v : Nat) (x : MainsFeed) : State := small
  ([(Obj.MainsConfig.FeedCount, 1), (Obj.MainsConfig.NominalVoltage, 20), (Obj.MainsConfig.LossTicks, 1), (Obj.MainsConfig.LineLossTicks, 3),
    (Obj.MainsConfig.LossLevel, 512), (Obj.MainsConfig.SwellTrip, 1400), (Obj.HoldupStatus.State, 0), (Obj.MainsFeed.State 0, 3), (Obj.MainsFeed.Phases 0, 3)] ++
    [0, 1, 2].flatMap (fun p => [(Obj.PortRecord.ConfiguredClass p, 1), (Obj.PortRecord.MainsLine p, p + 1), (Obj.PortRecord.PortState p, 4)])) (fun b =>
  { b with
    holdup := { feeds := [x, {}] }
    ports := [0, 1, 2].map (fun p => (p, { regs := [(9, 400)], entered := some { slot := 0, words := [0, v], status := 0, osLast := 0, refused := false, tag := 0 } })) })

theorem witness_loss : let s := oneFeed 0 {}
    Settled s ∧ 0 < 2 ∧ s.blk.losable 0 = true ∧ s.blk.onMains = false ∧ s.blk.isPresent Src.MAINS_LOSS 0 = false ∧
      (let x := s.blk.detect 0 (s.blk.feedSamples s.blk.enteredVolts 0); 0 < x.lossRun ∧ s.blk.rd Obj.MainsConfig.LossTicks ≤ x.lossRun) := by decide
theorem witness_line_loss : let s := oneFeed 20000 { lineRun := [2, 2, 2] }
    s.blk.losable 0 = true ∧ (let x := s.blk.detect 0 (s.blk.feedSamples s.blk.enteredVolts 0);
      ∃ n ∈ x.lineRun, 0 < n ∧ s.blk.rd Obj.MainsConfig.LineLossTicks ≤ n) := by decide
theorem witness_swell_trip : let s := oneFeed 32767 { swellRun := 1 }
    s.blk.losable 0 = true ∧ 2 ≤ (s.blk.detect 0 (s.blk.feedSamples s.blk.enteredVolts 0)).swellRun := by decide
theorem witness_blind : let s := (oneFeed 0 { blindRun := 1 }).mapBlk (fun b => { b with ports := [] })
    s.blk.losable 0 = true ∧ s.blk.isPresent Src.MAINS_SENSE_LOST 0 = false ∧
      2 ≤ (s.blk.detect 0 (s.blk.feedSamples s.blk.enteredVolts 0)).blindRun := by decide

/-! ### ALossWithoutCapacityHandsOverToTheBatteries -/

/-- The same rack on the mains with a REC command of 1 A, and the strings of `l` ready to support. -/
def onMainsWith (l : List Nat) : State := (oneFeed 0 {}).mapBlk (fun b =>
  { b.wr Obj.HoldupStatus.State 1 with holdup := { b.holdup with recIg := 10 ^ 9 }, stringTab := l.map (fun n => (n, { support := true })) })

theorem witness_hand_over : (∀ l ∈ [[], [0, 3]], (let s := onMainsWith l; Settled s ∧ 0 < 2 ∧ s.blk.losable 0 = true ∧ s.blk.onMains = true ∧
      s.blk.isPresent Src.MAINS_LOSS 0 = false ∧ (∀ g < 2, g ≠ 0 → s.blk.mainsNext g < mfAVAILABLE ∨ s.blk.rd Obj.MainsConfig.FeedCount ≤ g) ∧
      0 < s.blk.holdup.recIg ∧ s.blk.supportSet = l)) := by decide
theorem witness_hand_over_loss : let s := onMainsWith [0, 3]
    (let x := s.blk.detect 0 (s.blk.feedSamples s.blk.enteredVolts 0); 0 < x.lossRun ∧ s.blk.rd Obj.MainsConfig.LossTicks ≤ x.lossRun) := by decide

/-! ### HoldUpTransfersWalksInAndReturns -/

theorem witness_transfer : let s := small [(Obj.HoldupStatus.State, 2)] (fun b => { b with glade := { boundary := true, ticks := 99 }, holdup := { trigger := 1 } })
    Settled s ∧ s.blk.holdupState = huTRANSFER ∧ s.blk.glade.boundary = true ∧ s.blk.holdup.trigger + 98 ≤ s.blk.glade.ticks := by decide
/-- A state whose table holds the entry `a` under handle 7, due at the next tick. -/
def withEntry (l : List (Nat × Nat)) (a : Action) (f : Block → Block := fun b => b) : State :=
  small l (fun b => f { b with actions := { table := [(7, a)], next := 1 } })
/-- An accepted entry of an operation. -/
def entryOf (op kind target : Nat) (arg : Nat := 0) : Action := ⟨0xFF, op, kind, target, arg, 0, 0, 0, 0, true, false⟩

theorem witness_walk_in : let s := withEntry [(Obj.HoldupStatus.State, 3), (Obj.PortRecord.ConfiguredClass 5, 1), (Obj.PortRecord.Group 5, 40)] (entryOf opWALK_IN 3 40)
    Settled s ∧ Due s.blk 7 opWALK_IN (entryOf opWALK_IN 3 40) ∧ s.blk.recGroup = some 40 ∧ s.blk.holdupState = huBATTERY := by decide
theorem witness_walk_in_end : let s := small [(Obj.HoldupStatus.State, 4), (Obj.MainsConfig.WalkInCycles, 50), (Obj.StringRecord.Mode 2, 3)] (fun b => { b with holdup := { walk := 100000 } })
    Settled s ∧ s.blk.holdupState = huWALK_IN ∧ s.blk.walkSpan ≤ s.blk.holdup.walk := by decide

/-! ### TrainingAdmitsAHeadOfTheConfiguredClass -/

/-- Port 5 of a class in a state, with its link record. -/
def onePort (cls st : Nat) (x : Port) (l : List (Nat × Nat) := []) (f : Block → Block := fun b => b) : State :=
  small ([(Obj.PortRecord.ConfiguredClass 5, cls), (Obj.PortRecord.PortState 5, st)] ++ l) (fun b => f { b with ports := [(5, x)] })

theorem witness_training : let s := fun c => onePort 1 2 { trainRun := 32, trainClass := c, sofNs := 2336, trainWords := [1, 2, 3, 4, 5, 6, 7, 9] }
    Settled (s 1) ∧ 5 < 512 ∧ (s 1).blk.portState 5 = psTRAINING ∧ 32 ≤ ((s 1).blk.port 5).trainRun ∧ ((s 1).blk.port 5).delayUntil = none ∧
      Block.derivedDelay ((s 1).blk.port 5).sofNs ≤ 40 ∧ (s 1).blk.isPresent Src.CLASS_MISMATCH 5 = false ∧ ((s 1).blk.port 5).trainClass = (s 1).blk.classOf 5 ∧
      ((s 2).blk.port 5).trainClass ≠ (s 2).blk.classOf 5 := by decide
theorem witness_long_wire : let s := onePort 1 2 { trainRun := 32, sofNs := 2338 }
    Settled s ∧ s.blk.portState 5 = psTRAINING ∧ 32 ≤ (s.blk.port 5).trainRun ∧ (s.blk.port 5).delayUntil = none ∧ 40 < Block.derivedDelay (s.blk.port 5).sofNs := by decide
theorem witness_train_timeout : let s := onePort 1 2 { trainAt := 3 } [] (fun b => { b with glade := { cycles := 103 } })
    Settled s ∧ s.blk.portState 5 = psTRAINING ∧ (s.blk.port 5).delayUntil = none ∧ (s.blk.port 5).trainAt + 100 ≤ s.blk.glade.cycles := by decide
theorem witness_delay_over : let s := onePort 1 2 { delayUntil := some 50 } [] (fun b => { b with glade := { cycles := 50 } })
    Settled s ∧ s.blk.inTraining 5 = true ∧ (s.blk.port 5).delayUntil = some 50 ∧ 50 ≤ s.blk.glade.cycles := by decide

/-! ### ALostLinkIsRaisedAndRetrainsUnderneath -/

theorem witness_lost : let s := onePort 1 5 {} [(Obj.PortRecord.HoldLimit 5, 8), (Obj.PortRecord.ConsecutiveFailed 5, 8), (Obj.PortRecord.ReportedClass 5, 1)]
    Settled s ∧ s.blk.linkCounts 5 = true ∧ s.blk.classOf 5 ≠ 4 ∧ s.blk.isPresent Src.LINK_LOST 5 = false ∧ (s.blk.port 5).inject = false ∧
      s.blk.rd (Obj.PortRecord.HoldLimit 5) ≤ s.blk.rd (Obj.PortRecord.ConsecutiveFailed 5) := by decide
theorem witness_retrain : let s := onePort 1 5 {} [(Obj.PortRecord.ConsecutiveFailed 5, 200000)]
    Settled s ∧ s.blk.portState 5 ∈ [psIN_SERVICE, psSAFE, psADMITTED, psFAILED] ∧ (s.blk.port 5).retrain = false ∧ (s.blk.port 5).shots = [] ∧
      100 * s.blk.glade.nt ≤ s.blk.rd (Obj.PortRecord.ConsecutiveFailed 5) := by decide
theorem witness_retrain_timeout : let s := onePort 1 5 { retrain := true } [] (fun b => { b with glade := { cycles := 100 } })
    Settled s ∧ (s.blk.port 5).retrain = true ∧ (s.blk.port 5).delayUntil = none ∧ (s.blk.port 5).trainAt + 100 ≤ s.blk.glade.cycles ∧
      s.blk.portState 5 ∈ [psIN_SERVICE, psSAFE, psFAILED] := by decide

/-! ### ExchangesSucceedRetryOrCount -/

/-- The COMMAND frame sent on port 5. -/
def commandFrame : Frame := { type := 1, seq := 200, tag := 0, token := true }
/-- A reply of 24 bytes to it: type 9, seat A, SEQ 200, holder A, status 0. -/
def goodReply : List Nat := [0x90, 200, 8, 0] ++ List.replicate 20 1

theorem witness_exchange : let s := onePort 1 5 { frame := some commandFrame, counted := true } [(Obj.Seat.Value, 0x41), (Obj.RedundancyConfig.HoldQuorum, 2)]
    Settled s ∧ 5 < 512 ∧ (s.blk.port 5).frame = some commandFrame ∧ (s.blk.port 5).heard0 = false ∧ goodReply.length = 24 ∧
      s.blk.portState 5 = psIN_SERVICE ∧ s.blk.seat = 0x41 ∧ goodReply.getD 0 0 = 0x90 ∧ goodReply.getD 1 0 = commandFrame.seq ∧
      goodReply.getD 2 0 = 8 ∧ goodReply.getD 3 0 = 0 ∧ s.blk.faults.present = [] ∧ (s.blk.port 5).safeSeen = false ∧ (s.blk.port 5).active = false ∧
      (s.blk.port 5).inject = false ∧ (s.blk.port 5).entered = none ∧ (s.blk.port 5).received = [] ∧ s.blk.linkUp = false ∧
      s.blk.pair.rejected = false ∧ s.blk.pair.held.length < s.blk.rd Obj.RedundancyConfig.HoldQuorum ∧ (s.blk.port 5).counted = true ∧
      commandFrame.type = ftCOMMAND ∧ commandFrame.token = true ∧ commandFrame.seq < 256 := by decide
theorem witness_retry : let s := fun ok => onePort 1 5 { frame := some commandFrame, okPrimary := ok } [(Obj.GladeStatus.RetrySlot, 1)] (fun b => { b with glade := { running := true } })
    ∀ ok, Settled (s ok) ∧ (s ok).blk.transmits = true ∧ (s ok).blk.hasRetrySlot = true ∧ (s ok).blk.glade.boundary = false ∧
      ((s ok).blk.port 5).retry = none ∧ psMISMATCH ≤ (s ok).blk.portState 5 ∧ ((s ok).blk.port 5).retrain = false ∧ ((s ok).blk.port 5).locked = 0 ∧
      ((s ok).blk.port 5).frame = some commandFrame ∧ ((s ok).blk.port 5).inject = false ∧ (s ok).blk.cfgNext 5 = none := by decide

/-! ### OneShotsActOnceUnderATag -/

theorem witness_host_shots : ∀ op ∈ [6, 7], (let s := withEntry [(Obj.PortRecord.PortState 9, 5)] (entryOf op 1 9)
    Settled s ∧ Due s.blk 7 op (entryOf op 1 9) ∧ (s.blk.port 9).shots = [] ∧ (s.blk.port 9).active = false ∧ s.blk.inTraining 9 = false) ∧
    (small []).blk.entry? 7 = none := by decide
theorem witness_shot_timeout : let s := fun n => onePort 4 5 { active := true, shots := [{ op := 3 }], since := 10 } [(Obj.PortRecord.HoldLimit 5, 8)] (fun b => { b with glade := { ticks := n } })
    Settled (s 18) ∧ ((s 18).blk.port 5).active = true ∧ ((s 18).blk.port 5).shots = [{ op := 3 }] ∧
      ((s 18).blk.port 5).since + (s 18).blk.rd (Obj.PortRecord.HoldLimit 5) ≤ (s 18).blk.glade.ticks ∧
      (s 17).blk.glade.ticks < ((s 17).blk.port 5).since + (s 17).blk.rd (Obj.PortRecord.HoldLimit 5) := by decide
theorem witness_inject_crc : let s := small [(Obj.FaultInject.InjectEnable, 1)]
    Settled s ∧ s.blk.rd Obj.FaultInject.InjectEnable = 1 ∧ (small [(Obj.FaultInject.InjectEnable, 0)]).blk.rd Obj.FaultInject.InjectEnable ≠ 1 := by decide

/-! ### TheDirectoryTracksHoldersAndOwners -/

/-- A state whose line 9 has a directory entry. -/
def withLine (x : Line) : State := small [] (fun b => b.setLine 9 x)

theorem witness_directory_read : Settled (withLine {}) ∧ 9 < 65536 ∧ 16 < 17 ∧ (withLine {}).blk.faults.sramArmed = false := by decide
theorem witness_directory_own : Settled (withLine {}) ∧ [3, 16] ≠ [] ∧ ∀ c ∈ [3, 16], c < 17 := by decide
theorem witness_directory_writeback : (let s := withLine { state := 2, mask := 8, last := 3 }
    Settled s ∧ (s.blk.line 9).state = 2 ∧ (s.blk.line 9).mask = 2 ^ 3 ∧ (s.blk.line 9).mask ≠ 2 ^ 4) := by decide
/-- Two requesters of one clock are granted in round robin, so the one that comes later in it keeps the line (R86). -/
theorem test_round_robin : Block.grantAll { last := 3 } 17 [2, 5] = { state := 2, mask := 4, last := 2 } := by decide

/-! ### PinsHoldAnImageForTheirTime -/

/-- A state with the complete image of cycle 6 in slot 2, and session 4 as given. -/
def onSlot (x : Session) (l : List (Nat × Nat) := []) : State := small l (fun b =>
  { b with
    canopy := { b.canopy with slots := [(2, { epoch := 0, cycle := 6, complete := true, dict := [], domains := [], roots := [], partnerRoots := [], present := [] })] }
    sessions := [(4, x)] })

theorem witness_pin_newest : let s := onSlot {}
    Settled s ∧ s.blk.newestImage.map (·.1) = some 2 ∧ s.blk.newestImage.map (·.2.bad) = some false ∧ s.blk.canPin 2 = true ∧ (s.blk.sess 4).pin ≠ some 2 := by decide
theorem witness_pin_named : let s := onSlot {} [(sk 4 Obj.SnapshotSession.RequestEpoch, 0), (sk 4 Obj.SnapshotSession.RequestCycle, 6)]
    Settled s ∧ s.blk.newestImage ≠ none ∧ s.blk.resolveEpoch (s.blk.rd (sk 4 Obj.SnapshotSession.RequestEpoch)) (s.blk.rd (sk 4 Obj.SnapshotSession.RequestCycle)) = some 0 ∧
      (s.blk.canopy.slots.find? (fun x => x.2.epoch == 0 && x.2.cycle == s.blk.rd (sk 4 Obj.SnapshotSession.RequestCycle))).map (fun e => (e.1, e.2.complete, e.2.bad)) =
        some (2, true, false) ∧ s.blk.canPin 2 = true := by decide
theorem witness_pin_expiry : let s := onSlot { pin := some 2, pinLeft := 0 }
    Settled s ∧ (s.blk.sess 4).pin ≠ none ∧ (s.blk.sess 4).pinLeft = 0 ∧ (s.blk.sess 4).transfer = none := by decide

/-! ### BundlesAreOpenedSubmittedAndWithdrawn -/

/-- Session 4 has an open bundle that sets HoldoverLimit, in tick 0 of cycle 0 at 2,000 ticks. -/
def staging : State := small [] (fun b => { b with sessions := [(4, { bundle := true, staged := [(Obj.GladeConfig.HoldoverLimit, [100, 0, 0, 0])] })] })

theorem witness_submit : let s := staging
    Settled s ∧ s.blk.inGrave = false ∧ (s.blk.sess 4).bundle = true ∧ (s.blk.sess 4).staged ≠ [] ∧ s.blk.commitTarget 4 = some (0, 1) ∧
      400 ≤ s.blk.ticksToCycle 0 1 ∧ s.blk.cyclesAhead 0 1 ≤ 2 ^ 30 ∧ (s.blk.canopy.bundles.filter (·.accepted)).length < 64 := by decide
theorem witness_submit_checks : (staging.blk.expectedConfig 0 1).judge (staging.blk.sess 4).staged = none := by decide
theorem witness_commit_cancel : let s := small [] (fun b => { b with canopy := { bundles := [⟨3, 4, 0, 1, [], true⟩, ⟨5, 4, 0, 1, [], false⟩] } })
    Settled s ∧ s.blk.canopy.bundles.find? (fun x => x.seq == 3 && x.session == 4) = some ⟨3, 4, 0, 1, [], true⟩ ∧ 400 ≤ s.blk.ticksToCycle 0 1 ∧
      s.blk.canopy.bundles.find? (fun x => x.seq == 5 && !x.accepted) = some ⟨5, 4, 0, 1, [], false⟩ := by decide

/-! ### ActionsAreSubmittedCancelledAndReserved -/

/-- Session 4 asks for a MARK of target 0 at cycle 3, angle 0, in an otherwise empty table. -/
def asking (op : Nat) : State := small [(sk 4 Obj.ActionRequest.Operation, op), (sk 4 Obj.ActionRequest.TargetKind, 6), (sk 4 Obj.ActionRequest.Cycle, 3)]

theorem witness_action_submit : let s := asking 8
    Settled s ∧ s.blk.inGrave = false ∧ s.blk.resolveEpoch (s.blk.rd (sk 4 Obj.ActionRequest.Epoch)) (s.blk.rd (sk 4 Obj.ActionRequest.Cycle)) = some 0 ∧
      s.blk.submitStatus 8 6 0 0 (some (0, 3)) = 0 ∧ s.blk.submitStatus 1 6 0 0 (some (0, 3)) ≠ 0 := by decide
theorem witness_action_cancel : let a : Action := { entryOf 8 6 0 with session := 4, cycle := 3 }; let s := withEntry [] a
    Settled s ∧ s.blk.entry? 7 = some a ∧ a.session = 4 ∧ a.accepted = true ∧ 4 ≤ s.blk.ticksTo (s.blk.entryPlace a) := by decide
theorem witness_action_timeout : let a : Action := { entryOf 8 6 0 with accepted := false }
    (withEntry [] a).blk.entry? 7 = some a ∧ a.accepted = false := by decide
theorem witness_reserved : let s := small [] (fun b => { b with glade := { boundary := true }, actions := { waiting := [⟨10, 4, 2, 0, 3, 0⟩] } })
    Settled s ∧ s.blk.actions.waiting = [⟨10, 4, 2, 0, 3, 0⟩] ∧ s.blk.glade.boundary = true ∧ s.blk.ownEntries < 64 := by decide
theorem witness_mark : let s := withEntry [] (entryOf 8 6 0 0x12345678)
    Settled s ∧ Due s.blk 7 8 (entryOf 8 6 0 0x12345678) ∧ s.blk.rings.freezeEnd = none := by decide

/-! ### FeedsCloseOpenAndRetry -/

/-- Feed 9 hangs off BRK port 5 and is in a state; its input is qualified where `ok` says so. -/
def onFeed (st ok : Nat) (x : Feed) (l : List (Nat × Nat) := []) : List (Nat × Action) → State := fun acts =>
  small ([(Obj.PortRecord.ConfiguredClass 5, 4), (Obj.PortRecord.Member 5, 9), (Obj.FeedRecord.State 9, st), (Obj.FeedRecord.InsertionDelay 9, 1)] ++ l) (fun b =>
    { b with feedTab := [(9, { x with inOk := ok })], actions := { table := acts, next := 1 } })

theorem witness_feed_close : ∀ st ∈ [1, 5, 6], ∀ ok ∈ [0, 2000], (let s := onFeed st ok {} [] [(7, entryOf 1 2 9)]
    Settled s ∧ s.blk.feedPort 9 = some 5 ∧ Due s.blk 7 1 (entryOf 1 2 9) ∧ s.blk.feedState 9 = st ∧ s.blk.feedNext 9 = st ∧ (s.blk.feed 9).step = 0 ∧
      s.blk.inputQualified 9 = decide (ok = 2000)) := by decide
theorem witness_feed_qualified : let s := onFeed 2 2000 {} [(Obj.PortRecord.HeadStatus 5, 0)] []
    s.blk.feedPort 9 = some 5 ∧ s.blk.feedState 9 = fsWAIT_INPUT ∧ s.blk.feedNext 9 = fsWAIT_INPUT ∧ (s.blk.feed 9).step = 0 ∧ s.blk.inputQualified 9 = true ∧
      s.blk.statusN 5 7 = false := by decide
theorem witness_feed_safe_head : (onFeed 2 2000 {} [(Obj.PortRecord.HeadStatus 5, 0x80)] []).blk.statusN 5 7 = true := by decide
theorem witness_feed_retry : let s := onFeed 5 0 { retryAt := some 1 } [] []
    s.blk.feedState 9 = fsTRIPPED ∧ s.blk.feedNext 9 = fsTRIPPED ∧ (s.blk.feed 9).retryAt = some 1 ∧ 1 ≤ s.blk.glade.ticks + 1 := by decide
theorem witness_feed_open : ∀ st ∈ [2, 3, 4, 8, 5, 6], (let s := onFeed st 0 {} [] [(7, entryOf 2 2 9)]
    Settled s ∧ s.blk.feedPort 9 = some 5 ∧ Due s.blk 7 2 (entryOf 2 2 9) ∧ s.blk.feedNext 9 = st) := by decide
theorem witness_retry_reset : let s := onFeed 4 0 {} [(Obj.FeedRecord.RetryResetCycles 9, 0)] []
    s.blk.feedState 9 = fsCLOSED ∧ s.blk.feedNext 9 = fsCLOSED ∧
      (s.blk.feed 9).closedAt + s.blk.rd (Obj.FeedRecord.RetryResetCycles 9) * s.blk.glade.nt ≤ s.blk.glade.ticks := by decide
theorem witness_clear_suspect : (onFeed 7 0 {} [] []).blk.feedNext 9 = fsSUSPECT := by decide

/-! ### FeedsTripByCurveTimerInputAndGate -/

theorem witness_close_timeout : let s := onFeed 3 0 {} [(Obj.FeedRecord.CloseTimeout 9, 0)] []
    Settled s ∧ s.blk.feedPort 9 = some 5 ∧ s.blk.feedState 9 = fsCLOSING ∧ s.blk.feedNext 9 = fsCLOSING ∧
      (s.blk.feed 9).closeAt + s.blk.rd (Obj.FeedRecord.CloseTimeout 9) ≤ s.blk.glade.ticks := by decide
theorem witness_curve_trip : let s := onFeed 4 0 { acc := 2 ^ 30, timer := 10 ^ 12, inBad := 65535 } [] []
    s.blk.feedState 9 = fsCLOSED ∧ s.blk.feedNext 9 = fsCLOSED ∧ 2 ^ 30 ≤ (s.blk.feed 9).acc ∧ s.blk.rd (Obj.FeedRecord.CurveMode 9) = 0 ∧
      s.blk.rd (Obj.FeedRecord.InputFaultTicks 9) ≤ (s.blk.feed 9).inBad := by decide
theorem witness_timer_trip : let s := onFeed 4 0 { timer := 10 ^ 12 } [(Obj.FeedRecord.CurveMode 9, 1)] []
    s.blk.feedState 9 = fsCLOSED ∧ s.blk.rd (Obj.FeedRecord.FaultTimer 9) * 10 ^ 6 ≤ (s.blk.feed 9).timer ∧ s.blk.rd (Obj.FeedRecord.CurveMode 9) = 1 := by decide
theorem witness_gate_check : ∀ w ∈ [0, 2], (let r : Received := { slot := 0, words := [0, 0, 0, 0, 0, 0, w, 0], status := 0, osLast := 0, refused := false, tag := 0 }
    let s := (onFeed 4 0 { gateWant := true } [] []).mapBlk (fun b => { b with ports := [(5, { entered := some r })] })
    s.blk.feedState 9 = fsCLOSED ∧ s.blk.feedNext 9 = fsCLOSED ∧ (s.blk.feed 9).gateWant = true ∧ (s.blk.feed 9).gateAt = s.blk.glade.ticks ∧
      (s.blk.port 5).entered = some r ∧ bitOf (r.words.getD 6 0) 1 = decide (w = 2)) := by decide
theorem witness_pass_short : let s := onFeed 6 0 { shortTicks := 100 } [] []
    s.blk.feedState 9 = fsLOCKED_OUT ∧ s.blk.feedNext 9 = fsLOCKED_OUT ∧ 100 ≤ (s.blk.feed 9).shortTicks := by decide

/-! ### GroupsStartStepByStepAndStop -/

/-- Group 40 has the one CNV phase 5, in a state of R180 with its record as given. -/
def onGroup (st cls : Nat) (x : Group) (port : Port := {}) (l : List (Nat × Nat) := []) : List (Nat × Action) → State := fun acts =>
  small ([(Obj.PortRecord.ConfiguredClass 5, cls), (Obj.PortRecord.Group 5, 40), (Obj.PortRecord.Member 5, 2), (Obj.GroupRecord.State 40, st),
    (Obj.PortRecord.PortState 5, 5)] ++ l) (fun b => { b with groupTab := [(40, x)], ports := [(5, port)], actions := { table := acts, next := 1 } })

theorem witness_group_start : ∀ st ∈ [0, 3], ∀ o ∈ [none, some 9], (let s := onGroup st 2 {} { offUntil := o } [] []
    Settled s ∧ (s.blk.groupState 40 = gsSTOPPED ∨ s.blk.groupState 40 = gsOV_LATCHED) ∧ s.blk.groupPorts 40 ≠ [] ∧ s.blk.inGrave = false ∧
      (s.blk.groupPorts 40).any (fun p => (s.blk.port p).offUntil.isSome) = o.isSome) := by decide
theorem witness_start_step3 : ∀ r ∈ [0, 1], (let s := onGroup 1 2 { step := 3, phases := [5] } { result := some (osZERO_CAL, r) } [] []
    Settled s ∧ s.blk.groupState 40 = gsSTARTING ∧ (s.blk.group 40).step = 3 ∧ s.blk.shotsDone osZERO_CAL (s.blk.group 40).phases = true ∧
      s.blk.shotsOk osZERO_CAL (s.blk.group 40).phases = decide (r = 0)) := by decide
theorem witness_start_step5 : let s := onGroup 1 2 { step := 5, veff := 50000000, fb := 49000000 } {} [(Obj.GroupRecord.Setpoint 40, 50000)] []
    Settled s ∧ s.blk.groupState 40 = gsSTARTING ∧ (s.blk.group 40).step = 5 ∧
      (let x := s.blk.group 40; let sp : Int := (s.blk.rd (Obj.GroupRecord.Setpoint 40) * 1000 : Nat)
       x.veff = sp ∧ x.stale = 0 ∧ (x.fb - sp).natAbs * 50 ≤ sp.natAbs) := by decide
theorem witness_start_timeout : let s := onGroup 1 2 { step := 1 } {} [(Obj.GroupRecord.StartTimeout 40, 0)] []
    s.blk.groupState 40 = gsSTARTING ∧ (s.blk.group 40).startAt + s.blk.rd (Obj.GroupRecord.StartTimeout 40) ≤ s.blk.glade.cycles := by decide
theorem witness_admit_after_off : let s := onGroup 0 2 {} { offUntil := some 1 } [] []
    Settled s ∧ 5 < 512 ∧ (s.blk.port 5).offUntil = some 1 ∧ 1 ≤ s.blk.glade.ticks + 1 := by decide

/-! ### GroupsShedSetpointsAndSenseLoss -/

theorem witness_thin_shed : (∀ m ∈ [1, 3], let s := onGroup 2 2 { low := 10 ^ 9 } { cmdN := [m * 4096, 0, 0, 0] } [] []
    Settled s ∧ s.blk.groupState 40 = gsRUNNING ∧ s.blk.rd (Obj.GroupRecord.ShedDelay 40) * s.blk.glade.nt ≤ (s.blk.group 40).low ∧
    s.blk.shedUnit 40 = (if m = 1 then some [5] else none)) ∧
    ¬ (onGroup 0 2 {} {} [] []).blk.groupState 40 = gsRUNNING := by decide
theorem witness_sense_lost : let s := onGroup 2 2 { stale := 4 } {} [] []
    Settled s ∧ 4 ≤ (s.blk.group 40).stale ∧ s.blk.groupState 40 = gsRUNNING := by decide
theorem witness_setpoint : (let s := fun v => onGroup 0 2 {} {} [(Obj.GroupRecord.OvpLevel 40, 60000), (Obj.GroupRecord.OvWarn 40, 58000)] [(7, entryOf 5 3 40 v)]
    ∀ v ∈ [0, 48000], Settled (s v) ∧ Due (s v).blk 7 5 (entryOf 5 3 40 v) ∧ (s v).blk.setpointOk 40 v = decide (v = 48000)) := by decide

/-! ### SequencesRunTheirMembersAndRetry -/

/-- Sequence 3 is in a state; slot entry 8 is its only one, one feed 9 on BRK port 5. -/
def onSequence (st : Nat) (x : Seq) (l : List (Nat × Nat) := []) : List (Nat × Action) → State := fun acts =>
  small ([(Obj.SequenceRecord.State 3, st), (Obj.SlotEntry.Sequence 8, 3), (Obj.SlotEntry.Kind 8, 2), (Obj.SlotEntry.FirstUnit 8, 9),
    (Obj.PortRecord.ConfiguredClass 5, 4), (Obj.PortRecord.Member 5, 9), (Obj.PortRecord.PortState 5, 5)] ++ l) (fun b =>
    { b with seqTab := [(3, x)], actions := { table := acts, next := 1 } })

theorem witness_seq_actions : ∀ op ∈ [3, 4, opSEQ_RETRY], (let s := onSequence 6 {} [] [(7, entryOf op 5 3)]
    Settled s ∧ (entryOf op 5 3).target < 16 ∧ Due s.blk 7 op (entryOf op 5 3) ∧ s.blk.seqState 3 = sqRETRY_WAIT ∧
      s.blk.seqState 3 ∈ [sqGOING_UP, sqUNDOING, sqRETRY_WAIT]) := by decide
/-- One feed of entry 8 is the member of the attempt, due at once (R313, R314). -/
theorem test_seq_members : (onSequence 1 {} [(Obj.SlotEntry.Count 8, 1), (Obj.SlotEntry.OnDelay 8, 30)] []).blk.seqMembers 3 5
    (onSequence 1 {} [(Obj.SlotEntry.Count 8, 1), (Obj.SlotEntry.OnDelay 8, 30)] []).blk.onSlot = [{ kind := 2, unit := 9, entry := 8, due := 35 }] := by decide

/-! ### MembersComeUpGoDownAndFail -/

/-- The member that entry 8 gives sequence 3. -/
def member (status kind : Nat) : Member := { kind, unit := 9, entry := 8, status, due := 0 }

theorem witness_member_on : ∀ fs ∈ [1, 4], (let s := onSequence 2 { members := [member 0 2] } [(Obj.FeedRecord.State 9, fs)] []
    Settled s ∧ s.blk.rd (Obj.SlotEntry.Sequence 8) = 3 ∧ s.blk.seqState 3 = sqGOING_UP ∧ s.blk.findMember (s.blk.seq 3).members 8 0 = some (member 0 2) ∧
      (member 0 2).status = msWAITING ∧ (member 0 2).due ≤ s.blk.glade.ticks + 1 ∧ s.blk.memberUp (member 0 2) = decide (fs = 4) ∧
      s.blk.feedPort 9 = some 5 ∧ s.blk.portState 5 = psIN_SERVICE ∧ s.blk.feedNext 9 = fs) := by decide
theorem witness_member_not_serving : (let s := onSequence 2 { members := [member 0 2] } [(Obj.FeedRecord.State 9, 1), (Obj.PortRecord.PortState 5, 4)] []
    s.blk.feedPort 9 = some 5 ∧ s.blk.portState 5 ≠ psIN_SERVICE ∧ s.blk.memberUp (member 0 2) = false) := by decide
theorem witness_member_group : (let s := onSequence 2 { members := [member 0 3] } [(Obj.GroupRecord.State 9, 0), (Obj.GroupRecord.SupplyState 9, 1)] []
    s.blk.findMember (s.blk.seq 3).members 8 0 = some (member 0 3) ∧ s.blk.groupState 9 = gsSTOPPED ∧
      s.blk.rd (Obj.GroupRecord.SupplyState 9) ≠ ssBELOW_MIN) := by decide
theorem witness_member_timeout : ∀ fs ∈ [1, 4], (let s := onSequence 2 { members := [member 1 2] } [(Obj.FeedRecord.State 9, fs), (Obj.SlotEntry.UpTimeout 8, 0)] []
    s.blk.findMember (s.blk.seq 3).members 8 0 = some (member 1 2) ∧ (member 1 2).status = msCOMMANDED ∧
      (member 1 2).due + s.blk.rd (Obj.SlotEntry.UpTimeout 8) ≤ s.blk.glade.ticks ∧ s.blk.memberUp (member 1 2) = decide (fs = 4)) := by decide
theorem witness_member_off : (let s := onSequence 4 { downs := [member 0 2] } [(Obj.FeedRecord.State 9, 4)] []
    Settled s ∧ s.blk.seqState 3 ∈ [sqGOING_DOWN, sqUNDOING] ∧ s.blk.findMember (s.blk.seq 3).downs 8 0 = some (member 0 2) ∧
      s.blk.findMember (s.blk.seq 3).forced 8 0 = none ∧ s.blk.feedPort 9 = some 5 ∧ s.blk.feedNext 9 = fsCLOSED) := by decide
theorem witness_abort_sequence : ∀ st ∈ [2, 3], (onSequence st {} [] []).blk.seqRuns 3 = decide (st = 2) := by decide

/-! ### StringsAreSensedTestedAndAnchored -/

/-- String 2 hangs off BAT port 5 of group 40 with the objects given, its record `x`, and the boundary count at `c`. -/
def onString (x : BatString) (l : List (Nat × Nat)) (acts : List (Nat × Action) := []) (f : Block → Block := fun b => b) : State :=
  small ([(Obj.PortRecord.ConfiguredClass 5, 3), (Obj.PortRecord.Member 5, 2), (Obj.PortRecord.Group 5, 40)] ++ l) (fun b =>
    f { b with stringTab := [(2, x)], actions := { table := acts, next := 1 } })

theorem witness_string_test : let a := entryOf 10 4 2 5
    (let s := onString {} [(Obj.HoldupStatus.State, 1), (Obj.StringRecord.Mode 2, 1), (Obj.StringRecord.DischargeLimit 2, 6000), (Obj.StringRecord.TestStatus 2, 0)] [(7, a)]
     Settled s ∧ Due s.blk 7 10 a ∧ s.blk.holdupState = huMAINS ∧ s.blk.stringMode 2 ∈ [smREST, smCHARGE] ∧ s.blk.rd (Obj.StringRecord.DischargeLevel 2) < 2 ∧
       a.arg * 1000 ≤ s.blk.rd (Obj.StringRecord.DischargeLimit 2) ∧ 10 * (a.arg * 10 ^ 9 : Nat) * (s.blk.rdI 32 (Obj.StringRecord.Voltage 2) * 1000) ≤ 0 ∧
       s.blk.rd (Obj.StringRecord.TestStatus 2) ≠ 1) ∧
    (onString {} [(Obj.HoldupStatus.State, 3)] [(7, a)]).blk.holdupState ≠ huMAINS := by decide
theorem witness_test_end : ∀ i ∈ [0, 1000], (let s := onString { testLeft := 0 } [(Obj.StringRecord.TestStatus 2, 1), (Obj.StringRecord.Current 2, i)] [] (fun b => { b with meas := { delivered := true } })
    Settled s ∧ s.blk.rd (Obj.StringRecord.TestStatus 2) = 1 ∧ (s.blk.bat 2).testLeft = 0 ∧ s.blk.meas.delivered = true) := by decide
theorem witness_full : let s := onString { taper := 1 } [(Obj.StringRecord.Mode 2, 2), (Obj.StringRecord.TaperCycles 2, 1)]
    s.blk.stringMode 2 = smCHARGE ∧ s.blk.rd (Obj.StringRecord.TaperCycles 2) ≤ (s.blk.bat 2).taper := by decide
theorem witness_ocv : let s := onString { rest := 5 } [(Obj.StringRecord.RestCycles 2, 5), (Obj.StringRecord.CellCount 2, 1), (Obj.StringRecord.Voltage 2, 3350),
      (Obj.StringRecord.OcvMinSlope 2, 1), (Obj.StringRecord.OcvTable 2 0, 3300), (Obj.StringRecord.OcvTable 2 1, 3400), (Obj.StringRecord.OcvTable 2 2, 3500)]
    (s.blk.bat 2).ocvDone = false ∧ s.blk.rd (Obj.StringRecord.RestCycles 2) ≤ (s.blk.bat 2).rest ∧
      ∃ seg, s.blk.ocvSegment 2 (s.blk.cellVolts 2) = some seg ∧ seg.2.1 < seg.2.2 ∧ s.blk.rd (Obj.StringRecord.OcvMinSlope 2) ≤ seg.2.2 - seg.2.1 :=
  ⟨by decide, by decide, _, rfl, by decide, by decide⟩
theorem witness_cutoff : let s := onString { cutTicks := 3 } [(Obj.StringRecord.CutoffTicks 2, 3)]
    s.blk.rd (Obj.StringRecord.CutoffTicks 2) ≤ (s.blk.bat 2).cutTicks ∧ s.blk.rd (Obj.StringRecord.DischargeLevel 2) ≠ 3 := by decide
theorem witness_string_store : let s := onString {} [(Obj.HeartwoodStatus.RecallState, 1), (Obj.HeartwoodProtect.LevelInForce, 0)] [] (fun b => { b with glade := { cycles := 3000 } })
    s.blk.stringOn 2 = true ∧ (s.blk.bat 2).storedAt + 3000 ≤ s.blk.glade.cycles ∧ s.blk.heartwoodRefuses (Block.setAddress 8) = false := by decide
theorem witness_presence : let s := onString { inBand := 5 } [(Obj.StringRecord.Presence 2, 1), (Obj.StringRecord.PresenceCycles 2, 5)]
    s.blk.stringOn 2 = true ∧ s.blk.rd (Obj.StringRecord.Presence 2) ≠ prPRESENT ∧ s.blk.rd (Obj.StringRecord.PresenceCycles 2) ≤ (s.blk.bat 2).inBand := by decide

/-! ### PacksAnswerAChallenge -/

/-- String 2 of the holder, with its authenticator on port TW1. -/
def onPack (x : BatString) : State := onString x [(Obj.StringRecord.AuthPort 2, 1), (Obj.RedundancyStatus.Role, 1)]

theorem witness_authenticate : let s := onPack { nextAuth := some 0 }
    Settled s ∧ s.blk.isHolder = true ∧ s.blk.rd (Obj.StringRecord.AuthPort 2) ≠ 0 ∧ (s.blk.bat 2).auth = 0 ∧ (s.blk.bat 2).nextAuth = some 0 ∧ 0 ≤ s.blk.glade.cycles := by
  decide
theorem witness_auth_wire : ∀ a ∈ [2, 3, 4, 5], (let s := onPack { auth := a }
    s.blk.rd (Obj.StringRecord.AuthPort 2) ∈ [1, 2, 3] ∧ (s.blk.twPort 1).cur = none ∧ s.blk.twStuck 1 = false ∧ s.blk.faults.pecLeft = 0 ∧
      s.blk.isHolder = true ∧ (a = 2 → s.blk.authFree 2 = true) ∧ (s.blk.bat 2).auth = a ∧ (s.blk.bat 2).auth ≠ 0 ∧
      (∀ e ∈ s.blk.sessions, ∀ since, e.2.abort ≠ some (3, 2, since))) := by
  intro a h
  refine ⟨?_, ?_, ?_, ?_, ?_, ?_, ?_, ?_, by intro e he; simp [onPack, onString, small] at he⟩ <;> revert a <;> decide
/-- A pack that answers with id 1 to 8 and the HMAC of nonce and id under an empty key; and one that answers zeros. -/
theorem witness_auth_answer : (let id := [1, 2, 3, 4, 5, 6, 7, 8]; let data := [0] ++ id ++ hmac256 [] (List.replicate 16 0 ++ id)
    data.length = 41 ∧ data.headD 0 % 2 = 0 ∧ (data.drop 1).take 8 = id ∧ hmac256 [] (List.replicate 16 0 ++ id) = data.drop 9) ∧
    (let data := List.replicate 41 0
     data.length = 41 ∧ data.headD 0 % 2 = 0 ∧ ¬ hmac256 [] (List.replicate 16 0 ++ (data.drop 1).take 8) = data.drop 9) := by decide

/-! ### ObjectWritesAreCheckedAndServed -/

theorem witness_object_write : objectStatus (objKey 0x7777 1) ≠ dsOK ∧ objectStatus Obj.SnapshotSession.RequestCycle = dsOK ∧
    lengthOk Obj.SnapshotSession.RequestCycle 3 = false ∧
    (objectStatus Obj.GladeStatus.State = dsOK ∧ lengthOk Obj.GladeStatus.State 1 = true ∧ objectAccess Obj.GladeStatus.State = .ro) ∧
    (small []).blk.nowInRange Obj.SnapshotSession.RequestCycle (leValue [1, 2, 3, 4]) = true ∧ objKey 0x2080 4 = Obj.SnapshotSession.RequestCycle := by decide
theorem witness_staged_write : (let s := staging; let key := Obj.GladeConfig.HoldoverLimit; let data := [7, 0, 0, 0]
    Settled s ∧ key = objKey (keyIndex key) (keySub key) ∧ keyIndex key < 65536 ∧ keySub key < 256 ∧ objectStatus key = dsOK ∧ lengthOk key data.length = true ∧ objectAccess key ≠ .ro ∧ objectMode key = .staged ∧
      s.blk.graveRefuses key = false ∧ s.blk.archiveRefuses key = false ∧ (s.blk.sess 4).bundle = true ∧
      (let ws := Block.putStaged (s.blk.sess 4).staged key data
       Block.stagedBytes ws ≤ 131072 ∧ s.blk.stagingUsed - Block.stagedBytes (s.blk.sess 4).staged + Block.stagedBytes ws ≤ 524288)) := by decide

/-! ### EdpServesItsSessions -/

/-- The holder serves, with the record of session 4 as given and an address of its own. -/
def onSession (x : Session) (l : List (Nat × Nat) := []) : State :=
  small ([(Obj.RedundancyStatus.Role, 1), (Obj.EthConfig.RackAddress, 0xC0A80001)] ++ l) (fun b => { b with aon := { b.aon with phase := 7 }, sessions := [(4, x)] })

theorem witness_edp_open : let s := onSession {}
    Settled s ∧ s.blk.answersEdp false = true ∧ 512 ≤ 1024 ∧ 1024 ≤ 1408 ∧ s.blk.freeSession = some 0 := by decide
theorem witness_edp_session : ∀ tr ∈ [none, some ({ kind := 1, key := objKey 0x4404 12, total := 2, bytes := [(0, 7), (1, 8)] } : Transfer), some { kind := 2, key := objKey 0x4404 12, total := 9 }],
    (let s := onSession { opened := true, network := nwEDP, transfer := tr }
     Settled s ∧ s.blk.serves = true ∧ (s.blk.sess 4).opened = true ∧ (s.blk.sess 4).network = nwEDP ∧ s.blk.servedHere (s.blk.sess 4) = true ∧
       (s.blk.sess 4).cache.all (fun r => ahead 32 9 r.id) = true ∧ ahead 32 5 (s.blk.sess 4).ackSeq = true ∧ s.blk.poolFree 4 = true ∧
       (s.blk.sess 4).readerFreeze = false ∧ (s.blk.sess 4).transfer = tr) := by decide
theorem witness_edp_read : (let s := onSession { opened := true, network := nwEDP } [(sk 4 Obj.SessionConfig.BufferSize, 512)]
    objectStatus Obj.GladeStatus.Frequency = dsOK ∧ isLive Obj.GladeStatus.Frequency = false ∧ s.blk.rd (sk 4 Obj.SnapshotSession.Mode) = 0 ∧
      objectType Obj.GladeStatus.Frequency = .uint 4 ∧ 4 ≤ s.bufferSize 4 ∧
      Obj.GladeStatus.Frequency ∉ [Obj.EthStatus.Datagrams, Obj.SessionTable.SessionEntry 4]) := by decide

/-! ### SessionsEndByIdleTimeAndAbort -/

theorem witness_session_idle : (let s := onSession { opened := true, network := nwEDP, idle := 10 ^ 9 }
    Settled s ∧ (s.blk.sess 4).opened = true ∧ s.blk.servedHere (s.blk.sess 4) = true ∧ s.blk.rd (sk 4 Obj.SessionConfig.SessionIdle) ≤ (s.blk.sess 4).idle) ∧
    (onSession {}).blk.rd (sk 4 Obj.SessionConfig.SessionIdle) > 0 := by decide
theorem witness_transfer_idle : (let s := onSession { transfer := some { kind := 1, key := 5, total := 2, idle := 250 } }
    (s.blk.sess 4).transfer = some { kind := 1, key := 5, total := 2, idle := 250 } ∧ 250 ≤ 250 ∧ (s.blk.sess 4).transfer.isSome = true) ∧
    ∀ e ∈ (onSession { transfer := some { kind := 1, key := 5, total := 2, idle := 250 } }).blk.sessions, ∀ since, e.2.abort ≠ some (1, 4, since) := by
  refine ⟨by decide, ?_⟩
  intro e he since h
  simp [onSession, small] at he
  subst he
  simp at h
theorem witness_alert_repeat : (let s := (onSession { opened := true, subscribe := true } [(Obj.AlertConfig.RepeatInterval, 0)]).mapBlk (fun b =>
      { b with net := { b.net with sentAt := [(4, 0)], alerts := [⟨3, 1, 1, 0, 0, 5, 1⟩] } })
    s.blk.net.sentAt.find? (fun e => e.1 == 4) = some (4, 0) ∧ s.blk.isHolder = true ∧ (s.blk.sess 4).opened = true ∧ (s.blk.sess 4).subscribe = true ∧
      s.blk.unacked 4 ≠ [] ∧ s.blk.rd Obj.AlertConfig.RepeatInterval * 1000 ≤ s.blk.microsSince 0) := by decide
theorem witness_confirm_timeout : (onSession { cache := [{ id := 9, reply := {}, waiting := true }] }).blk.sess 4 |>.cache.find? (fun r => r.id == 9 && r.waiting) |>.isSome := by
  decide
theorem witness_abort_overdue : (let s := (onSession { abort := some (1, 4, 0), transfer := some { kind := 1, key := 5, total := 2 } }).mapBlk (fun b => { b with glade := { ticks := 200 } })
    (s.blk.sess 4).abort = some (1, 4, 0) ∧ 1000 ≤ s.blk.microsSince 0 ∧ (s.blk.sess 4).transfer.isSome = true) := by decide

/-! ### HostTransactionsQueueOnTheirPort -/

/-- Port TW2 as given. -/
def onWire (x : TwPort) (l : List (Nat × Nat) := []) (f : Block → Block := fun b => b) : State := small l (fun b => f { b with tw := { ports := [(2, x)] } })

theorem witness_host_transaction : let s := onWire {}
    Settled s ∧ s.blk.inGrave = false ∧ s.blk.packAddress 2 0x50 = false ∧ 0x08 ≤ 0x50 ∧ 0x50 ≤ 0x77 ∧ s.blk.twPending 4 = false ∧
      s.blk.rd (Obj.TwPortStatus.BusState 2) < bsSTUCK_SCL ∧ s.blk.authWaits 2 = false ∧ (s.blk.twPort 2).cur = none ∧ (s.blk.twPort 2).queue = [] ∧ 0x07 < 0x08 := by decide
theorem witness_transaction_done : (let r : TwReq := { session := 4, addr := 0x50, kind := 8, cmd := 1, pec := true, data := [] }; let s := onWire { cur := some r }
    Settled s ∧ (s.blk.twPort 2).cur = some r ∧ r.session < 32 ∧ s.blk.faults.pecLeft = 0 ∧ (s.blk.twPort 2).queue = []) := by decide

/-! ### BusesStretchClearAndArbitrate -/

theorem witness_wire_faults : ∀ tries ∈ [0, 255], (let r : TwReq := { session := 4, addr := 0x50, kind := 1, cmd := 1, pec := false, data := [], tries }; let s := onWire { cur := some r, lost := true }
    Settled s ∧ (s.blk.twPort 2).cur = some r ∧ (s.blk.twPort 2).lost = true ∧ (s.blk.twPort 2).queue = [] ∧ s.blk.faults.pecLeft = 0 ∧
      decide (r.tries < s.blk.rd (Obj.TwPortConfig.ArbRetries 2)) = decide (tries = 0)) := by decide
theorem witness_bus_stuck : (let s := onWire { clears := 3 }
    (s.blk.twPort 2).cur = none ∧ s.blk.twStuck 2 = false ∧ 3 ≤ (s.blk.twPort 2).clears ∧ s.blk.isPresent Src.TW_BUS_STUCK 2 = false) ∧
    (onWire { clears := 2 }).blk.twStuck 2 = false ∧ (onWire {} [(Obj.TwPortStatus.BusState 2, 3)]).blk.twStuck 2 = true := by decide
theorem witness_device_alert : let s := onWire {} [(Obj.TwPortConfig.AlertInputEnable 2, 1)]
    s.blk.rd (Obj.TwPortConfig.AlertInputEnable 2) = 1 ∧ (s.blk.twPort 2).araAt = none ∧ (s.blk.twPort 2).cur = none ∧ (s.blk.twPort 2).queue = [] ∧
      s.blk.twStuck 2 = false ∧ s.blk.authWaits 2 = false := by decide

/-! ### TheTargetWindowReadsAndWrites -/

/-- The holder answers address 0x20 as entry 1 of TW0; its session is open and its window as given. -/
def onWindow (x : TwAddress) (l : List (Nat × Nat) := []) : State :=
  (onSession {} ([(Obj.TwTargetConfig.Address 1, 0x20), (Obj.TwTargetConfig.Scope 1, 0), (Obj.TwTargetConfig.AlertEnable, 2)] ++ l)).mapBlk (fun b =>
    { b with sessions := [(29, { opened := true, network := nwTW0 })], tw := { addrs := [(1, x)] }, net := { b.net with alerts := [⟨3, 1, 1, 0, 0, 5, 1⟩] } })

theorem witness_window : let s := onWindow { index := 0x2013, sub := keySub Obj.GladeStatus.Frequency }
    Settled s ∧ s.blk.answersEntry 1 = true ∧ (s.blk.sess 29).opened = true ∧ (s.blk.window 1).last = none ∧ (s.blk.window 1).begun = false ∧
      (s.blk.window 1).offset = 0 ∧ s.blk.rd Obj.TwTargetConfig.PecRequired ≤ 1 ∧ s.blk.pecInjected 0 = false ∧ (s.blk.sess 29).transfer = none ∧
      ahead 32 3 (s.blk.window 1).cursor = true ∧ 0x42 ∉ twCodes := by decide
theorem witness_window_read : let s := onWindow { index := keyIndex Obj.GladeStatus.Frequency, sub := keySub Obj.GladeStatus.Frequency }
    objectStatus (s.blk.selected 1) = dsOK ∧ isLive (s.blk.selected 1) = false ∧ s.blk.rd (sk 29 Obj.SnapshotSession.Mode) = 0 ∧
      objectType (s.blk.selected 1) = .uint 4 ∧ s.blk.selected 1 ∉ [Obj.TwPortStatus.Transactions 0, Obj.SessionTable.SessionEntry 29] := by decide
theorem witness_window_write : let s := onWindow { index := 0x2080, sub := 4 }
    s.blk.selected 1 = Obj.SnapshotSession.RequestCycle ∧ (s.blk.window 1).wrote = none ∧
      s.blk.nowInRange Obj.SnapshotSession.RequestCycle (leValue [1, 2, 3, 4]) = true := by decide
theorem witness_ara : (onWindow { armed := true }).blk.lowestAlert = some 1 := by decide
theorem witness_rearm : let s := onWindow { disarmedAt := some 0 } [(Obj.AlertConfig.RepeatInterval, 0)]
    (s.blk.window 1).disarmedAt = some 0 ∧ s.blk.rd Obj.AlertConfig.RepeatInterval * 1000 ≤ s.blk.microsSince 0 ∧ s.blk.windowAlerts 1 ≠ [] := by decide
/-- CRC-8 of the PEC over the check string "123456789" is 0xF4, from the polynomial of R517. -/
theorem test_pec : pecOf [0x31, 0x32, 0x33, 0x34, 0x35, 0x36, 0x37, 0x38, 0x39] = 0xF4 := by decide

/-! ### CanNodesAnswerAndChangeTheirState -/

/-- The holder serves on an enabled CAN1 with RackNodeId Operational; client 9 has session 4. -/
def onCan (l : List (Nat × Nat) := []) (f : Block → Block := fun b => b) : State :=
  (onSession { opened := true, network := nwCAN1, node := 9 } ([(Obj.CanConfig.PortEnable, 2), (Obj.CanStatus.CanState 1, 0), (Obj.Comm.ProducerHeartbeatTime, 1000)] ++ l)).mapBlk (fun b =>
    f { b with net := { b.net with nmt := [(3, 1)] } })

theorem witness_can : let s := onCan
    Settled s ∧ bitOf (s.blk.rd Obj.CanConfig.PortEnable) 1 = true ∧ s.blk.serves = true ∧ s.blk.canPort 1 = true ∧ s.blk.isHolder = true ∧
      s.blk.rd Obj.Comm.ProducerHeartbeatTime ≠ 0 ∧ s.blk.nodeAnswers 1 true = true ∧ s.blk.usdoSession 1 9 = some 4 ∧ (s.blk.sess 4).onSeat = !true ∧
      s.blk.rd (sk 4 Obj.SnapshotSession.Mode) = 0 ∧ Obj.GladeStatus.Frequency ≠ Obj.SessionTable.SessionEntry 4 ∧ s.blk.rd (Obj.CanStatus.CanState 1) = 0 := by decide
theorem witness_tpdo : let s := onCan [(Obj.TpdoComm.TransmissionType 2, 4), (Obj.TpdoComm.CobId 2, 0x180)] (fun b =>
      { b with
        glade := { tick := 100, cycle := 8 }
        canopy := { b.canopy with slots := [(2, { epoch := 0, cycle := 8, complete := true, dict := [], domains := [], roots := [], partnerRoots := [], present := [] })] } })
    s.blk.nmtOf 3 = 1 ∧ s.blk.rd (Obj.TpdoComm.CobId 2) < 2 ^ 31 ∧ s.blk.rd (Obj.TpdoComm.TransmissionType 2) = 4 ∧ s.blk.glade.boundary = false ∧
      s.blk.glade.tick = 100 ∧ s.blk.glade.cycle % 4 = 0 ∧ s.blk.newestImage ≠ none := by decide
theorem witness_can_states : ∀ st ∈ [1, 2], (onCan [(Obj.CanStatus.CanState 1, st)]).blk.rd (Obj.CanStatus.CanState 1) = st := by decide

/-! ### EthernetKeepsItsNodesAndLinks -/

theorem witness_ethernet : let s := (onSession {}).mapBlk (fun b => { b with net := { b.net with nodes := [(5, 0), (6, 0)] } })
    Settled s ∧ s.blk.serves = true ∧ (s.blk.net.nodes.filter (fun e => e.1 != 7)).length < 256 ∧ s.blk.net.nodes.find? (fun e => e.1 == 5) = some (5, 0) ∧
      s.blk.microsSince 0 < 60000000 ∧ s.blk.ownsAddress 0xC0A80001 = true ∧ s.blk.ownsAddress 1 = false ∧
      (s.mapBlk (fun b => { b with glade := { ticks := 6000000 } })).blk.microsSince 0 = 60000000 := by decide

/-! ### HostsAcknowledgeWithholdAndClearRoots -/

/-- Root 3, of HEAD_OT on port 5, as `f` makes it. -/
def withRoot (f : Root → Root) (l : List (Nat × Nat) := []) (g : Block → Block := fun b => b) : State :=
  small l (fun b => g { b with faults := { b.faults with roots := [f { number := 3, src := Src.HEAD_OT, configured := 1, cls := 1, instances := [5], stamp := {}, gen := 0, seq := 9, scope := 1, rule := 7, reaction := 4 }] } })

theorem witness_fault_write : (let s := withRoot (fun r => { r with outcome := roPENDING }) [(Obj.ReactionRule.Withholdable 7, 1)]
    Settled s ∧ s.blk.seat < 256 ∧ (s.blk.root? 3).map (fun r => (r.outcome, r.acts)) = some (roPENDING, none) ∧ s.blk.rd (Obj.ReactionRule.Withholdable 7) = 1 ∧
      s.blk.root? 4 = none) ∧
    ((withRoot (fun r => { r with outcome := roEXECUTED })).blk.root? 3).map (·.outcome) = some roEXECUTED := by decide

/-! ### WindowsCloseChecksAreInjectedAndAlarmsPassOn -/

theorem witness_windows : (small [] (fun b => { b with faults := { b.faults with windows := [(5, { root := { number := 1, src := 5, configured := 1, cls := 1, instances := [2], stamp := {}, gen := 0, seq := 1 }, opened := 0 })] }, glade := { ticks := 4 } })).blk.faults.windows.map (·.1) |>.Nodup := by
  decide
theorem witness_inject : (let s := small [(Obj.FaultInject.InjectEnable, 1), (Obj.FaultInject.TargetSeat, 0x41)]
    Settled s ∧ s.blk.rd Obj.FaultInject.InjectEnable = 1 ∧ s.blk.rd Obj.FaultInject.TargetSeat = s.blk.seat) ∧
    (small []).blk.rd Obj.FaultInject.InjectEnable ≠ 1 := by decide
theorem witness_alarm : (small []).blk.isPresent (Src.ALARM0 + 1) 0 = !true ∧
    (small [] (fun b => { b with faults := { b.faults with present := [Block.instKey Src.ALARM0 0] } })).blk.isPresent (Src.ALARM0 + 0) 0 = !false := by decide

/-! ### ReactionsExecuteAndGraveIsEntered -/

theorem witness_reaction : (let s := withRoot (fun r => { r with outcome := roPENDING, acts := some [5], reaction := rxYIELD }) [(Obj.RedundancyStatus.Role, 1), (Obj.RedundancyStatus.TokenIn, 1)]
    Settled s ∧ s.blk.inGrave = false ∧ s.blk.faults.untabled = [] ∧ s.blk.faults.carried = [] ∧ s.blk.faults.late = [] ∧ s.blk.isHolder = true ∧
      s.blk.tokenIn = tkREADY ∧ s.blk.faults.roots.map (fun r => (r.outcome, r.acts, r.seat == s.blk.seat)) = [(roPENDING, some [5], true)]) := by decide
theorem witness_no_target : (let s := withRoot (fun r => { r with outcome := roPENDING, acts := some [5], scope := 7, reaction := 4 }) [(Obj.RedundancyStatus.Role, 1)]
    s.blk.faults.roots.all (fun r => Block.noTarget r.reaction (s.blk.rootTargets r [5]))) := by decide
theorem witness_grave : (let s := small [(Obj.RedundancyStatus.Role, 1)] (fun b => { b with faults := { b.faults with gravePending := some Src.COLLECTOR_WEDGED } })
    Settled s ∧ s.blk.inGrave = false ∧ s.blk.faults.gravePending = some Src.COLLECTOR_WEDGED ∧ s.blk.isHolder = true ∧ s.blk.tokenIn ≠ tkREADY ∧
      Src.COLLECTOR_WEDGED ∉ [Src.SUPERVISOR_WEDGED, Src.SUPERVISOR_LOCKSTEP, Src.RAIL_OV]) := by decide

/-! ### ResultsAreDeliveredAndChannelsCalibrate -/

/-- Windows that ended, every channel enabled on range 0. -/
def endedWindow : Window72 := { epoch := 0, cycle := 3, no := 3, edges := 5, irregular := false, notTrack := false, settling := false, enabled := List.replicate 72 true, ranges := [] }

/-- A state in which they have ended. -/
def measuring (l : List (Nat × Nat)) (f : Meas → Meas := fun m => m) : State :=
  small l (fun b => { b with meas := f { b.meas with ended := some endedWindow }, glade := { tick := 60 } })

theorem witness_results : (let s := measuring [(Obj.RedundancyStatus.Role, 1)]
    Settled s ∧ s.blk.meas.ended = some endedWindow ∧ s.blk.meas.delivered = false ∧ endedWindow.enabled.getD 5 false = true ∧ (s.blk.cal 5).ended = 0 ∧
      s.blk.isHolder = true ∧ Arrives s.blk 1 7) := by decide
theorem witness_missing : (let s := measuring [] (fun m => { m with delivered := true, ownFlags := [1] })
    s.blk.meas.ended = some endedWindow ∧ s.blk.meas.delivered = true ∧ s.blk.isHolder = false ∧ s.blk.meas.partnerCame = false ∧ s.blk.glade.boundary = false ∧
      50 ≤ s.blk.glade.tick ∧ s.blk.meas.ownFlags.all (fun f => decide (f < 512)) = true ∧ bitOf (s.blk.meas.ownFlags.getD 0 0) mfCAL = false) := by decide
theorem witness_calibration : (let s := fun z q => measuring [] (fun m => { m with cals := [(5, { zero := z, gain := some q })] })
    ((s 5 6990512).blk.cal 5).gain = some 6990512 ∧ ((s 5 6990512).blk.cal 5).zero.natAbs ≤ 8389 ∧ roundDiv (2 ^ 30 * 6990507) (6990512 - 5) = 2 ^ 30 ∧
      8389 < ((s 9000 6990512).blk.cal 5).zero.natAbs) := by decide
theorem witness_reference : (let s := small [(Obj.Channel.RefState, 2)]
    s.blk.rd Obj.Channel.RefState ≠ 0 ∧ s.blk.isPresent Src.REF_FAULT 0 = false) ∧
    (small [(Obj.Channel.RefState, 1), (Obj.Channel.RefLeadRemaining, 0)]).blk.rd Obj.Channel.RefState = rsSETTLING ∧
    (small [(Obj.Channel.RefState, 1), (Obj.Channel.RefLeadRemaining, 0)]).blk.rd Obj.Channel.RefLeadRemaining = 0 := by decide

/-! ### TicksAndCyclesAdvance -/

theorem witness_tick : (let s := small [] (fun b => { b with glade := { running := true, boundary := false, tick := 4, nt := 300, ended := true } })
    Settled s ∧ s.blk.glade.running = true ∧ s.blk.glade.tick + 1 < s.blk.glade.nt ∧ s.blk.glade.ended = true ∧ s.blk.sup.ready = false ∧ s.blk.sup.overrun = false ∧
      4 ≤ s.blk.glade.tick ∧ s.blk.glade.tick * 10 ≤ s.blk.glade.nt * 9 ∧ [5].all (fun p => decide (p < 512)) = true) := by decide
theorem witness_cycle : (let s := small [] (fun b => { b with glade := { running := true, boundary := false, tick := 299, nt := 300, everInService := true } })
    s.blk.glade.boundary = false ∧ s.blk.glade.nt ≤ s.blk.glade.tick + 1 ∧ s.blk.glade.everInService = true ∧ s.blk.glade.renumber = none ∧
      s.blk.glade.nt * 9 ≤ s.blk.glade.tick * 10) := by decide

/-! ### ThePartnerTellsItsStateAndDigests -/

theorem witness_partner_time : (let s := small [(Obj.RedundancyStatus.Role, 1), (Obj.EventOrder.Generation, 4)]
    Settled s ∧ Arrives s.blk 0 9 ∧ s.blk.isHolder = true ∧ s.blk.inGrave = false ∧ ahead 16 5 (s.blk.rd Obj.EventOrder.Generation) = true ∧
      ahead 16 3 (s.blk.rd Obj.EventOrder.Generation) = false ∧ (∀ p, (s.blk.port p).received = [])) := by
  refine ⟨by decide, by decide, by decide, by decide, by decide, by decide, fun _ => rfl⟩
theorem witness_digests : (let s := fun r => small [(Obj.RedundancyStatus.Readiness, r)] (fun b => { b with pair := { role := 1 } })
    (s 3).blk.isHolder = false ∧ (s 3).blk.pair.role = 1 ∧ (s 3).blk.pair.unshadowed = [] ∧ (s 3).blk.readiness = rdREADY ∧
      (s 3).blk.rd Obj.RedundancyStatus.ResyncPhase = 0 ∧ 1 ≠ (s 3).blk.canopy.digest ∧ (s 2).blk.readiness = rdVERIFY ∧
      Obj.GladeStatus.Frequency ∉ linkObjects) := by decide

/-! ### MessagesAreAppliedOnceAndConfirmed -/

theorem witness_partner_messages : (let s := withEntry [] (entryOf 3 3 40) (fun b => { b with pair := { out := [⟨8, 3, [0, 7], 0⟩], seen := [(4, 6)] } })
    Settled s ∧ Arrives s.blk 1 9 ∧ s.blk.entry? 7 = some (entryOf 3 3 40) ∧ s.blk.pair.swap = none ∧ s.blk.swapMerges 0 3 = false ∧
      s.blk.pair.out.find? (fun m => m.seq == 8) = some ⟨8, 3, [0, 7], 0⟩ ∧ s.blk.pair.seen.any (Block.inRangeOf (5 % 2 ^ 32)) = true) := by decide

/-! ### TheLinkAndTheTokenChangeHands -/

/-- The pair's record as given. -/
def paired (x : Pair) (l : List (Nat × Nat) := []) (f : Block → Block := fun b => b) : State := small l (fun b => f { b with pair := x })

theorem witness_link : (let s := paired { timeRun := 49, timeSeen := true } [(Obj.PartnerLink.LinkState, 0)]
    Settled s ∧ s.blk.linkUp = false ∧ 50 ≤ s.blk.pair.timeRun + (if s.blk.pair.timeSeen then 1 else 0) ∧ s.blk.isHolder = false ∧ s.blk.readiness ≠ rdBARRED) ∧
    (let s := paired { silent0 := 3, silent1 := 4 } [(Obj.PartnerLink.LinkState, 1)]
     s.blk.linkUp = true ∧ 3 ≤ s.blk.pair.silent0 ∧ 3 ≤ s.blk.pair.silent1 ∧ s.blk.isHolder = false ∧ s.blk.readiness ≠ rdBARRED ∧
       s.blk.isPresent Src.PARTNER_LANE_DOWN 0 = false) := by decide
theorem witness_token : (let s := paired {} [(Obj.RedundancyStatus.TokenIn, 2), (Obj.RedundancyStatus.Readiness, 3)]
    s.blk.tokenIn = tkHOLDING ∧ s.blk.isHolder = false ∧ s.blk.readiness = rdREADY ∧ s.blk.pair.claim = none) ∧
    (let s := paired { claim := some (1, 3, 5) } [] (fun b => { b with glade := { ticks := 4 } })
     s.blk.pair.claim = some (1, 3, 5) ∧ 5 ≤ s.blk.glade.ticks + 1 ∧ s.blk.isHolder = false) := by decide
theorem witness_cold : (let s := paired {} [] (fun b => { b with glade := { running := true, cycles := 100000 } })
    s.blk.inGrave = false ∧ s.blk.glade.running = true ∧ s.blk.readiness ≠ rdREADY ∧ s.blk.readiness ≠ rdBARRED ∧ s.blk.pair.sawReady = false ∧
      s.blk.tokenIn = tkNOT_READY ∧ s.blk.isHolder = false ∧
      s.blk.pair.waitFrom + s.blk.rd Obj.RedundancyConfig.ColdStartWait * (if s.blk.seat = 0x42 then 2 else 1) ≤ s.blk.glade.cycles) := by decide

/-! ### SwapsDrillsAndKillsAreRequestedAndRun -/

theorem witness_swap : (let s := fun d => paired {} [(Obj.PartnerLink.LinkState, 1), (Obj.RedundancyStatus.TokenIn, 1), (Obj.SwapDrill.DrillInterval, 3000), (Obj.SwapDrill.DrillState, d)] (fun b => { b with glade := { cycles := 10 ^ 8 } })
    Settled (s 0) ∧ (s 0).blk.linkUp = true ∧ (s 0).blk.tokenIn ≠ tkNOT_READY ∧ (s 0).blk.swapMerges (s 0).blk.swapBoundary.1 (s 0).blk.swapBoundary.2 = false ∧
      (s 0).blk.rd Obj.SwapDrill.DrillState = 0 ∧ (s 2).blk.rd Obj.SwapDrill.DrillState = 2 ∧
      (s 0).blk.pair.drillEnd + (s 0).blk.rd Obj.SwapDrill.DrillInterval ≤ (s 0).blk.glade.cycles ∧
      (s 2).blk.pair.drillCycle + (s 2).blk.rd Obj.SwapDrill.DrillDuration ≤ (s 2).blk.glade.cycles) := by decide
theorem witness_swap_now : (let s := withEntry [(Obj.PartnerLink.LinkState, 1), (Obj.RedundancyStatus.Role, 1), (Obj.RedundancyStatus.PartnerReadiness, 3)] (entryOf 9 0 0) (fun b => { b with pair := { swap := some (0, 0) }, glade := { running := true, boundary := true } })
    s.blk.glade.boundary = true ∧ s.blk.rd Obj.SwapDrill.DrillState = 0 ∧ s.blk.pair.swap = some (s.blk.glade.epoch, s.blk.glade.cycle) ∧ s.blk.swapOk = true ∧
      s.blk.isHolder = true ∧ Due s.blk 7 9 (entryOf 9 0 0)) ∧ (small []).blk.swapOk = false := by decide
theorem witness_drill_check : (let s := fun n => paired { drillBad := n } [(Obj.SwapDrill.DrillState, 2), (Obj.RedundancyStatus.Role, 1), (Obj.RedundancyStatus.TokenIn, 1)] (fun b => { b with glade := { ticks := 100 } })
    (s 3).blk.rd Obj.SwapDrill.DrillState = 2 ∧ (s 3).blk.isHolder = true ∧ (s 3).blk.pair.drillTick + 100 ≤ (s 3).blk.glade.ticks ∧ (s 3).blk.tokenIn = tkREADY ∧
      (s 3).blk.pair.drillBad ≠ 0 ∧ (s 0).blk.pair.drillBad = 0) := by decide
theorem witness_kill : (let s := small [(Obj.PartnerKill.KillEnable, 1), (Obj.PartnerKill.KillOnGrave, 1), (Obj.RedundancyStatus.Role, 1), (Obj.RedundancyConfig.HoldQuorum, 0)] (fun b => { b with pair := { graveAt := some 0, kill := some 0 }, glade := { ticks := 10 ^ 9 } })
    s.blk.rd Obj.PartnerKill.KillEnable = 1 ∧ s.blk.isHolder = true ∧ s.blk.headsConfirm = true ∧ 0 < s.blk.rd Obj.PartnerKill.KillLimit ∧
      s.blk.rd Obj.PartnerKill.KillDelay * 1000 ≤ s.blk.microsSince 0 ∧ s.blk.rd Obj.PartnerKill.KillPulse * 1000 ≤ s.blk.microsSince 0) := by decide

/-! ### ResynchronisationRunsItsPhases -/

theorem witness_resync : (let s := fun p => paired { verified := 10 ^ 6 } [(Obj.RedundancyStatus.ResyncPhase, p), (Obj.SupplyStatus.EngineClock, 600)]
    Settled (s 1) ∧ (s 1).blk.isHolder = false ∧ (s 1).blk.pair.unstable = false ∧ (s 1).blk.rd Obj.SupplyStatus.EngineClock = 600 ∧
      (s 2).blk.rd Obj.RedundancyStatus.ResyncPhase = 2 ∧ (s 3).blk.rd Obj.RedundancyConfig.ShadowVerifyCycles ≤ (s 3).blk.pair.verified) ∧
    (let s := paired { unstable := true } [(Obj.RedundancyStatus.Readiness, 5), (Obj.RedundancyStatus.ResyncPhase, 3), (Obj.SupplyStatus.EngineClock, 450)]
     s.blk.pair.unstable = true ∧ s.blk.readiness = rdBARRED ∧ s.blk.barred = false ∧ s.blk.pair.verified < s.blk.rd Obj.RedundancyConfig.ShadowVerifyCycles ∧
       s.blk.rd Obj.SupplyStatus.EngineClock ≠ 600) := by decide
theorem witness_resync_retry : (let s := paired { resync := 2 } [(Obj.RedundancyStatus.TokenIn, 2), (Obj.PartnerLink.LinkState, 1)] (fun b => { b with glade := { boundary := true } })
    s.blk.pair.resync = 2 ∧ s.blk.pair.resyncFrom ≤ s.blk.glade.cycles ∧ s.blk.glade.boundary = true ∧ s.blk.isHolder = false ∧ s.blk.linkUp = true ∧
      s.blk.tokenIn = tkHOLDING ∧ s.blk.readiness ≠ rdBARRED) := by decide

/-! ### TheRecorderFlushesReadsAndClears -/

/-- A record of code `c` under a number. -/
def recordAt (q c : Nat) : Rec := ⟨q, 0, c, 0, 0, 0x41, {}, 0, 0, 0, 0, []⟩

/-- The recorder as given, with a recall that is complete. -/
def recording (x : Rings) (l : List (Nat × Nat) := []) (f : Block → Block := fun b => b) : State :=
  small ((Obj.HeartwoodStatus.RecallState, 1) :: l) (fun b => f { b with rings := x })

theorem witness_flush : (let s := recording { buffer := [recordAt 1 5, recordAt 2 6], unflushed := 2, covered := 1, flushing := true, row := 32767 }
    Settled s ∧ s.blk.rings.row < 32768 ∧ s.blk.rings.freezeEnd = none ∧ s.blk.rings.retry = false ∧ s.blk.store.work = [] ∧ s.blk.rings.flushing = true ∧ s.blk.heartwoodRefuses 0 = false ∧
      s.blk.rings.lost = 0 ∧ s.blk.toFlush (min s.blk.rings.covered s.blk.rings.unflushed) = [recordAt 1 5] ∧ s.blk.rings.ring.length + 1 ≤ 32768) ∧
    (let s := recording { retry := true } [] (fun b => { b with glade := { boundary := true } })
     s.blk.rings.retry = true ∧ s.blk.glade.boundary = true) := by decide
theorem witness_freeze : (recording { freezeEnd := some 0 }).blk.rings.freezeEnd = some 0 ∧ 0 ≤ (recording { freezeEnd := some 0 }).blk.glade.cycles := by decide
theorem witness_archive : (let s := recording { unarchived := 1024, ring := List.replicate 1024 (recordAt 1 5), badSectors := [0] } [(Obj.FlashStatus.DeviceState, 1), (Obj.RingsConfig.ArchiveEnable, 1)]
    s.blk.archiveReady = true ∧ s.blk.archiveSector = some 1 ∧ ((s.blk.rings.ring.drop (s.blk.rings.ring.length - s.blk.rings.unarchived)).take 1024).length = 1024) := by
  refine ⟨by decide, by decide, ?_⟩
  simp [recording, small]
theorem witness_reader : (let s := recording { buffer := [recordAt 1 5] } [(Obj.EventOrder.EventSequence, 1)] (fun b => { b with sessions := [(4, { reader := true, cursorSeq := 1 })] })
    (s.blk.sess 4).reader = true ∧ (s.blk.sess 4).readerNote = 0 ∧ (s.blk.sess 4).readerLost = 0 ∧ (s.blk.sess 4).readerFreeze = false ∧
      (s.blk.sess 5).reader = false ∧ s.blk.rd (sk 5 Obj.RingsReader.Mode) = 0 ∧ bitOf 5 0 = true ∧ bitOf 5 1 = false) := by decide
theorem witness_summary : (let s := recording { suppressed := [(5, 7)], full := [(5, 50)] }
    Tab.look 0 s.blk.rings.suppressed 5 ≠ 0 ∧ 50 ≤ Tab.look 0 s.blk.rings.full 5 ∧ s.blk.glade.fnom ≤ s.blk.bucketTokens 5 ∧ s.blk.rings.freezeEnd = none) := by decide

/-! ### FatalDumpsAreWrittenReleasedAndErased -/

/-- A dump as given, with a recall that is complete. -/
def dumping (x : Dump) (l : List (Nat × Nat) := []) : State := small ((Obj.HeartwoodStatus.RecallState, 1) :: l) (fun b => { b with dump := x })

theorem witness_dump_now : (let s := dumping {}
    Settled s ∧ s.blk.isHolder = false ∧ s.blk.dump.area = none ∧ s.blk.dump.due = none ∧ s.blk.readiness ≠ rdBARRED ∧ s.blk.dump.area ≠ some 1) ∧
    (dumping {} [(Obj.RedundancyStatus.Role, 1)]).blk.isHolder = true := by decide
theorem witness_dump_start : (let s := dumping { due := some 9, cause := 9 }
    s.blk.dump.due = some 9 ∧ s.blk.flashReady = false ∧ s.blk.dumpState 2 = 0 ∧ s.blk.heartwoodRefuses 0x220000 = false) ∧
    (let s := dumping { due := some 9, cause := 9 } [(Obj.FlashStatus.DeviceState, 1)]
     s.blk.flashReady = true ∧ s.blk.dumpState 0 = 0) ∧ ∀ a, Memory.flashByte (dumping { due := some 9 }).flash a = 0xFF := by
  refine ⟨by decide, by decide, fun _ => rfl⟩
theorem witness_dump_end : (dumping { area := some 2, cause := 9 }).blk.dump.area = some 2 ∧ (dumping {} [(Obj.DumpControl.StateD0 + 1, 1)]).blk.dumpState 1 = 1 ∧
    (dumping { area := some 2 }).blk.sessions = [] := by decide

/-! ### UpdatesAreStagedVerifiedAndApplied -/

/-- The update in a State, with the flash ready. -/
def updating (st : Nat) (l : List (Nat × Nat) := []) (f : Block → Block := fun b => b) : State :=
  small ([(Obj.UpdateStatus.State, st), (Obj.FlashStatus.DeviceState, 1), (Obj.HeartwoodStatus.RecallState, 1), (Obj.Slot.SigningKeyIndex 0, 2)] ++ l) f

theorem witness_flash_request : (let s := updating 2
    Settled s ∧ s.blk.flashReady = true ∧ s.blk.flashMan.cur = none ∧ s.blk.flashMan.suspended = none ∧ s.blk.flashMan.queue = [] ∧
      s.blk.flashOwns ⟨3, 3, 0x1800000, 4, [1, 2]⟩ = true ∧ s.blk.flashOwns ⟨4, 3, 0x1800000, 4, [1, 2]⟩ = false) := by decide
theorem witness_flash_done : (let s := updating 2 [] (fun b => { b with flashMan := { cur := some ⟨3, 3, 0x1800000, 4, [1, 2]⟩ } })
    s.blk.flashMan.cur = some ⟨3, 3, 0x1800000, 4, [1, 2]⟩ ∧ s.notErased 0x1800000 (([1, 2] ++ List.replicate 4 0xFF).take 4) = none) := by decide
theorem witness_update : (let s := fun st => updating st
    (s 0).blk.inGrave = false ∧ (s 0).blk.archived = false ∧ (s 0).blk.rd Obj.HeartwoodProtect.LevelAtReset < 2 ∧ (s 0).blk.updState ∉ [usERASING, usVERIFYING, usAPPLYING] ∧
      (s 2).blk.updState = usRECEIVING ∧ (s 2).blk.rd (sk 4 Obj.UpdateWindow.Offset) % 256 = 0 ∧ (s 2).notErased (stagingBase + 0) [1, 2] = none ∧
      (s 4).blk.updState = usVERIFIED ∧ (s 0).blk.rd (Obj.Slot.SigningKeyIndex ((s 0).blk.rd Obj.UpdateStatus.InService)) ≠ 1 ∧
      (s 1).blk.updState = usERASING ∧ (s 3).blk.updState = usVERIFYING ∧ (s 5).blk.updState = usAPPLYING ∧ (s 5).blk.sessions = [] ∧
      (s 5).blk.rd Obj.UpdateStatus.InService ≤ 1) := by decide
theorem witness_grave_update : (updating 0 [] (fun b => { b with faults := { b.faults with grave := true } })).blk.inGrave = true := by decide
theorem witness_payload : (runPatch (fun _ => 0) 0 0 2 [0xFF, 0, 0, 0, 0, 0, 0, 0, 0, 0, 0, 0] []).2 = true ∧ ∀ a, Memory.flashByte (updating 5).flash a = 0xFF := by
  refine ⟨by decide, fun _ => rfl⟩

end Sys2Proof.Tests
end

section
/-! PROOFS. What every operation of a tick and of a cycle leaves of Glade. -/

namespace Sys2Proof.Machine
namespace Block

/-! ### What leaves Glade as it was: branches and folds -/

@[simp] theorem ite_glade (p : Prop) [Decidable p] (x y : Block) : (if p then x else y).glade = if p then x.glade else y.glade :=
  apply_ite (·.glade) p x y

@[simp] theorem foldl_glade {α : Type} (g : Block → α → Block) (h : ∀ b x, (g b x).glade = b.glade) (l : List α) (b : Block) :
    (l.foldl g b).glade = b.glade := by
  induction l generalizing b with
  | nil => rfl
  | cons x r ih => rw [List.foldl_cons, ih, h]

@[simp] theorem foldl_snd_glade {α β : Type} (g : β × Block → α → β × Block) (h : ∀ r x, (g r x).2.glade = r.2.glade) (l : List α)
    (r : β × Block) : (l.foldl g r).2.glade = r.2.glade := by
  induction l generalizing r with
  | nil => rfl
  | cons x t ih => rw [List.foldl_cons, ih, h]

/-! ### Reports, records and stores -/

@[simp] theorem swapImages_glade (b : Block) : b.swapImages.glade = b.glade := by simp [swapImages]
@[simp] theorem wrFree_glade (b : Block) (w key : Nat) : (b.wrFree w key).glade = b.glade := by simp [wrFree]
@[simp] theorem reportInjected_glade (b : Block) (src inst : Nat) (detail : List Int) :
    (b.reportInjected src inst detail).glade = b.glade := by simp [reportInjected]
@[simp] theorem raise_glade (b : Block) (src inst : Nat) (detail : List Int) (injected : Bool) :
    (b.raise src inst detail injected).glade = b.glade := by simp [raise]
@[simp] theorem condition_glade (b : Block) (src inst : Nat) (p : Bool) (detail : List Int) (injected : Bool) :
    (b.condition src inst p detail injected).glade = b.glade := by simp [condition]
@[simp] theorem send_glade (b : Block) (kind : Nat) (ref : List Nat) : (b.send kind ref).glade = b.glade := by simp [send]
@[simp] theorem nextEvent_glade (b : Block) : b.nextEvent.glade = b.glade := by simp [nextEvent]
@[simp] theorem ringsStatus_glade (b : Block) : b.ringsStatus.glade = b.glade := by simp [ringsStatus]
@[simp] theorem overwritten_glade (b : Block) (t : Nat) (r : Rec) : (b.overwritten t r).glade = b.glade := by simp [overwritten]
@[simp] theorem flushTrigger_glade (b : Block) : b.flushTrigger.glade = b.glade := by simp [flushTrigger]
@[simp] theorem fillTrigger_glade (b : Block) : b.fillTrigger.glade = b.glade := by simp [fillTrigger]
@[simp] theorem loseRecord_glade (b : Block) : b.loseRecord.glade = b.glade := by simp [loseRecord]
@[simp] theorem bufferRec_glade (b : Block) (r : Rec) : (b.bufferRec r).glade = b.glade := by
  unfold bufferRec
  extract_lets b1 old b2
  have h1 : b1.glade = b.glade := by simp [b1]
  have h2 : b2.glade = b.glade := by
    simp only [b2]
    clear_value old
    split
    · split <;> simp [h1]
    · exact h1
  simp [h2]
@[simp] theorem pushRec_glade (b : Block) (r : Rec) : (b.pushRec r).glade = b.glade := by
  unfold pushRec
  split <;> simp
@[simp] theorem writeRec_glade (b : Block) (n : NewRec) (flags : Nat) : (b.writeRec n flags).glade = b.glade := by simp [writeRec]
@[simp] theorem append_glade (b : Block) (n : NewRec) : (b.append n).glade = b.glade := by simp [append]
@[simp] theorem putHeartwood_glade (b : Block) (a : Nat) (bytes : List Nat) :
    (b.putHeartwood a bytes).glade = b.glade := by simp [putHeartwood]
@[simp] theorem closeRows_glade (b : Block) (a n : Nat) : (b.closeRows a n).glade = b.glade := by simp [closeRows]
@[simp] theorem storeSet_glade (b : Block) (n : Nat) (c : Copy) : (b.storeSet n c).glade = b.glade := by simp [storeSet]
@[simp] theorem storeKeys_glade (b : Block) (n : Nat) (keys : List Nat) : (b.storeKeys n keys).glade = b.glade := by simp [storeKeys]
@[simp] theorem record_glade (b : Block) (code : Nat) (data : List Nat) : (b.record code data).glade = b.glade := by simp [record]

/-! ### Glade, actions and Canopy -/

@[simp] theorem setQualified_glade (b : Block) (src : Nat) (on : Bool) : (b.setQualified src on).glade = b.glade := by simp [setQualified]
@[simp] theorem enterHoldover_glade (b : Block) : b.enterHoldover.glade = b.glade := by simp [enterHoldover]
@[simp] theorem enterSlew_glade (b : Block) (src : Nat) (err : Int) : (b.enterSlew src err).glade = b.glade := by simp [enterSlew]
@[simp] theorem actionCounts_glade (b : Block) : b.actionCounts.glade = b.glade := by simp [actionCounts]
@[simp] theorem addEntry_glade (b : Block) (h : Nat) (a : Action) : (b.addEntry h a).glade = b.glade := by simp [addEntry]
@[simp] theorem completeEntry_glade (b : Block) (h : Nat) (a : Action) (outcome : Nat) (extra : List Nat) (ago : Option Nat) :
    (b.completeEntry h a outcome extra ago).glade = b.glade := by simp [completeEntry]
@[simp] theorem reserve_glade (b : Block) (op kind target arg lead angle : Nat) :
    (b.reserve op kind target arg lead angle).glade = b.glade := by simp [reserve]
@[simp] theorem renumberActions_glade (b : Block) : b.renumberActions.glade = b.glade := by simp [renumberActions]
@[simp] theorem pinCounts_glade (b : Block) : b.pinCounts.glade = b.glade := by simp [pinCounts]
@[simp] theorem capture_glade (b : Block) : b.capture.glade = b.glade := by simp [capture]
@[simp] theorem agePins_glade (b : Block) : b.agePins.glade = b.glade := by simp [agePins]
@[simp] theorem overlay_glade (b : Block) (ws : List (Nat × List Nat)) : (b.overlay ws).glade = b.glade := by simp [overlay]
@[simp] theorem stagingCounts_glade (b : Block) : b.stagingCounts.glade = b.glade := by simp [stagingCounts]
@[simp] theorem bundleDone_glade (b : Block) (x : Bundle) (st reason key : Nat) :
    (b.bundleDone x st reason key).glade = b.glade := by simp [bundleDone]
@[simp] theorem lineLost_glade (b : Block) (n : Nat) : (b.lineLost n).glade = b.glade := by
  unfold lineLost
  split
  case h_6 => dsimp only; split <;> simp
  all_goals rfl
@[simp] theorem lineError_glade (b : Block) (n err : Nat) : (b.lineError n err).glade = b.glade := by
  unfold lineError
  split <;> simp
@[simp] theorem readLine_glade (b : Block) (n err : Nat) : (b.readLine n err).glade = b.glade := by simp [readLine]
@[simp] theorem scrubTick_glade (b : Block) (err : Nat) : (b.scrubTick err).glade = b.glade := by simp [scrubTick]
@[simp] theorem restoreConfig_glade (b : Block) : b.restoreConfig.glade = b.glade := by simp [restoreConfig]
@[simp] theorem cycleDigest_glade (b : Block) : b.cycleDigest.glade = b.glade := by simp [cycleDigest]

/-! ### Stage links -/

@[simp] theorem startShot_glade (b : Block) (p : Nat) : (b.startShot p).glade = b.glade := by simp [startShot]
@[simp] theorem shotEntry_glade (b : Block) (h outcome ago : Nat) : (b.shotEntry h outcome ago).glade = b.glade := by
  unfold shotEntry
  split <;> simp
@[simp] theorem endShot_glade (b : Block) (p outcome : Nat) : (b.endShot p outcome).glade = b.glade := by
  simp only [endShot]
  split
  · simp
  · split <;> simp
@[simp] theorem failShots_glade (b : Block) (p : Nat) : (b.failShots p).glade = b.glade := by simp [failShots]
@[simp] theorem fireShot_glade (b : Block) (p op : Nat) (handle : Option Nat) :
    (b.fireShot p op handle).glade = b.glade := by simp [fireShot]
@[simp] theorem cfgFront_glade (b : Block) (p : Nat) : (b.cfgFront p).glade = b.glade := by
  unfold cfgFront
  split <;> simp
@[simp] theorem cfgWrite_glade (b : Block) (p addr data : Nat) : (b.cfgWrite p addr data).glade = b.glade := by simp [cfgWrite]
@[simp] theorem sent_glade (b : Block) (p : Nat) (retry fresh : Bool) (f : Frame) :
    (b.sent p retry fresh f).glade = b.glade := by simp [sent]
@[simp] theorem portTickStart_glade (b : Block) (p : Nat) : (b.portTickStart p).glade = b.glade := by
  unfold portTickStart
  extract_lets b1 b2
  have h1 : b1.glade = b.glade := by simp [b1]
  have h2 : b2.glade = b.glade := by simp [b2, h1]
  clear_value b1 b2
  split
  · exact h1
  · split
    · simp [h2]
    · split <;> simp [h2]
@[simp] theorem judgeShot_glade (b : Block) (p : Nat) (r : Received) : (b.judgeShot p r).glade = b.glade := by simp [judgeShot]
@[simp] theorem tryEnter_glade (b : Block) (p : Nat) (final : Bool) : (b.tryEnter p final).glade = b.glade := by
  simp only [tryEnter]
  split
  · simp
  · split <;> simp
@[simp] theorem enterSamples_glade (b : Block) (p : Nat) : (b.enterSamples p).glade = b.glade := by
  simp only [enterSamples]
  split <;> simp
@[simp] theorem causeStep_glade (b : Block) (p : Nat) : (b.causeStep p).glade = b.glade := by
  simp only [causeStep]
  split <;> simp
@[simp] theorem tickCounts_glade (b : Block) (p : Nat) : (b.tickCounts p).glade = b.glade := by simp [tickCounts]
@[simp] theorem injectStep_glade (b : Block) (p : Nat) : (b.injectStep p).glade = b.glade := by simp [injectStep]
@[simp] theorem linkTickStart_glade (b : Block) : b.linkTickStart.glade = b.glade := by simp [linkTickStart]
@[simp] theorem linkCycle_glade (b : Block) : b.linkCycle.glade = b.glade := by simp [linkCycle]

/-! ### Groups and their law -/

@[simp] theorem switchWords_glade (b : Block) (p mode offset : Nat) (iref : Int) (charge : Bool) (ival : Nat) :
    (b.switchWords p mode offset iref charge ival).2.glade = b.glade := by simp [switchWords]
@[simp] theorem setWords_glade (b : Block) (p : Nat) (w : List Nat) : (b.setWords p w).glade = b.glade := by simp [setWords]
@[simp] theorem offPhase_glade (b : Block) (p : Nat) : (b.offPhase p).glade = b.glade := by simp [offPhase]
@[simp] theorem setRole_glade (b : Block) (u : List Nat) (r : Nat) : (b.setRole u r).glade = b.glade :=
  foldl_glade _ (fun _ _ => wr_glade _ _ _) _ _
@[simp] theorem showRunCycles_glade (b : Block) (p : Nat) : (b.showRunCycles p).glade = b.glade := by simp [showRunCycles]
@[simp] theorem sumTick_glade (b : Block) (p : Nat) : (b.sumTick p).glade = b.glade := by simp [sumTick]
@[simp] theorem putAllocation_glade (b : Block) (f a state : Nat) : (b.putAllocation f a state).glade = b.glade := by simp [putAllocation]
@[simp] theorem capNotice_glade (b : Block) (f bit old new : Nat) : (b.capNotice f bit old new).glade = b.glade := by simp [capNotice]
@[simp] theorem contingency_glade (b : Block) (g : Nat) : (b.contingency g).glade = b.glade := by simp [contingency]
@[simp] theorem scaleCaps_glade (b : Block) (g after before : Nat) : (b.scaleCaps g after before).glade = b.glade :=
  foldl_glade _ (fun _ _ => wrN_glade _ _ _) _ _
@[simp] theorem assignRoles_glade (b : Block) (g : Nat) : (b.assignRoles g).glade = b.glade := by simp [assignRoles]
@[simp] theorem bringIn_glade (b : Block) (g : Nat) (u : List Nat) : (b.bringIn g u).glade = b.glade := by simp [bringIn]
@[simp] theorem replaceOne_glade (b : Block) (g lost : Nat) : (b.replaceOne g lost).glade = b.glade := by
  unfold replaceOne
  split <;> simp
@[simp] theorem roleStep_glade (b : Block) (g : Nat) : (b.roleStep g).glade = b.glade := by simp [roleStep]
@[simp] theorem raiseShort_glade (b : Block) (g : Nat) : (b.raiseShort g).glade = b.glade := by
  rw [raiseShort, contingency_glade, condition_glade, setGroup_glade]
@[simp] theorem groupOff_glade (b : Block) (g : Nat) : (b.groupOff g).glade = b.glade := by simp [groupOff]
@[simp] theorem groupStop_glade (b : Block) (g state : Nat) : (b.groupStop g state).glade = b.glade := by
  simp only [groupStop]
  split <;> simp
@[simp] theorem startFail_glade (b : Block) (g src : Nat) : (b.startFail g src).glade = b.glade := by simp [startFail]
@[simp] theorem startStep1_glade (b : Block) (g : Nat) : (b.startStep1 g).glade = b.glade := by simp [startStep1]
@[simp] theorem groupStart_glade (b : Block) (g : Nat) : (b.groupStart g).glade = b.glade := by simp [groupStart]
@[simp] theorem thinRecord_glade (b : Block) (g src : Nat) (u : List Nat) : (b.thinRecord g src u).glade = b.glade := by simp [thinRecord]
@[simp] theorem thin_glade (b : Block) (g : Nat) (ig : Int) (minRun : Nat) : (b.thin g ig minRun).2.glade = b.glade := by simp [thin]
@[simp] theorem swapUnit_glade (b : Block) (g : Nat) (run : List (List Nat)) : (b.swapUnit g run).2.glade = b.glade := by
  simp only [swapUnit]
  split
  · simp
  · split <;> simp
@[simp] theorem writePhases_glade (b : Block) (g : Nat) (run : List Nat) (md : Nat) (ig vfb : Int) (charge : Bool) :
    (b.writePhases g run md ig vfb charge).glade = b.glade := by
  simp only [writePhases, wrN_glade]
  refine foldl_glade _ (fun b p => ?_) _ _
  split <;> simp
@[simp] theorem showGroup_glade (b : Block) (g : Nat) : (b.showGroup g).glade = b.glade := by simp [showGroup]
@[simp] theorem feedsCarry_glade (b : Block) (run : List Nat) : (b.feedsCarry run).glade = b.glade := by simp [feedsCarry]
@[simp] theorem senseStep_glade (b : Block) (g : Nat) : (b.senseStep g).2.glade = b.glade := by
  unfold senseStep
  split <;> simp
@[simp] theorem lawTick_glade (b : Block) (g : Nat) : (b.lawTick g).glade = b.glade := by
  unfold lawTick
  split
  next fb b1 hs =>
    have h1 : b1.glade = b.glade := by simpa [hs] using senseStep_glade b g
    extract_lets x ovw
    split
    next ig iint b2 h2 =>
      have h2 : b2.glade = b.glade := by
        cases fb with
        | none => cases h2; exact h1
        | some v => cases h2; exact (condition_glade _ _ _ _ _ _).trans h1
      extract_lets _ b3
      have h3 : b3.glade = b.glade := h2
      clear_value b3
      split
      next run md b4 h4 =>
        have h4 : b4.glade = b.glade := by
          split at h4
          · obtain ⟨-, -, h4⟩ : _ ∧ _ ∧ b3 = b4 := by simpa only [Prod.mk.injEq] using h4
            rw [← h4, h3]
          · obtain ⟨-, -, h4⟩ : _ ∧ _ ∧ _ = b4 := by simpa only [Prod.mk.injEq] using h4
            rw [← h4, swapUnit_glade, thin_glade, h3]
        extract_lets run' b5
        rw [showGroup_glade, writePhases_glade]
        simp only [b5]
        split
        · rw [feedsCarry_glade, h4]
        · exact h4
@[simp] theorem recIdle_glade (b : Block) (g : Nat) : (b.recIdle g).glade = b.glade := by simp [recIdle]
@[simp] theorem armPhases_glade (b : Block) (g n : Nat) : (b.armPhases g n).glade = b.glade := by
  refine foldl_glade _ (fun b p => ?_) _ _
  split
  · rw [modPort_glade, switchWords_glade]
  · rfl
@[simp] theorem chargeTick_glade (b : Block) (g n : Nat) (v : Option Int) : (b.chargeTick g n v).glade = b.glade := by simp [chargeTick]
@[simp] theorem batTick_glade (b : Block) (g : Nat) : (b.batTick g).glade = b.glade := by
  unfold batTick
  split
  · rfl
  · split
    next v b1 hs =>
      have h1 : b1.glade = b.glade := by simpa [hs] using senseStep_glade b g
      extract_lets x all vstr ig b0 b2
      have h2 : b2.glade = b.glade := by
        simp only [b2]
        split <;> simp [b0, h1]
      rw [showGroup_glade, armPhases_glade, h2]

/-! ### Mains and hold-up -/

@[simp] theorem disturb_glade (b : Block) (f code lines : Nat) (extreme : Int) (duration : Nat) :
    (b.disturb f code lines extreme duration).glade = b.glade := by
  unfold disturb
  extract_lets b1 x b2 st b3
  have h2 : b2.glade = b.glade := by simp only [b2, b1, setMf_glade, bump_glade, wrs_glade]
  clear_value b2
  simp [b3, h2]
@[simp] theorem feedLost_glade (b : Block) (f : Nat) : (b.feedLost f).glade = b.glade := by simp [feedLost]
@[simp] theorem fireTrigger_glade (b : Block) (cause : Nat) : (b.fireTrigger cause).glade = b.glade := by simp [fireTrigger]
@[simp] theorem checkCapacity_glade (b : Block) (lost : Bool) : (b.checkCapacity lost).glade = b.glade := by simp [checkCapacity]
@[simp] theorem checkBusLow_glade (b : Block) : b.checkBusLow.glade = b.glade := by simp [checkBusLow]
@[simp] theorem loseFeed_glade (b : Block) (f code lines : Nat) (extreme : Int) (duration : Nat) :
    (b.loseFeed f code lines extreme duration).glade = b.glade := by simp [loseFeed]
@[simp] theorem notchTick_glade (b : Block) (f m : Nat) : (b.notchTick f m).glade = b.glade := by simp [notchTick]
@[simp] theorem beginQualify_glade (b : Block) (f m : Nat) : (b.beginQualify f m).glade = b.glade := by simp [beginQualify]
@[simp] theorem mainsFeedTick_glade (b : Block) (f : Nat) : (b.mainsFeedTick f).glade = b.glade := by simp [mainsFeedTick]
@[simp] theorem mainsTickEnd_glade (b : Block) : b.mainsTickEnd.glade = b.glade := by simp [mainsTickEnd]
@[simp] theorem mainsFeedCycle_glade (b : Block) (f : Nat) : (b.mainsFeedCycle f).glade = b.glade := by simp [mainsFeedCycle]
@[simp] theorem cycleClasses_glade (b : Block) (f : Nat) (before : List Int) :
    (b.cycleClasses f before).glade = b.glade := by simp [cycleClasses]
@[simp] theorem applyMains_glade (b : Block) : b.applyMains.glade = b.glade := by simp [applyMains]
@[simp] theorem preferStep_glade (b : Block) : b.preferStep.glade = b.glade := by
  unfold preferStep
  split <;> simp
@[simp] theorem mainsCycle_glade (b : Block) : b.mainsCycle.glade = b.glade := by simp [mainsCycle]
@[simp] theorem leaveSupport_glade (b : Block) : b.leaveSupport.glade = b.glade := by simp [leaveSupport]
@[simp] theorem supportEnd_glade (b : Block) : b.supportEnd.glade = b.glade := by simp [supportEnd]
@[simp] theorem takeArmed_glade (b : Block) : b.takeArmed.glade = b.glade := by simp [takeArmed]
@[simp] theorem dipTick_glade (b : Block) : b.dipTick.glade = b.glade := by simp [dipTick]
@[simp] theorem supportLaw_glade (b : Block) (v : Option Int) : (b.supportLaw v).glade = b.glade := by simp [supportLaw]
@[simp] theorem holdupTick_glade (b : Block) : b.holdupTick.glade = b.glade := by simp [holdupTick]
@[simp] theorem mainsCommitted_glade (b : Block) (keys : List Nat) : (b.mainsCommitted keys).glade = b.glade := by simp [mainsCommitted]

/-! ### Measurement -/

@[simp] theorem discardAvg_glade (b : Block) (c : Nat) : (b.discardAvg c).glade = b.glade := by simp [discardAvg]
@[simp] theorem calBoundary_glade (b : Block) (settling : Bool) (c : Nat) :
    (b.calBoundary settling c).glade = b.glade := by simp [calBoundary]
@[simp] theorem measClose_glade (b : Block) : b.measClose.glade = b.glade := by simp [measClose]
@[simp] theorem measOpen_glade (b : Block) : b.measOpen.glade = b.glade := by simp [measOpen]
@[simp] theorem measTick_glade (b : Block) : b.measTick.glade = b.glade := by simp [measTick]
@[simp] theorem measCommitted_glade (b : Block) (keys : List Nat) : (b.measCommitted keys).glade = b.glade := by simp [measCommitted]
@[simp] theorem measRenumbered_glade (b : Block) : b.measRenumbered.glade = b.glade := by simp [measRenumbered]

/-! ### Strings -/

@[simp] theorem stringEvent_glade (b : Block) (n bit : Nat) : (b.stringEvent n bit).glade = b.glade := by simp [stringEvent]
@[simp] theorem showInhibit_glade (b : Block) (n : Nat) : (b.showInhibit n).glade = b.glade := by simp [showInhibit]
@[simp] theorem leaveSet_glade (b : Block) (n : Nat) : (b.leaveSet n).glade = b.glade := by
  simp only [leaveSet]
  split <;> simp
@[simp] theorem showWeights_glade (b : Block) : b.showWeights.glade = b.glade :=
  foldl_glade _ (fun _ _ => wr_glade _ _ _) _ _
@[simp] theorem supportTick_glade (b : Block) : b.supportTick.glade = b.glade := by simp [supportTick]
@[simp] theorem abandonTest_glade (b : Block) (n : Nat) : (b.abandonTest n).glade = b.glade := by simp [abandonTest]
@[simp] theorem setIdentity_glade (b : Block) (n v : Nat) : (b.setIdentity n v).glade = b.glade := by simp [setIdentity]
@[simp] theorem authDue_glade (b : Block) (n : Nat) : (b.authDue n).glade = b.glade := by simp [authDue]
@[simp] theorem cutoffTick_glade (b : Block) (n : Nat) : (b.cutoffTick n).glade = b.glade := by
  unfold cutoffTick
  split <;> simp
@[simp] theorem setMode_glade (b : Block) (n v : Nat) : (b.setMode n v).glade = b.glade := by
  simp only [setMode]
  split
  · simp
  · split <;> simp
@[simp] theorem stringBoundary_glade (b : Block) (n : Nat) : (b.stringBoundary n).glade = b.glade := by
  unfold stringBoundary
  split
  · rfl
  · extract_lets x lim b1 b2 b3 y c b4 b5 z b6
    have h2 : b2.glade = b.glade := by simp [b1, b2]
    clear_value b2
    have h3 : b3.glade = b.glade := by
      simp only [b3]
      split
      · simp [h2]
      · split <;> simp [h2]
    clear_value b3
    have h4 : b4.glade = b.glade := by simp [b4, c, h3]
    clear_value b4
    have h5 : b5.glade = b.glade := by simp [b5, h4]
    clear_value b5
    split
    · split
      · simp [b6, h5]
      · simp [b6, h5]
    · exact h5
@[simp] theorem stringsBoundary_glade (b : Block) : b.stringsBoundary.glade = b.glade := by simp [stringsBoundary]
@[simp] theorem stringsTick_glade (b : Block) : b.stringsTick.glade = b.glade := by simp [stringsTick]
@[simp] theorem stringsCommitted_glade (b : Block) : b.stringsCommitted.glade = b.glade := by simp [stringsCommitted]

/-! ### Feeds -/

@[simp] theorem feedWords_glade (b : Block) (p f : Nat) : (b.feedWords p f).glade = b.glade := by simp [feedWords]
@[simp] theorem capMove_glade (b : Block) (f st : Nat) : (b.capMove f st).glade = b.glade := by simp [capMove]
@[simp] theorem setFeedState_glade (b : Block) (f st : Nat) : (b.setFeedState f st).glade = b.glade := by simp [setFeedState]
@[simp] theorem openFeed_glade (b : Block) (p f cause st : Nat) : (b.openFeed p f cause st).glade = b.glade := by
  simp only [openFeed]
  split <;> simp
@[simp] theorem tripFeed_glade (b : Block) (p f cause : Nat) : (b.tripFeed p f cause).glade = b.glade := by simp [tripFeed]
@[simp] theorem suspectFeed_glade (b : Block) (p f cause : Nat) : (b.suspectFeed p f cause).glade = b.glade := by simp [suspectFeed]
@[simp] theorem closeFrame_glade (b : Block) (p f : Nat) : (b.closeFrame p f).glade = b.glade := by simp [closeFrame]
@[simp] theorem closeFeed_glade (b : Block) (p f : Nat) : (b.closeFeed p f).glade = b.glade := by simp [closeFeed]
@[simp] theorem feedHead_glade (b : Block) (p f : Nat) : (b.feedHead p f).glade = b.glade := by simp [feedHead]
@[simp] theorem resetRetries_glade (b : Block) (f : Nat) : (b.resetRetries f).glade = b.glade := by simp [resetRetries]
@[simp] theorem feedCloseAct_glade (b : Block) (f : Nat) (sequence : Bool) : (b.feedCloseAct f sequence).glade = b.glade := by
  unfold feedCloseAct
  split
  · rfl
  · dsimp only
    split
    · split <;> simp
    · simp
    · split <;> simp
    all_goals simp
/-- The block after a step of the curve is the block before it, or the block with a value drawn (R280). The definition is unfolded as a
function: on its arguments the kernel would compute with the rating in nA. -/
theorem curveStep_cases (Q : Nat × Block → Prop) (b : Block) (f i : Nat) (same : ∀ n, Q (n, b)) (drawn : ∀ n, Q (n, (b.draw 32).2)) :
    Q (b.curveStep f i) := by
  generalize h : curveStep = step
  delta curveStep at h
  subst h
  generalize curveTime = time
  beta_reduce
  extract_lets rated acc d
  clear_value rated
  split
  next num den c hc =>
    have hQ : ∀ n, Q (n, c) := by
      split at hc
      · cases hc; exact drawn
      · split at hc <;> (cases hc; exact same)
    split <;> exact hQ _
@[simp] theorem curveStep_glade (b : Block) (f i : Nat) : (b.curveStep f i).2.glade = b.glade :=
  curveStep_cases (·.2.glade = b.glade) b f i (fun _ => rfl) (fun _ => rfl)
@[simp] theorem feedSense_glade (b : Block) (p f : Nat) : (b.feedSense p f).glade = b.glade := by
  simp only [feedSense, wrN_glade, setFeed_glade]
  split
  · simp
  · split <;> simp
@[simp] theorem closeDone_glade (b : Block) (p f : Nat) : (b.closeDone p f).glade = b.glade := by simp [closeDone]
@[simp] theorem causeOpens_glade (b : Block) (p f : Nat) : (b.causeOpens p f).glade = b.glade := by
  simp only [causeOpens]
  split <;> simp
@[simp] theorem resumeFeed_glade (b : Block) (p f : Nat) : (b.resumeFeed p f).glade = b.glade := by
  unfold resumeFeed
  extract_lets x y trip b1
  split
  · rfl
  · have h1 : b1.glade = b.glade := by
      simp only [b1, trip]
      split
      · split <;> simp
      · simp
    simp [h1]
@[simp] theorem feedTick_glade (b : Block) (p : Nat) : (b.feedTick p).glade = b.glade := by
  unfold feedTick
  extract_lets f b1 st run ran x b2 c b3
  have h1 : b1.glade = b.glade := feedSense_glade b p f
  have h2 : b2.glade = b.glade := (setFeed_glade _ _ _).trans h1
  clear_value b2 st
  have h3 : b3.glade = b.glade := by
    simp only [b3, c]
    split
    · simp [h2]
    · split
      · exact h2
      · split <;> simp [h2]
  rw [wrN_glade, feedWords_glade, h3]
@[simp] theorem feedsTick_glade (b : Block) : b.feedsTick.glade = b.glade := by simp [feedsTick]
@[simp] theorem feedsTickEnd_glade (b : Block) : b.feedsTickEnd.glade = b.glade := by simp [feedsTickEnd]
@[simp] theorem feedsCycle_glade (b : Block) : b.feedsCycle.glade = b.glade := by simp [feedsCycle]
@[simp] theorem feedsCommitted_glade (b : Block) (keys : List Nat) : (b.feedsCommitted keys).glade = b.glade := by simp [feedsCommitted]

/-! ### Supply, allocation and sequences -/

@[simp] theorem supplyBoundary_glade (b : Block) : b.supplyBoundary.glade = b.glade :=
  foldl_glade _ (fun _ _ => setGroup_glade _ _ _) _ _
@[simp] theorem applyAllocation_glade (b : Block) : (b.applyAllocation).2.glade = b.glade := by
  unfold applyAllocation
  refine (foldl_snd_glade _ (fun r e => ?_) _ _).trans (foldl_glade _ (fun b e => ?_) _ _)
  · dsimp only
    split
    · dsimp only
      split <;> simp
    · rfl
  · rw [wrI_glade, modPort_glade]
@[simp] theorem shortDone_glade (b : Block) : b.shortDone.glade = b.glade :=
  foldl_glade _ (fun _ _ => setGroup_glade _ _ _) _ _
@[simp] theorem setSeqState_glade (b : Block) (q v : Nat) : (b.setSeqState q v).glade = b.glade := by simp [setSeqState]
@[simp] theorem showMembers_glade (b : Block) (q : Nat) : (b.showMembers q).glade = b.glade :=
  (foldl_glade _ (fun _ _ => wr_glade _ _ _) _ _).trans (wr_glade _ _ _)
@[simp] theorem cancelRetry_glade (b : Block) (q : Nat) : (b.cancelRetry q).glade = b.glade := by simp [cancelRetry]
@[simp] theorem seqClear_glade (b : Block) (q : Nat) : (b.seqClear q).glade = b.glade := by simp [seqClear]
@[simp] theorem seqStop_glade (b : Block) (q : Nat) : (b.seqStop q).glade = b.glade := by simp [seqStop]
@[simp] theorem showStart_glade (b : Block) (q epoch cycle angle : Nat) :
    (b.showStart q epoch cycle angle).glade = b.glade := by simp [showStart]
@[simp] theorem seqDownRun_glade (b : Block) (q state epoch cycle angle : Nat) :
    (b.seqDownRun q state epoch cycle angle).glade = b.glade := by simp [seqDownRun]
@[simp] theorem setStatus_glade (b : Block) (q : Nat) (m : Member) (v : Nat) : (b.setStatus q m v).glade = b.glade := by simp [setStatus]
@[simp] theorem memberFail_glade (b : Block) (q : Nat) (m : Member) (reason : Nat) :
    (b.memberFail q m reason).glade = b.glade := by simp [memberFail]
@[simp] theorem feedOff_glade (b : Block) (f : Nat) : (b.feedOff f).glade = b.glade := by
  unfold feedOff
  split
  · simp
  · split <;> simp
@[simp] theorem memberOff_glade (b : Block) (m : Member) : (b.memberOff m).glade = b.glade := by simp [memberOff]
@[simp] theorem settleForced_glade (b : Block) (q f : Nat) : (b.settleForced q f).glade = b.glade := by simp [settleForced]
@[simp] theorem memberTick_glade (b : Block) (q : Nat) (m : Member) : (b.memberTick q m).glade = b.glade := by simp [memberTick]
@[simp] theorem seqTick_glade (b : Block) (q : Nat) : (b.seqTick q).glade = b.glade := by simp [seqTick]
@[simp] theorem emptyGroup_glade (b : Block) (g : Nat) : (b.emptyGroup g).glade = b.glade := by simp [emptyGroup]
@[simp] theorem sequencesTick_glade (b : Block) : b.sequencesTick.glade = b.glade := by simp [sequencesTick]
@[simp] theorem forcedDown_glade (b : Block) (fs : List Nat) (why : Nat) : (b.forcedDown fs why).glade = b.glade := by
  unfold forcedDown
  split
  · rfl
  · refine (foldl_glade _ (fun b e => ?_) _ _).trans ?_
    · split
      · rfl
      · rw [setSeq_glade, foldl_glade]
        intro b m
        rw [settleForced_glade, memberOff_glade]
    · rw [foldl_glade _ feedOff_glade, report_glade]
@[simp] theorem downRequests_glade (b : Block) : b.downRequests.glade = b.glade := by simp [downRequests]
@[simp] theorem takeSnapshot_glade (b : Block) (q : Nat) (f : SeqFail) (l : List Member) : (b.takeSnapshot q f l).2.glade = b.glade := by
  simp only [takeSnapshot]
  split
  · simp
  · split <;> simp
@[simp] theorem patchSnapshot_glade (b : Block) (q : Nat) : (b.patchSnapshot q).glade = b.glade := by
  simp only [patchSnapshot]
  split
  · simp
  · split <;> simp
@[simp] theorem patchSnapshots_glade (b : Block) : b.patchSnapshots.glade = b.glade := by simp [patchSnapshots]
@[simp] theorem seqClose_glade (b : Block) (q : Nat) : (b.seqClose q).glade = b.glade := by simp [seqClose]
@[simp] theorem seqUndo_glade (b : Block) (q : Nat) : (b.seqUndo q).glade = b.glade := by
  unfold seqUndo
  split <;> simp
@[simp] theorem seqUndone_glade (b : Block) (q : Nat) : (b.seqUndone q).glade = b.glade := by simp [seqUndone]
@[simp] theorem seqApply_glade (b : Block) (q code : Nat) : (b.seqApply q code).glade = b.glade := by simp [seqApply]
@[simp] theorem abortEnds_glade (b : Block) (kind target result : Nat) : (b.abortEnds kind target result).glade = b.glade := by
  refine foldl_glade _ (fun b e => ?_) _ _
  split
  · split
    · rw [wrs_glade, setSess_glade]
    · rfl
  · rfl
@[simp] theorem seqAbort_glade (b : Block) (q : Nat) : (b.seqAbort q).glade = b.glade := by
  unfold seqAbort
  split <;> simp
@[simp] theorem sequencesBoundary_glade (b : Block) : b.sequencesBoundary.glade = b.glade := by simp [sequencesBoundary]
@[simp] theorem sequencesCommitted_glade (b : Block) (keys : List Nat) :
    (b.sequencesCommitted keys).glade = b.glade := by simp [sequencesCommitted]

/-! ### Faults -/

@[simp] theorem rootRecord_glade (b : Block) (r : Root) (close : Bool) : (b.rootRecord r close).glade = b.glade := by simp [rootRecord]
@[simp] theorem modRoot_glade (b : Block) (n : Nat) (f : Root → Root) : (b.modRoot n f).glade = b.glade := by simp [modRoot]
@[simp] theorem tableRoot_glade (b : Block) (r : Root) : (b.tableRoot r).glade = b.glade := by
  simp only [tableRoot]
  split
  · simp
  · split <;> simp
@[simp] theorem giveReaction_glade (b : Block) (r : Root) : (b.giveReaction r).2.glade = b.glade := by
  unfold giveReaction
  split <;> simp
@[simp] theorem createRoot_glade (b : Block) (rep : Report) : (b.createRoot rep).glade = b.glade := by simp [createRoot]
@[simp] theorem closeWindow_glade (b : Block) (c : Nat) (w : Window) : (b.closeWindow c w).glade = b.glade := by simp [closeWindow]
@[simp] theorem joinRoot_glade (b : Block) (rep : Report) (w : Window) : (b.joinRoot rep w).glade = b.glade := by
  simp only [joinRoot]
  split <;> simp
@[simp] theorem linkReport_glade (b : Block) (rep : Report) (w : Firebreak) : (b.linkReport rep w).glade = b.glade := by simp [linkReport]
@[simp] theorem collect_glade (b : Block) (rep : Report) : (b.collect rep).glade = b.glade := by
  simp only [collect]
  split
  · simp
  · split
    · simp
    · split <;> simp
@[simp] theorem faultResult_glade (b : Block) (n v : Nat) : (b.faultResult n v).glade = b.glade := by simp [faultResult]
@[simp] theorem freeRoot_glade (b : Block) (seat n : Nat) : (b.freeRoot seat n).glade = b.glade := by simp [freeRoot]
@[simp] theorem serveFault_glade (b : Block) (c : FaultCmd) : (b.serveFault c).glade = b.glade := by
  unfold serveFault
  split
  · simp
  · exact foldl_glade _ (fun _ _ => by rw [send_glade, freeRoot_glade]) _ _
  · split
    · simp
    · dsimp only; split <;> simp
  · simp
@[simp] theorem decideRoot_glade (b : Block) (r : Root) : (b.decideRoot r).glade = b.glade := by simp [decideRoot]
@[simp] theorem dropUntabled_glade (b : Block) : b.dropUntabled.glade = b.glade := by simp [dropUntabled]
@[simp] theorem faultCounts_glade (b : Block) : b.faultCounts.glade = b.glade := by simp [faultCounts]

/-! ### The pair -/

@[simp] theorem armed_glade (b : Block) : b.armed.glade = b.glade := by simp [armed]
@[simp] theorem requestsDone_glade (b : Block) (f : Reply → Reply) : (b.requestsDone f).glade = b.glade := by simp [requestsDone]
@[simp] theorem unshadow_glade (b : Block) (keys : List Nat) : (b.unshadow keys).glade = b.glade := by simp [unshadow]
@[simp] theorem findUnshadowed_glade (b : Block) : b.findUnshadowed.glade = b.glade := by simp [findUnshadowed]
@[simp] theorem startResync_glade (b : Block) : b.startResync.glade = b.glade := by simp [startResync]
@[simp] theorem advanceGeneration_glade (b : Block) (g : Nat) : (b.advanceGeneration g).glade = b.glade := by simp [advanceGeneration]
@[simp] theorem drillTick_glade (b : Block) : b.drillTick.glade = b.glade := by simp [drillTick]
@[simp] theorem pairTickEnd_glade (b : Block) : b.pairTickEnd.glade = b.glade := by simp [pairTickEnd]
@[simp] theorem seatLinks_glade (b : Block) (both : Nat) : (b.seatLinks both).glade = b.glade := condition_glade _ _ _ _ _ _
@[simp] theorem pairCycle_glade (b : Block) : b.pairCycle.glade = b.glade := by
  simp only [pairCycle]
  split <;> simp

/-! ### Stores, recorder, supply, sessions and networks -/

@[simp] theorem storeImage_glade (b : Block) : b.storeImage.glade = b.glade := by simp [storeImage]
@[simp] theorem storeCycle_glade (b : Block) : b.storeCycle.glade = b.glade := by simp [storeCycle]
@[simp] theorem badRow_glade (b : Block) (r : Nat) : (b.badRow r).glade = b.glade := by simp [badRow]
@[simp] theorem scrubRow_glade (b : Block) (err : Nat) : (b.scrubRow err).glade = b.glade := by
  unfold scrubRow
  split
  · simp
  · split <;> simp
@[simp] theorem protectCommitted_glade (b : Block) (keys : List Nat) :
    (b.protectCommitted keys).glade = b.glade := by simp [protectCommitted]
@[simp] theorem endFreeze_glade (b : Block) : b.endFreeze.glade = b.glade := by simp [endFreeze]
@[simp] theorem freezeCount_glade (b : Block) : b.freezeCount.glade = b.glade := by simp [freezeCount]
@[simp] theorem readerClose_glade (b : Block) (n : Nat) : (b.readerClose n).glade = b.glade := by
  simp only [readerClose]
  split
  · rw [freezeCount_glade, wr_glade, setSess_glade]
  · rw [wr_glade, setSess_glade]
@[simp] theorem refillBuckets_glade (b : Block) : b.refillBuckets.glade = b.glade := by simp [refillBuckets]
@[simp] theorem ringsCommitted_glade (b old : Block) (keys : List Nat) :
    (b.ringsCommitted old keys).glade = b.glade := by simp [ringsCommitted]
@[simp] theorem setBackupFlag_glade (b : Block) (n : Nat) (on : Bool) : (b.setBackupFlag n on).glade = b.glade := by simp [setBackupFlag]
@[simp] theorem setRail_glade (b : Block) (r v : Nat) : (b.setRail r v).glade = b.glade := by simp [setRail]
@[simp] theorem tickRange_glade (b : Block) : b.tickRange.glade = b.glade := by simp [tickRange]
@[simp] theorem supplyCommitted_glade (b : Block) (keys : List Nat) : (b.supplyCommitted keys).glade = b.glade := by simp [supplyCommitted]
@[simp] theorem sessionEntry_glade (b : Block) (n : Nat) : (b.sessionEntry n).glade = b.glade := by simp [sessionEntry]
@[simp] theorem sessionCount_glade (b : Block) : b.sessionCount.glade = b.glade := by simp [sessionCount]
@[simp] theorem dropTw_glade (b : Block) (n : Nat) : (b.dropTw n).glade = b.glade := by simp [dropTw]
@[simp] theorem sessionClose_glade (b : Block) (n : Nat) : (b.sessionClose n).glade = b.glade := by simp [sessionClose]
@[simp] theorem ageSessions_glade (b : Block) : b.ageSessions.glade = b.glade := by simp [ageSessions]
@[simp] theorem netCommitted_glade (b old : Block) (keys : List Nat) : (b.netCommitted old keys).glade = b.glade := by simp [netCommitted]
@[simp] theorem pushAlert_glade (b : Block) (a : Alert) : (b.pushAlert a).glade = b.glade := by simp [pushAlert]
@[simp] theorem armAlert_glade (b : Block) : b.armAlert.glade = b.glade := by simp [armAlert]
@[simp] theorem noteEmcy_glade (b : Block) : b.noteEmcy.glade = b.glade := by
  simp only [noteEmcy, wr_glade]
  exact foldl_glade _ (fun _ _ => wr_glade _ _ _) _ _
@[simp] theorem emcy_glade (b : Block) (a : Alert) : (b.emcy a).glade = b.glade := by simp [emcy]
@[simp] theorem formAlert_glade (b : Block) (a : Alert) : (b.formAlert a).glade = b.glade := by simp [formAlert]
@[simp] theorem sendAlerts_glade (b : Block) (n : Nat) : (b.sendAlerts n).glade = b.glade := by simp [sendAlerts]
@[simp] theorem formAlerts_glade (b : Block) (old : List Nat) : (b.formAlerts old).glade = b.glade := by simp [formAlerts]
@[simp] theorem lanCondition_glade (b : Block) : b.lanCondition.glade = b.glade := by simp [lanCondition]

/-! ### The tick and the cycle -/

@[simp] theorem holdPort_glade (b : Block) (p : Nat) : (b.holdPort p).glade = b.glade := by simp [holdPort]
@[simp] theorem holdGroup_glade (b : Block) (g : Nat) : (b.holdGroup g).glade = b.glade := by simp [holdGroup]
@[simp] theorem holdUnit_glade (b : Block) (u : Nat) : (b.holdUnit u).glade = b.glade := by
  unfold holdUnit
  split
  · simp
  · split <;> split <;> simp
@[simp] theorem overrunPort_glade (b : Block) (p : Nat) : (b.overrunPort p).glade = b.glade := by simp [overrunPort]
@[simp] theorem holdSpoilt_glade (b : Block) : b.holdSpoilt.glade = b.glade := by simp [holdSpoilt]
@[simp] theorem closeSums_glade (b : Block) : b.closeSums.glade = b.glade := by simp [closeSums]
@[simp] theorem noPartnerResults_glade (b : Block) : b.noPartnerResults.glade = b.glade := by
  unfold noPartnerResults
  split
  · rfl
  · exact foldl_glade _ (fun _ _ => wr_glade _ _ _) _ _
@[simp] theorem measureRails_glade (b : Block) : b.measureRails.glade = b.glade := by simp [measureRails]
@[simp] theorem applyResults_glade (b : Block) : b.applyResults.glade = b.glade := by simp [applyResults]
@[simp] theorem applyBundle_glade (r : List Bundle × Block) (x : Bundle) : (applyBundle r x).2.glade = r.2.glade := by
  unfold applyBundle
  split <;> simp
@[simp] theorem appliedFields_glade (b : Block) (later : List Bundle) (x : Bundle) :
    (b.appliedFields later x).glade = b.glade := by simp [appliedFields]
@[simp] theorem appliedAll_glade (b : Block) (l : List Bundle) : (b.appliedAll l).glade = b.glade := by
  induction l generalizing b with
  | nil => rfl
  | cons x r ih => rw [appliedAll, ih, appliedFields_glade]

end Block
end Sys2Proof.Machine
end

section
/-! PROOFS. Glade stands where it stood: the operations that put a port in service or stop SYNC_OUT. -/

namespace Sys2Proof.Machine

/-- Glade stands where it stood: the numbering, the place in the cycle, the counts and a renumbering that waits are as they were (R35, R36,
R68), and a port once seen in service stays seen (R48). Its sources, its history and SYNC_OUT may have moved on. -/
structure Glade.Stays (g h : Glade) : Prop where
  epoch : h.epoch = g.epoch
  cycle : h.cycle = g.cycle
  tick : h.tick = g.tick
  boundary : h.boundary = g.boundary
  ended : h.ended = g.ended
  ticks : h.ticks = g.ticks
  cycles : h.cycles = g.cycles
  renumber : h.renumber = g.renumber
  everInService : g.everInService = true → h.everInService = true

namespace Glade.Stays

@[simp] theorem refl (g : Glade) : Stays g g := ⟨rfl, rfl, rfl, rfl, rfl, rfl, rfl, rfl, id⟩

theorem trans {g h k : Glade} (a : Stays g h) (b : Stays h k) : Stays g k :=
  ⟨b.epoch.trans a.epoch, b.cycle.trans a.cycle, b.tick.trans a.tick, b.boundary.trans a.boundary, b.ended.trans a.ended,
    b.ticks.trans a.ticks, b.cycles.trans a.cycles, b.renumber.trans a.renumber, b.everInService ∘ a.everInService⟩

theorem of_eq {g h : Glade} (e : h = g) : Stays g h := e ▸ refl h

/-- A choice between two that stand where `g` stood. -/
@[simp] theorem ite {g h k : Glade} (p : Prop) [Decidable p] (a : Stays g h) (b : Stays g k) : Stays g (if p then h else k) := by
  split
  · exact a
  · exact b

theorem ite_glade {g : Glade} (p : Prop) [Decidable p] {x y : Block} (a : Stays g x.glade) (b : Stays g y.glade) :
    Stays g (if p then x else y).glade := by
  rw [Block.ite_glade]
  exact ite p a b

/-- A fold of steps each of which leaves Glade where it stood. -/
@[simp] theorem foldl {α : Type} {g : Glade} (f : Block → α → Block) (h : ∀ b x, Stays b.glade (f b x).glade) (l : List α) (b : Block)
    (h0 : Stays g b.glade) : Stays g (l.foldl f b).glade := by
  induction l generalizing b with
  | nil => exact h0
  | cons x r ih => exact ih _ (h0.trans (h b x))

end Glade.Stays

namespace Block

open Glade (Stays)

variable {g : Glade}

@[simp] theorem setPortState_stays (b : Block) (p v : Nat) (h : Stays g b.glade) : Stays g (b.setPortState p v).glade := by
  unfold setPortState
  split
  · exact ⟨h.epoch, h.cycle, h.tick, h.boundary, h.ended, h.ticks, h.cycles, h.renumber, fun _ => rfl⟩
  · exact h

@[simp] theorem serveN_stays (b : Block) (p : Nat) (h : Stays g b.glade) : Stays g (b.serveN p).glade :=
  ⟨h.epoch, h.cycle, h.tick, h.boundary, h.ended, h.ticks, h.cycles, h.renumber, fun _ => rfl⟩

@[simp] theorem syncOutStop_stays (b : Block) (h : Stays g b.glade) : Stays g b.syncOutStop.glade :=
  ⟨h.epoch, h.cycle, h.tick, h.boundary, h.ended, h.ticks, h.cycles, h.renumber, h.everInService⟩

@[simp] theorem syncOutPulse_stays (b : Block) (h : Stays g b.glade) : Stays g b.syncOutPulse.glade := by
  unfold syncOutPulse
  split <;> exact ⟨h.epoch, h.cycle, h.tick, h.boundary, h.ended, h.ticks, h.cycles, h.renumber, h.everInService⟩

/-! ### What puts a port in service, and what gives the token up -/

@[simp] theorem sensePort_stays (b : Block) (p : Nat) (h : Stays g b.glade) : Stays g (b.sensePort p).glade := by
  unfold sensePort
  split <;> simp [h]

@[simp] theorem hostSafeStep_stays (b : Block) (p : Nat) (h : Stays g b.glade) : Stays g (b.hostSafeStep p).glade := by
  unfold hostSafeStep
  extract_lets x safe
  split
  · exact setPortState_stays _ _ _ h
  · split
    · exact setPortState_stays _ _ _ h
    · exact h

@[simp] theorem portTickEnd_stays (b : Block) (p : Nat) (h : Stays g b.glade) : Stays g (b.portTickEnd p).glade := by
  unfold portTickEnd
  split <;> simp [h]

@[simp] theorem linkTickEnd_stays (b : Block) (h : Stays g b.glade) : Stays g b.linkTickEnd.glade := by
  unfold linkTickEnd
  dsimp only
  exact Stays.foldl portTickEnd (fun b p => portTickEnd_stays b p (Stays.refl _)) _ _ h

@[simp] theorem releaseUnits_stays (b : Block) (h : Stays g b.glade) : Stays g b.releaseUnits.glade := by
  unfold releaseUnits
  extract_lets failed c halted
  have hc : Stays g c.glade := Stays.foldl _ (fun b p => Stays.ite_glade _ (by simp) (by simp)) _ _ h
  rwa [foldl_glade _ (fun b n => wr_glade _ _ _)]

@[simp] theorem collectTick_stays (b : Block) (h : Stays g b.glade) : Stays g b.collectTick.glade := by simp [collectTick, h]

@[simp] theorem releaseToken_stays (b : Block) (h : Stays g b.glade) : Stays g b.releaseToken.glade := by
  simp only [releaseToken, modPair_glade, requestsDone_glade]
  exact syncOutStop_stays _ (by rwa [wrs_glade])

@[simp] theorem yieldToken_stays (b : Block) (cause : Nat) (h : Stays g b.glade) : Stays g (b.yieldToken cause).glade := by
  unfold yieldToken
  split
  · exact h
  · split <;> simp [h]

@[simp] theorem autoYield_stays (b : Block) (h : Stays g b.glade) : Stays g b.autoYield.glade := by
  unfold autoYield
  dsimp only
  split
  · simp [h]
  · split
    · simp [h]
    · split <;> simp [h]

@[simp] theorem brkAdmit_stays (b : Block) (p : Nat) (h : Stays g b.glade) : Stays g (b.brkAdmit p).glade := by
  unfold brkAdmit
  dsimp only
  split
  · split <;> simp [h]
  · exact h

@[simp] theorem feedsTickStart_stays (b : Block) (h : Stays g b.glade) : Stays g b.feedsTickStart.glade :=
  Stays.foldl _ (fun b p => brkAdmit_stays _ _ (Stays.ite_glade _ (by simp) (by simp))) _ _ h

/-- The phases of a unit or a group enter service with their idle words. -/
theorem serveIdle_stays (b : Block) (l : List Nat) (h : Stays g b.glade) :
    Stays g (l.foldl (fun b p => (b.serveN p).setWords p (b.idleWords p mdSHED false)) b).glade :=
  Stays.foldl _ (fun b p => by simp) _ _ h

@[simp] theorem bringStep_stays (b : Block) (n : Nat) (u : List Nat) (h : Stays g b.glade) : Stays g (b.bringStep n u).glade := by
  unfold bringStep
  extract_lets res done x b1 b2 y b3 z
  have h2 : b2.glade = b.glade := by
    simp only [b2]
    rw [foldl_glade _ (fun _ _ => report_glade _ _ _ _), setRole_glade, setGroup_glade]
  have h3 : b3.glade = b.glade := by simp [b3, h2]
  split
  · exact h
  · split
    · exact serveIdle_stays _ _ h
    · split <;> simp [h3, h]

@[simp] theorem supplyTick_stays (b : Block) (n : Nat) (h : Stays g b.glade) : Stays g (b.supplyTick n).glade := by
  unfold supplyTick
  extract_lets st active b1 b2 old was n' new rated before b3 b4 b5 b6 x b7 y b8
  have h2 : Stays g b2.glade :=
    Stays.ite_glade _ (by simpa [b1] using Stays.foldl _ (fun b u => bringStep_stays b n u (Stays.refl _)) _ _ h) h
  have h4 : b4.glade = b2.glade := by simp only [b4, b3, wrN_glade, wrs_glade]
  have h5 : b5.glade = b2.glade := by simp only [b5, ite_glade, raiseShort_glade, scaleCaps_glade, ite_self, h4]
  have h6 : b6.glade = b2.glade := by simp only [b6, ite_glade, condition_glade, ite_self, h5]
  have h7 : b7.glade = b2.glade := by simp only [b7, ite_glade, report_glade, setGroup_glade, ite_self, h6]
  have h8 : b8.glade = b2.glade := by simp only [b8, ite_glade, condition_glade, setGroup_glade, ite_self, h7]
  split <;> simp [h8, h2]

@[simp] theorem startStep4_stays (b : Block) (n : Nat) (h : Stays g b.glade) : Stays g (b.startStep4 n).glade := by
  unfold startStep4
  extract_lets x cls c sp
  split
  · simp [h]
  · split
    · split
      · simpa using serveIdle_stays _ _ h
      · exact h
    · extract_lets v d run e
      have hc : Stays g c.glade := Stays.foldl _ (fun b p => serveN_stays b p (Stays.refl _)) _ _ h
      split
      · rwa [setGroup_glade, foldl_glade _ (fun b p => by simp)]
      · simpa [e, d] using hc

@[simp] theorem groupTick_stays (b : Block) (n : Nat) (h : Stays g b.glade) : Stays g (b.groupTick n).glade := by
  unfold groupTick
  extract_lets b1 y b2 x st b3
  have h3 : Stays g b3.glade := by simp [b3, b2, b1, h]
  clear_value b3
  split
  · simp [h3]
  · split
    · split <;> simp [h3]
    · split
      · split
        · simp [h3]
        · split <;> simp [h3]
      · simp [h3]

/-- The kernels do nothing in a fatal dump (R425); otherwise the groups tick after steps that leave Glade as it was. -/
theorem kernels_cases (b : Block) :
    b.kernels = b ∨ ∃ c : Block, c.glade = b.glade ∧ b.kernels = (c.groups.foldl groupTick c).feedsTick.sequencesTick := by
  unfold kernels
  split
  · exact .inl rfl
  · exact .inr ⟨_, by rw [holdupTick_glade, stringsTick_glade, foldl_glade _ sumTick_glade], rfl⟩

@[simp] theorem kernels_stays (b : Block) (h : Stays g b.glade) : Stays g b.kernels.glade := by
  obtain hk | ⟨c, hc, hk⟩ := b.kernels_cases
  · rwa [hk]
  · rw [hk, sequencesTick_glade, feedsTick_glade]
    exact Stays.foldl groupTick (fun b n => groupTick_stays b n (Stays.refl _)) _ _ (by rwa [hc])

@[simp] theorem admitByClass_stays (b : Block) (p : Nat) (h : Stays g b.glade) : Stays g (b.admitByClass p).glade := by
  unfold admitByClass
  dsimp only
  split
  · split <;> simp [h]
  · simp [h]

@[simp] theorem classCommitted_stays (b : Block) (p : Nat) (h : Stays g b.glade) : Stays g (b.classCommitted p).glade := by
  unfold classCommitted
  extract_lets c
  have hc : Stays g c.glade := h
  split
  · rw [condition_glade]
    exact setPortState_stays _ _ _ hc
  · split
    · exact setPortState_stays _ _ _ hc
    · split
      · exact admitByClass_stays _ _ hc
      · exact hc

@[simp] theorem linkCommitted_stays (b : Block) (keys : List Nat) (h : Stays g b.glade) : Stays g (b.linkCommitted keys).glade := by
  refine Stays.foldl _ (fun b k => ?_) _ _ h
  dsimp only
  split
  · simp
  all_goals simp

@[simp] theorem committed_stays (b old : Block) (keys : List Nat) (h : Stays g b.glade) : Stays g (b.committed old keys).glade := by
  simp [committed, h]

@[simp] theorem applyCommits_stays (b : Block) (h : Stays g b.glade) : Stays g b.applyCommits.glade := by
  unfold applyCommits
  split
  · exact h
  · dsimp only
    split <;> simp [h]

end Block
end Sys2Proof.Machine
end

section
/-! PROOFS. The tick and the cycle (R27, R31, R32, R35, R36). -/

namespace Sys2Proof.Machine
namespace Block
open Glade (Stays)
variable {g : Glade}

/-! ### The tick -/

/-- A tick that has been ended is not ended again (R27). -/
theorem endTick_of_ended (b : Block) (h : b.glade.ended = true) : b.endTick = b := by
  unfold endTick
  rw [if_pos h]

/-- A tick not yet ended is collected, on a block whose Glade stands where it stood but for the mark (R27, R336). -/
theorem endTick_of_not_ended (b : Block) (h : ¬b.glade.ended = true) : ∃ (c : Block) (roots : List Nat),
    Stays { b.glade with ended := true } c.glade ∧ b.endTick = ((c.collectTick.formAlerts roots).patchSnapshots).autoYield := by
  unfold endTick
  rw [if_neg h]
  refine ⟨_, _, ?_, rfl⟩
  rw [downRequests_glade, mainsTickEnd_glade, feedsTickEnd_glade, seatLinks_glade]
  exact linkTickEnd_stays _ (by rw [pairTickEnd_glade]; exact Stays.refl _)

/-- What ends a tick leaves Glade where it stood, but that the tick has been ended (R27). -/
theorem endTick_stays (b : Block) : Stays { b.glade with ended := true } b.endTick.glade := by
  by_cases h : b.glade.ended = true
  · rw [endTick_of_ended b h]
    exact Stays.of_eq (by rw [← h])
  · obtain ⟨c, roots, hc, he⟩ := endTick_of_not_ended b h
    rw [he]
    exact autoYield_stays _ (by rw [patchSnapshots_glade, formAlerts_glade]; exact collectTick_stays _ hc)

/-- The next tick begins: tick 0 after a cycle boundary, else the one that follows (R27, R35). -/
theorem openTick_glade (b : Block) : b.openTick.glade =
    { b.glade with tick := if b.glade.boundary then 0 else b.glade.tick + 1, boundary := false, ended := false, ticks := b.glade.ticks + 1 } := by
  rw [openTick, takeArmed_glade]
  exact swapImages_glade _

/-- TICK_BOUNDARY ends the tick and opens the next one on a block whose Glade is the ended tick's (R27, R30). -/
theorem tickBoundary_eq (b : Block) (overrun : List Nat) (err : Nat) (hrun : b.glade.running = true)
    (hleft : b.glade.boundary = true ∨ b.glade.tick + 1 < b.glade.nt) :
    ∃ c d : Block, c.glade = b.glade ∧ d.glade = c.endTick.glade ∧ b.tickBoundary overrun err =
      (d.openTick.feedsTickStart.linkTickStart.measTick.kernels.scrubTick err).restoreConfig := by
  have hgo : ¬((!b.glade.running || (!b.glade.boundary && decide (b.glade.nt ≤ b.glade.tick + 1))) = true) := by
    rcases hleft with h | h <;> simp [hrun, h]
  unfold tickBoundary
  rw [if_neg hgo]
  refine ⟨overrun.foldl (fun b p => b.report Src.KERNEL_OVERRUN p) b, _, foldl_glade _ (fun _ _ => report_glade _ _ _ _) _ _, ?_, rfl⟩
  rw [holdSpoilt_glade, foldl_glade _ overrunPort_glade]

/-- The place of the tick that TICK_BOUNDARY opens, from where the last tick ended. -/
theorem tickBoundary_stays (b : Block) (overrun : List Nat) (err : Nat) (hrun : b.glade.running = true)
    (hleft : b.glade.boundary = true ∨ b.glade.tick + 1 < b.glade.nt) :
    ∃ h : Glade, Stays { b.glade with ended := true } h ∧ (b.glade.ended = true → h = b.glade) ∧
      Stays { h with tick := if h.boundary then 0 else h.tick + 1, boundary := false, ended := false, ticks := h.ticks + 1 }
        (b.tickBoundary overrun err).glade := by
  obtain ⟨c, d, hc, hd, he⟩ := tickBoundary_eq b overrun err hrun hleft
  refine ⟨c.endTick.glade, hc ▸ endTick_stays c, fun h => ?_, ?_⟩
  · rw [endTick_of_ended c (hc ▸ h), hc]
  · rw [he, restoreConfig_glade, scrubTick_glade]
    refine kernels_stays _ ?_
    rw [measTick_glade, linkTickStart_glade]
    exact feedsTickStart_stays _ (Stays.of_eq (by rw [openTick_glade, hd]))

/-! ### The cycle -/

end Block
end Sys2Proof.Machine

namespace Sys2Proof.Machine

/-- Glade's counts are as they were, and once a port has been in service Glade stands where it stood (R35, R48): before that a source may
move the angle. -/
structure Glade.Runs (g h : Glade) : Prop where
  ended : h.ended = g.ended
  ticks : h.ticks = g.ticks
  cycles : h.cycles = g.cycles
  stays : g.everInService = true → Glade.Stays g h

namespace Glade

theorem Stays.runs {g h : Glade} (a : Stays g h) : Runs g h := ⟨a.ended, a.ticks, a.cycles, fun _ => a⟩

theorem Runs.refl (g : Glade) : Runs g g := (Stays.refl g).runs

theorem Runs.trans {g h k : Glade} (a : Runs g h) (b : Runs h k) : Runs g k :=
  ⟨b.ended.trans a.ended, b.ticks.trans a.ticks, b.cycles.trans a.cycles,
    fun e => (a.stays e).trans (b.stays ((a.stays e).everInService e))⟩

theorem Runs.of_eq {g h : Glade} (e : h = g) : Runs g h := (Stays.of_eq e).runs

theorem Runs.ite_glade {g : Glade} (p : Prop) [Decidable p] {x y : Block} (a : Runs g x.glade) (b : Runs g y.glade) :
    Runs g (if p then x else y).glade := by
  split
  · exact a
  · exact b

end Glade

namespace Block

open Glade (Stays Runs)

variable {g : Glade}

/-! ### The cycle: what Glade does about its sources -/

theorem moveAngle_counts (b : Block) (a : Nat) : (b.moveAngle a).glade.ended = b.glade.ended ∧
    (b.moveAngle a).glade.ticks = b.glade.ticks ∧ (b.moveAngle a).glade.cycles = b.glade.cycles := ⟨rfl, rfl, rfl⟩

theorem alignTo_counts (b : Block) (src : Nat) : (b.alignTo src).glade.ended = b.glade.ended ∧
    (b.alignTo src).glade.ticks = b.glade.ticks ∧ (b.alignTo src).glade.cycles = b.glade.cycles := by
  unfold alignTo
  extract_lets e a c n x
  have hc : c.glade = b.glade := wrs_glade _ _
  split
  · rw [hc]; exact ⟨rfl, rfl, rfl⟩
  · split
    · exact hc ▸ moveAngle_counts c _
    · exact hc ▸ moveAngle_counts { c with glade := { c.glade with epoch := n.1, cycle := n.2 } } _

theorem joinSource_runs (b : Block) (src : Nat) : Runs b.glade (b.joinSource src).glade := by
  unfold joinSource
  split
  · exact Runs.of_eq (wrs_glade _ _)
  · split
    · exact Runs.of_eq (enterSlew_glade _ _ _)
    · next h =>
      obtain ⟨he, ht, hc⟩ := alignTo_counts b src
      exact ⟨he, ht, hc, fun e => absurd e h⟩

theorem holdoverSelect_runs (b : Block) : Runs b.glade b.holdoverSelect.glade := by
  unfold holdoverSelect
  split
  · split
    · exact joinSource_runs _ _
    · exact Runs.refl _
  · exact Runs.refl _

theorem selectSource_runs (b : Block) : Runs b.glade b.selectSource.glade := by
  unfold selectSource
  split
  · exact holdoverSelect_runs b
  · split
    · exact Runs.refl _
    · exact Runs.ite_glade _ (joinSource_runs _ _) (Runs.refl _)

theorem loseSource_runs (b : Block) (src : Nat) : Runs b.glade (b.loseSource src).glade := by
  unfold loseSource
  extract_lets c x d
  have hd : Stays b.glade d.glade := by
    simp only [d]
    split <;> exact ⟨rfl, rfl, rfl, rfl, rfl, rfl, rfl, rfl, id⟩
  clear_value d
  refine Runs.ite_glade _ (hd.runs.trans ?_) hd.runs
  exact enterHoldover_glade d ▸ holdoverSelect_runs d.enterHoldover

theorem slewLimit_stays (b : Block) : Stays b.glade b.slewLimit.glade := by
  unfold slewLimit
  extract_lets c f fast d
  split
  · exact Stays.ite_glade _ ⟨rfl, rfl, rfl, rfl, rfl, rfl, rfl, rfl, id⟩ ⟨rfl, rfl, rfl, rfl, rfl, rfl, rfl, rfl, id⟩
  · exact ⟨rfl, rfl, rfl, rfl, rfl, rfl, rfl, rfl, id⟩

/-- Glade's course over a boundary (R41, R47, R52): the one step that may move the angle is the move to a source. -/
theorem gladeAdvance_runs (b : Block) : Runs b.glade b.gladeAdvance.glade := by
  unfold gladeAdvance
  extract_lets st c d d2 y d3 z f goal m e
  have hc : Stays b.glade c.glade := slewLimit_stays b
  have he : Stays c.glade e.glade := by
    refine Stays.ite_glade _ (Stays.of_eq (bump_glade _ _ _ _)) (Stays.ite_glade _ ?_ (Stays.ite_glade _ ?_
      (Stays.ite_glade _ (Stays.of_eq (wr_glade _ _ _)) (Stays.refl _))))
    · exact ⟨rfl, rfl, rfl, rfl, rfl, rfl, rfl, rfl, id⟩
    · exact ⟨rfl, rfl, rfl, rfl, rfl, rfl, rfl, rfl, id⟩
  exact (hc.trans he).runs.trans (selectSource_runs e)

/-- What Glade finds about its sources at a boundary (R45, R54, R57): the one step that may move the angle is the loss of MAINS. -/
theorem gladeQualify_runs (b : Block) (ppm : Nat) : Runs b.glade (b.gladeQualify ppm).glade := by
  unfold gladeQualify
  extract_lets need x reversed run isRev d1 d2 d3 mainsOk partnerOk miss y d4 d5 d6 d7 bad z d8
  have h1 : Runs b.glade d1.glade := Stays.runs ⟨rfl, rfl, rfl, rfl, rfl, rfl, rfl, rfl, id⟩
  have h2 : Runs b.glade d2.glade := Runs.ite_glade _ (h1.trans (loseSource_runs _ _)) h1
  have h3 : d3.glade = d2.glade := condition_glade _ _ _ _ _ _
  have h4 : Runs b.glade d4.glade := h2.trans (h3 ▸ Stays.runs ⟨rfl, rfl, rfl, rfl, rfl, rfl, rfl, rfl, id⟩)
  have h7 : d7.glade = d4.glade := by simp only [d7, d6, d5, ite_glade, setQualified_glade, ite_self]
  have h8 : Runs d7.glade d8.glade := Stays.runs ⟨rfl, rfl, rfl, rfl, rfl, rfl, rfl, rfl, id⟩
  rw [condition_glade]
  exact (h7 ▸ h4).trans h8

/-- The cycle number that follows, where no renumbering waits (R36); the boundary has passed and no tick of the cycle has begun (R31). -/
theorem advanceNumber_glade (b : Block) : ∃ e c : Nat, (b.glade.renumber = none → (e, c) = nextCycle b.glade.epoch b.glade.cycle) ∧
    b.advanceNumber.glade =
      { b.glade with cycles := b.glade.cycles + 1, epoch := e, cycle := c, tick := 0, boundary := true, renumber := none } := by
  unfold advanceNumber
  extract_lets n wrap x y
  split
  · next r hr => exact ⟨r.1, r.2, fun h => absurd (hr.symm.trans h) (by simp), rfl⟩
  · next hr =>
    refine ⟨n.1, n.2, fun _ => rfl, ?_⟩
    rw [ite_glade, report_glade, ite_self]
    have hr : b.glade.renumber = none := hr
    rw [← hr]

theorem beginCycle_glade (b : Block) : b.beginCycle.glade = b.advanceNumber.glade := by
  unfold beginCycle
  split
  · rw [measRenumbered_glade, renumberActions_glade]
  · rfl

/-- After the commits Glade's course runs on, and nothing else moves it (R32). -/
theorem afterCommits_runs (b : Block) (err : Nat) : Runs b.glade (b.afterCommits err).glade := by
  simp only [afterCommits, cycleDigest_glade, capture_glade, scrubRow_glade, storeCycle_glade, refillBuckets_glade, pairCycle_glade,
    linkCycle_glade, lanCondition_glade, ageSessions_glade, agePins_glade, measureRails_glade]
  have h := gladeAdvance_runs b.measOpen.supplyBoundary
  rw [supplyBoundary_glade, measOpen_glade] at h
  exact h.trans (syncOutPulse_stays _ (Stays.refl _)).runs

/-- CYCLE_BOUNDARY after the last tick ends the tick, qualifies the sources, begins the cycle, and applies results and commits (R31, R32). -/
theorem cycleBoundary_eq (b : Block) (ppm err : Nat) (hrun : b.glade.running = true) (hb : b.glade.boundary = false)
    (hlast : b.glade.nt ≤ b.glade.tick + 1) : ∃ c d : Block, c.glade = b.endTick.glade ∧ d.glade = (c.gladeQualify ppm).glade ∧
      b.cycleBoundary ppm err = (d.beginCycle.applyResults.applyCommits).afterCommits err := by
  have hgo : ¬((!b.glade.running || b.glade.boundary || decide (b.glade.tick + 1 < b.glade.nt)) = true) := by
    simp [hrun, hb, hlast]
  unfold cycleBoundary
  rw [if_neg hgo]
  refine ⟨b.endTick.closeSums.feedsCycle.measClose, _, ?_, ?_, rfl⟩
  · rw [measClose_glade, feedsCycle_glade, closeSums_glade]
  · rw [noPartnerResults_glade, mainsCycle_glade]

/-- The counts and the place after CYCLE_BOUNDARY (R31, R35, R36). -/
theorem cycleBoundary_counts (b : Block) (ppm err : Nat) (hrun : b.glade.running = true) (hb : b.glade.boundary = false)
    (hlast : b.glade.nt ≤ b.glade.tick + 1) :
    (b.cycleBoundary ppm err).glade.cycles = b.glade.cycles + 1 ∧ (b.cycleBoundary ppm err).glade.ended = true ∧
    (b.cycleBoundary ppm err).glade.ticks = b.glade.ticks ∧
    (b.glade.everInService = true → b.glade.renumber = none →
      ((b.cycleBoundary ppm err).glade.epoch, (b.cycleBoundary ppm err).glade.cycle) = nextCycle b.glade.epoch b.glade.cycle ∧
      (b.cycleBoundary ppm err).glade.tick = 0 ∧ (b.cycleBoundary ppm err).glade.boundary = true) := by
  obtain ⟨c, d, hc, hd, he⟩ := cycleBoundary_eq b ppm err hrun hb hlast
  have before : Runs { b.glade with ended := true } d.glade := by
    rw [hd]
    exact (hc ▸ (endTick_stays b).runs).trans (gladeQualify_runs c ppm)
  obtain ⟨e, n, hnum, hbegin⟩ := advanceNumber_glade d
  have after : Runs d.advanceNumber.glade (b.cycleBoundary ppm err).glade := by
    rw [he]
    refine Runs.trans (Stays.runs ?_) (afterCommits_runs _ err)
    exact applyCommits_stays _ (Stays.of_eq (by rw [applyResults_glade, beginCycle_glade]))
  rw [hbegin] at after
  refine ⟨after.cycles.trans (congrArg (· + 1) before.cycles), after.ended.trans before.ended, after.ticks.trans before.ticks,
    fun hever hnone => ?_⟩
  have sb := before.stays hever
  have sa := after.stays (sb.everInService hever)
  refine ⟨?_, sa.tick, sa.boundary⟩
  rw [sa.epoch, sa.cycle]
  have := hnum (sb.renumber.trans hnone)
  rwa [sb.epoch, sb.cycle] at this

end Block
end Sys2Proof.Machine

namespace Sys2Proof.Machine

/-- A command on the block keeps the queue and answers the block its meaning gives, as far as Glade and the supervisors show. -/
theorem State.act_glade (s : State) (f : Block → Block) :
    ∃ t, s.act f = .next t ∧ t.blk.glade = (f s.blk).glade ∧ t.blk.sup = (f s.blk).sup ∧ t.pending = s.pending := ⟨_, rfl, rfl, rfl, rfl⟩

namespace Block

/-! ### The supervisors -/

/-- SUPERVISOR_DONE in its window makes the results ready (R31). -/
theorem supervisorDone_ready (b : Block) (hruns : b.supervisorRuns = true) (h4 : 4 ≤ b.glade.tick)
    (hdue : b.glade.tick * 10 ≤ b.glade.nt * 9) : b.supervisorDone.sup.ready = true := by
  unfold supervisorDone
  rw [if_pos (by simp [hruns, h4, hdue])]
  rfl

/-- SUPERVISOR_DONE before tick 4 changes nothing (R31). -/
theorem supervisorDone_early (b : Block) (h : b.glade.tick < 4) : b.supervisorDone = b := by
  unfold supervisorDone
  rw [if_neg (by simp [h])]

/-- SUP_OVERRUN at the deadline notes the overrun and reports it (R33). -/
theorem supOverrun_late (b : Block) (hruns : b.supervisorRuns = true) (hlate : b.glade.nt * 9 ≤ b.glade.tick * 10) :
    b.supOverrun = ({ b with sup := { b.sup with overrun := true } }).report Src.SUP_OVERRUN 0 := by
  unfold supOverrun
  rw [if_pos (by simp [hruns, hlate])]

end Block

/-- Settles O52: every step of a tick and of a cycle but the advance itself leaves Glade where it stands. -/
theorem ticksAndCyclesAdvance : Obligations.TicksAndCyclesAdvance := by
  refine ⟨fun s overrun err _ hports hrun hleft => ?_, fun s ppm err _ hrun hb hlast => ?_, fun s hw hrun hb hready hover => ?_⟩
  · obtain ⟨t, ht, hglade, -, hpending⟩ := s.act_glade (·.tickBoundary overrun err)
    obtain ⟨g, hended, hsame, hopen⟩ := Block.tickBoundary_stays s.blk overrun err hrun hleft
    refine ⟨t, (State.actOn_of s hports _ _ _).trans ht, ?_⟩
    rw [hglade]
    refine ⟨hopen.ticks.trans (congrArg (· + 1) hended.ticks), hopen.boundary, hopen.ended, hopen.cycles.trans hended.cycles, hpending,
      fun h => ?_⟩
    rw [← hsame h]
    exact hopen.tick
  · obtain ⟨t, ht, hglade, -, hpending⟩ := s.act_glade (·.cycleBoundary ppm err)
    obtain ⟨hcycles, hended, hticks, hnumber⟩ := Block.cycleBoundary_counts s.blk ppm err hrun hb hlast
    refine ⟨t, ht, ?_⟩
    rw [hglade]
    exact ⟨hcycles, hended, hticks, hpending, hnumber⟩
  · have hruns : s.blk.supervisorRuns = true := by simp [Block.supervisorRuns, hrun, hb, hready, hover]
    obtain ⟨t, ht, -, hsup, hpending⟩ := s.act_glade Block.supervisorDone
    refine ⟨fun h4 hdue => ⟨t, ht, ?_, hpending⟩, fun h => ?_, fun hlate => ?_⟩
    · rw [hsup]
      exact Block.supervisorDone_ready _ hruns h4 hdue
    · have he := Block.supervisorDone_early s.blk h
      exact (State.act_frame s _ (by rw [he, hw])).trans (by rw [he])
    · have ho := Block.supOverrun_late s.blk hruns hlate
      exact (State.act_frame s _ (by rw [ho]; exact hw)).trans (by rw [ho]; rfl)

end Sys2Proof.Machine
end

section
/-! PROOFS. Commands on units that do not exist. -/

namespace Sys2Proof.Machine

/-- Settles O7: the number a command names is checked before its meaning runs. -/
theorem aMissingUnitIsAFault : Obligations.AMissingUnitIsAFault := fun s _ =>
  ⟨fun h => s.actOn_of_not (decide_eq_false (Nat.not_lt.2 h)) _ _ _, fun h => s.actOn_of_not (decide_eq_false (Nat.not_lt.2 h)) _ _ _,
    fun h => s.actOn_of_not (decide_eq_false (Nat.not_lt.2 h)) _ _ _, fun h => s.actOn_of_not (decide_eq_false (Nat.not_lt.2 h)) _ _ _,
    fun h => s.actOn_of_not (decide_eq_false (Nat.not_lt.2 h)) _ _ _⟩

end Sys2Proof.Machine
end

section
/-! PROOFS. Which objects an operation may change, and what a condition leaves alone. -/

namespace Sys2Proof.Machine
namespace Block

/-- Every object but those named reads as it did, in this tick and in the next (KeepsObjects of the blocks). -/
def Keeps (named : List Nat) (b c : Block) : Prop := ∀ k, k ∉ named → c.rd k = b.rd k ∧ c.rdN k = b.rdN k

namespace Keeps

variable {named : List Nat} {b c d : Block}

theorem refl (b : Block) : Keeps named b b := fun _ _ => ⟨rfl, rfl⟩

theorem trans (h : Keeps named b c) (h' : Keeps named c d) : Keeps named b d :=
  fun k hk => ⟨(h' k hk).1.trans (h k hk).1, (h' k hk).2.trans (h k hk).2⟩

/-- With the same objects in both tick images nothing reads differently. -/
theorem of_images (hd : c.dict = b.dict) (hw : c.wimg = b.wimg) : Keeps named b c := fun k _ => by
  simp only [rd, rdN, hd, hw, and_self]

/-- A write changes the object it names. -/
theorem wr (h : Keeps named b c) {k : Nat} (v : Nat) (hk : k ∈ named) : Keeps named b (c.wr k v) := fun j hj => by
  have hne : j ≠ k := fun e => hj (e ▸ hk)
  rw [rd_wr_of_ne _ _ hne, rdN_wr, if_neg hne]
  exact h j hj

/-- Several writes change the objects they name. -/
theorem wrs (h : Keeps named b c) (l : List (Nat × Nat)) (hl : ∀ e ∈ l, e.1 ∈ named) : Keeps named b (c.wrs l) := by
  induction l generalizing c with
  | nil => exact h
  | cons e r ih => exact ih (h.wr e.2 (hl e (by simp))) fun x hx => hl x (by simp [hx])

/-- A condition changes the count of its source's instances (R333). -/
theorem condition (h : Keeps named b c) (src inst : Nat) (p : Bool) (detail : List Int) (injected : Bool)
    (hk : Obj.SourceConfig.PresentInstances src ∈ named) : Keeps named b (c.condition src inst p detail injected) := by
  unfold Block.condition
  split
  · exact h
  · split
    · refine Keeps.trans (Keeps.wr (h.trans (of_images ?_ ?_)) _ hk) (of_images rfl rfl) <;> (unfold raise; split <;> rfl)
    · exact (h.wr _ hk).trans (of_images rfl rfl)

end Keeps

/-- What neither a write nor a change of the fault collector changes, a condition does not change. -/
theorem condition_of {α : Type} (f : Block → α) (hw : ∀ (b : Block) (k v : Nat), f (b.wr k v) = f b)
    (hf : ∀ (b : Block) (x : Faults), f { b with faults := x } = f b) (b : Block) (src inst : Nat) (p : Bool) (detail : List Int)
    (injected : Bool) : f (b.condition src inst p detail injected) = f b := by
  unfold condition
  split
  · rfl
  · split
    · rw [hf, bump, hw]
      unfold raise
      split <;> exact hf _ _
    · rw [hf, hw]

@[simp] theorem condition_writes (b : Block) (src inst : Nat) (p : Bool) (detail : List Int) (injected : Bool) :
    (b.condition src inst p detail injected).writes = b.writes := condition_of (·.writes) (fun _ _ _ => rfl) (fun _ _ => rfl) ..
@[simp] theorem condition_aon (b : Block) (src inst : Nat) (p : Bool) (detail : List Int) (injected : Bool) :
    (b.condition src inst p detail injected).aon = b.aon := condition_of (·.aon) (fun _ _ _ => rfl) (fun _ _ => rfl) ..
@[simp] theorem condition_port (b : Block) (src inst : Nat) (p : Bool) (detail : List Int) (injected : Bool) (q : Nat) :
    (b.condition src inst p detail injected).port q = b.port q := condition_of (·.port q) (fun _ _ _ => rfl) (fun _ _ => rfl) ..

/-- A condition's presence is what it was set to (R333). -/
@[simp] theorem isPresent_condition (b : Block) (src inst : Nat) (p : Bool) (detail : List Int) :
    (b.condition src inst p detail).isPresent src inst = p := by
  obtain ⟨hp, he⟩ | ⟨hp, -, -, hpresent⟩ | ⟨hp, -, -, hpresent⟩ := b.condition_cases src inst p detail
  · rw [he, hp]
  · subst hp
    simp [isPresent, hpresent]
  · subst hp
    simp [isPresent, hpresent]

/-- An object that a condition's source does not count reads as it did. -/
theorem rd_condition_of_ne (b : Block) (src inst : Nat) (p : Bool) (detail : List Int) (injected : Bool) {k : Nat}
    (h : k ≠ Obj.SourceConfig.PresentInstances src) : (b.condition src inst p detail injected).rd k = b.rd k :=
  ((Keeps.refl b).condition src inst p detail injected (List.mem_singleton_self _) k (by simpa using h)).1

end Block

/-- A command on a unit that exists, whose meaning hands over no write, leaves both arrays as they were. -/
theorem State.actOn_frame (s : State) {ok : Bool} (h : ok = true) (k : UnitKind) (n : Nat) (f : Block → Block)
    (hw : (f s.blk).writes = {}) : s.actOn ok k n f = .next { s with blk := f s.blk } :=
  (s.actOn_of h k n f).trans (s.act_frame f hw)

end Sys2Proof.Machine
end

section
/-! PROOFS. Training: what a completed run, a run that takes too long and a new run change (R15, R148-R150). -/

namespace Sys2Proof.Machine

open Sys2Proof.Safety

/-- Objects of different sub-indices are different objects. -/
theorem objKey_ne_of_sub_ne {i j k l : Nat} (hk : k < 256) (hl : l < 256) (h : k ≠ l) : objKey i k ≠ objKey j l := by
  unfold objKey
  omega

namespace Block

theorem Keeps.report {named : List Nat} {b c : Block} (h : Keeps named b c) (src inst : Nat) (d : List Int) :
    Keeps named b (c.report src inst d) := h.trans (of_images rfl rfl)

theorem Keeps.setPort {named : List Nat} {b c : Block} (h : Keeps named b c) (p : Nat) (x : Port) : Keeps named b (c.setPort p x) :=
  h.trans (of_images rfl rfl)

/-- An object that is not among those named reads as it did. -/
theorem Keeps.rd_eq {named : List Nat} {b c : Block} (h : Keeps named b c) {k : Nat} (hk : k ∉ named) : c.rd k = b.rd k := (h k hk).1

@[simp] theorem wrs_port (b : Block) (l : List (Nat × Nat)) (q : Nat) : (b.wrs l).port q = b.port q := wrs_of (·.port q) (fun _ _ _ => rfl) b l

theorem report_port (b : Block) (src inst : Nat) (d : List Int) (q : Nat) : (b.report src inst d).port q = b.port q := rfl

/-! ### The state of a port -/

@[simp] theorem setPortState_writes (b : Block) (p v : Nat) : (b.setPortState p v).writes = b.writes := by
  unfold setPortState
  split <;> rfl
@[simp] theorem setPortState_faults (b : Block) (p v : Nat) : (b.setPortState p v).faults = b.faults := by
  unfold setPortState
  split <;> rfl
@[simp] theorem setPortState_port (b : Block) (p v q : Nat) : (b.setPortState p v).port q = b.port q := by
  unfold setPortState
  split <;> rfl
theorem setPortState_images (b : Block) (p v : Nat) :
    (b.setPortState p v).dict = (b.wr (Obj.PortRecord.PortState p) v).dict ∧
      (b.setPortState p v).wimg = (b.wr (Obj.PortRecord.PortState p) v).wimg := by
  unfold setPortState
  split <;> exact ⟨rfl, rfl⟩
@[simp] theorem rd_setPortState (b : Block) (p v k : Nat) :
    (b.setPortState p v).rd k = if k = Obj.PortRecord.PortState p then v else b.rd k := by
  rw [rd, (b.setPortState_images p v).1]
  exact rd_wr _ _ _ _
@[simp] theorem portState_setPortState (b : Block) (p v : Nat) : (b.setPortState p v).portState p = v := by simp [portState]

theorem Keeps.setPortState {named : List Nat} {b c : Block} (h : Keeps named b c) (p v : Nat) (hk : Obj.PortRecord.PortState p ∈ named) :
    Keeps named b (c.setPortState p v) :=
  (h.wr v hk).trans (of_images (c.setPortState_images p v).1 (c.setPortState_images p v).2)

/-- A condition's source does not count a port's state. -/
@[simp] theorem portState_condition (b : Block) (src inst : Nat) (c : Bool) (d : List Int) (i : Bool) (p : Nat) :
    (b.condition src inst c d i).portState p = b.portState p :=
  rd_condition_of_ne b src inst c d i (objKey_ne_of_sub_ne (by decide) (by decide) (by decide))

/-- A condition that appears is reported (R333). -/
theorem condition_appears {b : Block} {src inst : Nat} (h : b.isPresent src inst = false) (d : List Int) :
    (b.condition src inst true d).faults.reports = b.faults.reports ++ [{ src, inst, detail := d }] := by
  simp [condition, h, raise, report_reports]

/-! ### The state follows the class (R15) -/

/-- A head of the configured class takes a TRAINING port to ADMITTED. -/
theorem admitByClass_ok {b : Block} {p : Nat} (hc : b.classOk p = true) (hst : b.portState p = psTRAINING)
    (hp : b.isPresent Src.CLASS_MISMATCH p = false) : b.admitByClass p = b.setPortState p psADMITTED := by
  have hcond : b.condition Src.CLASS_MISMATCH p false = b := by simp [condition, hp]
  simp [admitByClass, hc, hst, hcond]

/-- A head of another class takes the port to MISMATCH. -/
theorem admitByClass_mismatch {b : Block} {p : Nat} (hc : b.classOk p = false) :
    b.admitByClass p = (b.setPortState p psMISMATCH).condition Src.CLASS_MISMATCH p true
      [b.rd (Obj.PortRecord.ReportedClass p), b.classOf p] := by simp [admitByClass, hc]

/-- Either way only the port's state and the condition change. -/
theorem admitByClass_frame (b : Block) (p : Nat) :
    (b.admitByClass p).writes = b.writes ∧ (∀ q, (b.admitByClass p).port q = b.port q) ∧
      Keeps [Obj.PortRecord.PortState p, Obj.SourceConfig.PresentInstances Src.CLASS_MISMATCH] b (b.admitByClass p) := by
  have hcond := (Keeps.refl (named := [Obj.PortRecord.PortState p, Obj.SourceConfig.PresentInstances Src.CLASS_MISMATCH]) b).condition
    Src.CLASS_MISMATCH p false [] false (by simp)
  unfold admitByClass
  dsimp only
  split
  · split
    · exact ⟨by simp, by simp, hcond.setPortState _ _ (by simp)⟩
    · exact ⟨by simp, by simp, hcond⟩
  · exact ⟨by simp, by simp, ((Keeps.refl b).setPortState _ _ (by simp)).condition _ _ _ _ _ (by simp)⟩

/-! ### The register accesses a training calls for (R148, R151, R155) -/

/-- Register accesses joined the queue of port `p`: no other port, no other field of that port and no fault changed, and of the objects
only the port's CfgWriteResult. -/
structure Queues (p : Nat) (b c : Block) : Prop where
  writes : c.writes = b.writes
  faults : c.faults = b.faults
  others : ∀ q, q ≠ p → c.port q = b.port q
  own : c.port p = { b.port p with cfg := (c.port p).cfg }
  objects : Keeps [Obj.PortRecord.CfgWriteResult p] b c

namespace Queues

variable {p : Nat} {b c d : Block}

theorem refl (p : Nat) (b : Block) : Queues p b b := ⟨rfl, rfl, fun _ _ => rfl, rfl, Keeps.refl b⟩

theorem trans (h : Queues p b c) (h' : Queues p c d) : Queues p b d :=
  ⟨h'.writes.trans h.writes, h'.faults.trans h.faults, fun q hq => (h'.others q hq).trans (h.others q hq),
    by rw [h'.own, h.own], h.objects.trans h'.objects⟩

/-- The queue of one port changes. -/
theorem modPort (b : Block) (p : Nat) (f : List Cfg → List Cfg) : Queues p b (b.modPort p fun x => { x with cfg := f x.cfg }) :=
  ⟨rfl, rfl, fun q hq => by rw [port_modPort, if_neg hq], by simp, Keeps.of_images rfl rfl⟩

end Queues

theorem cfgFront_queues (b : Block) (p : Nat) : Queues p b (b.cfgFront p) := by
  unfold cfgFront
  split
  · split
    · exact ⟨rfl, rfl, fun _ _ => rfl, rfl, (Keeps.refl b).wr _ (by simp)⟩
    · exact Queues.refl p b
  · exact Queues.refl p b

@[simp] theorem cfgFront_port (b : Block) (p q : Nat) : (b.cfgFront p).port q = b.port q := by
  unfold cfgFront
  split
  · split <;> rfl
  · rfl

theorem cfgWrite_queues (b : Block) (p addr data : Nat) : Queues p b (b.cfgWrite p addr data) :=
  (Queues.modPort b p fun l => l.filter (fun c => !(c.write && c.addr == addr)) ++ [{ write := true, addr, data }]).trans (cfgFront_queues _ p)

/-- The queue a read leaves. -/
def readQueue (addr : Nat) (l : List Cfg) : List Cfg :=
  if l.any (fun c => !c.write && c.addr == addr) then l else l ++ [{ write := false, addr }]

theorem cfgRead_eq (b : Block) (p addr : Nat) : b.cfgRead p addr = b.modPort p fun x => { x with cfg := readQueue addr x.cfg } := by
  unfold cfgRead readQueue modPort
  dsimp only
  split <;> simp [*]

theorem cfgRead_queues (b : Block) (p addr : Nat) : Queues p b (b.cfgRead p addr) := by
  rw [cfgRead_eq]
  exact Queues.modPort b p (readQueue addr)

/-- The write that was called for waits. -/
theorem mem_cfgWrite (b : Block) (p addr data : Nat) : ({ write := true, addr, data } : Cfg) ∈ ((b.cfgWrite p addr data).port p).cfg := by
  simp [cfgWrite]

/-- An access to another register goes on waiting. -/
theorem mem_cfgWrite_of_ne {b : Block} {p addr : Nat} (data : Nat) {w : Cfg} (hw : w ∈ (b.port p).cfg) (ha : w.addr ≠ addr) :
    w ∈ ((b.cfgWrite p addr data).port p).cfg := by
  simp [cfgWrite, hw, ha]

/-- A read lets every access go on waiting. -/
theorem mem_cfgRead {b : Block} {p : Nat} (addr : Nat) {w : Cfg} (hw : w ∈ (b.port p).cfg) : w ∈ ((b.cfgRead p addr).port p).cfg := by
  rw [cfgRead_eq, port_modPort_self]
  unfold readQueue
  split
  · exact hw
  · exact List.mem_append_left _ hw

theorem cfgReads_queues (b : Block) (p : Nat) (l : List Nat) : Queues p b (l.foldl (fun b a => b.cfgRead p a) b) := by
  induction l generalizing b with
  | nil => exact Queues.refl p b
  | cons a r ih => exact (cfgRead_queues b p a).trans (ih _)

theorem mem_cfgReads {b : Block} {p : Nat} (l : List Nat) {w : Cfg} (hw : w ∈ (b.port p).cfg) :
    w ∈ ((l.foldl (fun b a => b.cfgRead p a) b).port p).cfg := by
  induction l generalizing b with
  | nil => exact hw
  | cons a r ih => exact ih (mem_cfgRead a hw)

theorem trainingAccesses_queues (b : Block) (p hold : Nat) : Queues p b (b.trainingAccesses p hold) := by
  unfold trainingAccesses
  extract_lets b1 b2 cls
  have h1 : Queues p b b1 := by
    unfold b1
    split
    · exact Queues.refl p b
    · exact cfgWrite_queues _ _ _ _
  have h2 : Queues p b1 b2 := by
    unfold b2
    split
    · exact cfgWrite_queues _ _ _ _
    · exact Queues.refl p _
  exact (h1.trans h2).trans (cfgReads_queues _ _ _)

/-- Where the head's HOLD_LIMIT differs, a write of the configured one waits. -/
theorem mem_trainingAccesses {b : Block} {p hold : Nat} (h : hold ≠ b.rd (Obj.PortRecord.HoldLimit p)) :
    ({ write := true, addr := 0x10, data := b.rd (Obj.PortRecord.HoldLimit p) } : Cfg) ∈ ((b.trainingAccesses p hold).port p).cfg := by
  unfold trainingAccesses
  rw [if_neg h]
  refine mem_cfgReads _ ?_
  split
  · exact mem_cfgWrite_of_ne _ (mem_cfgWrite ..) (show 0x10 ≠ 0x12 by decide)
  · exact mem_cfgWrite ..

/-! ### A completed run (R148) -/

/-- The block once the identity and the one-shot tag of the head are taken, before the class is judged. -/
def takeHead (b : Block) (p : Nat) : Block :=
  let x := b.port p
  let word (i : Nat) : Nat := x.trainWords.getD i 0
  ((b.wr (Obj.PortRecord.WireDelay p) (min (derivedDelay x.sofNs) 255)).wrs
    [(Obj.PortRecord.ReportedClass p, x.trainClass), (Obj.PortRecord.HeadVendor p, word 0), (Obj.PortRecord.HeadRevision p, word 1),
      (Obj.PortRecord.HeadSerial p, word 2 * 2 ^ 48 + word 3 * 2 ^ 32 + word 4 * 2 ^ 16 + word 5), (Obj.PortRecord.HeadCaps p, word 6)]).setPort p
    { x with tag := x.trainOsLast, retrain := false, resync := true, trainRun := 0, cfg := x.cfg.filter (·.write), regs := [(0x10, word 7)] }

/-- The class is judged and the accesses queued. -/
def admitHead (b : Block) (p hold : Nat) : Block := (b.admitByClass p).trainingAccesses p hold

theorem trainingComplete_short {b : Block} {p : Nat} (hst : b.portState p = psTRAINING) (hrun : 32 ≤ (b.port p).trainRun)
    (hdelay : (b.port p).delayUntil = none) (hw : derivedDelay (b.port p).sofNs ≤ 40) :
    b.trainingComplete p = (b.takeHead p).admitHead p ((b.port p).trainWords.getD 7 0) := by
  have hgo : (!b.inTraining p || decide ((b.port p).trainRun < 32) || (b.port p).delayUntil.isSome) = false := by
    simp [inTraining, hst, hdelay, hrun]
  unfold trainingComplete
  simp only [hgo, Bool.false_eq_true, if_false, if_neg (Nat.not_lt.2 hw)]
  rfl

theorem trainingComplete_long {b : Block} {p : Nat} (hst : b.portState p = psTRAINING) (hrun : 32 ≤ (b.port p).trainRun)
    (hdelay : (b.port p).delayUntil = none) (hw : 40 < derivedDelay (b.port p).sofNs) :
    b.trainingComplete p = ((b.wr (Obj.PortRecord.WireDelay p) (min (derivedDelay (b.port p).sofNs) 255)).setPort p
      { b.port p with delayUntil := some (b.glade.cycles + 50), trainRun := 0 }).report Src.LINK_DELAY p [derivedDelay (b.port p).sofNs] := by
  have hgo : (!b.inTraining p || decide ((b.port p).trainRun < 32) || (b.port p).delayUntil.isSome) = false := by
    simp [inTraining, hst, hdelay, hrun]
  unfold trainingComplete
  simp only [hgo, Bool.false_eq_true, if_false, if_pos hw]
  rfl

/-- The objects of a port that hold what the head said of itself, and the delay of its wire. -/
def headObjects (p : Nat) : List Nat :=
  [Obj.PortRecord.WireDelay p, Obj.PortRecord.ReportedClass p, Obj.PortRecord.HeadVendor p, Obj.PortRecord.HeadRevision p,
    Obj.PortRecord.HeadSerial p, Obj.PortRecord.HeadCaps p]

theorem takeHead_keeps (b : Block) (p : Nat) : Keeps (headObjects p) b (b.takeHead p) :=
  (((Keeps.refl b).wr _ (by simp [headObjects])).wrs _ (by simp [headObjects])).setPort p _

theorem takeHead_port_of_ne (b : Block) {p q : Nat} (h : q ≠ p) : (b.takeHead p).port q = b.port q := by
  simp only [takeHead, port_setPort, if_neg h]
  rw [wrs_port]
  rfl


/-- What a completed run shows of the head. -/
theorem takeHead_shows (b : Block) (p : Nat) :
    (b.takeHead p).rd (Obj.PortRecord.ReportedClass p) = (b.port p).trainClass ∧
      (b.takeHead p).rd (Obj.PortRecord.WireDelay p) = min (derivedDelay (b.port p).sofNs) 255 ∧
      (b.takeHead p).rd (Obj.PortRecord.HeadVendor p) = (b.port p).trainWords.getD 0 0 ∧
      (b.takeHead p).rd (Obj.PortRecord.HeadRevision p) = (b.port p).trainWords.getD 1 0 := by
  simp [takeHead, rd_wr, Obj.PortRecord.WireDelay, Obj.PortRecord.ReportedClass, Obj.PortRecord.HeadVendor, Obj.PortRecord.HeadRevision,
    Obj.PortRecord.HeadSerial, Obj.PortRecord.HeadCaps, objKey]

theorem takeHead_port (b : Block) (p : Nat) : (b.takeHead p).port p =
    { b.port p with
      tag := (b.port p).trainOsLast, retrain := false, resync := true, trainRun := 0, cfg := (b.port p).cfg.filter (·.write),
      regs := [(0x10, (b.port p).trainWords.getD 7 0)] } := port_setPort_self ..

@[simp] theorem takeHead_writes (b : Block) (p : Nat) : (b.takeHead p).writes = b.writes := by
  unfold takeHead
  dsimp only
  rw [setPort_writes, wrs_writes]
  rfl

@[simp] theorem takeHead_faults (b : Block) (p : Nat) : (b.takeHead p).faults = b.faults := by
  unfold takeHead
  dsimp only
  rw [setPort_faults, wrs_faults]
  rfl

/-- A port's objects outside those of its head read as they did. -/
theorem takeHead_rd (b : Block) (p : Nat) {k : Nat} (hk : k ∉ headObjects p) : (b.takeHead p).rd k = b.rd k := (b.takeHead_keeps p).rd_eq hk


/-- The objects of a port that a training does not take from its head. -/
theorem notMem_headObjects (p : Nat) {sub : Nat} (hs : sub < 256) (h : sub ∉ [0x11, 0x02, 0x15, 0x16, 0x17, 0x18]) :
    objKey (0x3000 + p) sub ∉ headObjects p := by
  simp only [List.mem_cons, List.not_mem_nil, or_false, not_or] at h
  obtain ⟨h1, h2, h3, h4, h5, h6⟩ := h
  simp only [headObjects, List.mem_cons, List.not_mem_nil, or_false, not_or]
  exact ⟨objKey_ne_of_sub_ne hs (by decide) h1, objKey_ne_of_sub_ne hs (by decide) h2, objKey_ne_of_sub_ne hs (by decide) h3,
    objKey_ne_of_sub_ne hs (by decide) h4, objKey_ne_of_sub_ne hs (by decide) h5, objKey_ne_of_sub_ne hs (by decide) h6⟩

@[simp] theorem classOf_takeHead (b : Block) (p : Nat) : (b.takeHead p).classOf p = b.classOf p :=
  congrArg (· % 8) (b.takeHead_rd p (notMem_headObjects p (by decide) (by decide)))
@[simp] theorem portState_takeHead (b : Block) (p : Nat) : (b.takeHead p).portState p = b.portState p :=
  b.takeHead_rd p (notMem_headObjects p (by decide) (by decide))
@[simp] theorem holdLimit_takeHead (b : Block) (p : Nat) :
    (b.takeHead p).rd (Obj.PortRecord.HoldLimit p) = b.rd (Obj.PortRecord.HoldLimit p) :=
  b.takeHead_rd p (notMem_headObjects p (by decide) (by decide))

/-! ### What a command of training does to the block -/

/-- What the state of a port and the accesses that wait may change. -/
def admitObjects (p : Nat) : List Nat :=
  [Obj.PortRecord.PortState p, Obj.PortRecord.CfgWriteResult p, Obj.SourceConfig.PresentInstances Src.CLASS_MISMATCH]

/-- An object of a port with another sub-index is none of them. -/
theorem notMem_admitObjects (p : Nat) {sub : Nat} (hs : sub < 256) (h : sub ∉ [0x05, 0x29, 0x0B]) :
    objKey (0x3000 + p) sub ∉ admitObjects p := by
  simp only [List.mem_cons, List.not_mem_nil, or_false, not_or] at h
  obtain ⟨hstate, hresult, hpresent⟩ := h
  simp only [admitObjects, List.mem_cons, List.not_mem_nil, or_false, not_or]
  exact ⟨objKey_ne_of_sub_ne hs (by decide) hstate, objKey_ne_of_sub_ne hs (by decide) hresult, objKey_ne_of_sub_ne hs (by decide) hpresent⟩

theorem Keeps.mono {l m : List Nat} {b c : Block} (h : Keeps l b c) (hs : l ⊆ m) : Keeps m b c := fun k hk => h k fun hl => hk (hs hl)

theorem admitHead_keeps (b : Block) (p hold : Nat) : Keeps (admitObjects p) b (b.admitHead p hold) := by
  obtain ⟨-, -, hclass⟩ := b.admitByClass_frame p
  exact (hclass.mono (by simp [admitObjects])).trans ((trainingAccesses_queues _ p hold).objects.mono (by simp [admitObjects]))

theorem admitHead_writes (b : Block) (p hold : Nat) : (b.admitHead p hold).writes = b.writes :=
  (trainingAccesses_queues _ p hold).writes.trans (b.admitByClass_frame p).1

theorem admitHead_port_of_ne (b : Block) {p q : Nat} (hold : Nat) (h : q ≠ p) : (b.admitHead p hold).port q = b.port q :=
  ((trainingAccesses_queues _ p hold).others q h).trans ((b.admitByClass_frame p).2.1 q)

theorem admitHead_port (b : Block) (p hold : Nat) :
    (b.admitHead p hold).port p = { b.port p with cfg := ((b.admitHead p hold).port p).cfg } :=
  (trainingAccesses_queues _ p hold).own.trans (by rw [(b.admitByClass_frame p).2.1 p]; rfl)

theorem mem_admitHead {b : Block} {p hold : Nat} (h : hold ≠ b.rd (Obj.PortRecord.HoldLimit p)) :
    ({ write := true, addr := 0x10, data := b.rd (Obj.PortRecord.HoldLimit p) } : Cfg) ∈ ((b.admitHead p hold).port p).cfg := by
  have hrd : (b.admitByClass p).rd (Obj.PortRecord.HoldLimit p) = b.rd (Obj.PortRecord.HoldLimit p) :=
    ((b.admitByClass_frame p).2.2.mono (m := admitObjects p) (by simp [admitObjects])).rd_eq (notMem_admitObjects p (by decide) (by decide))
  rw [← hrd] at h ⊢
  exact mem_trainingAccesses h

theorem admitHead_portState (b : Block) (p hold : Nat) : (b.admitHead p hold).portState p = (b.admitByClass p).portState p :=
  (trainingAccesses_queues _ p hold).objects.rd_eq
    (List.mem_singleton.not.2 (objKey_ne_of_sub_ne (by decide) (by decide) (by decide)))

theorem admitHead_faults (b : Block) (p hold : Nat) : (b.admitHead p hold).faults = (b.admitByClass p).faults :=
  (trainingAccesses_queues _ p hold).faults

/-- The head that was taken is judged against the configured class. -/
theorem classOk_takeHead (b : Block) (p : Nat) :
    (b.takeHead p).classOk p =
      ((b.port p).trainClass == b.classOf p && decide (1 ≤ (b.port p).trainClass) && decide ((b.port p).trainClass ≤ 5)) := by
  simp only [classOk, (b.takeHead_shows p).1, classOf_takeHead]

/-- A head of the configured class is admitted, and no fault comes or goes. -/
theorem admitHead_ok {b : Block} {p : Nat} (hold : Nat) (hc : b.classOk p = true) (hst : b.portState p = psTRAINING)
    (hp : b.isPresent Src.CLASS_MISMATCH p = false) :
    (b.admitHead p hold).portState p = psADMITTED ∧ (b.admitHead p hold).faults = b.faults := by
  rw [admitHead_portState, admitHead_faults, admitByClass_ok hc hst hp]
  simp

/-- A head of another class is a MISMATCH, and its condition appears. -/
theorem admitHead_mismatch {b : Block} {p : Nat} (hold : Nat) (hc : b.classOk p = false) (hp : b.isPresent Src.CLASS_MISMATCH p = false) :
    (b.admitHead p hold).portState p = psMISMATCH ∧ (b.admitHead p hold).isPresent Src.CLASS_MISMATCH p = true ∧
      (b.admitHead p hold).faults.reports =
        b.faults.reports ++ [{ src := Src.CLASS_MISMATCH, inst := p, detail := [b.rd (Obj.PortRecord.ReportedClass p), b.classOf p] }] := by
  have hp' : (b.setPortState p psMISMATCH).isPresent Src.CLASS_MISMATCH p = false := by rwa [isPresent, setPortState_faults]
  have hreports := condition_appears hp' [(b.rd (Obj.PortRecord.ReportedClass p) : Int), b.classOf p]
  refine ⟨?_, ?_, ?_⟩
  · rw [admitHead_portState, admitByClass_mismatch hc, portState_condition, portState_setPortState]
  · rw [isPresent, admitHead_faults, admitByClass_mismatch hc]
    exact isPresent_condition ..
  · rw [admitHead_faults, admitByClass_mismatch hc, hreports, setPortState_faults]

/-! ### A run that takes too long, and a new run (R148) -/

@[simp] theorem startTraining_faults (b : Block) (p : Nat) : (b.startTraining p).faults = b.faults := rfl
@[simp] theorem startTraining_port (b : Block) (p : Nat) :
    (b.startTraining p).port p = { b.port p with trainRun := 0, trainAt := b.glade.cycles, delayUntil := none } :=
  port_modPort_self b p fun x => { x with trainRun := 0, trainAt := b.glade.cycles, delayUntil := none }
theorem startTraining_attempts (b : Block) (p : Nat) :
    (b.startTraining p).rd (Obj.PortRecord.TrainAttempts p) = min (b.rd (Obj.PortRecord.TrainAttempts p) + 1) 0xFFFF := rd_wr_self ..
theorem startTraining_keeps (b : Block) (p : Nat) : Keeps [Obj.PortRecord.TrainAttempts p] b (b.startTraining p) :=
  ((Keeps.refl b).setPort p _).wr _ (by simp)

theorem trainingTimeout_ends {b : Block} {p : Nat} (hst : b.portState p = psTRAINING) (hdelay : (b.port p).delayUntil = none)
    (hlong : (b.port p).trainAt + 100 ≤ b.glade.cycles) :
    b.trainingTimeout p =
      ((b.report Src.LINK_TRAIN_FAIL p).setPort p { b.port p with retrain := false, trainRun := 0 }).setPortState p psABSENT := by
  have hgo : (!b.inTraining p || (b.port p).delayUntil.isSome || decide (b.glade.cycles < (b.port p).trainAt + 100)) = false := by
    simp [inTraining, hst, hdelay, hlong]
  have hst' : ¬ ((b.report Src.LINK_TRAIN_FAIL p).portState p = psIN_SERVICE ∨ (b.report Src.LINK_TRAIN_FAIL p).portState p = psSAFE ∨
      (b.report Src.LINK_TRAIN_FAIL p).portState p = psFAILED) := by
    change ¬ (b.portState p = psIN_SERVICE ∨ b.portState p = psSAFE ∨ b.portState p = psFAILED)
    rw [hst]
    decide
  unfold trainingTimeout
  simp only [hgo, Bool.false_eq_true, if_false, if_neg hst']

theorem delayRetrain_starts {b : Block} {p c : Nat} (ht : b.inTraining p = true) (hc : (b.port p).delayUntil = some c)
    (hle : c ≤ b.glade.cycles) : b.delayRetrain p = b.startTraining p := by
  simp [delayRetrain, hc, hle, ht]

end Block

/-! ### The commands -/

theorem trainingComplete_admits (s : State) (p : Nat) (hs : Settled s) (hp : p < 512) (hst : s.blk.portState p = psTRAINING)
    (hrun : 32 ≤ (s.blk.port p).trainRun) (hdelay : (s.blk.port p).delayUntil = none) (hw : Block.derivedDelay (s.blk.port p).sofNs ≤ 40) :
    exec (.trainingComplete p) s =
      .next { s with blk := (s.blk.takeHead p).admitHead p ((s.blk.port p).trainWords.getD 7 0) } := by
  have he := Block.trainingComplete_short hst hrun hdelay hw
  refine (s.actOn_frame (decide_eq_true hp) .port p (·.trainingComplete p) ?_).trans ?_
  · exact (congrArg Block.writes he).trans ((Block.admitHead_writes ..).trans ((Block.takeHead_writes ..).trans hs))
  · exact congrArg (fun b => Host.Outcome.next { s with blk := b }) he

/-- Settles O24: a completed run takes the head and then judges it; a long wire, a long run and a new run are told by their equations. -/
theorem trainingAdmitsAHeadOfTheConfiguredClass : Obligations.TrainingAdmitsAHeadOfTheConfiguredClass := by
  unfold Obligations.TrainingAdmitsAHeadOfTheConfiguredClass
  refine ⟨?_, ?_, ?_, ?_⟩
  · intro s p hs hp hst hrun hdelay hw hpresent
    have hexec := trainingComplete_admits s p hs hp hst hrun hdelay hw
    obtain ⟨hclass, hwire, hvendor, hrevision⟩ := s.blk.takeHead_shows p
    have hpresent' : (s.blk.takeHead p).isPresent Src.CLASS_MISMATCH p = false := by rwa [Block.isPresent, Block.takeHead_faults]
    have hport := (s.blk.takeHead p).admitHead_port p ((s.blk.port p).trainWords.getD 7 0)
    have hkeeps := (s.blk.takeHead p).admitHead_keeps p ((s.blk.port p).trainWords.getD 7 0)
    have hothers := fun q => (s.blk.takeHead p).admitHead_port_of_ne (p := p) (q := q) ((s.blk.port p).trainWords.getD 7 0)
    have hwaits := Block.mem_admitHead (b := s.blk.takeHead p) (p := p) (hold := (s.blk.port p).trainWords.getD 7 0)
    have hok := fun hc hst => Block.admitHead_ok (b := s.blk.takeHead p) ((s.blk.port p).trainWords.getD 7 0) hc hst hpresent'
    have hno := fun hc => Block.admitHead_mismatch (b := s.blk.takeHead p) ((s.blk.port p).trainWords.getD 7 0) hc hpresent'
    generalize (s.blk.takeHead p).admitHead p ((s.blk.port p).trainWords.getD 7 0) = e at hexec hport hkeeps hothers hwaits hok hno
    rw [Block.takeHead_port] at hport
    rw [Block.holdLimit_takeHead] at hwaits
    rw [Block.portState_takeHead, Block.takeHead_faults, Block.classOk_takeHead] at hok
    rw [Block.takeHead_faults, Block.classOk_takeHead, Block.classOf_takeHead, hclass] at hno
    refine ⟨_, hexec, ⟨rfl, rfl, rfl⟩, ?_, ?_, ?_, ?_, ?_, ?_, ?_, ?_, hwaits, ?_, ?_, ?_, ?_⟩
    · exact (hkeeps.rd_eq (Block.notMem_admitObjects p (by decide) (by decide))).trans hclass
    · exact (hkeeps.rd_eq (Block.notMem_admitObjects p (by decide) (by decide))).trans (hwire.trans (by omega))
    · exact (hkeeps.rd_eq (Block.notMem_admitObjects p (by decide) (by decide))).trans hvendor
    · exact (hkeeps.rd_eq (Block.notMem_admitObjects p (by decide) (by decide))).trans hrevision
    · exact congrArg Port.tag hport
    · exact congrArg Port.resync hport
    · exact congrArg Port.retrain hport
    · exact congrArg Port.trainRun hport
    · exact fun q hq => (hothers q hq).trans (Block.takeHead_port_of_ne _ hq)
    · rintro ⟨heq, hlo, hhi⟩
      exact hok (by simp [heq, hlo, hhi]) hst
    · intro hne
      exact hno (by simp [hne])
    · exact Block.Keeps.trans ((s.blk.takeHead_keeps p).mono (by simp [Block.headObjects])) (hkeeps.mono (by simp [Block.admitObjects]))
  · intro s p hs hp hst hrun hdelay hw
    have he := Block.trainingComplete_long hst hrun hdelay hw
    refine ⟨_, s.actOn_frame (decide_eq_true hp) .port p (·.trainingComplete p) (by rw [he]; exact hs), ?_⟩
    dsimp only
    rw [he]
    exact ⟨congrArg Port.delayUntil ((Block.report_port ..).trans (Block.port_setPort_self ..)), rfl,
      (((Block.Keeps.refl s.blk).wr _ (by simp)).setPort p _).report _ _ _, rfl, rfl, rfl⟩
  · intro s p hs hp hst hdelay hlong
    have he := Block.trainingTimeout_ends hst hdelay hlong
    refine ⟨_, s.actOn_frame (decide_eq_true hp) .port p (·.trainingTimeout p) (by rw [he]; simpa using hs), ?_⟩
    dsimp only
    rw [he]
    exact ⟨Block.portState_setPortState .., congrArg Faults.reports (Block.setPortState_faults ..),
      (((Block.Keeps.refl s.blk).report _ _ _).setPort p _).setPortState _ _ (by simp), rfl, rfl, rfl⟩
  · intro s p c hs hp ht hc hle
    have he := Block.delayRetrain_starts ht hc hle
    refine ⟨_, s.actOn_frame (decide_eq_true hp) .port p (·.delayRetrain p) (by rw [he]; exact hs), ?_⟩
    dsimp only
    rw [he]
    exact ⟨by simp, by simp, s.blk.startTraining_attempts p, s.blk.startTraining_keeps p, rfl, rfl, rfl, rfl⟩

end Sys2Proof.Machine
end

section
/-! PROOFS. The start: the release of the reset, the firmware and Glade (R38, R47, R57, R204, R357, R543, R559, R590). -/

namespace Sys2Proof.Machine

open Sys2Proof.Safety

namespace Block

/-! ### The release of the reset -/

/-- The objects that the release of the reset changes. -/
def releaseObjects : List Nat :=
  [Obj.Seat.Value, Obj.StartupStatus.ResetReleased, Obj.SourceConfig.PresentInstances Src.REFCLK_FAIL]

/-- With TEST_EN low the release is a write of the seat and the time, a move to phase 4 and the presence of REFCLK_FAIL. -/
theorem release_eq (b : Block) (high refclk : Bool) (us : Nat) : ∃ c,
    b.release high false refclk us = c.condition Src.REFCLK_FAIL 0 (!refclk) ∧ c.writes = b.writes ∧
      c.aon = { b.aon with strapBad := false, testEn := false, phase := 4 } ∧
      c.rd Obj.Seat.Value = (if high then 0x42 else 0x41) ∧ c.rd Obj.StartupStatus.ResetReleased = us ∧ Keeps releaseObjects b c := by
  refine ⟨{ (b.wrs [(Obj.Seat.Value, if high then 0x42 else 0x41), (Obj.StartupStatus.ResetReleased, us)]).modAon
    (fun x => { x with strapBad := false, testEn := false, phase := 4 }) with glade := { b.glade with refclkFallback := !refclk } },
    rfl, rfl, rfl, ?_, rd_wr_self .., ((Keeps.refl b).wrs [(Obj.Seat.Value, if high then 0x42 else 0x41), (Obj.StartupStatus.ResetReleased, us)]
      (by simp [releaseObjects])).trans (Keeps.of_images rfl rfl)⟩
  exact (rd_wr_of_ne _ us (show Obj.Seat.Value ≠ Obj.StartupStatus.ResetReleased by decide)).trans (rd_wr_self ..)

theorem release_writes (b : Block) (high refclk : Bool) (us : Nat) : (b.release high false refclk us).writes = b.writes := by
  obtain ⟨c, he, hw, -⟩ := b.release_eq high refclk us
  rw [he, condition_writes, hw]

theorem release_aon (b : Block) (high refclk : Bool) (us : Nat) :
    (b.release high false refclk us).aon = { b.aon with strapBad := false, testEn := false, phase := 4 } := by
  obtain ⟨c, he, -, ha, -⟩ := b.release_eq high refclk us
  rw [he, condition_aon, ha]

theorem release_seat (b : Block) (high refclk : Bool) (us : Nat) :
    (b.release high false refclk us).seat = if high then 0x42 else 0x41 := by
  obtain ⟨c, he, -, -, hseat, -⟩ := b.release_eq high refclk us
  rw [seat, he, rd_condition_of_ne _ _ _ _ _ _ (by decide), hseat]

theorem release_time (b : Block) (high refclk : Bool) (us : Nat) :
    (b.release high false refclk us).rd Obj.StartupStatus.ResetReleased = us := by
  obtain ⟨c, he, -, -, -, htime, -⟩ := b.release_eq high refclk us
  rw [he, rd_condition_of_ne _ _ _ _ _ _ (by decide), htime]

theorem release_refclk (b : Block) (high refclk : Bool) (us : Nat) :
    (b.release high false refclk us).isPresent Src.REFCLK_FAIL 0 = !refclk := by
  obtain ⟨c, he, -⟩ := b.release_eq high refclk us
  rw [he, isPresent_condition]

theorem release_keeps (b : Block) (high refclk : Bool) (us : Nat) : Keeps releaseObjects b (b.release high false refclk us) := by
  obtain ⟨c, he, -, -, -, -, hk⟩ := b.release_eq high refclk us
  rw [he]
  exact hk.condition _ _ _ _ _ (by simp [releaseObjects])

theorem resetRelease_of {b : Block} (hphase : b.aon.phase = 3) (hpf : b.aon.pfLow = false) (hcore : b.aon.coreBad = false)
    (high agree test refclk : Bool) (us : Nat) :
    b.resetRelease high agree test refclk us =
      if agree then b.release high test refclk us else { b with aon := { b.aon with strapBad := true } } := by
  simp [resetRelease, hphase, hpf, hcore, modAon]

theorem strapResample_seat {b : Block} (hphase : b.aon.phase = 3) (hbad : b.aon.strapBad = true) (hpf : b.aon.pfLow = false) (v : Nat)
    (test refclk : Bool) (us : Nat) : b.strapResample false v true test refclk us = b.release (v % 2 == 1) test refclk us := by
  simp [strapResample, hphase, hbad, hpf]

theorem strapResample_core {b : Block} (hbad : b.aon.coreBad = true) (v : Nat) (test refclk : Bool) (us : Nat) :
    b.strapResample true v true test refclk us = (b.takeCorePhases v).modAon (fun x => { x with coreBad := false }) := by
  simp [strapResample, hbad]

/-- The straps' phases and their limit (R542). -/
theorem takeCorePhases_shows (b : Block) (v : Nat) :
    (b.takeCorePhases v).rd Obj.SupplyStatus.CorePhases = v % 4 + 1 ∧ (b.takeCorePhases v).rd (Obj.RailRecord.Phases 0) = v % 4 + 1 ∧
      (b.takeCorePhases v).rd (Obj.RailRecord.CurrentLimit 0) = 4500 * (v % 4 + 1) := by
  have hcore : Obj.SupplyStatus.CorePhases ≠ Obj.RailRecord.Phases 0 := by decide
  have hcore' : Obj.SupplyStatus.CorePhases ≠ Obj.RailRecord.CurrentLimit 0 := by decide
  have hphases : Obj.RailRecord.Phases 0 ≠ Obj.RailRecord.CurrentLimit 0 := by decide
  exact ⟨(rd_wr_of_ne _ _ hcore').trans ((rd_wr_of_ne _ _ hcore).trans (rd_wr_self ..)), (rd_wr_of_ne _ _ hphases).trans (rd_wr_self ..),
    rd_wr_self ..⟩

/-! ### The firmware's start -/

theorem startReports_aon (b : Block) : b.startReports.aon = { b.aon with railFailed := false, noImage := false } := by
  unfold startReports
  extract_lets b1 b2 b3 x c faults b4
  have h1 : b1.aon = b.aon := by unfold b1; split <;> rfl
  have h2 : b2.aon = b1.aon := by unfold b2; split <;> rfl
  have h3 : b3.aon = b2.aon := by unfold b3; split <;> rfl
  have h4 : b4.aon = b3.aon := by unfold b4; split <;> rfl
  exact congrArg (fun a : Aon => { a with railFailed := false, noImage := false }) (h4.trans (h3.trans (h2.trans h1)))

theorem startBarred_aon (b : Block) : b.startBarred.aon = b.aon := by
  unfold startBarred
  split <;> rfl

theorem auxStart_aon (b : Block) : b.auxStart.aon = b.aon := by
  unfold auxStart
  split <;> rfl

theorem startBarred_faults (b : Block) : b.startBarred.faults = b.faults := by
  unfold startBarred
  split <;> rfl

theorem auxStart_faults (b : Block) : b.auxStart.faults = b.faults := by
  unfold auxStart
  split <;> rfl

theorem auxStart_masks (b : Block) : b.auxStart.masks = b.masks := by
  unfold auxStart
  split <;> rfl

/-- The start of AUX is no matter of Readiness. -/
theorem auxStart_readiness (b : Block) : b.auxStart.rd Obj.RedundancyStatus.Readiness = b.rd Obj.RedundancyStatus.Readiness := by
  unfold auxStart
  split
  · exact rd_wr_of_ne _ _ (by decide)
  · rfl

/-- In GRAVE the controller is barred and its stage ports are silent (R357). -/
theorem startBarred_grave {b : Block} (h : b.faults.grave = true) :
    b.startBarred.rd Obj.RedundancyStatus.Readiness = rdBARRED ∧ b.startBarred.masks.silent = true := by
  have hbar : (b.inGrave || b.archived) = true := by simp [inGrave, h]
  unfold startBarred
  rw [if_pos hbar]
  exact ⟨rd_wr_self b Obj.RedundancyStatus.Readiness rdBARRED, rfl⟩

/-- What FIRMWARE_START does once the scans have ended: step 6 is reached. -/
def reachStep6 (b : Block) : Block := (b.startReports.startBarred.auxStart).modAon (fun x => { x with phase := 6 })

theorem reachStep6_aon (b : Block) : b.reachStep6.aon = { b.aon with railFailed := false, noImage := false, phase := 6 } := by
  simp only [reachStep6, modAon, auxStart_aon, startBarred_aon, startReports_aon]

theorem reachStep6_grave {b : Block} (h : b.reachStep6.faults.grave = true) :
    b.reachStep6.rd Obj.RedundancyStatus.Readiness = rdBARRED ∧ b.reachStep6.masks.silent = true := by
  rw [reachStep6, modAon_faults, auxStart_faults, startBarred_faults] at h
  rw [reachStep6, modAon_rd, auxStart_readiness, modAon_masks, auxStart_masks]
  exact startBarred_grave h

/-! ### Glade starts -/

/-- The objects that the start of Glade changes. -/
def gladeObjects : List Nat :=
  [Obj.GladeStatus.State, Obj.GladeStatus.Source, Obj.GladeStatus.Frequency, Obj.Channel.RefState, Obj.Channel.RefLeadRemaining,
    Obj.StartupStatus.GladeStarted]

/-- Glade runs from tick 0 of a boundary, in FREE at the nominal frequency (R38, R47), and only its objects were written. -/
structure GladeRuns (b d : Block) : Prop where
  running : d.glade.running = true
  tick : d.glade.tick = 0
  boundary : d.glade.boundary = true
  state : d.gState = gladeFREE
  source : d.gSource = 3
  frequency : d.rd Obj.GladeStatus.Frequency = b.glade.fnom * 65536
  writes : d.writes = b.writes
  objects : Keeps gladeObjects b d

theorem gladeStart_runs (b : Block) (e c : Nat) : GladeRuns b (b.gladeStart e c) where
  running := rfl
  tick := rfl
  boundary := rfl
  state := (rd_wr_of_ne _ _ (show Obj.GladeStatus.State ≠ Obj.GladeStatus.Frequency by decide)).trans
    ((rd_wr_of_ne _ _ (show Obj.GladeStatus.State ≠ Obj.GladeStatus.Source by decide)).trans (rd_wr_self ..))
  source := (rd_wr_of_ne _ _ (show Obj.GladeStatus.Source ≠ Obj.GladeStatus.Frequency by decide)).trans (rd_wr_self ..)
  frequency := rd_wr_self ..
  writes := rfl
  objects := by
    unfold gladeStart
    extract_lets g d
    exact Keeps.wrs (c := d) (Keeps.of_images rfl rfl) _ (by simp [gladeObjects])

theorem GladeRuns.report {b d : Block} (h : GladeRuns b d) (src inst : Nat) (l : List Int) : GladeRuns b (d.report src inst l) :=
  ⟨h.running, h.tick, h.boundary, h.state, h.source, h.frequency, h.writes, h.objects.report _ _ _⟩

/-- The reference buffer starts to settle and step 7 is reached, once Glade runs and the alarms of the cell are reported. -/
def reachStep7 (b : Block) (us : Nat) : Block :=
  (b.refStart.wr Obj.StartupStatus.GladeStarted us).modAon (fun x => { x with phase := 7, unreported := 0 })

theorem reachStep7_aon (b : Block) (us : Nat) : (b.reachStep7 us).aon = { b.aon with phase := 7, unreported := 0 } := rfl
theorem reachStep7_keeps (b : Block) (us : Nat) :
    Keeps [Obj.Channel.RefState, Obj.Channel.RefLeadRemaining, Obj.StartupStatus.GladeStarted] b (b.reachStep7 us) := by
  refine Keeps.trans (c := b.refStart.wr Obj.StartupStatus.GladeStarted us) ?_ (Keeps.of_images rfl rfl)
  exact ((Keeps.refl b).wrs _ (by simp)).wr us (by simp)
theorem reachStep7_started (b : Block) (us : Nat) : (b.reachStep7 us).rd Obj.StartupStatus.GladeStarted = us := rd_wr_self ..
theorem reachStep7_settling (b : Block) (us : Nat) : (b.reachStep7 us).rd Obj.Channel.RefState = rsSETTLING :=
  (rd_wr_of_ne _ us (show Obj.Channel.RefState ≠ Obj.StartupStatus.GladeStarted by decide)).trans
    ((rd_wr_of_ne _ _ (show Obj.Channel.RefState ≠ Obj.Channel.RefLeadRemaining by decide)).trans (rd_wr_self ..))

/-- Step 7 leaves Glade as it started. -/
theorem GladeRuns.reachStep7 {b d : Block} (h : GladeRuns b d) (us : Nat) : GladeRuns b (d.reachStep7 us) where
  running := h.running
  tick := h.tick
  boundary := h.boundary
  state := ((d.reachStep7_keeps us).rd_eq (by decide)).trans h.state
  source := ((d.reachStep7_keeps us).rd_eq (by decide)).trans h.source
  frequency := ((d.reachStep7_keeps us).rd_eq (by decide)).trans h.frequency
  writes := h.writes
  objects := h.objects.trans ((d.reachStep7_keeps us).mono (by simp [gladeObjects]))

/-- Where Glade starts (R38): at the partner's number, one cycle after the stored number, or nowhere known. -/
def startPlace (b : Block) (partner : Bool) (e c : Nat) : Option (Nat × Nat) :=
  if partner then some (e, c)
  else match b.stored 1 0, b.stored 1 1 with
    | some e, some c => some (nextCycle e c)
    | _, _ => none

theorem startGlade_of {b : Block} (hphase : b.aon.phase = 6) (hlog : b.aon.unreported = 0) (partner : Bool) (e c us : Nat) :
    b.startGlade partner e c us =
      (match b.startPlace partner e c with
        | some p => b.gladeStart p.1 p.2
        | none => (b.gladeStart 0 0).report Src.GLADE_NUMBER_INIT 0).reachStep7 us := by
  unfold startGlade
  rw [if_neg (not_not.2 hphase)]
  extract_lets pos d d' d''
  have hd : d.aon = b.aon := by
    unfold d
    generalize pos = place
    cases place <;> rfl
  have hnone : d'' = d' := by
    have hzero : d'.aon.unreported = 0 := (congrArg Aon.unreported hd).trans hlog
    unfold d''
    rw [hzero, List.take_zero, List.foldl_nil]
  rw [hnone]
  rfl

theorem startPlace_partner (b : Block) {partner : Bool} {e c : Nat} (hp : partner = true) : b.startPlace partner e c = some (e, c) := by
  simp [startPlace, hp]

theorem startPlace_stored (e c : Nat) {b : Block} {partner : Bool} {e' c' : Nat} (hp : partner = false) (he : b.stored 1 0 = some e')
    (hc : b.stored 1 1 = some c') : b.startPlace partner e c = some (nextCycle e' c') := by
  simp [startPlace, hp, he, hc]

theorem startPlace_none (e c : Nat) {b : Block} {partner : Bool} (hp : partner = false) (he : b.stored 1 0 = none) :
    b.startPlace partner e c = none := by
  simp [startPlace, hp, he]

section

variable {b : Block} (hphase : b.aon.phase = 6) (hlog : b.aon.unreported = 0)
include hphase hlog

/-- Glade starts at a place that is known, -/
theorem startGlade_place {partner : Bool} {e c us : Nat} {p : Nat × Nat} (h : b.startPlace partner e c = some p) :
    ((b.startGlade partner e c us).glade.epoch, (b.startGlade partner e c us).glade.cycle) = p := by
  rw [startGlade_of hphase hlog, h]
  rfl

/-- and otherwise at 0:0, which is recorded. -/
theorem startGlade_first {partner : Bool} {e c us : Nat} (h : b.startPlace partner e c = none) :
    ((b.startGlade partner e c us).glade.epoch, (b.startGlade partner e c us).glade.cycle) = (0, 0) ∧
      (b.startGlade partner e c us).faults.reports = b.faults.reports ++ [{ src := Src.GLADE_NUMBER_INIT, inst := 0 }] := by
  rw [startGlade_of hphase hlog, h]
  exact ⟨rfl, rfl⟩

/-- Glade runs either way, and step 7 is reached. -/
theorem startGlade_runs (partner : Bool) (e c us : Nat) :
    ∃ d, b.startGlade partner e c us = d.reachStep7 us ∧ GladeRuns b d ∧ d.aon = b.aon := by
  rw [startGlade_of hphase hlog]
  cases b.startPlace partner e c with
  | some p => exact ⟨_, rfl, b.gladeStart_runs p.1 p.2, rfl⟩
  | none => exact ⟨_, rfl, (b.gladeStart_runs 0 0).report _ _ _, rfl⟩

theorem startGlade_started (partner : Bool) (e c us : Nat) : GladeRuns b (b.startGlade partner e c us) := by
  obtain ⟨d, he, hd, -⟩ := startGlade_runs hphase hlog partner e c us
  rw [he]
  exact hd.reachStep7 us

theorem startGlade_ready (partner : Bool) (e c us : Nat) :
    (b.startGlade partner e c us).aon = { b.aon with phase := 7, unreported := 0 } ∧
      (b.startGlade partner e c us).rd Obj.Channel.RefState = rsSETTLING ∧
      (b.startGlade partner e c us).rd Obj.StartupStatus.GladeStarted = us := by
  obtain ⟨d, he, -, ha⟩ := startGlade_runs hphase hlog partner e c us
  rw [he, reachStep7_aon, ha]
  exact ⟨rfl, d.reachStep7_settling us, d.reachStep7_started us⟩

end

end Block

@[simp] theorem State.erase_pending (s : State) (i : Nat) : (s.erase i).pending = s.pending := rfl

/-- The scan of the rings works on the arrays and the block. -/
theorem State.ringsScan_pending (s : State) : s.ringsScan.pending = s.pending := by
  unfold State.ringsScan
  extract_lets ring arch t last fresh newest
  rw [State.mapBlk_pending]
  unfold t
  generalize arch.2 = l
  induction l generalizing s with
  | nil => rfl
  | cons i r ih =>
    rw [List.foldl_cons, ih]
    split
    · rfl
    · exact s.erase_pending _

theorem State.dumpScan_pending (s : State) : s.dumpScan.pending = s.pending := rfl

theorem State.firmwareStart_eq (s : State) (h : s.blk.aon.phase = 5) : ∃ r : State, s.firmwareStart = r.mapBlk Block.reachStep6 ∧
    r.pending = s.pending := by
  refine ⟨(s.mapBlk (fun b => b.loadStored.updateStart.restoreBackup)).ringsScan.dumpScan, ?_, ?_⟩
  · unfold State.firmwareStart
    rw [if_neg (not_not.2 h)]
    rfl
  · rw [State.dumpScan_pending, State.ringsScan_pending, State.mapBlk_pending]

/-! ### The commands -/

theorem resetRelease_next {s : State} (hs : Settled s) (hphase : s.blk.aon.phase = 3) (hpf : s.blk.aon.pfLow = false)
    (hcore : s.blk.aon.coreBad = false) (high refclk : Bool) (us : Nat) :
    exec (.resetRelease high true false refclk us) s = .next { s with blk := s.blk.release high false refclk us } := by
  have he : s.blk.resetRelease high true false refclk us = s.blk.release high false refclk us :=
    Block.resetRelease_of hphase hpf hcore high true false refclk us
  rw [← he]
  exact s.act_frame (·.resetRelease high true false refclk us) (by rw [he, Block.release_writes, hs])

theorem resetRelease_strapBad {s : State} (hs : Settled s) (hphase : s.blk.aon.phase = 3) (hpf : s.blk.aon.pfLow = false)
    (hcore : s.blk.aon.coreBad = false) (high test refclk : Bool) (us : Nat) :
    exec (.resetRelease high false test refclk us) s = .next (s.mapBlk fun b => { b with aon := { b.aon with strapBad := true } }) := by
  have he : s.blk.resetRelease high false test refclk us = { s.blk with aon := { s.blk.aon with strapBad := true } } :=
    Block.resetRelease_of hphase hpf hcore high false test refclk us
  exact (s.act_frame (·.resetRelease high false test refclk us) (by rw [he]; exact hs)).trans
    (congrArg (fun b => Host.Outcome.next { s with blk := b }) he)

theorem strapResample_seat_next {s : State} (hs : Settled s) (hphase : s.blk.aon.phase = 3) (hbad : s.blk.aon.strapBad = true)
    (hpf : s.blk.aon.pfLow = false) (v us : Nat) (refclk : Bool) :
    exec (.strapResample false v true false refclk us) s = .next { s with blk := s.blk.release (v % 2 == 1) false refclk us } := by
  have he := Block.strapResample_seat hphase hbad hpf v false refclk us
  rw [← he]
  exact s.act_frame (·.strapResample false v true false refclk us) (by rw [he, Block.release_writes, hs])

theorem strapResample_core_next {s : State} (hs : Settled s) (hbad : s.blk.aon.coreBad = true) (v us : Nat) (test refclk : Bool) :
    exec (.strapResample true v true test refclk us) s =
      .next { s with blk := (s.blk.takeCorePhases v).modAon fun x => { x with coreBad := false } } := by
  have he := Block.strapResample_core hbad v test refclk us
  rw [← he]
  exact s.act_frame (·.strapResample true v true test refclk us) (by rw [he]; exact hs)

theorem gladeStart_next {s : State} (hs : Settled s) (hphase : s.blk.aon.phase = 6) (hlog : s.blk.aon.unreported = 0) (partner : Bool)
    (e c us : Nat) : exec (.gladeStart partner e c us) s = .next { s with blk := s.blk.startGlade partner e c us } := by
  exact s.act_frame (·.startGlade partner e c us) ((Block.startGlade_started hphase hlog partner e c us).writes.trans hs)

theorem firmwareStart_next {s : State} (hphase : s.blk.aon.phase = 5) : ∃ (t : State) (b : Block),
    exec .firmwareStart s = .next t ∧ t.pending = s.pending ∧ t.blk = { b.reachStep6 with writes := {} } := by
  obtain ⟨r, he, hr⟩ := s.firmwareStart_eq hphase
  refine ⟨(r.mapBlk Block.reachStep6).settle, r.blk, ?_, hr, rfl⟩
  rw [← he]
  rfl

/-- Settles O13: each step of the start does what its equation says, and the numbering of Glade goes by where it starts. -/
theorem theStartRunsFromTheReleaseToGlade : Obligations.TheStartRunsFromTheReleaseToGlade := by
  unfold Obligations.TheStartRunsFromTheReleaseToGlade
  refine ⟨?_, ?_, ?_, ?_, ?_, ?_⟩
  · intro s high refclk us hs hphase hpf hcore _
    exact ⟨_, resetRelease_next hs hphase hpf hcore high refclk us, s.blk.release_seat high refclk us, s.blk.release_time high refclk us,
      s.blk.release_aon high refclk us, s.blk.release_refclk high refclk us, s.blk.release_keeps high refclk us, rfl, rfl, rfl⟩
  · exact fun s high test refclk us hs hphase hpf hcore => resetRelease_strapBad hs hphase hpf hcore high test refclk us
  · intro s v us refclk hs hphase hbad hpf
    refine ⟨_, strapResample_seat_next hs hphase hbad hpf v us refclk, ?_, s.blk.release_aon _ refclk us, rfl, rfl, rfl⟩
    simpa using s.blk.release_seat (v % 2 == 1) refclk us
  · intro s v us test refclk hs hbad
    obtain ⟨hcore, hphases, hlimit⟩ := s.blk.takeCorePhases_shows v
    refine ⟨_, strapResample_core_next hs hbad v us test refclk, hcore, hphases, hlimit, rfl, ?_, rfl, rfl, rfl⟩
    exact Block.Keeps.trans ((Block.Keeps.refl s.blk).wrs _ (by simp)) (Block.Keeps.of_images rfl rfl)
  · intro s hphase
    obtain ⟨t, b, hexec, hpending, hblk⟩ := firmwareStart_next hphase
    have haon := b.reachStep6_aon
    have hgrave := b.reachStep6_grave
    generalize b.reachStep6 = c at hblk haon hgrave
    refine ⟨t, hexec, ?_⟩
    rw [hblk]
    exact ⟨congrArg Aon.phase haon, congrArg Aon.railFailed haon, congrArg Aon.noImage haon, hpending, hgrave⟩
  · intro s partner e c us hs hphase hlog
    have hexec := gladeStart_next hs hphase hlog partner e c us
    have hstart := Block.startGlade_started hphase hlog partner e c us
    have hready := Block.startGlade_ready hphase hlog partner e c us
    have hat := fun p => Block.startGlade_place hphase hlog (partner := partner) (e := e) (c := c) (p := p) (us := us)
    have hinit := Block.startGlade_first hphase hlog (partner := partner) (e := e) (c := c) (us := us)
    generalize s.blk.startGlade partner e c us = d at hexec hstart hready hat hinit
    obtain ⟨haon, hsettling, hstarted⟩ := hready
    refine ⟨_, hexec, hstart.running, hstart.tick, hstart.boundary, ?_, ?_, ?_, hstart.state, hstart.source, hstart.frequency, hsettling,
      hstarted, haon, hstart.objects, rfl, rfl, rfl⟩
    · exact fun hp => Prod.mk.inj (hat (e, c) (Block.startPlace_partner _ hp))
    · exact fun e' c' hp he' hc' => hat _ (Block.startPlace_stored _ _ hp he' hc')
    · intro hp hnone
      obtain ⟨hplace, hreports⟩ := hinit (Block.startPlace_none _ _ hp hnone)
      exact ⟨congrArg Prod.fst hplace, congrArg Prod.snd hplace, hreports⟩

end Sys2Proof.Machine
end

section
/-! PROOFS. Glade's sources: qualification, HOLDOVER and FREE, SYNC_IN (R45-R47, R55, R56, R65-R67). -/

namespace Sys2Proof.Machine

open Sys2Proof.Safety

/-! ### Bits -/

theorem bitOf_eq_testBit (v n : Nat) : bitOf v n = v.testBit n := by
  rw [Nat.testBit_eq_decide_div_mod_eq]
  rfl

/-- A bit that is added where it was clear carries into no other. -/
theorem testBit_two_pow_add_of_ne {v k n : Nat} (hk : v.testBit k = false) (hn : n ≠ k) : (2 ^ k + v).testBit n = v.testBit n := by
  rcases Nat.lt_or_gt_of_ne hn with hlt | hgt
  · exact Nat.testBit_two_pow_add_gt hlt v
  · obtain ⟨m, rfl⟩ := Nat.exists_eq_add_of_lt hgt
    have heven : v / 2 ^ k % 2 ≠ 1 := by simpa [Nat.testBit_eq_decide_div_mod_eq] using hk
    have hdiv : (2 ^ k + v) / 2 ^ (k + 1) = v / 2 ^ (k + 1) := by
      rw [Nat.pow_succ, ← Nat.div_div_eq_div_mul, ← Nat.div_div_eq_div_mul, Nat.add_div_left _ (Nat.two_pow_pos k)]
      omega
    rw [Nat.add_right_comm, Nat.add_comm (k + 1) m, ← Nat.testBit_div_two_pow, ← Nat.testBit_div_two_pow, hdiv]

theorem bitOf_putBit (v k n : Nat) (on : Bool) : bitOf (putBit v k on) n = if n = k then on else bitOf v n := by
  unfold putBit
  simp only [bitOf_eq_testBit]
  split
  · next h => split <;> simp_all
  · next h =>
    cases on with
    | true =>
      have hk : v.testBit k = false := by simpa using h
      rw [if_pos rfl, Nat.add_comm]
      split
      · next hn => rw [hn, Nat.testBit_two_pow_add_eq, hk]; rfl
      · next hn => exact testBit_two_pow_add_of_ne hk hn
    | false =>
      have hk : v.testBit k = true := by simpa using h
      have hv : 2 ^ k + (v - 2 ^ k) = v := by
        have := Nat.ge_two_pow_of_testBit hk
        omega
      have hk' : (v - 2 ^ k).testBit k = false := by
        have := Nat.testBit_two_pow_add_eq (v - 2 ^ k) k
        rw [hv, hk] at this
        simpa using this
      rw [if_neg Bool.false_ne_true]
      split
      · next hn => rw [hn, hk']
      · next hn => rw [← testBit_two_pow_add_of_ne hk' hn, hv]

namespace Block

/-- What an object reads after several writes: the last that names it, or what it read before. -/
theorem rd_wrs (b : Block) (l : List (Nat × Nat)) (j : Nat) :
    (b.wrs l).rd j = ((l.reverse.find? (fun e => e.1 == j)).map (·.2)).getD (b.rd j) := by
  induction l generalizing b with
  | nil => rfl
  | cons e r ih =>
    rw [wrs_cons, ih, List.reverse_cons, List.find?_append]
    cases r.reverse.find? (fun e => e.1 == j) with
    | some x => rfl
    | none =>
      rw [rd_wr]
      by_cases h : e.1 = j
      · simp [h]
      · simp [h, Ne.symm h]

/-! ### A source is lost (R46, R47, R55) -/

theorem qualified_setQualified (b : Block) (src n : Nat) (on : Bool) :
    (b.setQualified src on).qualified n = if n = src then on else b.qualified n := by
  rw [qualified, setQualified, rd_wr_self, bitOf_putBit]
  rfl

/-- Without a qualified source beside FREE there is none to move to. -/
theorem bestSource_none {b : Block} (h : ∀ c < 3, b.qualified c = false) : b.bestSource = none := by
  rw [bestSource, List.find?_eq_none]
  intro c _
  by_cases hc : c < 3 <;> simp [hc, h]

/-- HOLDOVER at the mean frequency of the last cycles (R55). -/
theorem enterHoldover_shows (b : Block) :
    b.enterHoldover.gState = gladeHOLDOVER ∧
      b.enterHoldover.rd Obj.GladeStatus.Frequency = b.clampFreq (if b.glade.history.isEmpty then b.rd Obj.GladeStatus.Frequency
        else b.glade.history.sum / b.glade.history.length) ∧
      b.enterHoldover.rd Obj.GladeStatus.SlewRemaining = 0 ∧ b.enterHoldover.rd Obj.GladeStatus.HoldoverCycles = 0 :=
  ⟨rd_wrs .., rd_wrs .., rd_wrs .., rd_wrs ..⟩

theorem enterHoldover_keeps (b : Block) :
    Keeps [Obj.GladeStatus.State, Obj.GladeStatus.Frequency, Obj.GladeStatus.SlewRemaining, Obj.GladeStatus.HoldoverCycles] b b.enterHoldover :=
  ((Keeps.refl b).wrs _ (by simp)).report _ _ _

/-- MAINS no longer counts as qualified, and Glade keeps its place. -/
def unqualifyMains (b : Block) : Block := { b.setQualified 0 false with glade := { b.glade with okMains := 0 } }

theorem unqualifyMains_keeps (b : Block) : Keeps [Obj.GladeStatus.QualifiedMask] b b.unqualifyMains :=
  ((Keeps.refl b).wr _ (by simp)).trans (Keeps.of_images rfl rfl)

theorem qualified_unqualifyMains (b : Block) (n : Nat) : b.unqualifyMains.qualified n = if n = 0 then false else b.qualified n :=
  b.qualified_setQualified 0 n false

/-- With Glade on MAINS and no other source qualified, the loss of MAINS leads to HOLDOVER and no further. -/
theorem mainsTimeout_holds {b : Block} (hstate : b.gState = gladeTRACK) (hsource : b.gSource = 0) (h1 : b.qualified 1 = false)
    (h2 : b.qualified 2 = false) : b.mainsTimeout = b.unqualifyMains.enterHoldover := by
  have hrd := fun {k} (hk : k ∉ [Obj.GladeStatus.QualifiedMask]) => b.unqualifyMains_keeps.rd_eq hk
  have hon : b.unqualifyMains.gSource = 0 ∧ (b.unqualifyMains.gState = gladeTRACK ∨ b.unqualifyMains.gState = gladeSLEW) :=
    ⟨(hrd (by decide)).trans hsource, .inl ((hrd (by decide)).trans hstate)⟩
  have hnone : b.unqualifyMains.enterHoldover.bestSource = none := bestSource_none fun c hc => by
    have hq : b.unqualifyMains.enterHoldover.qualified c = b.unqualifyMains.qualified c :=
      congrArg (bitOf · c) (b.unqualifyMains.enterHoldover_keeps.rd_eq (by decide))
    rw [hq, qualified_unqualifyMains]
    interval_cases c <;> simp [h1, h2]
  calc b.mainsTimeout = b.unqualifyMains.enterHoldover.holdoverSelect := if_pos hon
    _ = b.unqualifyMains.enterHoldover := by
      rw [holdoverSelect, if_pos b.unqualifyMains.enterHoldover_shows.1, hnone]

/-- The loss of a SYNC_IN that Glade does not follow takes its qualification and its frame. -/
theorem syncInLost_unselected {b : Block} (h : b.gSource ≠ 2) :
    b.syncInLost = { b.setQualified 2 false with
      glade := { b.glade with okSync := 0, syncFrameOk := false, syncRun := 0, syncMissing := 0, syncBad := 0 } } := by
  have hoff : ¬ ((b.setQualified 2 false).gSource = 2 ∧
      ((b.setQualified 2 false).gState = gladeTRACK ∨ (b.setQualified 2 false).gState = gladeSLEW)) := fun ⟨hsource, _⟩ =>
    h ((rd_wr_of_ne b _ (by decide)).symm.trans hsource)
  have hlose : b.loseSource 2 = { b.setQualified 2 false with
      glade := { b.glade with okSync := 0, syncFrameOk := false, syncRun := 0 } } := if_neg hoff
  rw [syncInLost, hlose]

/-! ### The limit of HOLDOVER (R56) -/

theorem holdoverExpiry_free {b : Block} (hstate : b.gState = gladeHOLDOVER) (hlimit : b.rd Obj.GladeConfig.HoldoverLimit ≠ 0)
    (hlong : b.rd Obj.GladeConfig.HoldoverLimit ≤ b.rd Obj.GladeStatus.HoldoverCycles) :
    b.holdoverExpiry = (b.wrs [(Obj.GladeStatus.State, gladeFREE), (Obj.GladeStatus.Source, 3), (Obj.GladeStatus.SlewRemaining, 0),
      (Obj.GladeStatus.PhaseError, 0)]).report Src.GLADE_FREE 0 := if_pos ⟨hstate, hlimit, hlong⟩

theorem holdoverExpiry_unlimited {b : Block} (h : b.rd Obj.GladeConfig.HoldoverLimit = 0) : b.holdoverExpiry = b :=
  if_neg fun ⟨_, hlimit, _⟩ => hlimit h

end Block

/-- A command on the block, whose meaning is known and hands over no write, answers the state with that block. -/
theorem State.act_block {s : State} (f : Block → Block) {c : Block} (he : f s.blk = c) (hw : c.writes = {}) : s.act f = .next { s with blk := c } := by
  subst he
  exact s.act_frame f hw

/-- The same for a command on a unit that exists. -/
theorem State.actOn_block {s : State} {ok : Bool} (h : ok = true) (k : UnitKind) (n : Nat) (f : Block → Block) {c : Block} (he : f s.blk = c)
    (hw : c.writes = {}) : s.actOn ok k n f = .next { s with blk := c } := (s.actOn_of h k n f).trans (State.act_block f he hw)

/-- Settles O18: MAINS is lost through `mainsTimeout_holds`, SYNC_IN through `syncInLost_unselected`, and the limit acts by its equation. -/
theorem gladeLosesASourceAndHoldsOver : Obligations.GladeLosesASourceAndHoldsOver := by
  unfold Obligations.GladeLosesASourceAndHoldsOver
  refine ⟨fun s hs hstate hsource h1 h2 => ?_, fun s hs hsource => ?_, fun s hs hstate hlimit hlong => ?_, fun s hs hlimit => ?_⟩
  · have hexec := State.act_block Block.mainsTimeout (Block.mainsTimeout_holds hstate hsource h1 h2) hs
    obtain ⟨hholdover, hfreq, hslew, hcycles⟩ := s.blk.unqualifyMains.enterHoldover_shows
    refine ⟨_, hexec, hholdover, ?_, ?_, hslew, hcycles, rfl, rfl, ?_, rfl, rfl, rfl⟩
    · exact (congrArg (bitOf · 0) (s.blk.unqualifyMains.enterHoldover_keeps.rd_eq (by decide))).trans (s.blk.qualified_unqualifyMains 0)
    · have hrd := fun {k} (hk : k ∉ [Obj.GladeStatus.QualifiedMask]) => s.blk.unqualifyMains_keeps.rd_eq hk
      rw [hfreq]
      unfold Block.clampFreq
      rw [hrd (by decide), hrd (by decide), hrd (by decide)]
      rfl
    · exact Block.Keeps.trans (s.blk.unqualifyMains_keeps.mono (by simp)) (s.blk.unqualifyMains.enterHoldover_keeps.mono (by simp))
  · refine ⟨_, State.act_block Block.syncInLost (Block.syncInLost_unselected hsource) hs, ?_, fun n hn => ?_, rfl, ?_, rfl, rfl, rfl, rfl⟩
    · exact s.blk.qualified_setQualified 2 2 false
    · exact (s.blk.qualified_setQualified 2 n false).trans (if_neg hn)
    · exact ((Block.Keeps.refl s.blk).wr _ (by simp)).trans (Block.Keeps.of_images rfl rfl)
  · exact ⟨_, State.act_block Block.holdoverExpiry (Block.holdoverExpiry_free hstate hlimit hlong) hs, Block.rd_wrs .., Block.rd_wrs .., Block.rd_wrs .., rfl, rfl,
      ((Block.Keeps.refl s.blk).wrs _ (by simp)).report _ _ _, rfl, rfl, rfl⟩
  · exact State.act_block Block.holdoverExpiry (Block.holdoverExpiry_unlimited hlimit) hs

end Sys2Proof.Machine
end

section
/-! PROOFS. SYNC_IN: edges and frames (R45, R46, R65-R67). -/

namespace Sys2Proof.Machine

open Sys2Proof.Safety

namespace Block

theorem syncInEdge_missing {b : Block} {ns : Nat} (h : ns < 2000 ∨ 18000 < ns) (stamp clk : Nat) : b.syncInEdge ns stamp clk = b := if_pos h

/-- What the first edge tells Glade: an error, a bit, and an end or one more of the run of good edges. -/
def firstEdge (g : Glade) (ns stamp clk : Nat) : Glade :=
  let good := decide ((signedAngle stamp).natAbs ≤ 2 ^ 30)
  { g with
    syncSeen := g.syncSeen || good, syncMissing := if good then 0 else g.syncMissing, syncError := -signedAngle stamp, syncFreq := 0,
    syncClk := clk, syncBits := (decide (8000 < ns) :: g.syncBits).take 64, syncRun := if good then g.syncRun + 1 else 0 }

/-- The first edge, with no delay to take off and another source selected, is a matter of Glade's record alone. -/
theorem syncInEdge_first {b : Block} {ns : Nat} (hlo : 2000 ≤ ns) (hhi : ns ≤ 18000) (hclk : b.glade.syncClk = 0)
    (hdelay : b.rd Obj.GladeConfig.SyncInDelay = 0) (hsource : b.gSource ≠ 2) (stamp clk : Nat) :
    b.syncInEdge ns stamp clk = { b with glade := firstEdge b.glade ns stamp clk } := by
  have hns : ¬ (ns < 2000 ∨ 18000 < ns) := by omega
  have hother : ∀ g : Glade, ({ b with glade := g } : Block).gSource ≠ 2 := fun _ => hsource
  simp [syncInEdge, hns, hdelay, hclk, hother, firstEdge]

/-- The value of the 64 bits received. -/
def frameValue (b : Block) : Nat := fromMsb b.glade.syncBits.reverse

/-- Its last 8 bits are the CRC-8 of the others (R66). -/
def frameGood (b : Block) : Prop := crc8Bits (msbBits 56 (b.frameValue / 256)) 0 = b.frameValue % 256

theorem syncFrame_bad {b : Block} (hlen : b.glade.syncBits.length = 64) (hfirst : b.glade.syncBad = 0) (hcrc : ¬ b.frameGood) :
    b.syncFrame = { b.report Src.SYNC_FRAME_ERROR 0 with glade := { b.glade with syncBits := [], syncBad := 1, syncFrameOk := false } } := by
  have hlen' : ¬ b.glade.syncBits.length < 64 := by omega
  have hcrc' : decide (crc8Bits (msbBits 56 (fromMsb b.glade.syncBits.reverse / 256)) 0 = fromMsb b.glade.syncBits.reverse % 256) = false :=
    decide_eq_false hcrc
  simp [syncFrame, hlen', hcrc', hfirst, report]

theorem syncFrame_good {b : Block} (hlen : b.glade.syncBits.length = 64) (hsource : b.gSource ≠ 2) (hrun : 64 ≤ b.glade.syncRun)
    (hcrc : b.frameGood) (hhops : b.frameValue / 256 % 16 < 15) :
    b.syncFrame = { b with glade := { b.glade with syncBits := [], syncBad := 0, syncFrameOk := true, syncFrame := b.frameValue } } := by
  have hlen' : ¬ b.glade.syncBits.length < 64 := by omega
  have hcrc' : decide (crc8Bits (msbBits 56 (fromMsb b.glade.syncBits.reverse / 256)) 0 = fromMsb b.glade.syncBits.reverse % 256) = true :=
    decide_eq_true hcrc
  have hother : ∀ g : Glade, ({ b with glade := g } : Block).gSource ≠ 2 := fun _ => hsource
  unfold frameValue at hhops ⊢
  have hhops' : fromMsb b.glade.syncBits.reverse / 256 % 16 ≠ 15 := by omega
  simp [syncFrame, hlen', hcrc', hhops, hhops', hrun, hother]

end Block

/-- Settles O19: an edge and a frame change what their equations say of Glade's record. -/
theorem syncInEdgesCarryBitsAndFrames : Obligations.SyncInEdgesCarryBitsAndFrames := by
  unfold Obligations.SyncInEdgesCarryBitsAndFrames
  refine ⟨fun s ns stamp clk hs hmissing => ?_, fun s ns stamp clk hs hlo hhi hclk hdelay hsource => ?_, fun s hs hlen hbad hcrc => ?_,
    fun s hs hlen hsource hrun hgood => ?_⟩
  · exact State.act_block (·.syncInEdge ns stamp clk) (Block.syncInEdge_missing hmissing stamp clk) hs
  · refine ⟨_, State.act_block (·.syncInEdge ns stamp clk) (Block.syncInEdge_first hlo hhi hclk hdelay hsource stamp clk) hs, rfl, rfl, rfl, ?_, rfl, rfl, rfl, rfl⟩
    simp [Block.firstEdge]
  · exact ⟨_, State.act_block Block.syncFrame (Block.syncFrame_bad hlen hbad hcrc) hs, rfl, rfl, rfl, rfl, rfl, rfl⟩
  · obtain ⟨hcrc, hhops⟩ := hgood
    exact ⟨_, State.act_block Block.syncFrame (Block.syncFrame_good hlen hsource hrun hcrc hhops) hs, rfl, rfl, rfl, rfl, rfl⟩

end Sys2Proof.Machine
end

section
/-! PROOFS. Crossings of L1 and the half-cycle, with no mains feed to lose (R49, R50, R52, R53, R209). -/

namespace Sys2Proof.Machine

open Sys2Proof.Safety

namespace Block

/-! ### A crossing (R49, R50, R209) -/

/-- The error of a crossing of L1 against the angle R49 expects. -/
def crossingError (b : Block) (rising : Bool) (stamp : Nat) : Int := signedAngle ((stamp : Int) - (b.expectedAngle 0 rising : Nat))

section

variable {b : Block} (hphases : b.rd Obj.GladeConfig.MainsPhases = 1) (hclk : b.glade.lastClk = []) {rising : Bool} {stamp : Nat}
include hphases

/-- More than 90° from the angle expected a crossing is invalid. -/
theorem gladeCrossing_far (hfar : ¬ (b.crossingError rising stamp).natAbs ≤ 2 ^ 30) (clk : Nat) :
    ∃ g : Glade, b.gladeCrossing 0 rising stamp clk = ({ b with glade := g } : Block).bump Obj.GladeStatus.InvalidCrossings ∧
      g.halfErrors = b.glade.halfErrors := by
  unfold gladeCrossing
  rw [if_neg fun h => h.2 rfl]
  extract_lets err g0 b1 key last g1 b2 g2 b3
  have hb1 : b1 = b := if_neg fun h => by simp [hphases] at h
  clear_value b1
  subst hb1
  exact ⟨b2.glade, if_pos (Nat.not_le.1 hfar), rfl⟩

include hclk

/-- Within 90° the first crossing joins the half-cycle; it ends no interval that could be measured. -/
theorem gladeCrossing_near (hnear : (b.crossingError rising stamp).natAbs ≤ 2 ^ 30) (clk : Nat) :
    ∃ g : Glade, b.gladeCrossing 0 rising stamp clk = { b with glade := g } ∧
      g.halfErrors = b.glade.halfErrors ++ [b.crossingError rising stamp] := by
  unfold gladeCrossing
  rw [if_neg fun h => h.2 rfl]
  extract_lets err g0 b1 key last g1 b2 g2 b3
  have hb1 : b1 = b := if_neg fun h => by simp [hphases] at h
  have hlast : last = 0 := by
    unfold last
    rw [hb1, hclk]
    rfl
  clear_value last b1
  subst hb1
  exact ⟨b3.glade, (if_neg (Nat.not_lt.2 hnear)).trans (if_pos hlast), rfl⟩

end

/-- The comparator of L1 counts a crossing and starts its blanking (R209). -/
def countCrossing (b : Block) (stamp clk : Nat) : Block :=
  { b.bump (Obj.Channel.ZcCount 0) with meas := { b.meas with lastZc := Tab.set b.meas.lastZc 0 (stamp, clk) } }

theorem countCrossing_keeps (b : Block) (stamp clk : Nat) : Keeps [Obj.Channel.ZcCount 0] b (b.countCrossing stamp clk) :=
  ((Keeps.refl b).wr _ (by simp)).trans (Keeps.of_images rfl rfl)

/-- With no crossing before it a crossing is outside the blanking, and Glade judges it. -/
theorem zeroCrossing_first {b : Block} (hzc : b.meas.lastZc = []) (rising : Bool) (stamp clk : Nat) :
    b.zeroCrossing 0 rising stamp clk = (b.countCrossing stamp clk).gladeCrossing 0 rising stamp clk := by
  simp only [zeroCrossing, hzc, countCrossing]
  rfl

theorem crossingError_countCrossing (b : Block) (rising : Bool) (stamp clk : Nat) :
    (b.countCrossing stamp clk).crossingError rising stamp = b.crossingError rising stamp := by
  unfold crossingError expectedAngle
  rw [(b.countCrossing_keeps stamp clk).rd_eq (by decide)]

/-! ### The half-cycle (R52, R53) -/

/-- The mean error of the half-cycle's crossings. -/
def halfMean (b : Block) : Int := roundDiv b.glade.halfErrors.sum b.glade.halfErrors.length

/-- The mean error is published as that of the mains and of Glade, with the half-cycle's errors taken (R53). -/
def publishError (b : Block) : Block :=
  (({ b with glade := { b.glade with halfErrors := [] } } : Block).wrI 32 Obj.GladeStatus.MainsPhaseError (-b.halfMean)).wrI 32
    Obj.GladeStatus.PhaseError (-b.halfMean)

/-- A jump is recorded and the slew towards the mains begins (R52). -/
def followJump (b : Block) : Block :=
  ((b.publishError.bump Obj.GladeStatus.JumpCount).report Src.PHASE_JUMP 0 [b.halfMean]).enterSlew 0 (-b.halfMean)

/-- Without a crossing the error of the mains is unknown. -/
theorem halfCycleEnd_none {b : Block} (hnone : b.glade.halfErrors = []) (hstate : b.gState = gladeTRACK) :
    b.halfCycleEnd = b.wr Obj.GladeStatus.MainsPhaseError 0x80000000 := by
  unfold halfCycleEnd
  extract_lets es g0 b1 step shrink left b2
  have hb2 : b2 = b.wr Obj.GladeStatus.MainsPhaseError 0x80000000 := by
    unfold b2 b1
    rw [← hnone]
  have htrack : b2.gState = gladeTRACK := (rd_wr_of_ne _ _ (by decide)).trans hstate
  rw [if_pos (List.isEmpty_iff.2 hnone), if_neg (by simp [htrack, gladeTRACK, gladeSLEW, gladeSLAVED]), hb2]

/-- In TRACK on MAINS the mean error is published, and more than 10° is a jump. -/
theorem halfCycleEnd_track {b : Block} (hsome : b.glade.halfErrors ≠ []) (hstate : b.gState = gladeTRACK) (hsource : b.gSource = 0) :
    b.halfCycleEnd = if 10 * 2 ^ 32 < b.halfMean.natAbs * 360 then b.followJump else b.publishError := by
  unfold halfCycleEnd
  extract_lets es g0 b1 step shrink left unknown rest rested avg ahead b2 onMains b3 big
  rw [if_neg (mt List.isEmpty_iff.1 hsome)]
  have hstate2 : b2.gState = gladeTRACK := (rd_wr_of_ne _ _ (by decide)).trans hstate
  have hsource2 : b2.gSource = 0 := (rd_wr_of_ne _ _ (by decide)).trans hsource
  have hstate3 : b3.gState = gladeTRACK := (rd_wr_of_ne _ _ (by decide)).trans hstate2
  have hon : onMains = true := by simp [onMains, hstate2, hsource2]
  rw [if_pos hon, if_pos hstate3]
  simp only [big, decide_eq_true_eq]
  rfl

/-- The objects of Glade that a half-cycle may change. -/
def halfObjects : List Nat :=
  [Obj.GladeStatus.MainsPhaseError, Obj.GladeStatus.PhaseError, Obj.GladeStatus.JumpCount, Obj.GladeStatus.State, Obj.GladeStatus.Source,
    Obj.GladeStatus.Frequency, Obj.GladeStatus.HoldoverCycles, Obj.GladeStatus.SlewRemaining]

theorem publishError_keeps (b : Block) : Keeps [Obj.GladeStatus.MainsPhaseError, Obj.GladeStatus.PhaseError] b b.publishError :=
  Keeps.wr (Keeps.wr (Keeps.of_images rfl rfl) _ (by simp)) _ (by simp)

theorem followJump_keeps (b : Block) : Keeps halfObjects b b.followJump :=
  (((((b.publishError_keeps.mono (by simp [halfObjects])).wr _ (by simp [halfObjects])).report _ _ _).wrs _ (by simp [halfObjects])).wr _
    (by simp [halfObjects])).wr _ (by simp [halfObjects])

theorem publishError_shows (b : Block) :
    b.publishError.rd Obj.GladeStatus.MainsPhaseError = ofI 32 (-b.halfMean) ∧
      b.publishError.rd Obj.GladeStatus.PhaseError = ofI 32 (-b.halfMean) :=
  ⟨(rd_wr_of_ne _ _ (by decide)).trans (rd_wr_self ..), rd_wr_self ..⟩

theorem followJump_shows (b : Block) :
    b.followJump.gState = gladeSLEW ∧ b.followJump.rd Obj.GladeStatus.MainsPhaseError = ofI 32 (-b.halfMean) ∧
      b.followJump.rd Obj.GladeStatus.PhaseError = ofI 32 (-b.halfMean) ∧
      b.followJump.rd Obj.GladeStatus.SlewRemaining = ofI 32 (-b.halfMean) ∧
      b.followJump.rd Obj.GladeStatus.JumpCount = min (b.rd Obj.GladeStatus.JumpCount + 1) 0xFFFFFFFF := by
  have hcount : b.publishError.rd Obj.GladeStatus.JumpCount = b.rd Obj.GladeStatus.JumpCount := b.publishError_keeps.rd_eq (by decide)
  have hslew := fun {c : Block} {src : Nat} {err : Int} {k : Nat} (h : k ≠ Obj.GladeStatus.SlewRemaining)
      (h' : k ≠ Obj.GladeStatus.PhaseError) => show (c.enterSlew src err).rd k = _ from
    (rd_wr_of_ne _ _ h').trans ((rd_wr_of_ne _ _ h).trans (rd_wrs ..))
  refine ⟨hslew (by decide) (by decide), (hslew (by decide) (by decide)).trans ?_, rd_wr_self ..,
    (rd_wr_of_ne _ _ (by decide)).trans (rd_wr_self ..), (hslew (by decide) (by decide)).trans ?_⟩
  · exact (rd_wr_of_ne _ _ (by decide)).trans b.publishError_shows.1
  · rw [← hcount]
    exact rd_wr_self ..

/-- With no line sensed and no feed that can be lost, a half-cycle is Glade's alone. -/
theorem halfCycle_eq {b c : Block} (he : b.halfCycleEnd = c) (hk : Keeps halfObjects b c) (hh : c.holdup = b.holdup)
    (hfeeds : ∀ f < 2, (b.mf f).halfTicks = 0 ∧ b.losable f = false) : b.halfCycle = c := by
  have hmf : ∀ f ∈ c.mainsFeeds, f < 2 := fun f hf => List.mem_range.1 (List.mem_filter.1 hf).1
  have hticks : ∀ f < 2, (c.mf f).halfTicks = 0 := fun f hf => by
    rw [mf, hh]
    exact (hfeeds f hf).1
  have hlosable : ∀ f < 2, c.losable f = false := fun f hf => by
    have hstate : Obj.MainsFeed.State f ∉ halfObjects := by interval_cases f <;> decide
    rw [losable, mainsNext, (hk _ hstate).2, (hk Obj.MainsConfig.FeedCount (by decide)).1]
    exact (hfeeds f hf).2
  have hhalf : c.mainsFeeds.foldl halfFeed c = c := List.foldlRecOn _ _ (motive := fun d => d = c) rfl fun d hd f hf => by
    rw [hd, halfFeed, if_pos (hticks f (hmf f hf))]
  have hnone : c.mainsFeeds.filter (fun f => c.rd (Obj.MainsFeed.SenseSource f) == 0 && c.losable f) = [] :=
    List.filter_eq_nil_iff.2 fun f hf => by simp [hlosable f (hmf f hf)]
  unfold halfCycle
  extract_lets jumps d d'
  have hd : d = c := he
  have hd' : d' = c := by
    unfold d'
    rw [hd, hnone, List.foldl_nil, ite_self]
  rw [hd']
  exact hhalf

end Block

/-- Settles O20: a crossing is near or far, and a half-cycle has none, a small mean error or a jump. -/
theorem crossingsAreJudgedAndAveragedPerHalfCycle : Obligations.CrossingsAreJudgedAndAveragedPerHalfCycle := by
  unfold Obligations.CrossingsAreJudgedAndAveragedPerHalfCycle
  refine ⟨fun s rising stamp clk hs hzc hclk hphases => ?_, fun s hs hfeeds hnone hstate => ?_,
    fun s hs hfeeds hsome hstate hsource => ?_⟩
  · have hkeeps := s.blk.countCrossing_keeps stamp clk
    have herr := s.blk.crossingError_countCrossing rising stamp clk
    have hphases' : (s.blk.countCrossing stamp clk).rd Obj.GladeConfig.MainsPhases = 1 := (hkeeps.rd_eq (by decide)).trans hphases
    have hfirst := Block.zeroCrossing_first hzc rising stamp clk
    by_cases hnear : (s.blk.crossingError rising stamp).natAbs ≤ 2 ^ 30
    · obtain ⟨g, he, hg⟩ := Block.gladeCrossing_near hphases' hclk (herr.symm ▸ hnear) clk
      refine ⟨_, State.actOn_block (decide_eq_true (show 0 < 3 by decide)) .channel 0 (·.zeroCrossing 0 rising stamp clk) (hfirst.trans he) hs, ?_, ?_, ?_, ?_, rfl,
        rfl, rfl, rfl⟩
      · exact Block.rd_wr_self ..
      · rw [herr] at hg
        exact hg.trans (if_pos hnear).symm
      · exact (hkeeps.rd_eq (by decide)).trans (if_pos hnear).symm
      · exact Block.Keeps.trans (hkeeps.mono (by simp)) (Block.Keeps.of_images rfl rfl)
    · obtain ⟨g, he, hg⟩ := Block.gladeCrossing_far hphases' (herr.symm ▸ hnear) clk
      refine ⟨_, State.actOn_block (decide_eq_true (show 0 < 3 by decide)) .channel 0 (·.zeroCrossing 0 rising stamp clk) (hfirst.trans he) hs, ?_, ?_, ?_, ?_, rfl,
        rfl, rfl, rfl⟩
      · exact (Block.rd_wr_of_ne _ _ (by decide)).trans (Block.rd_wr_self ..)
      · exact hg.trans (if_neg hnear).symm
      · refine (Block.rd_wr_self ..).trans ((congrArg (fun n => min (n + 1) 0xFFFFFFFF) ?_).trans (if_neg hnear).symm)
        exact hkeeps.rd_eq (by decide)
      · exact Block.Keeps.trans (hkeeps.mono (by simp)) (Block.Keeps.wr (Block.Keeps.of_images rfl rfl) _ (by simp))
  · have hk : Block.Keeps [Obj.GladeStatus.MainsPhaseError] s.blk (s.blk.wr Obj.GladeStatus.MainsPhaseError 0x80000000) :=
      (Block.Keeps.refl s.blk).wr _ (by simp)
    have he := Block.halfCycle_eq (Block.halfCycleEnd_none hnone hstate) (hk.mono (by simp [Block.halfObjects])) rfl hfeeds
    exact ⟨_, State.act_block Block.halfCycle he hs, Block.rd_wr_self .., hk, rfl, rfl, rfl, rfl⟩
  · have he := Block.halfCycleEnd_track hsome hstate hsource
    by_cases hbig : 10 * 2 ^ 32 < s.blk.halfMean.natAbs * 360
    · have hkeeps := s.blk.followJump_keeps
      obtain ⟨hslew, hmains, hphase, hleft, hcount⟩ := s.blk.followJump_shows
      exact ⟨_, State.act_block Block.halfCycle (Block.halfCycle_eq (he.trans (if_pos hbig)) hkeeps rfl hfeeds) hs, hmains, hphase, rfl,
        ⟨rfl, rfl, rfl⟩, fun hsmall => absurd hbig (Nat.not_lt.2 hsmall), fun _ => ⟨hslew, hleft, hcount, rfl⟩⟩
    · have hkeeps := s.blk.publishError_keeps
      obtain ⟨hmains, hphase⟩ := s.blk.publishError_shows
      exact ⟨_, State.act_block Block.halfCycle (Block.halfCycle_eq (he.trans (if_neg hbig)) (hkeeps.mono (by simp [Block.halfObjects])) rfl
        hfeeds) hs, hmains, hphase, rfl, ⟨rfl, rfl, rfl⟩, fun _ => ⟨(hkeeps.rd_eq (by decide)).trans hstate, rfl, hkeeps⟩,
        fun h => absurd h hbig⟩

end Sys2Proof.Machine
end

section
/-! PROOFS. The entries of the pending-action table, and what a record that is appended leaves alone (R69, R77, R109, R413-R415). -/

namespace Sys2Proof.Machine

open Sys2Proof.Safety

/-! ### Tables of entries -/

namespace Tab

variable {α : Type}

theorem find?_drop_self (m : Tab α) (n : Nat) : (Tab.drop m n).find? (fun e => e.1 == n) = none := by
  simp [Tab.drop, List.find?_eq_none]

theorem find?_drop_of_ne (m : Tab α) {n j : Nat} (h : j ≠ n) : (Tab.drop m n).find? (fun e => e.1 == j) = m.find? (fun e => e.1 == j) := by
  rw [Tab.drop, List.find?_filter]
  congr 1
  funext e
  by_cases he : e.1 = j <;> simp [he, h]

theorem find?_insert_self (m : Tab α) (n : Nat) (v : α) (h : ∀ e ∈ m, e.1 ≠ n) :
    (Tab.insert n v m).find? (fun e => e.1 == n) = some (n, v) := by
  induction m with
  | nil => simp [Tab.insert]
  | cons e r ih =>
    have he : e.1 ≠ n := h e (by simp)
    unfold Tab.insert
    split
    · simp
    · simp [he, ih fun x hx => h x (by simp [hx])]

theorem find?_insert_of_ne (m : Tab α) {n j : Nat} (v : α) (h : j ≠ n) :
    (Tab.insert n v m).find? (fun e => e.1 == j) = m.find? (fun e => e.1 == j) := by
  induction m with
  | nil => simp [Tab.insert, Ne.symm h]
  | cons e r ih =>
    unfold Tab.insert
    split
    · simp [List.find?_cons, Ne.symm h]
    · simp [List.find?_cons, ih]

end Tab

/-! ### Objects of sessions (R486) -/

/-- A session's object is none of the controller's. -/
theorem sk_ne {n k j : Nat} (hj : j < 0x1000000) : sk n k ≠ j := by
  unfold sk
  omega

/-- Different objects of a session stay different. -/
theorem sk_ne_sk {n k j : Nat} (h : k ≠ j) : sk n k ≠ sk n j := by
  unfold sk
  omega

namespace Block

/-! ### Nothing but objects changes -/

/-- The blocks differ in their objects at most (OnlyObjects of the blocks). -/
def SameParts (b c : Block) : Prop := c = { b with dict := c.dict, wimg := c.wimg }

namespace SameParts

variable {b c : Block}

theorem refl (b : Block) : SameParts b b := rfl

theorem wr (h : SameParts b c) (k v : Nat) : SameParts b (c.wr k v) := by
  rw [SameParts]
  exact congrArg (fun x : Block => { x with dict := (c.wr k v).dict, wimg := (c.wr k v).wimg }) h

theorem wrs (h : SameParts b c) (l : List (Nat × Nat)) : SameParts b (c.wrs l) := by
  induction l generalizing c with
  | nil => exact h
  | cons e r ih => exact ih (h.wr e.1 e.2)

theorem trans {d : Block} (h : SameParts b c) (h' : SameParts c d) : SameParts b d := by
  rw [SameParts]
  exact Eq.trans (a := d) h' (congrArg (fun x : Block => { x with dict := d.dict, wimg := d.wimg }) h)

theorem bump (h : SameParts b c) (k : Nat) : SameParts b (c.bump k) := h.wr k _

/-- Every part reads as it did. -/
theorem part {α : Type} (h : SameParts b c) (f : Block → α) (hf : ∀ (x : Block) (d w : Tab Nat), f { x with dict := d, wimg := w } = f x) :
    f c = f b := by
  rw [h, hf]

end SameParts

/-! ### A record is appended (R409-R415) -/

/-- The objects that appending a record of the device's own codes may change (R109, R415, R433). -/
def appendObjects : List Nat :=
  [Obj.EventOrder.EventSequence, Obj.EventOrder.Generation, Obj.RingsStatus.Unflushed, Obj.RingsStatus.Held 0,
    Obj.RingsStatus.NewestGeneration, Obj.RingsStatus.NewestSequence, Obj.RingsStatus.RecordsLost]

/-- What holds before a record is appended and survives a write of the recorder's objects, a change of the rings and a reader's
loss holds after it. -/
structure Recorder (P : Block → Prop) : Prop where
  wr : ∀ {b : Block} {k : Nat} (v : Nat), P b → k ∈ appendObjects → P (b.wr k v)
  rings : ∀ {b : Block} (x : Rings), P b → P { b with rings := x }
  sessions : ∀ {b : Block} (x : Tab Session), P b → P { b with sessions := x }

namespace Recorder

variable {P : Block → Prop} (h : Recorder P) {b : Block}
include h

theorem wrs (l : List (Nat × Nat)) (hl : ∀ e ∈ l, e.1 ∈ appendObjects) (hb : P b) : P (b.wrs l) := by
  induction l generalizing b with
  | nil => exact hb
  | cons e r ih => exact ih (fun x hx => hl x (by simp [hx])) (h.wr e.2 hb (hl e (by simp)))

theorem ringsStatus (hb : P b) : P b.ringsStatus := h.wrs _ (by simp [appendObjects]) hb

theorem loseRecord (hb : P b) : P b.loseRecord := h.rings _ (h.wr _ hb (by simp [appendObjects]))

theorem flushTrigger (hb : P b) : P b.flushTrigger := by
  unfold Block.flushTrigger
  split
  · exact h.rings _ hb
  · split
    · exact hb
    · exact h.rings _ hb

theorem fillTrigger (hb : P b) : P b.fillTrigger := by
  unfold Block.fillTrigger
  split
  · exact h.flushTrigger hb
  · exact hb

theorem bufferRec (r : Rec) (hb : P b) : P (b.bufferRec r) := by
  unfold Block.bufferRec
  extract_lets b1 old b2 buf
  have h1 : P b1 := by
    unfold b1
    split
    · exact h.loseRecord hb
    · exact hb
  have h2 : P b2 := by
    unfold b2 old
    split
    · split
      · exact h.sessions _ h1
      · exact h1
    · exact h1
  exact h.ringsStatus (h.rings _ h2)

theorem pushRec (r : Rec) (hb : P b) : P (b.pushRec r) := by
  unfold Block.pushRec
  split
  · exact h.fillTrigger (h.bufferRec r hb)
  · split
    · extract_lets b1
      have h1 : P b1 := by
        unfold b1
        split
        · exact h.loseRecord hb
        · exact hb
      exact h.fillTrigger (h.ringsStatus (h.rings _ h1))
    · exact h.rings _ (h.wr _ hb (by simp [appendObjects]))

theorem nextEvent (hb : P b) : P b.nextEvent := by
  unfold Block.nextEvent
  extract_lets e
  split
  · exact h.wr _ (h.wr _ hb (by simp [appendObjects])) (by simp [appendObjects])
  · exact h.wr _ hb (by simp [appendObjects])

end Recorder

/-- A record of one of the device's own codes is written whatever its code's bucket holds (R420). -/
theorem append_eq {n : NewRec} (b : Block) (hc : 0xE0 ≤ n.code) : ∃ r : Rec, r.code = n.code ∧ r.data = (n.data ++ List.replicate 28 0).take 28 ∧
    b.append n = ({ b.nextEvent with rings := { b.nextEvent.rings with suppressed := Tab.drop b.nextEvent.rings.suppressed n.code } } : Block).pushRec r := by
  unfold append
  rw [if_pos hc]
  unfold writeRec
  extract_lets sup b1 g0 b2 b3
  have h3 : b3 = b2 := if_neg (Nat.not_lt.2 hc)
  rw [h3]
  exact ⟨_, rfl, rfl, rfl⟩

theorem Recorder.append {P : Block → Prop} (h : Recorder P) {b : Block} {n : NewRec} (hc : 0xE0 ≤ n.code) (hb : P b) : P (b.append n) := by
  obtain ⟨r, -, -, he⟩ := b.append_eq hc
  rw [he]
  exact h.pushRec r (h.rings _ (h.nextEvent hb))

theorem Keeps.append {named : List Nat} {b c : Block} (h : Keeps named b c) {n : NewRec} (hc : 0xE0 ≤ n.code) (hn : appendObjects ⊆ named) :
    Keeps named b (c.append n) :=
  Recorder.append ⟨fun v hd hk => hd.wr v (hn hk), fun _ hd => hd.trans (of_images rfl rfl), fun _ hd => hd.trans (of_images rfl rfl)⟩ hc h

theorem append_actions (b : Block) {n : NewRec} (hc : 0xE0 ≤ n.code) : (b.append n).actions = b.actions :=
  Recorder.append (P := fun c => c.actions = b.actions) ⟨fun _ h _ => h, fun _ h => h, fun _ h => h⟩ hc rfl

theorem append_writes (b : Block) {n : NewRec} (hc : 0xE0 ≤ n.code) : (b.append n).writes = b.writes :=
  Recorder.append (P := fun c => c.writes = b.writes) ⟨fun _ h _ => h, fun _ h => h, fun _ h => h⟩ hc rfl

/-! ### The newest record of the buffer (R413) -/

theorem flushTrigger_buffer (b : Block) : b.flushTrigger.rings.buffer = b.rings.buffer := by
  unfold flushTrigger
  split
  · rfl
  · split <;> rfl

theorem fillTrigger_buffer (b : Block) : b.fillTrigger.rings.buffer = b.rings.buffer := by
  unfold fillTrigger
  split
  · exact b.flushTrigger_buffer
  · rfl

theorem bufferRec_newest (b : Block) (r : Rec) : (b.bufferRec r).rings.buffer.getLast? = some r := by
  unfold bufferRec
  extract_lets b1 old b2 buf
  have hbuf : (buf.drop (buf.length - 8192)).getLast? = some r := by
    rw [List.getLast?_drop, if_neg]
    · exact List.getLast?_concat ..
    · simp [buf]
  generalize buf.drop (buf.length - 8192) = kept at hbuf ⊢
  unfold ringsStatus
  rw [wrs_rings]
  exact hbuf

theorem nextEvent_rings (b : Block) : b.nextEvent.rings = b.rings := by
  unfold nextEvent
  extract_lets e
  split <;> rfl

/-- Outside a freeze a record that is appended is the newest of the buffer. -/
theorem append_newest (b : Block) {n : NewRec} (hc : 0xE0 ≤ n.code) (hfreeze : b.rings.freezeEnd = none) : ∃ r : Rec,
    (b.append n).rings.buffer.getLast? = some r ∧ r.code = n.code ∧ r.data = (n.data ++ List.replicate 28 0).take 28 := by
  obtain ⟨r, hcode, hdata, he⟩ := b.append_eq hc
  refine ⟨r, ?_, hcode, hdata⟩
  rw [he, nextEvent_rings, pushRec, hfreeze]
  exact (congrArg List.getLast? (fillTrigger_buffer _)).trans (bufferRec_newest _ r)

end Block

end Sys2Proof.Machine
end

section
/-! PROOFS. Pending actions: the submit, the cancel, the timeout, the device's own entries and MARK (R69, R71, R72, R75, R77). -/

namespace Sys2Proof.Machine

open Sys2Proof.Safety

namespace Block

/-! ### The table's operations -/

/-- The objects that count the entries (R77). -/
def countObjects : List Nat := [Obj.ActionTable.InUse, Obj.ActionTable.HighWater]

theorem Keeps.actionCounts {named : List Nat} {b c : Block} (h : Keeps named b c) (hn : countObjects ⊆ named) : Keeps named b c.actionCounts :=
  h.wrs _ fun e he => hn (by
    rcases List.mem_pair.1 he with rfl | rfl <;> simp [countObjects])

theorem actionCounts_inUse (b : Block) : b.actionCounts.rd Obj.ActionTable.InUse = b.actions.table.length := rd_wrs ..

theorem entry?_congr {b c : Block} (h : c.actions = b.actions) (k : Nat) : c.entry? k = b.entry? k := by rw [entry?, h, entry?]

/-- A table with an entry set holds it, and the others as before. -/
theorem entry?_set (b : Block) (h k : Nat) (a : Action) (n : Nat) (w : List Waiting) :
    ({ b with actions := { b.actions with table := Tab.set b.actions.table h a, next := n, waiting := w } } : Block).entry? k =
      if k = h then some a else b.entry? k := by
  unfold entry?
  split
  · next hk =>
    subst hk
    exact congrArg (Option.map (·.2)) (Tab.find?_insert_self _ k a fun e he => (Tab.mem_drop.1 he).2)
  · next hk => exact congrArg (Option.map (·.2)) ((Tab.find?_insert_of_ne _ a hk).trans (Tab.find?_drop_of_ne _ hk))

/-- A table with an entry dropped holds the others as before. -/
theorem entry?_drop (b : Block) (h k : Nat) :
    ({ b with actions := { b.actions with table := Tab.drop b.actions.table h } } : Block).entry? k = if k = h then none else b.entry? k := by
  unfold entry?
  split
  · next hk =>
    subst hk
    exact congrArg (Option.map (·.2)) (Tab.find?_drop_self b.actions.table k)
  · next hk => exact congrArg (Option.map (·.2)) (Tab.find?_drop_of_ne b.actions.table hk)

/-! ### An entry enters -/

theorem addEntry_writes (b : Block) (h : Nat) (a : Action) : (b.addEntry h a).writes = b.writes := rfl
theorem addEntry_next (b : Block) (h : Nat) (a : Action) : (b.addEntry h a).actions.next = b.actions.next + 1 := rfl
theorem addEntry_waiting (b : Block) (h : Nat) (a : Action) : (b.addEntry h a).actions.waiting = b.actions.waiting := rfl

theorem entry?_addEntry (b : Block) (h k : Nat) (a : Action) :
    (b.addEntry h a).entry? k = if k = h then some { a with order := b.actions.next } else b.entry? k := b.entry?_set h k _ _ _

theorem addEntry_inUse (b : Block) (h : Nat) (a : Action) :
    (b.addEntry h a).rd Obj.ActionTable.InUse = (b.addEntry h a).actions.table.length := actionCounts_inUse _

theorem Keeps.addEntry {named : List Nat} {b c : Block} (h : Keeps named b c) (n : Nat) (a : Action) (hn : countObjects ⊆ named) :
    Keeps named b (c.addEntry n a) :=
  Keeps.actionCounts (h.trans (of_images rfl rfl)) hn

/-! ### An entry completes (R69, R77) -/

/-- What the record of an entry that completes holds (R77). -/
def doneData (h : Nat) (a : Action) (tick outcome : Nat) (extra : List Nat) : List Nat :=
  leBytes 2 h ++ [a.session] ++ leBytes 2 a.op ++ leBytes 2 a.epoch ++ leBytes 4 a.cycle ++ leBytes 4 a.angle ++ leBytes 2 tick ++ [outcome] ++
    leBytes 4 a.arg ++ extra

/-- A completion is a record and the end of the entry. -/
theorem completeEntry_eq (b : Block) (h : Nat) (a : Action) (outcome : Nat) (extra : List Nat) (ago : Option Nat) : ∃ (n : NewRec) (tick : Nat),
    n.code = 0x0100 ∧ n.data = doneData h a tick outcome extra ∧ b.completeEntry h a outcome extra ago =
      ({ b.append n with actions := { (b.append n).actions with table := Tab.drop (b.append n).actions.table h } } : Block).actionCounts :=
  ⟨_, _, rfl, rfl, rfl⟩

section

variable (b : Block) (h : Nat) (a : Action) (outcome : Nat) (extra : List Nat) (ago : Option Nat)

theorem completeEntry_writes : (b.completeEntry h a outcome extra ago).writes = b.writes := by
  obtain ⟨n, tick, hcode, -, he⟩ := b.completeEntry_eq h a outcome extra ago
  rw [he]
  exact b.append_writes (by omega)

theorem entry?_completeEntry (k : Nat) : (b.completeEntry h a outcome extra ago).entry? k = if k = h then none else b.entry? k := by
  obtain ⟨n, tick, hcode, -, he⟩ := b.completeEntry_eq h a outcome extra ago
  have hkept : (b.append n).entry? k = b.entry? k := by rw [entry?, b.append_actions (by omega), entry?]
  rw [he, ← hkept]
  exact (b.append n).entry?_drop h k

/-- Outside a freeze the newest record tells of the completion: its handle first, and the entry's Argument from byte 18. -/
theorem completeEntry_newest (hfreeze : b.rings.freezeEnd = none) : ∃ r : Rec,
    (b.completeEntry h a outcome extra ago).rings.buffer.getLast? = some r ∧ r.code = 0x0100 ∧ r.data.take 2 = leBytes 2 h ∧
      (r.data.drop 18).take 4 = leBytes 4 a.arg := by
  obtain ⟨n, tick, hcode, hdata, he⟩ := b.completeEntry_eq h a outcome extra ago
  obtain ⟨r, hlast, hcode', hdata'⟩ := b.append_newest (n := n) (by omega) hfreeze
  rw [hdata] at hdata'
  refine ⟨r, ?_, hcode'.trans hcode, ?_, ?_⟩
  · rw [he]
    exact hlast
  · rw [hdata']
    rfl
  · rw [hdata']
    rfl

end

theorem Keeps.completeEntry {named : List Nat} {b c : Block} (h : Keeps named b c) (n : Nat) (a : Action) (outcome : Nat)
    (extra : List Nat) (ago : Option Nat) (hn : recordObjects ⊆ named) : Keeps named b (c.completeEntry n a outcome extra ago) := by
  obtain ⟨r, tick, hcode, -, he⟩ := c.completeEntry_eq n a outcome extra ago
  rw [he]
  have happend := h.append (n := r) (by omega) fun k hk => hn (List.mem_append_left countObjects hk)
  exact Keeps.actionCounts (happend.trans (of_images rfl rfl)) fun k hk => hn (List.mem_append_right appendObjects hk)

/-! ### A message to the partner changes the link's own record alone (R376) -/

theorem send_eq (b : Block) (kind : Nat) (ref : List Nat) : ∃ p : Pair, b.send kind ref = { b with pair := p } := by
  unfold send
  split <;> exact ⟨_, rfl⟩

@[simp] theorem send_rd (b : Block) (kind : Nat) (ref : List Nat) (k : Nat) : (b.send kind ref).rd k = b.rd k := by
  obtain ⟨p, he⟩ := b.send_eq kind ref
  rw [he]
  rfl
@[simp] theorem send_writes (b : Block) (kind : Nat) (ref : List Nat) : (b.send kind ref).writes = b.writes := by
  obtain ⟨p, he⟩ := b.send_eq kind ref
  rw [he]
@[simp] theorem send_actions (b : Block) (kind : Nat) (ref : List Nat) : (b.send kind ref).actions = b.actions := by
  obtain ⟨p, he⟩ := b.send_eq kind ref
  rw [he]

theorem Keeps.send {named : List Nat} {b c : Block} (h : Keeps named b c) (kind : Nat) (ref : List Nat) : Keeps named b (c.send kind ref) := by
  obtain ⟨p, he⟩ := c.send_eq kind ref
  rw [he]
  exact h.trans (of_images rfl rfl)

/-! ### The submit (R72) -/

/-- What session n asks for at epoch e, as an entry. -/
def asked (b : Block) (n e : Nat) : Action :=
  let g k := b.rd (sk n k)
  { session := n, op := g Obj.ActionRequest.Operation, kind := g Obj.ActionRequest.TargetKind, target := g Obj.ActionRequest.TargetIndex,
    arg := g Obj.ActionRequest.Argument, epoch := e, cycle := g Obj.ActionRequest.Cycle, angle := g Obj.ActionRequest.Angle,
    order := b.actions.next, accepted := !b.linkUp }

/-- The first check that fails for it. -/
def askedStatus (b : Block) (n e : Nat) : Nat :=
  b.submitStatus (b.asked n e).op (b.asked n e).kind (b.asked n e).target (b.asked n e).angle (some (e, (b.asked n e).cycle))

/-- The epoch it resolved to is shown (R73). -/
def showEpoch (b : Block) (n e : Nat) : Block := b.wr (sk n Obj.ActionRequest.ResolvedEpoch) e

/-- A session's request is answered. -/
def answerSubmit (b : Block) (n st h : Nat) : Block := b.wrs [(sk n Obj.ActionRequest.Status, st), (sk n Obj.ActionRequest.Handle, h)]

/-- The block of a request that passes them all: the entry is in the table and the session has its handle. -/
def entered (b : Block) (n e : Nat) : Block := ((b.showEpoch n e).addEntry b.freeHandle (b.asked n e)).answerSubmit n 0 b.freeHandle

section

variable {b : Block} {n e : Nat} (hres : b.resolveEpoch (b.rd (sk n Obj.ActionRequest.Epoch)) (b.rd (sk n Obj.ActionRequest.Cycle)) = some e)
include hres

/-- A request that fails a check is answered with it (R72). -/
theorem actionSubmit_refused (hst : b.askedStatus n e ≠ 0) :
    b.actionSubmit n = (b.showEpoch n e).refuseAction n (b.askedStatus n e) := by
  unfold actionSubmit
  simp only [hres]
  exact if_pos hst

theorem actionSubmit_entered (hst : b.askedStatus n e = 0) :
    b.actionSubmit n = (b.entered n e).send 3 [0, b.freeHandle] := by
  have hlink : (b.showEpoch n e).linkUp = b.linkUp := congrArg (· != 0) (rd_wr_of_ne _ _ (sk_ne (by decide)).symm)
  have hst' : ¬ b.askedStatus n e ≠ 0 := not_not.2 hst
  unfold actionSubmit
  simp only [hres]
  refine (if_neg hst').trans ?_
  rw [show b.wr (sk n Obj.ActionRequest.ResolvedEpoch) e = b.showEpoch n e from rfl, hlink]
  rfl

end

@[simp] theorem answerSubmit_writes (b : Block) (n st h : Nat) : (b.answerSubmit n st h).writes = b.writes := wrs_writes ..
@[simp] theorem answerSubmit_actions (b : Block) (n st h : Nat) : (b.answerSubmit n st h).actions = b.actions := wrs_actions ..

theorem answerSubmit_status (b : Block) (n st h : Nat) : (b.answerSubmit n st h).rd (sk n Obj.ActionRequest.Status) = st :=
  (rd_wr_of_ne _ _ (sk_ne_sk (by decide))).trans (rd_wr_self ..)

theorem answerSubmit_handle (b : Block) (n st h : Nat) : (b.answerSubmit n st h).rd (sk n Obj.ActionRequest.Handle) = h := rd_wr_self ..

theorem answerSubmit_keeps (b : Block) (n st h : Nat) :
    Keeps [sk n Obj.ActionRequest.Status, sk n Obj.ActionRequest.Handle] b (b.answerSubmit n st h) := (Keeps.refl b).wrs _ (by simp)

/-- The controller's own objects are none of the answer. -/
theorem answerSubmit_rd (b : Block) (n st h : Nat) {k : Nat} (hk : k < 0x1000000) : (b.answerSubmit n st h).rd k = b.rd k :=
  (b.answerSubmit_keeps n st h).rd_eq (by simp [(sk_ne hk).symm])

/-- A refusal is answered and counted (R72). -/
theorem refuseAction_shows (b : Block) (n st : Nat) :
    (b.refuseAction n st).rd (sk n Obj.ActionRequest.Status) = st ∧ (b.refuseAction n st).rd (sk n Obj.ActionRequest.Handle) = 0xFFFF ∧
      (b.refuseAction n st).rd Obj.ActionTable.Refused = min (b.rd Obj.ActionTable.Refused + 1) 0xFFFFFFFF := by
  refine ⟨(rd_wr_of_ne _ _ (sk_ne (by decide))).trans (b.answerSubmit_status n st _),
    (rd_wr_of_ne _ _ (sk_ne (by decide))).trans (b.answerSubmit_handle n st _), (rd_wr_self ..).trans ?_⟩
  exact congrArg (fun v => min (v + 1) 0xFFFFFFFF) (b.answerSubmit_rd n st 0xFFFF (by decide))

theorem refuseAction_parts (b : Block) (n st : Nat) : SameParts b (b.refuseAction n st) := ((SameParts.refl b).wrs _).bump _

theorem refuseAction_keeps (b : Block) (n st : Nat) :
    Keeps [sk n Obj.ActionRequest.Status, sk n Obj.ActionRequest.Handle, Obj.ActionTable.Refused] b (b.refuseAction n st) :=
  ((b.answerSubmit_keeps n st 0xFFFF).mono (by simp)).wr _ (by simp)

theorem showEpoch_keeps (b : Block) (n e : Nat) : Keeps [sk n Obj.ActionRequest.ResolvedEpoch] b (b.showEpoch n e) :=
  (Keeps.refl b).wr _ (by simp)

/-- What a request that passes every check leaves. -/
theorem entered_shows (b : Block) (n e : Nat) :
    (b.entered n e).rd (sk n Obj.ActionRequest.Status) = 0 ∧ (b.entered n e).rd (sk n Obj.ActionRequest.Handle) = b.freeHandle ∧
      (b.entered n e).rd (sk n Obj.ActionRequest.ResolvedEpoch) = e ∧
      (b.entered n e).rd Obj.ActionTable.InUse = (b.entered n e).actions.table.length := by
  refine ⟨answerSubmit_status .., answerSubmit_handle .., ?_, ?_⟩
  · refine ((answerSubmit_keeps _ n 0 b.freeHandle).rd_eq ?_).trans ?_
    · simp [sk_ne_sk (n := n) (show Obj.ActionRequest.ResolvedEpoch ≠ Obj.ActionRequest.Status by decide),
        sk_ne_sk (n := n) (show Obj.ActionRequest.ResolvedEpoch ≠ Obj.ActionRequest.Handle by decide)]
    · refine ((Keeps.addEntry (Keeps.refl (b.showEpoch n e)) b.freeHandle (b.asked n e) (List.Subset.refl _)).rd_eq ?_).trans (rd_wr_self ..)
      simp [countObjects, sk_ne (n := n) (k := Obj.ActionRequest.ResolvedEpoch) (show Obj.ActionTable.InUse < 0x1000000 by decide),
        sk_ne (n := n) (k := Obj.ActionRequest.ResolvedEpoch) (show Obj.ActionTable.HighWater < 0x1000000 by decide)]
  · rw [entered, answerSubmit_rd _ _ _ _ (by decide), answerSubmit_actions]
    exact addEntry_inUse ..

theorem entry?_entered (b : Block) (n e k : Nat) : (b.entered n e).entry? k = if k = b.freeHandle then some (b.asked n e) else b.entry? k :=
  (entry?_congr (answerSubmit_actions ..) k).trans (entry?_addEntry ..)

theorem entered_writes (b : Block) (n e : Nat) : (b.entered n e).writes = b.writes := by
  rw [entered, answerSubmit_writes, addEntry_writes]
  rfl

theorem entered_keeps (b : Block) (n e : Nat) : Keeps ([sk n Obj.ActionRequest.ResolvedEpoch, sk n Obj.ActionRequest.Status,
    sk n Obj.ActionRequest.Handle] ++ countObjects) b (b.entered n e) :=
  (Keeps.addEntry ((b.showEpoch_keeps n e).mono (by simp)) b.freeHandle (b.asked n e) (List.subset_append_right ..)).trans
    ((answerSubmit_keeps _ n 0 b.freeHandle).mono (by simp))

/-! ### The cancel, the timeout and the waiting functions (R69, R75) -/

/-- The block of a cancel in time: the entry completes, the session is answered and the partner told. -/
def cancelled (b : Block) (n h : Nat) (a : Action) : Block :=
  ((b.completeEntry h a actCANCELLED).wr (sk n Obj.ActionRequest.CancelStatus) 0).send 3 [1, h]

theorem cancelled_writes (b : Block) (n h : Nat) (a : Action) : (b.cancelled n h a).writes = b.writes := by
  rw [cancelled, send_writes, wr_writes, completeEntry_writes]

theorem entry?_cancelled (b : Block) (n h : Nat) (a : Action) (k : Nat) : (b.cancelled n h a).entry? k = if k = h then none else b.entry? k := by
  have hactions : (b.cancelled n h a).actions = (b.completeEntry h a actCANCELLED).actions := by rw [cancelled, send_actions, wr_actions]
  exact (entry?_congr hactions k).trans (entry?_completeEntry ..)

theorem cancelled_status (b : Block) (n h : Nat) (a : Action) : (b.cancelled n h a).rd (sk n Obj.ActionRequest.CancelStatus) = 0 := by
  rw [cancelled, send_rd, rd_wr_self]

theorem cancelled_keeps (b : Block) (n h : Nat) (a : Action) :
    Keeps (sk n Obj.ActionRequest.CancelStatus :: recordObjects) b (b.cancelled n h a) :=
  ((Keeps.completeEntry (Keeps.refl b) h a actCANCELLED [] none (List.subset_cons_self ..)).wr 0 List.mem_cons_self).send 3 [1, h]

theorem actionCancel_done {b : Block} {n h : Nat} {a : Action} (hentry : b.entry? h = some a) (hown : a.session = n) (hok : a.accepted = true)
    (hfar : 4 ≤ b.ticksTo (b.entryPlace a)) :
    b.actionCancel n h = b.cancelled n h a := by
  simp [actionCancel, cancelled, hentry, hown, hok, Int.not_lt.2 hfar]

/-- An entry leaves the table without a record. -/
def dropEntry (b : Block) (h : Nat) : Block :=
  ({ b with actions := { b.actions with table := Tab.drop b.actions.table h } } : Block).actionCounts

theorem dropEntry_writes (b : Block) (h : Nat) : (b.dropEntry h).writes = b.writes := rfl
theorem entry?_dropEntry (b : Block) (h k : Nat) : (b.dropEntry h).entry? k = if k = h then none else b.entry? k := b.entry?_drop h k
theorem dropEntry_keeps (b : Block) (h : Nat) : Keeps countObjects b (b.dropEntry h) :=
  Keeps.actionCounts (Keeps.of_images rfl rfl) (List.Subset.refl _)

theorem actionConfirmTimeout_refuses {b : Block} {h : Nat} {a : Action} (hentry : b.entry? h = some a) (hok : a.accepted = false) :
    b.actionConfirmTimeout h = (b.dropEntry h).refuseAction a.session 7 := by
  simp [actionConfirmTimeout, hentry, hok, dropEntry]

/-- The entry of a device function that waited (R69). -/
def reservedEntry (w : Waiting) (e c : Nat) : Action :=
  { session := 0xFF, op := w.op, kind := w.kind, target := w.target, arg := w.arg, epoch := e, cycle := c, angle := w.angle, order := 0,
    accepted := true }

/-- The functions that wait change. -/
def setWaiting (b : Block) (l : List Waiting) : Block := { b with actions := { b.actions with waiting := l } }

/-- The first function that waits enters the table at the lowest free handle. -/
theorem reservedObtained_enters {b : Block} {w : Waiting} {rest : List Waiting} (hwait : b.actions.waiting = w :: rest)
    (hboundary : b.glade.boundary = true) (hfree : b.ownEntries < 64) :
    ∃ e c : Nat, b.reservedObtained = (b.setWaiting rest).addEntry b.freeHandle (reservedEntry w e c) := by
  have hown : (b.setWaiting rest).ownEntries < 64 := hfree
  simp only [reservedObtained, hwait, hboundary, hfree, decide_true, Bool.and_self, if_true]
  unfold reserve
  exact ⟨_, _, if_pos hown⟩

end Block

/-- Outside GRAVE a submit is judged (R356). -/
theorem actionSubmit_next {s : State} {n : Nat} {c : Block} (hn : n < 32) (hgrave : s.blk.inGrave = false) (he : s.blk.actionSubmit n = c)
    (hw : c.writes = {}) : exec (.actionSubmit n) s = .next { s with blk := c } := by
  have hopen : ¬ s.blk.inGrave = true := by simp [hgrave]
  exact State.actOn_block (decide_eq_true hn) .session n (fun b => if b.inGrave then b else b.actionSubmit n) ((if_neg hopen).trans he) hw

section

variable {s : State} {n e : Nat} (hs : Settled s) (hn : n < 32) (hgrave : s.blk.inGrave = false)
  (hres : s.blk.resolveEpoch (s.blk.rd (sk n Obj.ActionRequest.Epoch)) (s.blk.rd (sk n Obj.ActionRequest.Cycle)) = some e)
include hs hn hgrave hres

/-- A submit outside GRAVE that passes every check. -/
theorem actionSubmit_enters (hst : s.blk.askedStatus n e = 0) : ∃ t, exec (.actionSubmit n) s = .next t ∧
    t.blk.entry? s.blk.freeHandle = some (s.blk.asked n e) ∧ (∀ h, h ≠ s.blk.freeHandle → t.blk.entry? h = s.blk.entry? h) ∧
    t.blk.rd (sk n Obj.ActionRequest.Status) = 0 ∧ t.blk.rd (sk n Obj.ActionRequest.Handle) = s.blk.freeHandle ∧
    t.blk.rd (sk n Obj.ActionRequest.ResolvedEpoch) = e ∧ t.blk.rd Obj.ActionTable.InUse = t.blk.actions.table.length ∧
    KeepsObjects (Obj.ActionTable.InUse :: Obj.ActionTable.HighWater :: [sk n Obj.ActionRequest.ResolvedEpoch, sk n Obj.ActionRequest.Status,
      sk n Obj.ActionRequest.Handle]) s t ∧ SameArrays s t := by
  have he := Block.actionSubmit_entered hres hst
  have hwrites := ((s.blk.entered n e).send_writes 3 [0, s.blk.freeHandle]).trans (s.blk.entered_writes n e)
  have hactions := (s.blk.entered n e).send_actions 3 [0, s.blk.freeHandle]
  have hrd := (s.blk.entered n e).send_rd 3 [0, s.blk.freeHandle]
  have hkeeps := (s.blk.entered_keeps n e).send 3 [0, s.blk.freeHandle]
  have htable := fun k => (Block.entry?_congr hactions k).trans (s.blk.entry?_entered n e k)
  obtain ⟨hstatus, hhandle, hepoch, hcount⟩ := s.blk.entered_shows n e
  rw [← hrd] at hstatus hhandle hepoch hcount
  rw [← hactions] at hcount
  generalize (s.blk.entered n e).send 3 [0, s.blk.freeHandle] = d at *
  exact ⟨_, actionSubmit_next hn hgrave he (hwrites.trans hs),
    (htable _).trans (if_pos rfl), fun k hk => (htable k).trans (if_neg hk), hstatus, hhandle, hepoch, hcount,
    hkeeps.mono (by simp [Block.countObjects]), rfl, rfl, rfl⟩

/-- A submit outside GRAVE that fails a check. -/
theorem actionSubmit_refuses (hst : s.blk.askedStatus n e ≠ 0) : ∃ t, exec (.actionSubmit n) s = .next t ∧
    t.blk.rd (sk n Obj.ActionRequest.Status) = s.blk.askedStatus n e ∧ t.blk.rd (sk n Obj.ActionRequest.Handle) = 0xFFFF ∧
    t.blk.rd Obj.ActionTable.Refused = min (s.blk.rd Obj.ActionTable.Refused + 1) 0xFFFFFFFF ∧
    KeepsObjects (Obj.ActionTable.Refused :: [sk n Obj.ActionRequest.ResolvedEpoch, sk n Obj.ActionRequest.Status,
      sk n Obj.ActionRequest.Handle]) s t ∧ OnlyObjects s t ∧ SameArrays s t := by
  have he := Block.actionSubmit_refused hres hst
  have hparts := Block.SameParts.trans ((Block.SameParts.refl s.blk).wr _ e) ((s.blk.showEpoch n e).refuseAction_parts n (s.blk.askedStatus n e))
  have hkeeps := (s.blk.showEpoch n e).refuseAction_keeps n (s.blk.askedStatus n e)
  obtain ⟨hstatus, hhandle, hcount⟩ := (s.blk.showEpoch n e).refuseAction_shows n (s.blk.askedStatus n e)
  rw [(s.blk.showEpoch_keeps n e).rd_eq (by simp [(sk_ne (n := n) (show Obj.ActionTable.Refused < 0x1000000 by decide)).symm])] at hcount
  generalize (s.blk.showEpoch n e).refuseAction n (s.blk.askedStatus n e) = d at *
  exact ⟨_, actionSubmit_next hn hgrave he ((hparts.part (·.writes) fun _ _ _ => rfl).trans hs), hstatus, hhandle, hcount,
    ((s.blk.showEpoch_keeps n e).mono (by simp)).trans (hkeeps.mono (by simp)), hparts, rfl, rfl, rfl⟩

end

/-- Settles O31: each operation of the table is its equation, and the table's laws say what it holds after it. -/
theorem actionsAreSubmittedCancelledAndReserved : Obligations.ActionsAreSubmittedCancelledAndReserved := by
  unfold Obligations.ActionsAreSubmittedCancelledAndReserved
  refine ⟨fun s n e hs hn hgrave => ?_, fun s n h a hs hn hentry hown hok hfar => ?_, fun s h a hs hentry hok => ?_,
    fun s w rest hs hwait hboundary hfree => ?_, fun s h a hs hdue hfreeze => ?_⟩
  · intro g c st objects hres
    exact ⟨fun hst => actionSubmit_enters hs hn hgrave hres hst, fun hst => actionSubmit_refuses hs hn hgrave hres hst⟩
  · have he := Block.actionCancel_done hentry hown hok hfar
    have hwrites := (s.blk.cancelled_writes n h a).trans hs
    have htable := s.blk.entry?_cancelled n h a
    have hstatus := s.blk.cancelled_status n h a
    have hkeeps := s.blk.cancelled_keeps n h a
    generalize s.blk.cancelled n h a = d at *
    exact ⟨_, State.actOn_block (decide_eq_true hn) .session n (·.actionCancel n h) he hwrites, (htable h).trans (if_pos rfl),
      fun k hk => (htable k).trans (if_neg hk), hstatus, hkeeps, rfl, rfl, rfl⟩
  · have he := Block.actionConfirmTimeout_refuses hentry hok
    have hparts := (s.blk.dropEntry h).refuseAction_parts a.session 7
    have htable := fun k => (Block.entry?_congr (hparts.part (·.actions) fun _ _ _ => rfl) k).trans (s.blk.entry?_dropEntry h k)
    have hwrites := (hparts.part (·.writes) fun _ _ _ => rfl).trans ((s.blk.dropEntry_writes h).trans hs)
    obtain ⟨hstatus, hhandle, -⟩ := (s.blk.dropEntry h).refuseAction_shows a.session 7
    have hkeeps := (s.blk.dropEntry h).refuseAction_keeps a.session 7
    generalize (s.blk.dropEntry h).refuseAction a.session 7 = d at *
    exact ⟨_, State.act_block (·.actionConfirmTimeout h) he hwrites, (htable h).trans (if_pos rfl),
      fun k hk => (htable k).trans (if_neg hk), hstatus, hhandle,
      Block.Keeps.trans ((s.blk.dropEntry_keeps h).mono (by simp [Block.countObjects])) (hkeeps.mono (by simp)), rfl, rfl, rfl⟩
  · obtain ⟨e, c, he⟩ := Block.reservedObtained_enters hwait hboundary hfree
    have hentry := (s.blk.setWaiting rest).entry?_addEntry s.blk.freeHandle s.blk.freeHandle (Block.reservedEntry w e c)
    have hwaits := (s.blk.setWaiting rest).addEntry_waiting s.blk.freeHandle (Block.reservedEntry w e c)
    have hwrites := (s.blk.setWaiting rest).addEntry_writes s.blk.freeHandle (Block.reservedEntry w e c)
    have hkeeps : Block.Keeps Block.countObjects s.blk ((s.blk.setWaiting rest).addEntry s.blk.freeHandle (Block.reservedEntry w e c)) :=
      Block.Keeps.addEntry (Block.Keeps.of_images rfl rfl) _ _ (List.Subset.refl _)
    generalize (s.blk.setWaiting rest).addEntry s.blk.freeHandle (Block.reservedEntry w e c) = d at *
    rw [if_pos rfl] at hentry
    refine ⟨_, State.act_block Block.reservedObtained he (hwrites.trans hs), hwaits, ?_, hkeeps, rfl, rfl, rfl⟩
    exact congrArg (Option.map _) hentry
  · obtain ⟨hentry, hok, hop, hplace, hlast⟩ := hdue
    have he := (s.blk.fireEntry_some h 8 (fun _ b => b) a hentry hok hop hplace).trans (if_neg (Bool.eq_false_iff.1 hlast))
    generalize (if a.late then actFIRED_LATE else actFIRED) = outcome at he
    have hwrites := (s.blk.completeEntry_writes h a outcome [] none).trans hs
    have htable := (s.blk.entry?_completeEntry h a outcome [] none h).trans (if_pos rfl)
    have hnewest := s.blk.completeEntry_newest h a outcome [] none hfreeze
    have hkeeps := Block.Keeps.completeEntry (Block.Keeps.refl s.blk) h a outcome [] none (List.Subset.refl _)
    generalize s.blk.completeEntry h a outcome [] none = d at *
    exact ⟨_, State.act_block (·.fireEntry h 8 (fun _ b => b)) he hwrites, htable, hnewest, hkeeps, rfl, rfl, rfl⟩

end Sys2Proof.Machine
end

section
/-! PROOFS. The partner's messages: a frame arrives, and COMMIT, ACTION, SESSION, SWAP and an acknowledgement act (R69, R91, R104, R105,
R374, R376, R390). -/

namespace Sys2Proof.Machine

open Sys2Proof.Safety

namespace Block

/-! ### A frame arrives (R374, R376, R377) -/

/-- A whole frame was heard on a lane: the lane is up, and the condition of a missing lane follows. -/
def heardOn (b : Block) (lane : Nat) : Block :=
  let c := (b.modPair (fun x => { x with heard := if x.heard.contains lane then x.heard else lane :: x.heard })).laneUp lane true
  c.condition Src.PARTNER_LANE_DOWN 0 (c.rd Obj.PartnerLink.Lane0Up = 0 || c.rd Obj.PartnerLink.Lane1Up = 0)

/-- The block that a new message acts on. -/
def takeMsg (b : Block) (lane mseq : Nat) : Block := (b.heardOn lane).modPair (fun x => { x with seen := addSeen x.seen (mseq % 2 ^ 32) })

/-- The counter of bad frames of a lane. -/
def crcErrors (lane : Nat) : Nat := if lane = 0 then Obj.PartnerLink.CrcErrors0 else Obj.PartnerLink.CrcErrors1

/-- What neither a write, nor the fault collector, nor the list of the lanes heard changes, a frame heard does not change. -/
theorem heardOn_of {α : Type} (f : Block → α) (hw : ∀ (b : Block) (k v : Nat), f (b.wr k v) = f b)
    (hf : ∀ (b : Block) (x : Faults), f { b with faults := x } = f b)
    (hp : ∀ (b : Block) (l : List Nat), f { b with pair := { b.pair with heard := l } } = f b) (b : Block) (lane : Nat) :
    f (b.heardOn lane) = f b := by
  have hlane (c : Block) : f (c.laneUp lane true) = f c := by
    unfold laneUp
    extract_lets c1 n
    split
    · exact (hw ..).trans (hw ..)
    · exact hw ..
  exact (condition_of f hw hf ..).trans ((hlane _).trans (hp ..))

/-- Nor does a message taken, where the list of the messages seen does not either. -/
theorem takeMsg_of {α : Type} (f : Block → α) (hw : ∀ (b : Block) (k v : Nat), f (b.wr k v) = f b)
    (hf : ∀ (b : Block) (x : Faults), f { b with faults := x } = f b)
    (hp : ∀ (b : Block) (l : List Nat), f { b with pair := { b.pair with heard := l } } = f b)
    (hs : ∀ (b : Block) (l : List (Nat × Nat)), f { b with pair := { b.pair with seen := l } } = f b) (b : Block) (lane mseq : Nat) :
    f (b.takeMsg lane mseq) = f b :=
  (hs (b.heardOn lane) (addSeen (b.heardOn lane).pair.seen (mseq % 2 ^ 32))).trans (heardOn_of f hw hf hp b lane)

theorem heardOn_keeps (b : Block) (lane : Nat) : Keeps linkObjects b (b.heardOn lane) := by
  have hlane (c : Block) : Keeps linkObjects c (c.laneUp lane true) := by
    unfold laneUp
    extract_lets c1 n
    have h1 : Keeps linkObjects c c1 := (Keeps.refl c).wr _ (by split <;> simp [linkObjects])
    split
    · exact h1.wr _ (by simp [linkObjects])
    · exact h1
  exact Keeps.condition (Keeps.trans (Keeps.of_images rfl rfl) (hlane _)) _ _ _ _ _ (by simp [linkObjects])

section

variable (b : Block) (lane mseq : Nat)

theorem heardOn_writes : (b.heardOn lane).writes = b.writes :=
  heardOn_of (·.writes) (fun _ _ _ => rfl) (fun _ _ => rfl) (fun _ _ => rfl) b lane
theorem heardOn_seen : (b.heardOn lane).pair.seen = b.pair.seen :=
  heardOn_of (·.pair.seen) (fun _ _ _ => rfl) (fun _ _ => rfl) (fun _ _ => rfl) b lane
theorem heardOn_swap : (b.heardOn lane).pair.swap = b.pair.swap :=
  heardOn_of (·.pair.swap) (fun _ _ _ => rfl) (fun _ _ => rfl) (fun _ _ => rfl) b lane

theorem takeMsg_keeps : Keeps linkObjects b (b.takeMsg lane mseq) := (b.heardOn_keeps lane).trans (Keeps.of_images (modPair_dict ..) (modPair_wimg ..))
theorem takeMsg_writes : (b.takeMsg lane mseq).writes = b.writes :=
  takeMsg_of (·.writes) (fun _ _ _ => rfl) (fun _ _ => rfl) (fun _ _ => rfl) (fun _ _ => rfl) b lane mseq
theorem takeMsg_swap : (b.takeMsg lane mseq).pair.swap = b.pair.swap :=
  takeMsg_of (·.pair.swap) (fun _ _ _ => rfl) (fun _ _ => rfl) (fun _ _ => rfl) (fun _ _ => rfl) b lane mseq
theorem takeMsg_swapAt : (b.takeMsg lane mseq).pair.swapAt = b.pair.swapAt :=
  takeMsg_of (·.pair.swapAt) (fun _ _ _ => rfl) (fun _ _ => rfl) (fun _ _ => rfl) (fun _ _ => rfl) b lane mseq
theorem takeMsg_glade : (b.takeMsg lane mseq).glade = b.glade :=
  takeMsg_of (·.glade) (fun _ _ _ => rfl) (fun _ _ => rfl) (fun _ _ => rfl) (fun _ _ => rfl) b lane mseq
theorem takeMsg_canopy : (b.takeMsg lane mseq).canopy = b.canopy :=
  takeMsg_of (·.canopy) (fun _ _ _ => rfl) (fun _ _ => rfl) (fun _ _ => rfl) (fun _ _ => rfl) b lane mseq
theorem takeMsg_actions : (b.takeMsg lane mseq).actions = b.actions :=
  takeMsg_of (·.actions) (fun _ _ _ => rfl) (fun _ _ => rfl) (fun _ _ => rfl) (fun _ _ => rfl) b lane mseq
theorem takeMsg_sess (k : Nat) : (b.takeMsg lane mseq).sess k = b.sess k :=
  takeMsg_of (·.sess k) (fun _ _ _ => rfl) (fun _ _ => rfl) (fun _ _ => rfl) (fun _ _ => rfl) b lane mseq

/-- Whether a swap merges is the same question after the frame. -/
theorem takeMsg_swapMerges (e c : Nat) : (b.takeMsg lane mseq).swapMerges e c = b.swapMerges e c := by
  have hmerge := (b.takeMsg_keeps lane mseq).rd_eq (k := Obj.RedundancyConfig.SwapMergeCycles) (by decide)
  simp only [swapMerges, cyclesAhead, hmerge, takeMsg_swap, takeMsg_swapAt, takeMsg_glade]

end

section

variable {b : Block} {lane mseq : Nat}

/-- A frame with a bad CRC, and none injected, is counted on its lane. -/
theorem arrive_bad (hinj : b.faults.partnerCrcLeft = 0) (f : Block → Block) : b.arrive lane mseq false f = b.bump (crcErrors lane) := by
  simp [arrive, hinj, crcErrors]

/-- A second copy is a duplicate. -/
theorem arrive_again (hinj : b.faults.partnerCrcLeft = 0) (hseen : b.pair.seen.any (inRangeOf (mseq % 2 ^ 32)) = true) (f : Block → Block) :
    b.arrive lane mseq true f = (b.heardOn lane).bump Obj.PartnerLink.Duplicates := by
  rw [← b.heardOn_seen lane] at hseen
  simp only [arrive, hinj]
  exact if_pos hseen

/-- The first copy is applied. -/
theorem arrive_new (h : Arrives b lane mseq) (f : Block → Block) : b.arrive lane mseq true f = f (b.takeMsg lane mseq) := by
  obtain ⟨-, hinj, hnew⟩ := h
  rw [← b.heardOn_seen lane] at hnew
  simp only [arrive, hinj]
  exact if_neg (Bool.eq_false_iff.1 hnew)

end

end Block

end Sys2Proof.Machine
end

section
/-! PROOFS. What the partner's messages do: COMMIT, ACTION, SESSION, SWAP and an acknowledgement (R69, R91, R104, R105, R376, R390). -/

namespace Sys2Proof.Machine

open Sys2Proof.Safety

namespace Block

/-! ### The bundles, the sessions and the swap that are mirrored -/

/-- The accepted and waiting bundles change (R104). -/
def setBundles (b : Block) (l : List Bundle) : Block := { b with canopy := { b.canopy with bundles := l } }

theorem setBundles_keeps {named : List Nat} (b : Block) (l : List Bundle) : Keeps named b (b.setBundles l) := Keeps.of_images rfl rfl

theorem stagingCounts_keeps (b : Block) : Keeps [Obj.CanopyStatus.StagingUsed, Obj.CanopyStatus.CommitsPending] b b.stagingCounts :=
  (Keeps.refl b).wrs _ (by simp)

/-- A session that has just opened (R91, R486). -/
def newSession (b : Block) (network node : Nat) (onSeat : Bool) (seat : Nat) (subscribe : Bool) : Session :=
  { opened := true, network, node, onSeat, seat, subscribe, ackSeq := b.rd Obj.AlertStatus.NewestSequence }

theorem sess_openSession (b : Block) (n network node : Nat) (onSeat : Bool) (seat : Nat) (subscribe : Bool) (k : Nat) :
    (b.openSession n network node onSeat seat subscribe).sess k =
      if k = n then b.newSession network node onSeat seat subscribe else b.sess k := sess_setSess b n k (b.newSession network node onSeat seat subscribe)

theorem openSession_writes (b : Block) (n network node : Nat) (onSeat : Bool) (seat : Nat) (subscribe : Bool) :
    (b.openSession n network node onSeat seat subscribe).writes = b.writes := rfl

theorem sess_pruneAlerts (b : Block) (k : Nat) : b.pruneAlerts.sess k = b.sess k := rfl
theorem pruneAlerts_writes (b : Block) : b.pruneAlerts.writes = b.writes := rfl

theorem setSwap_writes (b : Block) (v : Option (Nat × Nat)) : (b.setSwap v).writes = b.writes := rfl
theorem setSwap_swap (b : Block) (v : Option (Nat × Nat)) : (b.setSwap v).pair.swap = v := rfl
theorem setSwap_pending (b : Block) (e c : Nat) : (b.setSwap (some (e, c))).rd Obj.SwapControl.PendingEpoch = e ∧
    (b.setSwap (some (e, c))).rd Obj.SwapControl.PendingCycle = c := ⟨rd_wrs .., rd_wrs ..⟩
theorem setSwap_keeps (b : Block) (v : Option (Nat × Nat)) :
    Keeps [Obj.SwapControl.PendingEpoch, Obj.SwapControl.PendingCycle] b (b.setSwap v) := Keeps.wrs (c := b.modPair _) (Keeps.of_images rfl rfl) _ (by simp)

/-! ### An acknowledgement (R69, R376) -/

/-- The partner has the entry of a handle: it is accepted. -/
def acceptEntry (b : Block) (h : Nat) : Block :=
  { b with actions := { b.actions with
    table := b.actions.table.map (fun (e : Nat × Action) => if e.1 = h then (h, { e.2 with accepted := true }) else e) } }

theorem entry?_acceptEntry (b : Block) (h k : Nat) : (b.acceptEntry h).entry? k =
    if k = h then (b.entry? k).map (fun a => { a with accepted := true }) else b.entry? k := by
  have hkey : ((fun e : Nat × Action => e.1 == k) ∘ fun e : Nat × Action => if e.1 = h then (h, { e.2 with accepted := true }) else e) =
      fun e => e.1 == k := by
    funext e
    by_cases he : e.1 = h <;> simp [he]
  rw [entry?, acceptEntry, List.find?_map, hkey, entry?]
  cases hfind : b.actions.table.find? (fun e => e.1 == k) with
  | none => simp
  | some e =>
    have he : e.1 = k := by simpa using List.find?_some hfind
    by_cases hk : k = h <;> simp [he, hk]

theorem acceptEntry_keeps {named : List Nat} (b : Block) (h : Nat) : Keeps named b (b.acceptEntry h) := Keeps.of_images rfl rfl

/-- The acknowledgement of an entry accepts it. -/
theorem confirmed_entry (b : Block) {m : Msg} {h : Nat} (hkind : m.kind = 3) (href : m.ref = [0, h]) (result : Nat) :
    b.confirmed m result = b.acceptEntry h := by
  unfold confirmed
  rw [hkind, href]
  rfl

end Block

/-! ### The commands -/

/-- d is the block that a new message acts on: the link's objects apart, it is as the block was. -/
structure Taken (s : State) (lane mseq : Nat) (d : Block) : Prop where
  acts : ∀ f : Block → Block, s.blk.arrive lane mseq true f = f d
  lane_lt : lane < 2
  writes : d.writes = {}
  keeps : Block.Keeps linkObjects s.blk d
  canopy : d.canopy = s.blk.canopy
  actions : d.actions = s.blk.actions
  sess : ∀ k, d.sess k = s.blk.sess k
  swap : d.pair.swap = s.blk.pair.swap
  merges : ∀ e c, d.swapMerges e c = s.blk.swapMerges e c

theorem taken {s : State} {lane mseq : Nat} (hs : Settled s) (ha : Arrives s.blk lane mseq) : ∃ d, Taken s lane mseq d :=
  ⟨s.blk.takeMsg lane mseq,
    { acts := Block.arrive_new ha
      lane_lt := ha.1
      writes := (s.blk.takeMsg_writes lane mseq).trans hs
      keeps := s.blk.takeMsg_keeps lane mseq
      canopy := s.blk.takeMsg_canopy lane mseq
      actions := s.blk.takeMsg_actions lane mseq
      sess := s.blk.takeMsg_sess lane mseq
      swap := s.blk.takeMsg_swap lane mseq
      merges := s.blk.takeMsg_swapMerges lane mseq }⟩

namespace Taken

variable {s : State} {lane mseq : Nat} {d : Block} (h : Taken s lane mseq d)
include h

/-- The message's meaning acts on the block that took it. -/
theorem next {ok : Bool} (hok : ok = true) (k : UnitKind) (n : Nat) (f : Block → Block) {c : Block} (he : f d = c) (hw : c.writes = {}) :
    s.actOn ok k n (fun b => b.arrive lane mseq true f) = .next { s with blk := c } :=
  State.actOn_block hok k n (fun b => b.arrive lane mseq true f) ((h.acts f).trans he) hw

/-- What the message changes beside the link's objects. -/
theorem keeps_then {keys : List Nat} {c : Block} (hc : Block.Keeps keys d c) : Block.Keeps (keys ++ linkObjects) s.blk c :=
  (h.keeps.mono (List.subset_append_right ..)).trans (hc.mono (List.subset_append_left ..))

theorem lane_ok : decide (lane < 2) = true := decide_eq_true h.lane_lt

theorem unit_ok {n m : Nat} (hn : n < m) : (decide (lane < 2) && decide (n < m)) = true := by simp [h.lane_lt, hn]

theorem entry? (k : Nat) : d.entry? k = s.blk.entry? k := Block.entry?_congr h.actions k

/-- A message of PARTNER_COMMIT leaves the bundles it tells of (R104, R105). -/
theorem partnerCommit (seq n epoch cycle : Nat) (writes : List (Nat × List Nat)) :
    let l := s.blk.canopy.bundles
    let does (op : Nat) (keys : List Nat) (m : List Bundle) : Prop := ∃ t, exec (.partnerCommit lane mseq true op seq n epoch cycle writes) s = .next t ∧
      t.blk.canopy.bundles = m ∧ KeepsObjects (keys ++ linkObjects) s t ∧ SameArrays s t ∧ (op = 0 → t.blk.rd Obj.EventOrder.CommitSequence = seq)
    does 0 [Obj.EventOrder.CommitSequence] (l.filter (fun x => x.seq != seq) ++ [⟨seq, n, epoch, cycle, writes, false⟩]) ∧
    does 1 [] (l.filter (fun x => x.seq != seq)) ∧
    does 2 [Obj.CanopyStatus.StagingUsed, Obj.CanopyStatus.CommitsPending]
      (l.map (fun x => if x.seq = seq then { x with accepted := true } else x)) := by
  intro l does
  have hl : d.canopy.bundles = l := congrArg (·.bundles) h.canopy
  have hw := h.writes
  rw [← hl]
  refine ⟨⟨_, h.next h.lane_ok .lan lane _ (c := (d.setBundles _).wr Obj.EventOrder.CommitSequence seq) rfl hw,
      rfl, h.keeps_then ((d.setBundles_keeps _).wr _ (by simp)), ⟨rfl, rfl, rfl⟩, fun _ => Block.rd_wr_self ..⟩,
    ⟨_, h.next h.lane_ok .lan lane _ (c := d.setBundles _) rfl hw,
      rfl, h.keeps_then (d.setBundles_keeps _), ⟨rfl, rfl, rfl⟩, by simp⟩,
    ⟨_, h.next h.lane_ok .lan lane _ (c := (d.setBundles _).stagingCounts) rfl hw,
      rfl, h.keeps_then ((d.setBundles_keeps _).trans (Block.stagingCounts_keeps _)), ⟨rfl, rfl, rfl⟩, by simp⟩⟩

/-- PARTNER_ACTION puts an entry under its handle (R69). -/
theorem partnerAction_adds {n : Nat} (hn : n < 1024) (session op kind target arg epoch cycle angle : Nat) :
    ∃ t, exec (.partnerAction lane mseq true 0 n session op kind target arg epoch cycle angle) s = .next t ∧
      t.blk.entry? n = some ⟨session, op, kind, target, arg, epoch, cycle, angle, s.blk.actions.next, true, false⟩ ∧
      (∀ k, k ≠ n → t.blk.entry? k = s.blk.entry? k) ∧ t.blk.actions.next = s.blk.actions.next + 1 ∧
      KeepsObjects ([Obj.ActionTable.InUse, Obj.ActionTable.HighWater] ++ linkObjects) s t ∧ SameArrays s t := by
  let a : Action := { session, op, kind, target, arg, epoch, cycle, angle, order := 0, accepted := true }
  have htable := fun k => d.entry?_addEntry n k a
  have hnext := d.addEntry_next n a
  have hwrites := (d.addEntry_writes n a).trans h.writes
  have hkeeps := h.keeps_then (Block.Keeps.addEntry (.refl d) n a (List.Subset.refl _))
  rw [h.actions] at htable hnext
  exact ⟨_, h.next (h.unit_ok hn) .handle n _ (c := d.addEntry n a) (if_pos rfl) hwrites, (htable n).trans (if_pos rfl),
    fun k hk => ((htable k).trans (if_neg hk)).trans (h.entry? k), hnext, hkeeps, rfl, rfl, rfl⟩

/-- Its cancel takes the entry out (R75). -/
theorem partnerAction_cancels {n : Nat} (hn : n < 1024) {a : Action} (hentry : s.blk.entry? n = some a)
    (session op kind target arg epoch cycle angle : Nat) :
    ∃ t, exec (.partnerAction lane mseq true 1 n session op kind target arg epoch cycle angle) s = .next t ∧ t.blk.entry? n = none ∧
      (∀ k, k ≠ n → t.blk.entry? k = s.blk.entry? k) ∧ KeepsObjects (recordObjects ++ linkObjects) s t ∧ SameArrays s t := by
  have htable := fun k => d.entry?_completeEntry n a actCANCELLED [] none k
  have hwrites := (d.completeEntry_writes n a actCANCELLED [] none).trans h.writes
  have hkeeps := h.keeps_then (Block.Keeps.completeEntry (.refl d) n a actCANCELLED [] none (List.Subset.refl _))
  have hexec : exec (.partnerAction lane mseq true 1 n session op kind target arg epoch cycle angle) s =
      .next { s with blk := d.completeEntry n a actCANCELLED } :=
    h.next (h.unit_ok hn) .handle n _ (by simp [h.entry? n, hentry]) hwrites
  generalize d.completeEntry n a actCANCELLED = c at *
  exact ⟨_, hexec, (htable n).trans (if_pos rfl),
    fun k hk => ((htable k).trans (if_neg hk)).trans (h.entry? k), hkeeps, rfl, rfl, rfl⟩

/-- PARTNER_SESSION opens the session here (R91). -/
theorem partnerSession_opens {n : Nat} (hn : n < 32) (p q r v : Nat) (data : List Nat) :
    ∃ t, exec (.partnerSession lane mseq true 0 n p q r v data) s = .next t ∧ (t.blk.sess n).opened = true ∧ (t.blk.sess n).network = p ∧
      (t.blk.sess n).node = q ∧ (t.blk.sess n).onSeat = decide (r % 2 = 1) ∧ (t.blk.sess n).subscribe = decide (r / 2 % 2 = 1) ∧
      (∀ k, k ≠ n → t.blk.sess k = s.blk.sess k) ∧ SameArrays s t := by
  obtain ⟨seat, hopen⟩ : ∃ seat, d.partnerSession 0 n p q r v data = d.openSession n p q (r % 2 == 1) seat (r / 2 % 2 == 1) := ⟨_, rfl⟩
  have hsess := d.sess_openSession n p q (r % 2 == 1) seat (r / 2 % 2 == 1)
  have hself := (hsess n).trans (if_pos rfl)
  have hexec := h.next (h.unit_ok hn) .session n (·.partnerSession 0 n p q r v data) hopen ((d.openSession_writes ..).trans h.writes)
  generalize d.openSession n p q (r % 2 == 1) seat (r / 2 % 2 == 1) = c at *
  refine ⟨_, hexec, ?_⟩
  simp only [hself]
  exact ⟨rfl, rfl, rfl, rfl, rfl, fun k hk => ((hsess k).trans (if_neg hk)).trans (h.sess k), rfl, rfl, rfl⟩

/-- Its acknowledgement sets the alert cursor (R390). -/
theorem partnerSession_acknowledges {n : Nat} (hn : n < 32) (p q r v : Nat) (data : List Nat) :
    ∃ t, exec (.partnerSession lane mseq true 6 n p q r v data) s = .next t ∧ t.blk.sess n = { s.blk.sess n with ackSeq := p } ∧
      (∀ k, k ≠ n → t.blk.sess k = s.blk.sess k) ∧ SameArrays s t := by
  have hsess (k : Nat) : ((d.setSess n { d.sess n with ackSeq := p }).pruneAlerts).sess k =
      if k = n then { d.sess n with ackSeq := p } else d.sess k := (Block.sess_pruneAlerts _ k).trans (d.sess_setSess n k _)
  have hwrites := (d.setSess n { d.sess n with ackSeq := p }).pruneAlerts_writes.trans h.writes
  have hexec := h.next (h.unit_ok hn) .session n (·.partnerSession 6 n p q r v data) (c := (d.setSess n { d.sess n with ackSeq := p }).pruneAlerts) rfl hwrites
  generalize (d.setSess n { d.sess n with ackSeq := p }).pruneAlerts = c at *
  exact ⟨_, hexec, ((hsess n).trans (if_pos rfl)).trans (by rw [h.sess n]), fun k hk => ((hsess k).trans (if_neg hk)).trans (h.sess k), rfl, rfl, rfl⟩

/-- PARTNER_SWAP with no swap pending schedules the partner's boundary (R390). -/
theorem partnerSwap_schedules {epoch cycle : Nat} (hnone : s.blk.pair.swap = none) (hfar : s.blk.swapMerges epoch cycle = false) :
    ∃ t, exec (.partnerSwap lane mseq true epoch cycle) s = .next t ∧ t.blk.pair.swap = some (epoch, cycle) ∧
      t.blk.rd Obj.SwapControl.PendingEpoch = epoch ∧ t.blk.rd Obj.SwapControl.PendingCycle = cycle ∧
      KeepsObjects ([Obj.SwapControl.PendingEpoch, Obj.SwapControl.PendingCycle] ++ linkObjects) s t ∧ SameArrays s t := by
  obtain ⟨hepoch, hcycle⟩ := d.setSwap_pending epoch cycle
  have hswap := d.setSwap_swap (some (epoch, cycle))
  have hwrites := (d.setSwap_writes (some (epoch, cycle))).trans h.writes
  have hkeeps := h.keeps_then (d.setSwap_keeps (some (epoch, cycle)))
  have hexec : exec (.partnerSwap lane mseq true epoch cycle) s = .next { s with blk := d.setSwap (some (epoch, cycle)) } :=
    h.next h.lane_ok .lan lane _ (by simp [h.swap, hnone, h.merges, hfar]) hwrites
  generalize d.setSwap (some (epoch, cycle)) = c at *
  exact ⟨_, hexec, hswap, hepoch, hcycle, hkeeps, rfl, rfl, rfl⟩

end Taken

/-- The acknowledgement of an entry's message takes the message out and accepts the entry (R69, R376). -/
theorem partnerAck_accepts {s : State} {lane mseq : Nat} {m : Msg} {h : Nat} {a : Action} (hs : Settled s) (hlane : lane < 2)
    (hfind : s.blk.pair.out.find? (fun m => m.seq == mseq) = some m) (hkind : m.kind = 3) (href : m.ref = [0, h])
    (hentry : s.blk.entry? h = some a) (result : Nat) :
    ∃ t, exec (.partnerAck lane true mseq result) s = .next t ∧ t.blk.pair.out = s.blk.pair.out.filter (fun m => m.seq != mseq) ∧
      t.blk.entry? h = some { a with accepted := true } ∧ (∀ k, k ≠ h → t.blk.entry? k = s.blk.entry? k) ∧ KeepsObjects [] s t ∧ SameArrays s t := by
  let b := s.blk.modPair (fun x => { x with heard := if x.heard.contains lane then x.heard else lane :: x.heard })
  let d := b.modPair (fun x => { x with out := x.out.filter (fun m => m.seq != mseq) })
  have he : b.partnerAck mseq result = d.acceptEntry h := by
    have hout : b.pair.out.find? (fun m => m.seq == mseq) = some m := hfind
    unfold Block.partnerAck
    rw [hout]
    exact d.confirmed_entry hkind href result
  have htable (k : Nat) : (d.acceptEntry h).entry? k = if k = h then (s.blk.entry? k).map (fun a => { a with accepted := true }) else s.blk.entry? k :=
    d.entry?_acceptEntry h k
  refine ⟨_, State.actOn_block (decide_eq_true hlane) .lan lane _ he hs, rfl, ?_, fun k hk => (htable k).trans (if_neg hk),
    Block.Keeps.trans (c := d) (.of_images rfl rfl) (d.acceptEntry_keeps h), rfl, rfl, rfl⟩
  exact (htable h).trans ((if_pos rfl).trans (by rw [hentry]; rfl))

section

variable {s : State} {lane : Nat} (hs : Settled s) (hlane : lane < 2)
include hs hlane

/-- A counter that is bumped is all that changes. -/
theorem actOn_bump (f : Block → Block) (k : Nat) (he : f s.blk = s.blk.bump k) : ∃ t, s.actOn (decide (lane < 2)) .lan lane f = .next t ∧
    t.blk.rd k = min (s.blk.rd k + 1) 0xFFFFFFFF ∧ KeepsObjects [k] s t ∧ OnlyObjects s t ∧ SameArrays s t :=
  ⟨_, State.actOn_block (decide_eq_true hlane) .lan lane f he hs, Block.rd_wr_self .., (Block.Keeps.refl s.blk).wr _ (by simp),
    (Block.SameParts.refl s.blk).bump k, rfl, rfl, rfl⟩

variable (hinj : s.blk.faults.partnerCrcLeft = 0)
include hinj

/-- A frame whose CRC is bad is counted on its lane, a message's and an acknowledgement's alike (R374). -/
theorem badFrame_counted (mseq epoch cycle result : Nat) :
    ∀ c ∈ [Instr.partnerSwap lane mseq false epoch cycle, .partnerAck lane false mseq result], ∃ t, exec c s = .next t ∧
      t.blk.rd (Block.crcErrors lane) = min (s.blk.rd (Block.crcErrors lane) + 1) 0xFFFFFFFF ∧ KeepsObjects [Block.crcErrors lane] s t ∧
      OnlyObjects s t ∧ SameArrays s t := by
  intro c hc
  rcases List.mem_pair.1 hc with rfl | rfl
  · exact actOn_bump hs hlane _ _ (Block.arrive_bad hinj _)
  · exact actOn_bump hs hlane _ _ rfl

/-- A second copy of a message is counted and changes no swap (R376). -/
theorem duplicate_counted {mseq : Nat} (hseen : s.blk.pair.seen.any (Block.inRangeOf (mseq % 2 ^ 32)) = true) (epoch cycle : Nat) :
    ∃ t, exec (.partnerSwap lane mseq true epoch cycle) s = .next t ∧
      t.blk.rd Obj.PartnerLink.Duplicates = min (s.blk.rd Obj.PartnerLink.Duplicates + 1) 0xFFFFFFFF ∧
      KeepsObjects (Obj.PartnerLink.Duplicates :: linkObjects) s t ∧ t.blk.pair.swap = s.blk.pair.swap ∧ SameArrays s t := by
  have he := fun f => Block.arrive_again hinj hseen (lane := lane) f
  have hkeeps := s.blk.heardOn_keeps lane
  have hrd := hkeeps.rd_eq (k := Obj.PartnerLink.Duplicates) (by decide)
  have hswap := s.blk.heardOn_swap lane
  have hwrites := (s.blk.heardOn_writes lane).trans hs
  generalize s.blk.heardOn lane = d at *
  rw [← hrd]
  exact ⟨_, State.actOn_block (decide_eq_true hlane) .lan lane _ (he _) hwrites, Block.rd_wr_self ..,
    (hkeeps.mono (List.subset_cons_self ..)).wr _ List.mem_cons_self, hswap, rfl, rfl, rfl⟩

end

/-- Settles O54: a new message acts on the block that took it, an acknowledgement accepts its entry, and the rest is counted. -/
theorem messagesAreAppliedOnceAndConfirmed : Obligations.MessagesAreAppliedOnceAndConfirmed := by
  unfold Obligations.MessagesAreAppliedOnceAndConfirmed
  refine ⟨fun s lane mseq hs ha => ?_, fun s lane mseq result m h a hs hlane hfind hkind href hentry =>
    partnerAck_accepts hs hlane hfind hkind href hentry result, fun s lane mseq epoch cycle result hs hlane hinj => ?_⟩
  · obtain ⟨d, hd⟩ := taken hs ha
    exact ⟨hd.partnerCommit,
      fun h n op kind target arg epoch cycle angle hh => ⟨hd.partnerAction_adds hh n op kind target arg epoch cycle angle,
        fun a hentry => hd.partnerAction_cancels hh hentry n op kind target arg epoch cycle angle⟩,
      fun n p q r v data hn => ⟨hd.partnerSession_opens hn p q r v data, hd.partnerSession_acknowledges hn p q r v data⟩,
      fun epoch cycle hnone hfar => hd.partnerSwap_schedules hnone hfar⟩
  · exact ⟨badFrame_counted hs hlane hinj mseq epoch cycle result, fun hseen => duplicate_counted hs hlane hinj hseen epoch cycle⟩

end Sys2Proof.Machine
end

section
/-! PROOFS. The tick images of the dictionary (R80, R81). -/

namespace Sys2Proof.Machine

/-- A store of objects after the writes of a list, in order. -/
def Tab.putAll (d l : Tab Nat) : Tab Nat := l.foldl (fun d e => Tab.put (dictDefault e.1) d e.1 e.2) d

/-- With each object listed once, an object reads as listed, and as before where it is not. -/
theorem Tab.look_putAll (d : Tab Nat) {l : Tab Nat} (h : Tab.sorted l = true) (j : Nat) :
    Tab.look (dictDefault j) (Tab.putAll d l) j = Tab.look (Tab.look (dictDefault j) d j) l j := by
  induction l generalizing d with
  | nil => rfl
  | cons e r ih =>
    obtain ⟨k, v⟩ := e
    have hr : Tab.sorted r = true := by
      rw [Tab.sorted, Bool.and_eq_true] at h
      exact h.2
    refine (ih (Tab.put (dictDefault k) d k v) hr).trans ?_
    by_cases hk : k = j
    · subst hk
      rw [Tab.look_put_self, Tab.sorted_not_mem_head h v k le_rfl, Tab.look, if_pos rfl]
    · rw [Tab.look_put_of_ne _ _ _ _ (Ne.symm hk), Tab.look, if_neg hk]

namespace Block

/-- The swap writes the image of the next tick into the store and empties it (R80). -/
theorem swapImages_eq (b : Block) : b.swapImages = { b with dict := Tab.putAll b.dict b.wimg, wimg := [] } :=
  List.foldl_hom (fun d : Tab Nat => ({ b with dict := d, wimg := [] } : Block))
    (g₁ := fun d (e : Nat × Nat) => Tab.put (dictDefault e.1) d e.1 e.2)
    (g₂ := fun (c : Block) e => { c with dict := Tab.put (dictDefault e.1) c.dict e.1 e.2 }) (fun _ _ => rfl)

end Block

/-- Settles O8: the laws of the two images, and what the swap does to the store. -/
theorem objectsReadBackWhatWasWritten : Obligations.ObjectsReadBackWhatWasWritten := by
  unfold Obligations.ObjectsReadBackWhatWasWritten
  refine ⟨fun b k v j => ⟨b.rd_wr k v j, b.rdN_wr k v j⟩, fun b k v j => ⟨b.rd_wrN k v j, b.rdN_wrN k v j⟩, fun b j h => ?_⟩
  rw [b.swapImages_eq]
  exact ⟨Tab.look_putAll b.dict h j, rfl⟩

end Sys2Proof.Machine
end

section
/-! PROOFS. The line directory: sharers, owners and the writeback (R85-R87, R112). -/

namespace Sys2Proof.Machine

open Sys2Proof.Safety

namespace Block

/-! ### Which lines change -/

/-- The blocks differ in the line directory at most. -/
def SameButLines (b c : Block) : Prop := c = { b with canopy := { b.canopy with lines := c.canopy.lines } }

namespace SameButLines

variable {b c : Block}

theorem writes (h : SameButLines b c) : c.writes = b.writes := by rw [h]
theorem faults (h : SameButLines b c) : c.faults = b.faults := by rw [h]
theorem keeps (h : SameButLines b c) {named : List Nat} : Keeps named b c := Keeps.of_images (by rw [h]) (by rw [h])

end SameButLines

/-! ### READ (R85, R112) -/

/-- A line once a cache has read it: a cache without a copy is a sharer. -/
def readBy (l : Line) (cache : Nat) : Line := if bitOf l.mask cache then l else { l with state := 1, mask := putBit l.mask cache true }

theorem lineRead_sameButLines (b : Block) (n cache : Nat) : SameButLines b (b.lineRead n cache) := by
  unfold lineRead
  extract_lets l
  split <;> rfl

theorem line_lineRead (b : Block) (n cache m : Nat) : (b.lineRead n cache).line m = if m = n then readBy (b.line n) cache else b.line m := by
  unfold lineRead readBy
  extract_lets l
  split
  · split
    · next hm => exact congrArg b.line hm
    · rfl
  · exact b.line_setLine n m _

/-- With no injection armed a read shows what the check bits show (R358). -/
theorem readLine_unarmed {b : Block} (h : b.faults.sramArmed = false) (n err : Nat) : b.readLine n err = b.lineError n err := by
  unfold readLine
  rw [if_neg (by simp [h])]

/-- A corrected error is counted and reported (R112). -/
def correctedRead (b : Block) : Block := (b.bump Obj.CanopyStatus.Corrected).report Src.CANOPY_CORRECTED 0

/-! ### OWN (R85-R87) -/

/-- A line that one cache owns. -/
def ownedBy (cache : Nat) : Line := { state := 2, mask := 2 ^ cache, last := cache }

/-- The round robin grants a requester. -/
theorem nextGrant_mem {last c : Nat} {caches : List Nat} (h : nextGrant last caches = some c) : c ∈ caches := by
  simpa using List.find?_some h

/-- Its 17 places are all the caches, so it finds a requester where there is one. -/
theorem nextGrant_isSome (last : Nat) {caches : List Nat} (hne : caches ≠ []) (hlt : ∀ c ∈ caches, c < 17) :
    ∃ c ∈ caches, nextGrant last caches = some c := by
  cases h : nextGrant last caches with
  | some c => exact ⟨c, nextGrant_mem h, rfl⟩
  | none =>
    obtain ⟨c, hc⟩ := List.exists_mem_of_ne_nil _ hne
    have hplace : (last + 1 + (c + 17 - (last + 1) % 17) % 17) % 17 = c := by
      have := hlt c hc
      omega
    have hmem : c ∈ (List.range 17).map (fun i => (last + 1 + i) % 17) :=
      List.mem_map.2 ⟨_, List.mem_range.2 (Nat.mod_lt _ (by decide)), hplace⟩
    exact absurd (List.contains_iff_mem.2 hc) (List.find?_eq_none.1 h c hmem)

/-- Each grant leaves the line with one of the requesters. -/
theorem grantAll_owned {all : List Nat} (fuel : Nat) {l : Line} {caches : List Nat} (hl : ∃ c ∈ all, l = ownedBy c) (hsub : caches ⊆ all) :
    ∃ c ∈ all, grantAll l fuel caches = ownedBy c := by
  induction fuel generalizing l caches with
  | zero => exact hl
  | succ fuel ih =>
    unfold grantAll
    split
    · exact hl
    · next c hc => exact ih ⟨c, hsub (nextGrant_mem hc), rfl⟩ fun x hx => hsub (List.mem_filter.1 hx).1

/-- A line that caches of the rack ask for ends with one of them. -/
theorem grantAll_ends_owned (l : Line) (fuel : Nat) {caches : List Nat} (hne : caches ≠ []) (hlt : ∀ c ∈ caches, c < 17) :
    ∃ c ∈ caches, grantAll l (fuel + 1) caches = ownedBy c := by
  obtain ⟨c, hc, hgrant⟩ := nextGrant_isSome l.last hne hlt
  unfold grantAll
  rw [hgrant]
  exact grantAll_owned fuel ⟨c, hc, rfl⟩ fun x hx => (List.mem_filter.1 hx).1

/-- What OWN writes: the line as granted, and the longest wait, which is free below its bound (R87). -/
theorem lineOwn_eq (b : Block) (n : Nat) (caches : List Nat) : ∃ wait free : Nat, wait ≤ (caches.length + 1) * 40 ∧
    b.lineOwn n caches = (({ b with free := free } : Block).setLine n (grantAll (b.line n) 17 caches)).wr Obj.CanopyStatus.DirectoryMaxWait
      (max wait (b.rd Obj.CanopyStatus.DirectoryMaxWait)) :=
  ⟨_, _, Nat.lt_succ_iff.1 (Nat.mod_lt _ (Nat.succ_pos _)), rfl⟩

/-! ### WRITEBACK (R85) -/

theorem lineWriteback_owner {b : Block} {n cache : Nat} (hstate : (b.line n).state = 2) (hmask : (b.line n).mask = 2 ^ cache) :
    b.lineWriteback n cache [] = b.setLine n { b.line n with state := 0, mask := 0 } := if_pos ⟨hstate, hmask⟩

theorem lineWriteback_other {b : Block} {n cache : Nat} (hmask : (b.line n).mask ≠ 2 ^ cache) : b.lineWriteback n cache [] = b :=
  if_neg fun h => hmask h.2

end Block

/-- Settles O28: each command changes the line it names as its equation says, and no other. -/
theorem theDirectoryTracksHoldersAndOwners : Obligations.TheDirectoryTracksHoldersAndOwners := by
  unfold Obligations.TheDirectoryTracksHoldersAndOwners
  refine ⟨fun s n c hs hn hc harmed => ?_, fun s n l hs hn hne hlt => ?_, fun s n c hs hn hc hstate hmask => ?_, fun s n c hs hn hmask => ?_⟩
  · have hparts := s.blk.lineRead_sameButLines n c
    have hline := s.blk.line_lineRead n c
    have hread (err : Nat) := Block.readLine_unarmed (hparts.faults ▸ harmed) n err
    have hself := (hline n).trans (if_pos rfl)
    have hother (m : Nat) (hm : m ≠ n) := (hline m).trans (if_neg hm)
    refine ⟨⟨_, State.actOn_block (decide_eq_true hn) .line n _ (hread 0) (hparts.writes.trans hs), hself, hother, hparts, rfl, rfl, rfl⟩,
      ⟨_, State.actOn_block (decide_eq_true hn) .line n _ (hread 1) (c := (s.blk.lineRead n c).correctedRead) (hparts.writes.trans hs), hself, ?_, ?_, ?_, rfl, rfl, rfl⟩⟩
    · rw [← hparts.keeps.rd_eq (named := []) List.not_mem_nil]
      exact Block.rd_wr_self ..
    · exact congrArg (·.reports ++ _) hparts.faults
    · exact (hparts.keeps.wr _ (List.mem_singleton_self _)).report _ _ _
  · obtain ⟨wait, free, hwait, heq⟩ := s.blk.lineOwn_eq n l
    obtain ⟨c, hc, hgrant⟩ := Block.grantAll_ends_owned (s.blk.line n) 16 hne hlt
    let b : Block := { s.blk with free := free }
    have hline := b.line_setLine n
    refine ⟨_, State.actOn_block (decide_eq_true hn) .line n (·.lineOwn n l) heq hs, ⟨c, hc, ?_⟩, fun m hm => (hline m _).trans (if_neg hm), ?_, ?_, ?_,
      rfl, rfl, rfl⟩
    · exact ((hline n _).trans (if_pos rfl)).trans hgrant
    · exact (Nat.le_max_right ..).trans (Block.rd_wr_self ..).ge
    · exact (Block.rd_wr_self ..).le.trans (max_le (hwait.trans (Nat.le_max_right ..)) (Nat.le_max_left ..))
    · exact (Block.Keeps.of_images rfl rfl).wr _ (List.mem_singleton_self _)
  · refine ⟨_, State.actOn_block (decide_eq_true hn) .line n (·.lineWriteback n c []) (Block.lineWriteback_owner hstate hmask) hs, ?_, fun m hm => ?_,
      rfl, rfl, rfl, rfl⟩
    · exact s.blk.line_setLine_self n _
    · exact (s.blk.line_setLine n m _).trans (if_neg hm)
  · exact State.actOn_block (decide_eq_true hn) .line n (·.lineWriteback n c []) (Block.lineWriteback_other hmask) hs

end Sys2Proof.Machine
end

section
/-! PROOFS. The objects of a session, the images and the pins that hold them (R88-R94). -/

namespace Sys2Proof.Machine

open Sys2Proof.Safety

theorem sk_injective (n : Nat) : Function.Injective (sk n) := fun _ _ h => not_ne_iff.1 fun hne => sk_ne_sk hne h

namespace Block

/-! ### Writes of a session's own objects (R486) -/

/-- An object reads the last value written to it where the writes name each object by a key of its own. -/
theorem rd_wrs_map {g : Nat → Nat} (hg : Function.Injective g) (b : Block) (l : List (Nat × Nat)) (k : Nat) :
    (b.wrs (l.map (fun e => (g e.1, e.2)))).rd (g k) = ((l.reverse.find? (fun e => e.1 == k)).map (·.2)).getD (b.rd (g k)) := by
  have hkey (e : Nat × Nat) : (g e.1 == g k) = (e.1 == k) := Bool.eq_iff_iff.2 (by simp [hg.eq_iff])
  rw [rd_wrs, ← List.map_reverse, List.find?_map]
  simp only [Function.comp_def, hkey, Option.map_map]

/-- Several writes to session n's copies of objects. -/
def wrsOwn (b : Block) (n : Nat) (l : List (Nat × Nat)) : Block := b.wrs (l.map (fun e => (sk n e.1, e.2)))

theorem rd_wrsOwn (b : Block) (n : Nat) (l : List (Nat × Nat)) (k : Nat) :
    (b.wrsOwn n l).rd (sk n k) = ((l.reverse.find? (fun e => e.1 == k)).map (·.2)).getD (b.rd (sk n k)) :=
  rd_wrs_map (sk_injective n) b l k

theorem wr_sess (b : Block) (k v m : Nat) : (b.wr k v).sess m = b.sess m := rfl
theorem sess_wrs (b : Block) (l : List (Nat × Nat)) (m : Nat) : (b.wrs l).sess m = b.sess m := wrs_of (·.sess m) (fun _ _ _ => rfl) b l

/-! ### The capture is complete (R88) -/

/-- An image with the measurement results of its cycle in it. -/
def completed (b : Block) (e : Nat × Image) : Nat × Image :=
  if e.2.complete then e
  else (e.1, { e.2 with complete := true, dict := (b.dict.filter (fun x => isResultKey x.1)).foldl (fun d x => Tab.set d x.1 x.2)
                                             (e.2.dict.filter (fun x => !isResultKey x.1)) })

theorem completed_complete (b : Block) (e : Nat × Image) : (b.completed e).2.complete = true := by
  unfold completed
  split
  · assumption
  · rfl

theorem completed_slot (b : Block) (e : Nat × Image) : (b.completed e).1 = e.1 := by
  unfold completed
  split <;> rfl

/-- Every slot's image is completed. -/
def completeSlots (b : Block) : Block := { b with canopy := { b.canopy with slots := b.canopy.slots.map b.completed } }

/-- The newest image is named. -/
def showNewest (b : Block) (img : Image) : Block :=
  b.wrs [(Obj.CanopyStatus.NewestEpoch, img.epoch), (Obj.CanopyStatus.NewestCycle, img.cycle)]

theorem captureDone_cases (b : Block) :
    (∃ e, b.completeSlots.newestImage = some e ∧ b.captureDone = b.completeSlots.showNewest e.2) ∨
      (b.completeSlots.newestImage = none ∧ b.captureDone = b.completeSlots) := by
  unfold captureDone
  extract_lets full canopy c
  split
  · next e he => exact .inl ⟨e, he, rfl⟩
  · next he => exact .inr ⟨he, rfl⟩

/-- Nothing else of a completed block changes, and what is named is the newest image. -/
theorem captureDone_names (b : Block) : SameParts b.completeSlots b.captureDone ∧
    Keeps [Obj.CanopyStatus.NewestEpoch, Obj.CanopyStatus.NewestCycle] b b.captureDone ∧
    ∀ e, b.captureDone.newestImage = some e → b.captureDone.rd Obj.CanopyStatus.NewestEpoch = e.2.epoch ∧
      b.captureDone.rd Obj.CanopyStatus.NewestCycle = e.2.cycle := by
  have hkeeps : Keeps [Obj.CanopyStatus.NewestEpoch, Obj.CanopyStatus.NewestCycle] b b.completeSlots := Keeps.of_images rfl rfl
  obtain ⟨x, hx, he⟩ | ⟨hx, he⟩ := b.captureDone_cases
  · rw [he]
    refine ⟨(SameParts.refl _).wrs _, hkeeps.wrs _ (by simp), fun e h => ?_⟩
    obtain rfl : x = e := Option.some.inj (hx.symm.trans h)
    exact ⟨rd_wrs .., rd_wrs ..⟩
  · rw [he]
    exact ⟨SameParts.refl _, hkeeps, fun e h => absurd (hx.symm.trans h) (by simp)⟩

/-! ### A pin changes (R91-R94) -/

theorem setPinStatus_sess (b : Block) (n st m : Nat) : (b.setPinStatus n st).sess m = b.sess m := b.wr_sess ..
theorem setPinStatus_status (b : Block) (n st : Nat) : (b.setPinStatus n st).rd (sk n Obj.SnapshotSession.Status) = st := rd_wr_self ..
theorem setPinStatus_writes (b : Block) (n st : Nat) : (b.setPinStatus n st).writes = b.writes := b.wr_writes ..

/-- The messages to the partner are no object. -/
theorem rd_setPair (b : Block) (p : Pair) (k : Nat) : ({ b with pair := p } : Block).rd k = b.rd k := rfl

theorem pinnedSlots_congr {b c : Block} (h : c.sessions = b.sessions) : c.pinnedSlots = b.pinnedSlots := by rw [pinnedSlots, h, pinnedSlots]

theorem report_sess (b : Block) (src inst : Nat) (d : List Int) (m : Nat) : (b.report src inst d).sess m = b.sess m := rfl

/-- The objects that show a session's pin and the count of pinned slots. -/
def pinObjects (n : Nat) : List Nat :=
  [sk n Obj.SnapshotSession.PinnedEpoch, sk n Obj.SnapshotSession.PinnedCycle, sk n Obj.SnapshotSession.PinRemaining,
    sk n Obj.SnapshotSession.Status, Obj.CanopyStatus.SlotsPinned]

/-- From b to c session n's record becomes x and its pin shows an image and a time left; no other session and no other object changes. -/
structure PinShown (n : Nat) (b c : Block) (x : Session) (epoch cycle left : Nat) : Prop where
  sess (m : Nat) : c.sess m = if m = n then x else b.sess m
  epoch_eq : c.rd (sk n Obj.SnapshotSession.PinnedEpoch) = epoch
  cycle_eq : c.rd (sk n Obj.SnapshotSession.PinnedCycle) = cycle
  left_eq : c.rd (sk n Obj.SnapshotSession.PinRemaining) = left
  count : c.rd Obj.CanopyStatus.SlotsPinned = c.pinnedSlots.length
  keeps : Keeps (pinObjects n) b c

theorem pinCounts_count (b : Block) : b.pinCounts.rd Obj.CanopyStatus.SlotsPinned = b.pinCounts.pinnedSlots.length :=
  (rd_wr_self ..).trans (congrArg List.length (pinnedSlots_congr (c := b.pinCounts) rfl).symm)

/-- A session's record with what shows its pin. -/
def showPin (b : Block) (n : Nat) (x : Session) (l : List (Nat × Nat)) : Block := ((b.setSess n x).wrsOwn n l).pinCounts

theorem showPin_rd (b : Block) (n : Nat) (x : Session) (l : List (Nat × Nat)) (k : Nat) :
    (b.showPin n x l).rd (sk n k) = ((l.reverse.find? (fun e => e.1 == k)).map (·.2)).getD (b.rd (sk n k)) :=
  (rd_wr_of_ne _ _ (sk_ne (by decide))).trans ((b.setSess n x).rd_wrsOwn n l k)

theorem showPin_sess (b : Block) (n : Nat) (x : Session) (l : List (Nat × Nat)) (m : Nat) :
    (b.showPin n x l).sess m = if m = n then x else b.sess m := ((b.setSess n x).sess_wrs _ m).trans (b.sess_setSess n m x)

theorem showPin_writes (b : Block) (n : Nat) (x : Session) (l : List (Nat × Nat)) : (b.showPin n x l).writes = b.writes := wrs_writes ..

theorem showPin_faults (b : Block) (n : Nat) (x : Session) (l : List (Nat × Nat)) : (b.showPin n x l).faults = b.faults := wrs_faults ..

/-- Beside the sessions nothing but objects changes. -/
theorem showPin_parts (b : Block) (n : Nat) (x : Session) (l : List (Nat × Nat)) : SameParts (b.setSess n x) (b.showPin n x l) :=
  ((SameParts.refl _).wrs _).wr _ _

theorem showPin_keeps (b : Block) (n : Nat) (x : Session) {l : List (Nat × Nat)} (hl : ∀ e ∈ l, sk n e.1 ∈ pinObjects n) :
    Keeps (pinObjects n) b (b.showPin n x l) := by
  refine Keeps.wr (Keeps.wrs (c := b.setSess n x) (Keeps.of_images rfl rfl) _ fun e he => ?_) _ (by simp [pinObjects])
  obtain ⟨a, ha, rfl⟩ := List.mem_map.1 he
  exact hl a ha

theorem unpin_eq (b : Block) (n : Nat) : b.unpin n = b.showPin n { b.sess n with pin := none, pinLeft := 0 }
    [(Obj.SnapshotSession.PinnedEpoch, 0xFFFF), (Obj.SnapshotSession.PinnedCycle, 0), (Obj.SnapshotSession.PinRemaining, 0)] := rfl

theorem unpin_writes (b : Block) (n : Nat) : (b.unpin n).writes = b.writes := by rw [unpin_eq, showPin_writes]

theorem unpin_faults (b : Block) (n : Nat) : (b.unpin n).faults = b.faults := by rw [unpin_eq, showPin_faults]

theorem unpin_parts (b : Block) (n : Nat) : SameParts (b.setSess n { b.sess n with pin := none, pinLeft := 0 }) (b.unpin n) := by
  rw [unpin_eq]
  exact showPin_parts ..

theorem unpin_shown (b : Block) (n : Nat) : PinShown n b (b.unpin n) { b.sess n with pin := none, pinLeft := 0 } 0xFFFF 0 0 := by
  rw [unpin_eq]
  exact { sess := fun _ => showPin_sess .., epoch_eq := showPin_rd .., cycle_eq := showPin_rd .., left_eq := showPin_rd .., count := pinCounts_count _,
          keeps := showPin_keeps _ n _ (by simp [pinObjects]) }

/-- Session n with slot k pinned. -/
def pinnedSess (b : Block) (n k : Nat) : Session := { b.sess n with pin := some k, pinLeft := b.pinLimit n, expired := false }

/-- The block of a pin that is granted. -/
def pinned (b : Block) (n k : Nat) (img : Image) : Block :=
  b.showPin n (b.pinnedSess n k) [(Obj.SnapshotSession.PinnedEpoch, img.epoch), (Obj.SnapshotSession.PinnedCycle, img.cycle),
    (Obj.SnapshotSession.PinRemaining, b.pinLimit n), (Obj.SnapshotSession.Status, 0)]

theorem pinned_writes (b : Block) (n k : Nat) (img : Image) : (b.pinned n k img).writes = b.writes := by rw [pinned, showPin_writes]

theorem pinned_parts (b : Block) (n k : Nat) (img : Image) : SameParts (b.setSess n (b.pinnedSess n k)) (b.pinned n k img) := showPin_parts ..

theorem pinned_shown (b : Block) (n k : Nat) (img : Image) :
    PinShown n b (b.pinned n k img) (b.pinnedSess n k) img.epoch img.cycle (b.pinLimit n) :=
  { sess := fun _ => showPin_sess .., epoch_eq := showPin_rd .., cycle_eq := showPin_rd .., left_eq := showPin_rd .., count := pinCounts_count _,
    keeps := showPin_keeps _ n _ (by simp [pinObjects]) }

theorem pinned_status (b : Block) (n k : Nat) (img : Image) : (b.pinned n k img).rd (sk n Obj.SnapshotSession.Status) = 0 := showPin_rd ..

/-- A session is marked, and the end of its pin reported (R94). -/
def markExpired (b : Block) (n : Nat) (x : Session) : Block := ((b.report Src.SNAP_PIN_EXPIRED n).setSess n x).pinCounts

theorem markExpired_writes (b : Block) (n : Nat) (x : Session) : (b.markExpired n x).writes = b.writes := rfl
theorem markExpired_reports (b : Block) (n : Nat) (x : Session) :
    (b.markExpired n x).faults.reports = b.faults.reports ++ [{ src := Src.SNAP_PIN_EXPIRED, inst := n }] := rfl

namespace PinShown

variable {n : Nat} {b c : Block} {x : Session} {epoch cycle left : Nat} (h : PinShown n b c x epoch cycle left)
include h

/-- The partner's messages are no part of it. -/
theorem pair (p : Pair) : PinShown n b { c with pair := p } x epoch cycle left := ⟨h.sess, h.epoch_eq, h.cycle_eq, h.left_eq, h.count, h.keeps⟩

/-- A status beside it changes none of it. -/
theorem status (st : Nat) : PinShown n b (c.setPinStatus n st) x epoch cycle left where
  sess := h.sess
  epoch_eq := (rd_wr_of_ne _ _ (sk_ne_sk (by decide))).trans h.epoch_eq
  cycle_eq := (rd_wr_of_ne _ _ (sk_ne_sk (by decide))).trans h.cycle_eq
  left_eq := (rd_wr_of_ne _ _ (sk_ne_sk (by decide))).trans h.left_eq
  count := (rd_wr_of_ne _ _ (sk_ne (by decide)).symm).trans h.count
  keeps := h.keeps.wr _ (by simp [pinObjects])

/-- The mark and the report leave what its objects show. -/
theorem markExpired (y : Session) : PinShown n b (c.markExpired n y) y epoch cycle left where
  sess m := (sess_setSess _ n m y).trans (by
    split
    · rfl
    · next hm => exact (h.sess m).trans (if_neg hm))
  epoch_eq := (rd_wr_of_ne _ _ (sk_ne (by decide))).trans h.epoch_eq
  cycle_eq := (rd_wr_of_ne _ _ (sk_ne (by decide))).trans h.cycle_eq
  left_eq := (rd_wr_of_ne _ _ (sk_ne (by decide))).trans h.left_eq
  count := pinCounts_count _
  keeps := Keeps.wr (h.keeps.trans (Keeps.of_images rfl rfl)) _ (by simp [pinObjects])

theorem self : c.sess n = x := (h.sess n).trans (if_pos rfl)
theorem other {m : Nat} (hm : m ≠ n) : c.sess m = b.sess m := (h.sess m).trans (if_neg hm)

end PinShown

theorem pinSlot_pins {b : Block} {n k : Nat} {img : Image} (hbad : img.bad = false) (hcan : b.canPin k = true) (hpin : (b.sess n).pin ≠ some k) :
    b.pinSlot n k img = b.pinned n k img := by
  unfold pinSlot
  rw [if_neg (by simp [hbad]), if_neg (by simp [hcan]), if_neg hpin]
  rfl

theorem pinNewest_some {b : Block} {n : Nat} {e : Nat × Image} (h : b.newestImage = some e) : b.pinNewest n = b.pinSlot n e.1 e.2 := by
  unfold pinNewest
  rw [h]

theorem pinNewest_none {b : Block} {n : Nat} (h : b.newestImage = none) : b.pinNewest n = b.setPinStatus n 1 := by
  unfold pinNewest
  rw [h]

/-- A name that resolves to a complete image pins its slot (R92, R93). -/
theorem pinNamed_found {b : Block} {n e : Nat} {x : Nat × Image} (hnewest : b.newestImage ≠ none)
    (hres : b.resolveEpoch (b.rd (sk n Obj.SnapshotSession.RequestEpoch)) (b.rd (sk n Obj.SnapshotSession.RequestCycle)) = some e)
    (hfind : b.canopy.slots.find? (fun x => x.2.epoch == e && x.2.cycle == b.rd (sk n Obj.SnapshotSession.RequestCycle)) = some x)
    (hcomplete : x.2.complete = true) : b.pinNamed n = b.pinSlot n x.1 x.2 := by
  obtain ⟨y, hy⟩ := Option.ne_none_iff_exists'.1 hnewest
  unfold pinNamed
  simp only [hy, hres, hfind, hcomplete, if_true]

/-- The partner's copy apart, a mirrored change of a pin is the change. -/
theorem pinMirror_eq (b : Block) (n : Nat) (f : Block → Block) : ∃ p : Pair, b.pinMirror n f = { f b with pair := p } := by
  unfold pinMirror
  extract_lets c
  split
  · exact ⟨c.pair, rfl⟩
  · split <;> exact c.send_eq ..

/-- The partner hears of a change of the pin only. -/
theorem pinMirror_same {b : Block} {n : Nat} {f : Block → Block} {c : Block} (he : f b = c) (h : (c.sess n).pin = (b.sess n).pin) :
    b.pinMirror n f = c := by
  subst he
  exact if_pos h

/-- A pin whose time is up ends, with no transfer to end beside it (R94). -/
theorem pinExpiry_ends {b : Block} {n : Nat} (hpin : (b.sess n).pin ≠ none) (hleft : (b.sess n).pinLeft = 0) (htransfer : (b.sess n).transfer = none) :
    b.pinExpiry n = (b.unpin n).markExpired n { b.sess n with pin := none, pinLeft := 0, expired := true } := by
  have hsess : ((b.unpin n).report Src.SNAP_PIN_EXPIRED n).sess n = { b.sess n with pin := none, pinLeft := 0 } :=
    (report_sess ..).trans (b.unpin_shown n).self
  unfold pinExpiry
  simp only [htransfer, hsess, Option.isSome_iff_ne_none.2 hpin, hleft, and_self, if_true, Bool.false_eq_true, if_false, sess_setSess_self]
  rfl

end Block

/-! ### The commands -/

/-- A command that changes a pin: beside what it does the partner may be told. -/
theorem State.actOn_pinMirror {s : State} {n : Nat} (hs : Settled s) (hn : n < 32) (f : Block → Block) {c : Block} (he : f s.blk = c)
    (hw : c.writes = s.blk.writes) :
    ∃ p : Pair, s.actOn (decide (n < 32)) .session n (·.pinMirror n f) = .next { s with blk := { c with pair := p } } := by
  obtain ⟨p, hp⟩ := s.blk.pinMirror_eq n f
  exact ⟨p, State.actOn_block (decide_eq_true hn) .session n _ (hp.trans (by rw [he])) (hw.trans hs)⟩

/-- Of session n's pin nothing changes but what shows it, the session's own record and what the partner is told. -/
def PinFrame (n : Nat) (s t : State) : Prop :=
  (∀ m, m ≠ n → t.blk.sess m = s.blk.sess m) ∧ KeepsObjects (Block.pinObjects n) s t ∧
    t.blk = { s.blk with sessions := t.blk.sessions, pair := t.blk.pair, dict := t.blk.dict, wimg := t.blk.wimg } ∧ SameArrays s t

theorem pinFrame_of_parts {s : State} {n : Nat} {x y : Session} {c : Block} {epoch cycle left : Nat} (h : Block.PinShown n s.blk c x epoch cycle left)
    (hparts : Block.SameParts (s.blk.setSess n y) c) (p : Pair) : PinFrame n s { s with blk := { c with pair := p } } := by
  have hc : c = { s.blk with sessions := c.sessions, dict := c.dict, wimg := c.wimg } := calc
    c = { s.blk with sessions := (s.blk.setSess n y).sessions, dict := c.dict, wimg := c.wimg } := hparts
    _ = _ := congrArg (fun l => { s.blk with sessions := l, dict := c.dict, wimg := c.wimg }) (congrArg (·.sessions) hparts).symm
  exact ⟨fun m hm => h.other hm, h.keeps, congrArg (fun b : Block => { b with pair := p }) hc, rfl, rfl, rfl⟩

/-- A pin that is granted: the session holds the slot for its limit and its objects name the image. -/
def Granted (n k : Nat) (img : Image) (s t : State) : Prop :=
  PinFrame n s t ∧ t.blk.sess n = s.blk.pinnedSess n k ∧
    t.blk.rd (sk n Obj.SnapshotSession.PinnedEpoch) = img.epoch ∧ t.blk.rd (sk n Obj.SnapshotSession.PinnedCycle) = img.cycle ∧
    t.blk.rd (sk n Obj.SnapshotSession.PinRemaining) = s.blk.pinLimit n ∧ t.blk.rd (sk n Obj.SnapshotSession.Status) = 0 ∧
    t.blk.rd Obj.CanopyStatus.SlotsPinned = t.blk.pinnedSlots.length

theorem granted_of_shown {s : State} {n k : Nat} {img : Image} {c : Block} (hparts : Block.SameParts (s.blk.setSess n (s.blk.pinnedSess n k)) c)
    (h : Block.PinShown n s.blk c (s.blk.pinnedSess n k) img.epoch img.cycle (s.blk.pinLimit n))
    (hstatus : c.rd (sk n Obj.SnapshotSession.Status) = 0) (p : Pair) : Granted n k img s { s with blk := { c with pair := p } } :=
  ⟨pinFrame_of_parts h hparts p, h.self, h.epoch_eq, h.cycle_eq, h.left_eq, hstatus, h.count⟩

/-- A session's objects show no pin. -/
def ShowsNoPin (n : Nat) (b : Block) : Prop :=
  b.rd (sk n Obj.SnapshotSession.PinnedEpoch) = 0xFFFF ∧ b.rd (sk n Obj.SnapshotSession.PinnedCycle) = 0 ∧
    b.rd (sk n Obj.SnapshotSession.PinRemaining) = 0 ∧ b.rd Obj.CanopyStatus.SlotsPinned = b.pinnedSlots.length

theorem showsNoPin_of_shown {n : Nat} {b c : Block} {x : Session} (h : Block.PinShown n b c x 0xFFFF 0 0) : ShowsNoPin n c :=
  ⟨h.epoch_eq, h.cycle_eq, h.left_eq, h.count⟩

section

variable {s : State} {n : Nat} (hs : Settled s) (hn : n < 32)
include hs hn

/-- A command that asks for a readable image in a slot that may be pinned is granted its pin. -/
theorem pinSlot_granted {f : Block → Block} {k : Nat} {img : Image} (hf : f s.blk = s.blk.pinSlot n k img)
    (hfree : img.bad = false ∧ s.blk.canPin k = true ∧ (s.blk.sess n).pin ≠ some k) :
    ∃ t, s.actOn (decide (n < 32)) .session n (·.pinMirror n f) = .next t ∧ Granted n k img s t := by
  obtain ⟨hbad, hcan, hpin⟩ := hfree
  obtain ⟨p, hexec⟩ := State.actOn_pinMirror hs hn f (hf.trans (Block.pinSlot_pins hbad hcan hpin)) (s.blk.pinned_writes n k img)
  exact ⟨_, hexec, granted_of_shown (s.blk.pinned_parts n k img) (s.blk.pinned_shown n k img) (s.blk.pinned_status n k img) p⟩

/-- Without an image only the status is answered (R92). -/
theorem pinNewest_refused (hnone : s.blk.newestImage = none) : ∃ t, exec (.pinNewest n) s = .next t ∧
    t.blk.rd (sk n Obj.SnapshotSession.Status) = 1 ∧ KeepsObjects [sk n Obj.SnapshotSession.Status] s t ∧ OnlyObjects s t ∧ SameArrays s t := by
  have hmirror := Block.pinMirror_same (n := n) (f := (·.pinNewest n)) (Block.pinNewest_none hnone)
    (congrArg (·.pin) (s.blk.setPinStatus_sess n 1 n))
  exact ⟨_, State.actOn_block (decide_eq_true hn) .session n _ hmirror ((Block.setPinStatus_writes ..).trans hs), Block.rd_wr_self ..,
    (Block.Keeps.refl s.blk).wr _ (by simp), (Block.SameParts.refl s.blk).wr _ _, rfl, rfl, rfl⟩

/-- A release leaves the session without a pin (R91). -/
theorem pinRelease_releases : ∃ t, exec (.pinRelease n) s = .next t ∧ PinFrame n s t ∧ ShowsNoPin n t.blk ∧
    t.blk.sess n = { s.blk.sess n with pin := none, pinLeft := 0 } ∧ t.blk.rd (sk n Obj.SnapshotSession.Status) = 0 := by
  obtain ⟨p, hexec⟩ := State.actOn_pinMirror hs hn (·.pinRelease n) (c := (s.blk.unpin n).setPinStatus n 0) rfl
    ((Block.setPinStatus_writes ..).trans (s.blk.unpin_writes n))
  have h := (s.blk.unpin_shown n).status 0
  have hp := h.pair p
  exact ⟨_, hexec, pinFrame_of_parts h ((s.blk.unpin_parts n).wr _ _) p, showsNoPin_of_shown hp, hp.self,
    (Block.rd_setPair ..).trans (Block.setPinStatus_status ..)⟩

/-- At its expiry a pin is released, and the session marked and reported (R94). -/
theorem pinExpiry_releases (hpin : (s.blk.sess n).pin ≠ none) (hleft : (s.blk.sess n).pinLeft = 0) (htransfer : (s.blk.sess n).transfer = none) :
    ∃ t, exec (.pinExpiry n) s = .next t ∧ ShowsNoPin n t.blk ∧
    t.blk.sess n = { s.blk.sess n with pin := none, pinLeft := 0, expired := true } ∧
    Reports s t [{ src := Src.SNAP_PIN_EXPIRED, inst := n }] ∧ (∀ m, m ≠ n → t.blk.sess m = s.blk.sess m) ∧
    KeepsObjects (Block.pinObjects n) s t ∧ SameArrays s t := by
  have hexec := State.actOn_block (s := s) (decide_eq_true hn) .session n (·.pinExpiry n) (Block.pinExpiry_ends hpin hleft htransfer)
    ((Block.markExpired_writes ..).trans ((s.blk.unpin_writes n).trans hs))
  have h := (s.blk.unpin_shown n).markExpired { s.blk.sess n with pin := none, pinLeft := 0, expired := true }
  exact ⟨_, hexec, showsNoPin_of_shown h, h.self, (Block.markExpired_reports ..).trans (congrArg (·.reports ++ _) (s.blk.unpin_faults n)),
    fun m hm => h.other hm, h.keeps, rfl, rfl, rfl⟩

end

/-- A capture completes the images and names the newest (R88). -/
theorem captureDone_completes {s : State} (hs : Settled s) : ∃ t, exec .snapshotCaptureDone s = .next t ∧
    (∀ e ∈ t.blk.canopy.slots, e.2.complete = true) ∧ t.blk.canopy.slots.map (·.1) = s.blk.canopy.slots.map (·.1) ∧
    (∀ e, t.blk.newestImage = some e → t.blk.rd Obj.CanopyStatus.NewestEpoch = e.2.epoch ∧ t.blk.rd Obj.CanopyStatus.NewestCycle = e.2.cycle) ∧
    KeepsObjects [Obj.CanopyStatus.NewestEpoch, Obj.CanopyStatus.NewestCycle] s t ∧
    t.blk = { s.blk with canopy := { s.blk.canopy with slots := t.blk.canopy.slots }, dict := t.blk.dict, wimg := t.blk.wimg } ∧
    SameArrays s t := by
  obtain ⟨hparts, hkeeps, hnamed⟩ := s.blk.captureDone_names
  have hcanopy : s.blk.captureDone.canopy = s.blk.completeSlots.canopy := congrArg (·.canopy) hparts
  have hexec := State.act_block Block.captureDone rfl ((congrArg (·.writes) hparts).trans hs)
  generalize s.blk.captureDone = c at *
  have hslots : c.canopy.slots = s.blk.canopy.slots.map s.blk.completed := congrArg (·.slots) hcanopy
  refine ⟨_, hexec, fun e he => ?_, ?_, hnamed, hkeeps, ?_, rfl, rfl, rfl⟩
  · obtain ⟨x, -, rfl⟩ := List.mem_map.1 (hslots ▸ he)
    exact s.blk.completed_complete x
  · rw [hslots, List.map_map]
    exact List.map_congr_left fun e _ => s.blk.completed_slot e
  · rw [hslots]
    exact hparts

/-- Settles O29: a capture completes the images, and each command on a pin leaves the session as `PinShown` says. -/
theorem pinsHoldAnImageForTheirTime : Obligations.PinsHoldAnImageForTheirTime := by
  unfold Obligations.PinsHoldAnImageForTheirTime
  exact ⟨fun s hs => captureDone_completes hs, fun s n hs hn =>
    ⟨fun k img hnewest hfree => pinSlot_granted hs hn (Block.pinNewest_some hnewest) hfree, pinNewest_refused hs hn,
      fun k img e hnewest hres hfind hcomplete hfree => pinSlot_granted hs hn (Block.pinNamed_found hnewest hres hfind hcomplete) hfree,
      pinRelease_releases hs hn, pinExpiry_releases hs hn⟩⟩

end Sys2Proof.Machine
end

section
/-! PROOFS. Writes of objects: the checks in their order, a session's own object, and a staged write (R96, R100, R484). -/

namespace Sys2Proof.Machine

open Sys2Proof.Safety

/-! ### The checks of a write (R484) -/

section

variable {s : State} {n key : Nat} {data : List Nat}

theorem writeObject_missing (h : objectStatus key ≠ dsOK) :
    s.writeObject n key data = ({ status := objectStatus key, flags := flRESPONSE }, s) := if_pos h

variable (hstatus : objectStatus key = dsOK)
include hstatus

theorem writeObject_badLength (hlen : lengthOk key data.length = false) :
    s.writeObject n key data = ({ status := dsTYPE_LENGTH, flags := flRESPONSE }, s) := by
  unfold State.writeObject
  simp [hstatus, hlen]

variable (hlen : lengthOk key data.length = true)
include hlen

theorem writeObject_readOnly (hro : objectAccess key = .ro) : s.writeObject n key data = ({ flags := flRESPONSE }, s) := by
  unfold State.writeObject
  simp [hstatus, hlen, hro]

variable (hrw : objectAccess key ≠ .ro) (hgrave : s.blk.graveRefuses key = false) (harch : s.blk.archiveRefuses key = false)
include hrw hgrave harch

/-- A value in range of an object that takes effect at once is written. -/
theorem writeObject_immediate (hmode : objectMode key = .immediate) (hrange : s.blk.nowInRange key (leValue data) = true) :
    s.writeObject n key data = s.writeNow n key (leValue data) data := by
  unfold State.writeObject
  simp [hstatus, hlen, hrw, hgrave, harch, hmode, hrange]

/-- A staged write that is taken answers DICT_OK. -/
theorem writeObject_staged (hmode : objectMode key = .staged) {c : Block} (hstage : s.blk.stageWrite n key data = (none, c)) :
    s.writeObject n key data = ({ flags := flRESPONSE }, { s with blk := c }) := by
  unfold State.writeObject
  simp [hstatus, hlen, hrw, hgrave, harch, hmode, hstage]

end

/-! ### The answer -/

/-- A command that reads the arrays and writes none, on a unit that exists, answers the state with its block. -/
theorem State.runOn_block {s : State} {ok : Bool} (h : ok = true) (k : UnitKind) (n : Nat) (f : State → State) {c : Block}
    (he : f s = { s with blk := c }) (hw : c.writes = {}) : s.runOn ok k n f = .next { s with blk := c } :=
  (s.runOn_of h k n f).trans ((congrArg (fun t : State => Host.Outcome.next t.settle) he).trans (s.act_frame (fun _ => c) hw))

namespace Block

/-- A session's reply is the response (R487). -/
def answerWith (b : Block) (n : Nat) (r : Reply) : Block := b.setSess n { b.sess n with reply := r }

theorem answerWith_writes (b : Block) (n : Nat) (r : Reply) : (b.answerWith n r).writes = b.writes := rfl
theorem rd_answerWith (b : Block) (n : Nat) (r : Reply) (k : Nat) : (b.answerWith n r).rd k = b.rd k := rfl
theorem Keeps.answerWith {named : List Nat} {b c : Block} (h : Keeps named b c) (n : Nat) (r : Reply) : Keeps named b (c.answerWith n r) :=
  h.trans (Keeps.of_images rfl rfl)
theorem sess_answerWith (b : Block) (n : Nat) (r : Reply) (m : Nat) : (b.answerWith n r).sess m = if m = n then { b.sess n with reply := r } else b.sess m :=
  b.sess_setSess n m _

end Block

/-- Session n has the response, no other session changes, and neither do the arrays. -/
def Told (n : Nat) (s t : State) (r : Reply) : Prop :=
  (t.blk.sess n).reply = r ∧ (∀ m, m ≠ n → t.blk.sess m = s.blk.sess m) ∧ SameArrays s t

theorem told_answerWith {s : State} {n : Nat} {c : Block} (h : ∀ m, m ≠ n → c.sess m = s.blk.sess m) (r : Reply) :
    Told n s { s with blk := c.answerWith n r } r := by
  have hsess := c.sess_answerWith n r
  refine ⟨?_, fun m hm => ((hsess m).trans (if_neg hm)).trans (h m hm), rfl, rfl, rfl⟩
  exact congrArg (·.reply) ((hsess n).trans (if_pos rfl))

section

variable {s : State} {n index sub : Nat} {data : List Nat} (hs : Settled s) (hn : n < 32) (hindex : index < 65536) (hsub : sub < 256)
include hs hn hindex hsub

/-- What OBJECT_WRITE does, from what the write of its object does. -/
theorem objectWrite_next {r : Reply} {c : Block} (he : s.writeObject n (objKey index sub) data = (r, { s with blk := c }))
    (hw : c.writes = s.blk.writes) : exec (.objectWrite n index sub data) s = .next { s with blk := c.answerWith n r } := by
  refine State.runOn_block (decide_eq_true hn) .session n (fun s =>
    let r := s.writeObject n (objKey (index % 65536) (sub % 256)) data
    r.2.mapBlk (fun b => b.setSess n { b.sess n with reply := r.1 })) ?_ ((c.answerWith_writes n r).trans (hw.trans hs))
  simp only [Nat.mod_eq_of_lt hindex, Nat.mod_eq_of_lt hsub, he]
  rfl

/-- A write that changes nothing is answered. -/
theorem objectWrite_answered {r : Reply} (he : s.writeObject n (objKey index sub) data = (r, s)) :
    ∃ t, exec (.objectWrite n index sub data) s = .next t ∧ Told n s t r ∧ t.blk = { s.blk with sessions := t.blk.sessions } :=
  ⟨_, objectWrite_next hs hn hindex hsub he rfl, told_answerWith (fun _ _ => rfl) r, rfl⟩

end

/-! ### A session's own object (R91) -/

theorem graveRefuses_requestCycle (b : Block) : b.graveRefuses Obj.SnapshotSession.RequestCycle = false := by
  unfold Block.graveRefuses
  rw [show (_ || _) = false by decide, Bool.and_false]

theorem archiveRefuses_requestCycle (b : Block) : b.archiveRefuses Obj.SnapshotSession.RequestCycle = false := by
  unfold Block.archiveRefuses
  rw [show (objectMode Obj.SnapshotSession.RequestCycle == .staged) = false by decide, Bool.and_false, Bool.false_and]

namespace Block

theorem send_sess (b : Block) (kind : Nat) (ref : List Nat) (m : Nat) : (b.send kind ref).sess m = b.sess m := by
  obtain ⟨p, hp⟩ := b.send_eq kind ref
  rw [hp]
  rfl

/-- A value is in session n's copy of an object, and the partner told (R95). -/
def writeOwn (b : Block) (n key v : Nat) : Block := (b.wr (sk n key) v).send 4 [7, sk n key, v]

theorem rd_writeOwn_self (b : Block) (n key v : Nat) : (b.writeOwn n key v).rd (sk n key) = v := (send_rd ..).trans (rd_wr_self ..)
theorem sess_writeOwn (b : Block) (n key v m : Nat) : (b.writeOwn n key v).sess m = b.sess m := (send_sess ..).trans (wr_sess ..)
theorem writeOwn_writes (b : Block) (n key v : Nat) : (b.writeOwn n key v).writes = b.writes := (send_writes ..).trans (wr_writes ..)
theorem writeOwn_keeps (b : Block) (n key v : Nat) : Keeps [sk n key] b (b.writeOwn n key v) :=
  ((Keeps.refl b).wr v (List.mem_singleton_self _)).send 4 _

end Block

theorem writeNow_requestCycle (s : State) (n v : Nat) (data : List Nat) : s.writeNow n Obj.SnapshotSession.RequestCycle v data =
    ({ flags := flRESPONSE }, { s with blk := s.blk.writeOwn n Obj.SnapshotSession.RequestCycle v }) := rfl

/-! ### A staged write (R96, R98, R100) -/

namespace Block

/-- Session n's open bundle holds the writes ws, and the counts follow. -/
def stage (b : Block) (n : Nat) (ws : List (Nat × List Nat)) : Block := (b.setSess n { b.sess n with staged := ws }).bundleCounts n

theorem stageWrite_joins {b : Block} {n key : Nat} {data : List Nat} (hbundle : (b.sess n).bundle = true)
    (hown : stagedBytes (putStaged (b.sess n).staged key data) ≤ 131072)
    (hall : b.stagingUsed - stagedBytes (b.sess n).staged + stagedBytes (putStaged (b.sess n).staged key data) ≤ 524288) :
    b.stageWrite n key data = (none, b.stage n (putStaged (b.sess n).staged key data)) := by
  unfold stageWrite
  extract_lets x ws used
  exact (if_pos hbundle).trans (if_neg (not_or.2 ⟨Nat.not_lt.2 hown, Nat.not_lt.2 hall⟩))

theorem bundleCounts_eq (b : Block) (n : Nat) : b.bundleCounts n = (b.wrsOwn n [(Obj.CommitSession.Entries, (b.sess n).staged.length),
    (Obj.CommitSession.Bytes, stagedBytes (b.sess n).staged)]).stagingCounts := rfl

theorem stagingCounts_sess (b : Block) (m : Nat) : b.stagingCounts.sess m = b.sess m := sess_wrs ..
theorem stagingCounts_writes (b : Block) : b.stagingCounts.writes = b.writes := wrs_writes ..

/-- The counts of all bundles are no object of a session. -/
theorem stagingCounts_own (b : Block) (n k : Nat) : b.stagingCounts.rd (sk n k) = b.rd (sk n k) :=
  b.stagingCounts_keeps.rd_eq (by simp [sk_ne (n := n) (k := k) (show Obj.CanopyStatus.StagingUsed < 0x1000000 by decide),
    sk_ne (n := n) (k := k) (show Obj.CanopyStatus.CommitsPending < 0x1000000 by decide)])

theorem bundleCounts_sess (b : Block) (n m : Nat) : (b.bundleCounts n).sess m = b.sess m := by
  rw [bundleCounts_eq, stagingCounts_sess, wrsOwn, sess_wrs]

theorem bundleCounts_writes (b : Block) (n : Nat) : (b.bundleCounts n).writes = b.writes := by
  rw [bundleCounts_eq, stagingCounts_writes, wrsOwn, wrs_writes]

theorem bundleCounts_shows (b : Block) (n : Nat) :
    (b.bundleCounts n).rd (sk n Obj.CommitSession.Entries) = (b.sess n).staged.length ∧
      (b.bundleCounts n).rd (sk n Obj.CommitSession.Bytes) = stagedBytes (b.sess n).staged := by
  rw [bundleCounts_eq, stagingCounts_own, stagingCounts_own]
  exact ⟨rd_wrsOwn .., rd_wrsOwn ..⟩

theorem bundleCounts_keeps (b : Block) (n : Nat) : Keeps [sk n Obj.CommitSession.Entries, sk n Obj.CommitSession.Bytes,
    Obj.CanopyStatus.StagingUsed, Obj.CanopyStatus.CommitsPending] b (b.bundleCounts n) := by
  rw [bundleCounts_eq]
  exact Keeps.trans ((Keeps.refl b).wrs _ (by simp)) ((stagingCounts_keeps _).mono (by simp))

theorem stage_sess (b : Block) (n : Nat) (ws : List (Nat × List Nat)) (m : Nat) :
    (b.stage n ws).sess m = if m = n then { b.sess n with staged := ws } else b.sess m :=
  (bundleCounts_sess ..).trans (b.sess_setSess n m _)

theorem stage_writes (b : Block) (n : Nat) (ws : List (Nat × List Nat)) : (b.stage n ws).writes = b.writes := bundleCounts_writes ..

theorem stage_shows (b : Block) (n : Nat) (ws : List (Nat × List Nat)) :
    (b.stage n ws).rd (sk n Obj.CommitSession.Entries) = ws.length ∧ (b.stage n ws).rd (sk n Obj.CommitSession.Bytes) = stagedBytes ws := by
  have h := (b.setSess n { b.sess n with staged := ws }).bundleCounts_shows n
  rwa [sess_setSess_self] at h

theorem stage_keeps (b : Block) (n : Nat) (ws : List (Nat × List Nat)) : Keeps [sk n Obj.CommitSession.Entries, sk n Obj.CommitSession.Bytes,
    Obj.CanopyStatus.StagingUsed, Obj.CanopyStatus.CommitsPending] b (b.stage n ws) :=
  Keeps.trans (c := b.setSess n _) (Keeps.of_images rfl rfl) (bundleCounts_keeps _ n)

end Block

/-! ### The commands -/

section

variable {s : State} {n index sub : Nat} {data : List Nat} (hs : Settled s) (hn : n < 32) (hindex : index < 65536) (hsub : sub < 256)
include hs hn hindex hsub

/-- A write of RequestCycle in range is in the session's own copy at once. -/
theorem objectWrite_requestCycle (hkey : objKey index sub = Obj.SnapshotSession.RequestCycle) (hlen : data.length = 4)
    (hrange : s.blk.nowInRange (objKey index sub) (leValue data) = true) :
    ∃ t, exec (.objectWrite n index sub data) s = .next t ∧ t.blk.rd (sk n (objKey index sub)) = leValue data ∧
      Told n s t { flags := flRESPONSE } ∧ KeepsObjects [sk n (objKey index sub)] s t := by
  rw [hkey] at hrange
  have hlenOk : lengthOk Obj.SnapshotSession.RequestCycle data.length = true := hlen ▸ (by decide)
  have hwrite := (writeObject_immediate (n := n) (by decide) hlenOk (by decide) (graveRefuses_requestCycle s.blk)
    (archiveRefuses_requestCycle s.blk) (by decide) hrange).trans (writeNow_requestCycle s n (leValue data) data)
  rw [← hkey] at hwrite
  have hkeeps := s.blk.writeOwn_keeps n (objKey index sub) (leValue data)
  exact ⟨_, objectWrite_next hs hn hindex hsub hwrite (s.blk.writeOwn_writes ..),
    (Block.rd_answerWith ..).trans (s.blk.rd_writeOwn_self ..), told_answerWith (fun m _ => s.blk.sess_writeOwn ..) _, hkeeps.answerWith n _⟩

/-- A staged write within the limits is the open bundle's write of its object. -/
theorem objectWrite_staged {c : Block} {ws : List (Nat × List Nat)} (hc : s.blk.stage n ws = c)
    (hwrite : s.writeObject n (objKey index sub) data = ({ flags := flRESPONSE }, { s with blk := c })) :
    ∃ t, exec (.objectWrite n index sub data) s = .next t ∧ t.blk.sess n = { s.blk.sess n with staged := ws, reply := { flags := flRESPONSE } } ∧
      Told n s t { flags := flRESPONSE } ∧ t.blk.rd (sk n Obj.CommitSession.Entries) = ws.length ∧
      t.blk.rd (sk n Obj.CommitSession.Bytes) = Block.stagedBytes ws ∧
      KeepsObjects [sk n Obj.CommitSession.Entries, sk n Obj.CommitSession.Bytes, Obj.CanopyStatus.StagingUsed, Obj.CanopyStatus.CommitsPending] s t := by
  have hsess := s.blk.stage_sess n ws
  obtain ⟨hentries, hbytes⟩ := s.blk.stage_shows n ws
  have hkeeps := s.blk.stage_keeps n ws
  have hwrites := s.blk.stage_writes n ws
  rw [hc] at hsess hentries hbytes hkeeps hwrites
  refine ⟨_, objectWrite_next hs hn hindex hsub hwrite hwrites, ?_, told_answerWith (fun m hm => (hsess m).trans (if_neg hm)) _, hentries, hbytes,
    hkeeps.answerWith n _⟩
  refine ((c.sess_answerWith n _ n).trans (if_pos rfl)).trans ?_
  rw [(hsess n).trans (if_pos rfl)]

end

/-- Settles O40: the checks of R484 in their order, and for a write that passes them what it leaves of the block. -/
theorem objectWritesAreCheckedAndServed : Obligations.ObjectWritesAreCheckedAndServed := by
  unfold Obligations.ObjectWritesAreCheckedAndServed
  intro s n index sub data hs hn hindex hsub
  have answered {r : Reply} (he : s.writeObject n (objKey index sub) data = (r, s)) := objectWrite_answered hs hn hindex hsub he
  exact ⟨fun h => answered (writeObject_missing h), fun hstatus hlen => answered (writeObject_badLength hstatus hlen),
    fun hstatus hlen hro => answered (writeObject_readOnly hstatus hlen hro), objectWrite_requestCycle hs hn hindex hsub,
    fun hstatus hlen hrw hmode hgrave harch hbundle hown hall => objectWrite_staged hs hn hindex hsub rfl
      (writeObject_staged hstatus hlen hrw hgrave harch hmode (Block.stageWrite_joins hbundle hown hall))⟩

end Sys2Proof.Machine
end

section
/-! PROOFS. Link records and the objects of a port: a record set twice, and what is no object of a port's. -/

namespace Sys2Proof.Machine

namespace Tab

variable {α : Type}

theorem drop_insert (m : Tab α) (n : Nat) (v : α) : Tab.drop (Tab.insert n v m) n = Tab.drop m n := by
  induction m with
  | nil => simp [Tab.insert, Tab.drop]
  | cons e r ih =>
    obtain ⟨k, w⟩ := e
    unfold Tab.insert
    split
    · simp [Tab.drop]
    · simp only [Tab.drop, List.filter_cons] at ih ⊢
      rw [ih]

theorem drop_put [DecidableEq α] (d : α) (m : Tab α) (n : Nat) (v : α) : Tab.drop (Tab.put d m n v) n = Tab.drop m n := by
  have hdrop : Tab.drop (Tab.drop m n) n = Tab.drop m n := by simp [Tab.drop]
  unfold Tab.put
  split
  · exact hdrop
  · exact (drop_insert ..).trans hdrop

/-- Of two values put at one key the second stays. -/
theorem put_put [DecidableEq α] (d : α) (m : Tab α) (n : Nat) (v w : α) : Tab.put d (Tab.put d m n v) n w = Tab.put d m n w := by
  rw [Tab.put, Tab.set, drop_put]
  rfl

end Tab

/-- An object outside the ports' records is none of a port's. -/
theorem ne_portObject {p k sub : Nat} (hp : p < 512) (hk : k < objKey 0x3000 0 ∨ objKey 0x3200 0 ≤ k) (hsub : sub < 256) :
    k ≠ objKey (0x3000 + p) sub := by
  unfold objKey at *
  omega

namespace Block

theorem setPort_setPort (b : Block) (p : Nat) (x y : Port) : (b.setPort p x).setPort p y = b.setPort p y := by
  simp only [setPort, Tab.put_put]

end Block

end Sys2Proof.Machine
end

section
/-! PROOFS. A lost link: the condition at HoldLimit, a retrain underneath, and a retrain run that takes too long (R148, R150). -/

namespace Sys2Proof.Machine

open Sys2Proof.Safety

namespace Block

/-! ### The condition (R150) -/

/-- The ticks without a success, the one in progress included once it is lost. -/
def failedTicks (b : Block) (p : Nat) : Nat := b.rd (Obj.PortRecord.ConsecutiveFailed p) + b2n (b.tickLost p)

theorem linkLost_raises {b : Block} {p : Nat} (hcounts : b.linkCounts p = true) (hinject : (b.port p).inject = false)
    (hlost : b.rd (Obj.PortRecord.HoldLimit p) ≤ b.failedTicks p) : b.linkLost p = b.condition Src.LINK_LOST p true := by
  have hgo : (b.linkCounts p && decide (b.rd (Obj.PortRecord.HoldLimit p) ≤ b.failedTicks p)) = true := by simp [hcounts, hlost]
  exact (if_pos hgo).trans (by rw [hinject])

theorem linkLost_below {b : Block} {p : Nat} (hbelow : b.failedTicks p < b.rd (Obj.PortRecord.HoldLimit p)) : b.linkLost p = b := by
  have hstay : (b.linkCounts p && decide (b.rd (Obj.PortRecord.HoldLimit p) ≤ b.failedTicks p)) = false := by simp [Nat.not_le.2 hbelow]
  exact if_neg (ne_true_of_eq_false hstay)

/-- A port that is no feed's only loses its link. -/
theorem portLost_eq_linkLost {b : Block} {p : Nat} (hclass : (b.linkLost p).classOf p ≠ 4) : b.portLost p = b.linkLost p :=
  if_neg fun ⟨_, h, _⟩ => hclass h

theorem classOf_condition (b : Block) (src inst : Nat) (c : Bool) (p : Nat) : (b.condition src inst c).classOf p = b.classOf p :=
  congrArg (· % 8) (rd_condition_of_ne b src inst c [] false (objKey_ne_of_sub_ne (by decide) (by decide) (by decide)))

theorem condition_ports (b : Block) (src inst : Nat) (c : Bool) : (b.condition src inst c).ports = b.ports :=
  condition_of (·.ports) (fun _ _ _ => rfl) (fun _ _ => rfl) ..

/-! ### A retrain underneath (R150) -/

/-- A training run starts underneath the state of the port. -/
def retrainUnder (b : Block) (p : Nat) : Block := (b.modPort p (fun x => { x with retrain := true })).startTraining p

theorem retrainUnder_port (b : Block) (p : Nat) : (b.retrainUnder p).port p =
    { b.port p with retrain := true, trainRun := 0, trainAt := b.glade.cycles, delayUntil := none } := by
  rw [retrainUnder, startTraining_port, port_modPort_self]
  rfl

theorem retrainUnder_keeps (b : Block) (p : Nat) : Keeps [Obj.PortRecord.TrainAttempts p] b (b.retrainUnder p) :=
  Keeps.trans ((Keeps.refl b).setPort p _) (startTraining_keeps _ p)

/-- With no one-shot waiting none fails. -/
theorem failShots_none {b : Block} {p : Nat} (hshots : (b.port p).shots = []) : b.failShots p = b := by
  rw [failShots, hshots]
  rfl

theorem linkRetrain_starts {b : Block} {p : Nat} (hstate : b.portState p ∈ [psIN_SERVICE, psSAFE, psADMITTED, psFAILED])
    (hretrain : (b.port p).retrain = false) (hshots : (b.port p).shots = [])
    (hlong : 100 * b.glade.nt ≤ b.rd (Obj.PortRecord.ConsecutiveFailed p)) : b.linkRetrain p = b.retrainUnder p := by
  have hnone : ((b.retrainUnder p).port p).shots = [] := by rw [retrainUnder_port, hshots]
  refine (if_pos ⟨?_, by rw [hretrain]; rfl, hlong⟩).trans (failShots_none hnone)
  simpa using hstate

theorem linkRetrain_early {b : Block} {p : Nat} (hshort : b.rd (Obj.PortRecord.ConsecutiveFailed p) < 100 * b.glade.nt) : b.linkRetrain p = b :=
  if_neg fun ⟨_, _, hlong⟩ => Nat.not_le.2 hshort hlong

/-! ### A retrain run that takes too long (R150) -/

/-- The states in which the next run starts at once. -/
def retrainsOn (b : Block) (p : Nat) : Prop := b.portState p = psIN_SERVICE ∨ b.portState p = psSAFE ∨ b.portState p = psFAILED

theorem retrainsOn_iff (b : Block) (p : Nat) : b.retrainsOn p ↔ b.portState p ∈ [psIN_SERVICE, psSAFE, psFAILED] := by simp [retrainsOn]

theorem not_retrainsOn {b : Block} {p : Nat} (h : b.portState p ∈ [psADMITTED, psMISMATCH]) : ¬ b.retrainsOn p := by
  simp only [List.mem_cons, List.not_mem_nil, or_false] at h
  unfold retrainsOn
  obtain h | h := h
  all_goals
    rw [h]
    decide

/-- The run has failed: it is reported, and then either the next run starts or the port is ABSENT. -/
theorem trainingTimeout_retrain {b : Block} {p : Nat} (hretrain : (b.port p).retrain = true) (hdelay : (b.port p).delayUntil = none)
    (hlong : (b.port p).trainAt + 100 ≤ b.glade.cycles) :
    (b.retrainsOn p → b.trainingTimeout p = (b.report Src.LINK_TRAIN_FAIL p).startTraining p) ∧
      (¬ b.retrainsOn p → b.trainingTimeout p =
        ((b.report Src.LINK_TRAIN_FAIL p).setPort p { b.port p with retrain := false, trainRun := 0 }).setPortState p psABSENT) := by
  have hgo : (!b.inTraining p || (b.port p).delayUntil.isSome || decide (b.glade.cycles < (b.port p).trainAt + 100)) = false := by
    simp [inTraining, hretrain, hdelay, hlong]
  unfold trainingTimeout
  simp only [hgo, Bool.false_eq_true, if_false]
  exact ⟨fun h => if_pos h, fun h => if_neg h⟩

end Block

/-! ### The commands -/

section

variable {s : State} {p : Nat} (hs : Settled s) (hp : p < 512)
include hs hp

/-- LINK_LOST at HoldLimit, on a port that is no feed's. -/
theorem linkLost_next (hcounts : s.blk.linkCounts p = true) (hclass : s.blk.classOf p ≠ 4) (habsent : s.blk.isPresent Src.LINK_LOST p = false)
    (hinject : (s.blk.port p).inject = false) (hlost : s.blk.rd (Obj.PortRecord.HoldLimit p) ≤ s.blk.failedTicks p) :
    ∃ t, exec (.linkLost p) s = .next t ∧ t.blk.isPresent Src.LINK_LOST p = true ∧ Reports s t [{ src := Src.LINK_LOST, inst := p }] ∧
      t.blk.ports = s.blk.ports ∧ KeepsObjects [Obj.SourceConfig.PresentInstances Src.LINK_LOST] s t ∧ SameArrays s t := by
  have hraise := Block.linkLost_raises hcounts hinject hlost
  have he := (Block.portLost_eq_linkLost (by rwa [hraise, Block.classOf_condition])).trans hraise
  exact ⟨_, State.actOn_block (decide_eq_true hp) .port p (·.portLost p) he ((Block.condition_writes ..).trans hs),
    Block.isPresent_condition .., Block.condition_appears habsent [], Block.condition_ports ..,
    (Block.Keeps.refl s.blk).condition _ _ _ _ _ (List.mem_singleton_self _), rfl, rfl, rfl⟩

/-- LINK_LOST below HoldLimit changes nothing. -/
theorem linkLost_idle (hclass : s.blk.classOf p ≠ 4) (hbelow : s.blk.failedTicks p < s.blk.rd (Obj.PortRecord.HoldLimit p)) :
    exec (.linkLost p) s = .next s := by
  have hstay := Block.linkLost_below hbelow
  exact State.actOn_block (decide_eq_true hp) .port p (·.portLost p) ((Block.portLost_eq_linkLost (by rwa [hstay])).trans hstay) hs

theorem linkRetrain_next (hstate : s.blk.portState p ∈ [psIN_SERVICE, psSAFE, psADMITTED, psFAILED])
    (hretrain : (s.blk.port p).retrain = false) (hshots : (s.blk.port p).shots = [])
    (hlong : 100 * s.blk.glade.nt ≤ s.blk.rd (Obj.PortRecord.ConsecutiveFailed p)) :
    ∃ t, exec (.linkRetrain p) s = .next t ∧ (t.blk.port p).retrain = true ∧ (t.blk.port p).trainRun = 0 ∧
      (t.blk.port p).trainAt = s.blk.glade.cycles ∧ t.blk.faults = s.blk.faults ∧ KeepsObjects [Obj.PortRecord.TrainAttempts p] s t ∧
      SameArrays s t := by
  have hport := s.blk.retrainUnder_port p
  exact ⟨_, State.actOn_block (decide_eq_true hp) .port p (·.linkRetrain p) (Block.linkRetrain_starts hstate hretrain hshots hlong) hs,
    congrArg Port.retrain hport, congrArg Port.trainRun hport, congrArg Port.trainAt hport, rfl, s.blk.retrainUnder_keeps p, rfl, rfl, rfl⟩

/-- A retrain run that does not complete in time, by the state of its port. -/
theorem trainingTimeout_next (hretrain : (s.blk.port p).retrain = true) (hdelay : (s.blk.port p).delayUntil = none)
    (hlong : (s.blk.port p).trainAt + 100 ≤ s.blk.glade.cycles) :
    ∃ t, exec (.trainingTimeout p) s = .next t ∧ Reports s t [{ src := Src.LINK_TRAIN_FAIL, inst := p }] ∧ SameArrays s t ∧
      (s.blk.portState p ∈ [psIN_SERVICE, psSAFE, psFAILED] → t.blk.portState p = s.blk.portState p ∧ (t.blk.port p).retrain = true ∧
        (t.blk.port p).trainAt = s.blk.glade.cycles ∧ KeepsObjects [Obj.PortRecord.TrainAttempts p] s t) ∧
      (s.blk.portState p ∈ [psADMITTED, psMISMATCH] → t.blk.portState p = psABSENT ∧ KeepsObjects [Obj.PortRecord.PortState p] s t) := by
  obtain ⟨hnext, habsent⟩ := Block.trainingTimeout_retrain hretrain hdelay hlong
  by_cases hstate : s.blk.retrainsOn p
  · refine ⟨_, State.actOn_block (decide_eq_true hp) .port p (·.trainingTimeout p) (hnext hstate) hs, rfl, ⟨rfl, rfl, rfl⟩, fun _ => ?_,
      fun h => absurd hstate (Block.not_retrainsOn h)⟩
    have hport := (s.blk.report Src.LINK_TRAIN_FAIL p).startTraining_port p
    have hkeeps := Block.Keeps.trans ((Block.Keeps.refl s.blk).report Src.LINK_TRAIN_FAIL p []) (Block.startTraining_keeps _ p)
    exact ⟨hkeeps.rd_eq (List.mem_singleton.not.2 (objKey_ne_of_sub_ne (by decide) (by decide) (by decide))),
      (congrArg Port.retrain hport).trans hretrain, congrArg Port.trainAt hport, hkeeps⟩
  · refine ⟨_, State.actOn_block (decide_eq_true hp) .port p (·.trainingTimeout p) (habsent hstate) ((Block.setPortState_writes ..).trans hs),
      congrArg Faults.reports (Block.setPortState_faults ..), ⟨rfl, rfl, rfl⟩,
      fun h => absurd ((s.blk.retrainsOn_iff p).2 h) hstate, fun _ => ?_⟩
    exact ⟨Block.portState_setPortState ..,
      (((Block.Keeps.refl s.blk).report _ _ _).setPort p _).setPortState _ _ (List.mem_singleton_self _)⟩

end

/-- Settles O25: the condition by `linkLost_next`, a retrain by `linkRetrain_next`, and a run that takes too long by `trainingTimeout_next`. -/
theorem aLostLinkIsRaisedAndRetrainsUnderneath : Obligations.ALostLinkIsRaisedAndRetrainsUnderneath := by
  unfold Obligations.ALostLinkIsRaisedAndRetrainsUnderneath
  exact ⟨fun s p hs hp hcounts hclass habsent hinject =>
      ⟨linkLost_next hs hp hcounts hclass habsent hinject, linkLost_idle hs hp hclass⟩,
    fun s p hs hp hstate hretrain hshots => ⟨linkRetrain_next hs hp hstate hretrain hshots, fun hshort =>
      State.actOn_block (decide_eq_true hp) .port p (·.linkRetrain p) (Block.linkRetrain_early hshort) hs⟩,
    fun s p hs hp => trainingTimeout_next hs hp⟩

end Sys2Proof.Machine
end

section
/-! PROOFS. Exchanges: a good reply, a damaged or missing one, and the retry slot (R117, R122, R130, R136, R154, R379). -/

namespace Sys2Proof.Machine

open Sys2Proof.Safety

/-! ### The link record of a port -/

/-- The primary slot has been answered, or its window has ended. -/
def Port.hear (x : Port) : Port := { x with heard0 := true }

/-- The sample set of a reply in the primary slot (R130, R132). -/
def primarySet (data : List Nat) : Received :=
  { slot := 0, words := (List.range 8).map (fun i => beWord data (6 + 2 * i)), status := data.getD 3 0 % 256, osLast := data.getD 22 0 % 256,
    refused := bitOf (data.getD 2 0) 2, tag := beWord data 4 }

/-- RX_ERR of the reply is the last (R154). -/
def Port.readRx (x : Port) (data : List Nat) : Port := { x with rxErr := some (data.getD 23 0 % 256) }

/-- A sample set has come. -/
def Port.receive (x : Port) (r : Received) : Port := { x with received := x.received ++ [r] }

/-- A sample set enters the state of the next tick. -/
def Port.enter (x : Port) (r : Received) : Port := { x with entered := some r }

/-- The primary exchange has succeeded. -/
def Port.succeed (x : Port) : Port := { x with okPrimary := true }

/-- A good reply in the primary slot: RX_ERR is read, the sample set comes and enters, and the exchange succeeds (R122, R126). -/
def Port.takeReply (x : Port) (data : List Nat) : Port := (((x.readRx data).receive (primarySet data)).enter (primarySet data)).succeed

/-- A COMMAND frame of the holder, and a reply of 24 bytes to it with its SEQ, by a head of seat A that holds to seat A and reports status 0
(R128, R130, R133). -/
structure GoodReply (f : Frame) (data : List Nat) : Prop where
  type : f.type = ftCOMMAND
  token : f.token = true
  seq : f.seq < 256
  length : data.length = 24
  kind : data.getD 0 0 = 0x90
  ack : data.getD 1 0 = f.seq
  holder : data.getD 2 0 = 8
  status : data.getD 3 0 = 0

/-- On seat A and without the partner no condition is present, and the port has no one-shot pending and no sample set yet (R137, R379). -/
structure Unburdened (b : Block) (p : Nat) : Prop where
  seat : b.seat = 0x41
  present : b.faults.present = []
  safeSeen : (b.port p).safeSeen = false
  active : (b.port p).active = false
  entered : (b.port p).entered = none
  received : (b.port p).received = []
  link : b.linkUp = false

/-- The primary frame of a port awaits its reply, a SOF at this time lies in the window, and no check is inverted (R117, R122, R156). -/
structure Awaits (b : Block) (p : Nat) (f : Frame) (sof : Nat) : Prop where
  frame : (b.port p).frame = some f
  unheard : (b.port p).heard0 = false
  on : b.portState p ≠ psOFF
  answered : f.type ≠ ftSAFE_BCAST
  inject : (b.port p).inject = false
  lo : 2176 ≤ sof
  hi : sof ≤ 2400

theorem GoodReply.set {f : Frame} {data : List Nat} (hd : GoodReply f data) : primarySet data =
    { slot := 0, words := (List.range 8).map (fun i => beWord data (6 + 2 * i)), status := 0, osLast := data.getD 22 0 % 256, refused := false,
      tag := beWord data 4 } := by
  rw [primarySet, hd.status, hd.holder]
  rfl

namespace Block

/-- The port has heard its reply. -/
def hear (b : Block) (p : Nat) : Block := b.setPort p (b.port p).hear

theorem port_hear (b : Block) (p : Nat) : (b.hear p).port p = (b.port p).hear := port_setPort_self ..

theorem unburdened_hear {b : Block} {p : Nat} (h : Unburdened b p) : Unburdened (b.hear p) p := by
  obtain ⟨hseat, hpresent, hsafe, hactive, hentered, hreceived, hlink⟩ := h
  have hport := b.port_hear p
  exact ⟨hseat, hpresent, (congrArg Port.safeSeen hport).trans hsafe, (congrArg Port.active hport).trans hactive,
    (congrArg Port.entered hport).trans hentered, (congrArg Port.received hport).trans hreceived, hlink⟩

/-! ### The checks of an upstream frame, in their order (R117, R122) -/

section

variable {b : Block} {p sof : Nat} {f : Frame} (h : Awaits b p f sof)
include h

/-- In its window a primary frame is judged by its code, its CRC and its type. -/
theorem upstream_inWindow (codeOk crcOk : Bool) (data : List Nat) : b.upstream p false sof codeOk crcOk data =
    if !codeOk ∨ data.length ≠ 24 then (b.hear p).linkCount p (Obj.PortRecord.CodeErrors p)
    else if crcOk = (b.hear p).injectsUp p false then (b.hear p).linkCount p (Obj.PortRecord.CrcErrors p)
    else if data.getD 0 0 % 256 / 16 ≠ 9 ∧ data.getD 0 0 % 256 / 16 ≠ 0xA ∧ data.getD 0 0 % 256 / 16 ≠ 0xC then
      (b.hear p).linkCount p (Obj.PortRecord.CodeErrors p)
    else (b.hear p).reply p false sof f data := by
  obtain ⟨hframe, hunheard, hon, hanswered, -, hlo, hhi⟩ := h
  have hjudged : ¬ (b.portState p = psOFF ∨ f.type = ftSAFE_BCAST ∨ (b.port p).heard0 = true) := by simp [hon, hanswered, hunheard]
  have hwindow : ¬ (sof < 2176 ∨ 2400 < sof) := by omega
  have hsent : (if false = true then (b.port p).retry else (b.port p).frame) = some f := hframe
  unfold upstream
  dsimp only
  rw [hsent]
  exact (if_neg hjudged).trans (if_neg hwindow)

theorem injectsUp_hear : (b.hear p).injectsUp p false = false := by
  simp [injectsUp, hear, Port.hear, h.inject]

theorem upstream_badCode (crcOk : Bool) (data : List Nat) :
    b.upstream p false sof false crcOk data = (b.hear p).linkCount p (Obj.PortRecord.CodeErrors p) :=
  (upstream_inWindow h ..).trans (if_pos (.inl rfl))

theorem upstream_badCrc {data : List Nat} (hlen : data.length = 24) :
    b.upstream p false sof true false data = (b.hear p).linkCount p (Obj.PortRecord.CrcErrors p) :=
  (upstream_inWindow h ..).trans ((if_neg (by simp [hlen])).trans (if_pos (injectsUp_hear h).symm))

theorem upstream_good {data : List Nat} (hd : GoodReply f data) :
    b.upstream p false sof true true data = (b.hear p).reply p false sof f data := by
  refine (upstream_inWindow h ..).trans ((if_neg (by simp [hd.length])).trans ((if_neg ?_).trans (if_neg ?_)))
  · simp [injectsUp_hear h]
  · rw [hd.kind]
    decide

end

/-! ### The fields of a good reply (R130, R154) -/

/-- The port's record shows the status, the holder and the last tag that a good reply gives. -/
def showHead (b : Block) (p : Nat) (data : List Nat) : Block :=
  ((b.wrN (Obj.PortRecord.HeadStatus p) 0).wr (Obj.PortRecord.OneShotLast p) (data.getD 22 0 % 256)).wr (Obj.PortRecord.HeadHolder p) 0x41

/-- With them, where the slot counts, the head's receive errors have gained n. -/
def showReply (b : Block) (p : Nat) (data : List Nat) (n : Nat) : Block :=
  if (b.port p).counted then (b.showHead p data).bump (Obj.PortRecord.HeadRxErrors p) 32 n else b.showHead p data

/-- The objects that show a reply. -/
def replyObjects (p : Nat) : List Nat :=
  [Obj.PortRecord.HeadStatus p, Obj.PortRecord.OneShotLast p, Obj.PortRecord.HeadHolder p, Obj.PortRecord.HeadRxErrors p]

theorem Keeps.wrN {named : List Nat} {b c : Block} (h : Keeps named b c) {k : Nat} (v : Nat) (hk : k ∈ named) : Keeps named b (c.wrN k v) :=
  fun j hj => by
    have hne : j ≠ k := fun e => hj (e ▸ hk)
    rw [rd_wrN, rdN_wrN, if_neg hne]
    exact h j hj

theorem showReply_keeps (b : Block) (p : Nat) (data : List Nat) (n : Nat) : Keeps (replyObjects p) b (b.showReply p data n) := by
  have hshown : Keeps (replyObjects p) b (b.showHead p data) :=
    (((Keeps.refl b).wrN _ (by simp [replyObjects])).wr _ (by simp [replyObjects])).wr _ (by simp [replyObjects])
  unfold showReply
  split
  · exact hshown.wr _ (by simp [replyObjects])
  · exact hshown

theorem condition_absent {b : Block} {src inst : Nat} (h : b.isPresent src inst = false) (d : List Int) : b.condition src inst false d = b :=
  if_pos h.symm

/-- With no condition present and no fault in the status byte nothing comes or goes (R133, R157). -/
theorem statusFaults_none {b : Block} (h : b.faults.present = []) (p : Nat) : b.statusFaults p 0 = b := by
  have habsent (src : Nat) (d : List Int) : b.condition src p false d = b := condition_absent (by rw [isPresent, h]; rfl) d
  have hbit (n : Nat) : bitOf 0 n = false := by simp [bitOf]
  simp only [statusFaults, List.foldl_cons, List.foldl_nil, hbit, habsent]

theorem showReply_shows (b : Block) (p : Nat) (data : List Nat) (n : Nat) :
    (b.showReply p data n).rdN (Obj.PortRecord.HeadStatus p) = 0 ∧ (b.showReply p data n).rd (Obj.PortRecord.HeadHolder p) = 0x41 := by
  have hstatus {sub : Nat} (hsub : sub < 256) (h : 0x06 ≠ sub) : Obj.PortRecord.HeadStatus p ≠ objKey (0x3000 + p) sub :=
    objKey_ne_of_sub_ne (by decide) hsub h
  have hholder : Obj.PortRecord.HeadHolder p ≠ Obj.PortRecord.HeadRxErrors p := objKey_ne_of_sub_ne (by decide) (by decide) (by decide)
  have hshown : (b.showHead p data).rdN (Obj.PortRecord.HeadStatus p) = 0 :=
    (rdN_wr ..).trans ((if_neg (hstatus (by decide) (by decide))).trans ((rdN_wr ..).trans ((if_neg (hstatus (by decide) (by decide))).trans
      ((rdN_wrN ..).trans (if_pos rfl)))))
  unfold showReply
  split
  · exact ⟨(rdN_bump ..).trans ((if_neg (hstatus (by decide) (by decide))).trans hshown), (rd_wr_of_ne _ _ hholder).trans (rd_wr_self ..)⟩
  · exact ⟨hshown, rd_wr_self ..⟩

/-- An object outside the ports' records reads as it did. -/
theorem rd_showReply {p k : Nat} (hp : p < 512) (hk : k < objKey 0x3000 0 ∨ objKey 0x3200 0 ≤ k) (b : Block) (data : List Nat) (n : Nat) :
    (b.showReply p data n).rd k = b.rd k := by
  refine (b.showReply_keeps p data n).rd_eq ?_
  simp only [replyObjects, List.mem_cons, List.not_mem_nil, or_false, not_or]
  exact ⟨ne_portObject hp hk (by decide), ne_portObject hp hk (by decide), ne_portObject hp hk (by decide), ne_portObject hp hk (by decide)⟩

/-- What no write changes, this tick's and the next's, the fields of a reply do not change. -/
theorem showReply_of {α : Type} (g : Block → α) (hw : ∀ (b : Block) (k v : Nat), g (b.wr k v) = g b)
    (hwN : ∀ (b : Block) (k v : Nat), g (b.wrN k v) = g b) (b : Block) (p : Nat) (data : List Nat) (n : Nat) :
    g (b.showReply p data n) = g b := by
  have hshown : g (b.showHead p data) = g b := (hw ..).trans ((hw ..).trans (hwN ..))
  unfold showReply
  split
  · exact (hw ..).trans hshown
  · exact hshown

/-- The fields of a good reply change the objects that show them and the last RX_ERR, and nothing else. -/
theorem replyFields_good {b : Block} {p : Nat} {f : Frame} {data : List Nat} (hp : p < 512) (hd : GoodReply f data) (h : Unburdened b p) :
    ∃ n, b.replyFields p f data = (b.showReply p data n).setPort p ((b.port p).readRx data) := by
  unfold replyFields
  extract_lets byte holder letter tagged lettered x rx gained read judged rejects resynced other pair held claimed pair' refused
  have hbyte2 : byte 2 = 8 := congrArg (· % 256) hd.holder
  have hbyte3 : byte 3 = 0 := congrArg (· % 256) hd.status
  have hholder : holder = 1 := by simp only [holder, hbyte2]
  have hletter : letter = 0x41 := if_pos hholder
  have hlettered : lettered = b.showHead p data := by
    have hvalid : holder ≠ 3 := by
      rw [hholder]
      decide
    have htagged : tagged = (b.wrN (Obj.PortRecord.HeadStatus p) 0).wr (Obj.PortRecord.OneShotLast p) (byte 22) :=
      congrArg (fun v => (b.wrN (Obj.PortRecord.HeadStatus p) v).wr (Obj.PortRecord.OneShotLast p) (byte 22)) hbyte3
    refine (if_neg hvalid).trans ?_
    rw [htagged, hletter]
    rfl
  have hx : x = b.port p := congrArg (·.port p) hlettered
  have hgained : gained = b.showReply p data rx := by
    rw [showReply, ← hx, ← hlettered]
  have hread : read = (b.showReply p data rx).setPort p ((b.port p).readRx data) := by
    rw [← showReply_of (·.port p) (fun _ _ _ => rfl) (fun _ _ _ => rfl) b p data rx, ← hgained]
    rfl
  have hjudged : judged = read := by
    have hnone : read.faults.present = [] := by
      rw [hread]
      exact (congrArg Faults.present (showReply_of (·.faults) (fun _ _ _ => rfl) (fun _ _ _ => rfl) b p data rx)).trans h.present
    have hsafe : (read.port p).safeSeen = false := by
      rw [hread, port_setPort_self]
      exact h.safeSeen
    simp only [judged]
    rw [hbyte3, statusFaults_none hnone, safeShown, hsafe]
    exact if_pos (by decide)
  have hresynced : resynced = judged := if_neg (by rw [hbyte2]; decide)
  have hother : other = 0x42 := by
    refine if_pos ?_
    rw [hresynced, hjudged, hread]
    exact (rd_showReply hp (.inl (by decide)) b data rx).trans h.seat
  have hclaim : letter ≠ other := by
    rw [hletter, hother]
    decide
  have hheld : held = resynced := if_neg fun hc => hclaim hc.2.1
  have hrefused : refused = held := if_neg fun hc => hclaim hc.2
  refine ⟨rx, (if_neg (by rw [hd.type]; decide)).trans ((if_neg (by simp [hd.token])).trans ?_)⟩
  rw [hrefused, hheld, hresynced, hjudged, hread]

/-! ### The sample set (R126, R379) -/

/-- On a port that is not shared, and with no one-shot pending, the set that came enters the state of the next tick. -/
theorem tryEnter_unshared {b : Block} {p : Nat} {r : Received} (hentered : (b.port p).entered = none) (hreceived : (b.port p).received = [r])
    (hlink : b.linkUp = false) (hactive : (b.port p).active = false) (final : Bool) :
    b.tryEnter p final = b.setPort p ((b.port p).enter r) := by
  have hfind : (b.port p).received.find? (fun r => b.entersFrom p final r) = some r := by simp [hreceived, entersFrom, shared, hlink]
  have hidle : ¬ (((b.setPort p ((b.port p).enter r)).port p).active = true ∧ r.osLast = ((b.setPort p ((b.port p).enter r)).port p).tag) := by
    simp [Port.enter, hactive]
  unfold tryEnter
  dsimp only
  rw [if_neg (by simp [hentered]), hfind]
  exact if_neg hidle

/-! ### The reply to a COMMAND (R122) -/

/-- A good reply shows what it says of its head, and changes the link record of its port alone. -/
theorem reply_good {b : Block} {p : Nat} {f : Frame} {data : List Nat} (hp : p < 512) (hd : GoodReply f data) (h : Unburdened b p) (sof : Nat) :
    ∃ n, b.reply p false sof f data = (b.showReply p data n).setPort p ((b.port p).takeReply data) := by
  obtain ⟨n, hfields⟩ := replyFields_good hp hd h
  refine ⟨n, ?_⟩
  unfold reply
  extract_lets type own seated fielded ack ok received entered succeeded
  have htyped : type = 9 := congrArg (· % 256 / 16) hd.kind
  have hack : ack = f.seq := (congrArg (· % 256) hd.ack).trans (Nat.mod_eq_of_lt hd.seq)
  have hok : ok = true := by simp [ok, htyped, hack, hd.type, replyType, ftCOMMAND]
  have hown : own = 0 := if_neg (by rw [h.seat]; decide)
  have hmatch : data.getD 0 0 / 8 % 2 = own := (congrArg (· / 8 % 2) hd.kind).trans hown.symm
  have hseated : seated = b := if_neg fun hc => hc.1 hmatch
  have hfielded : fielded = (b.showReply p data n).setPort p ((b.port p).readRx data) := (congrArg (·.replyFields p f data) hseated).trans hfields
  have hreceived : received = (b.showReply p data n).setPort p (((b.port p).readRx data).receive (primarySet data)) := by
    have hcomes : received = fielded.modPort p (·.receive (primarySet data)) := if_pos ⟨htyped, by rw [hd.type]; decide⟩
    rw [hcomes, hfielded, modPort, port_setPort_self, setPort_setPort]
  have hentered : entered = (b.showReply p data n).setPort p ((((b.port p).readRx data).receive (primarySet data)).enter (primarySet data)) := by
    have hlinkDown : received.linkUp = false := by
      rw [linkUp, hreceived, setPort_rd, rd_showReply hp (.inr (by decide))]
      exact h.link
    have hport := congrArg (·.port p) hreceived
    simp only [port_setPort_self] at hport
    have henter := tryEnter_unshared (b := received) (p := p) (r := primarySet data) (by rw [hport]; exact h.entered)
      (by rw [hport, Port.receive, Port.readRx, h.received]; rfl) hlinkDown (by rw [hport]; exact h.active) false
    rw [hport, hreceived, setPort_setPort] at henter
    exact (congrArg (·.tryEnter p false) hreceived).trans henter
  have hsucceeded : succeeded = (b.showReply p data n).setPort p ((b.port p).takeReply data) := by
    have hsucceeds : succeeded = entered.modPort p Port.succeed := rfl
    rw [hsucceeds, hentered, modPort, port_setPort_self, setPort_setPort, Port.takeReply]
  rw [if_pos hok, if_neg (by rw [hd.type]; decide), if_neg (by rw [hd.type]; decide), hsucceeded]

/-! ### A damaged or missing reply (R122, R154) -/

theorem linkCount_hear {b : Block} {p : Nat} (hcounted : (b.port p).counted = true) (key : Nat) :
    (b.hear p).linkCount p key = (b.hear p).bump key :=
  if_pos ((congrArg Port.counted (b.port_setPort_self p (b.port p).hear)).trans hcounted)

theorem windowEnd_unheard {b : Block} {p : Nat} {f : Frame} (hframe : (b.port p).frame = some f) (hunheard : (b.port p).heard0 = false) :
    b.windowEnd p false = (b.hear p).linkCount p (Obj.PortRecord.NoResponse p) :=
  if_neg (by simp [hframe, hunheard])

/-! ### What a reply tells of the token (R383, R388) -/

/-- Without a rejected claim, and below the quorum of held heads, nothing follows. -/
theorem replyPair_quiet {b : Block} (hrejected : b.pair.rejected = false) (hheld : b.pair.held.length < b.rd Obj.RedundancyConfig.HoldQuorum) :
    b.replyPair = b := by
  simp [replyPair, hrejected, Nat.not_le.2 hheld]

/-- A SEAT_MISMATCH that is not new bars nobody. -/
theorem barSeat_same {b : Block} {was : Bool} (h : b.isPresent Src.SEAT_MISMATCH 0 = was) : b.barSeat was = b := by
  refine if_pos ?_
  cases was <;> simp [h]

/-! ### The retry slot (R136, R151) -/

/-- The retry slot of a port past training is open (R136). -/
structure RetryOpen (b : Block) (p : Nat) : Prop where
  transmits : b.transmits = true
  slot : b.hasRetrySlot = true
  boundary : b.glade.boundary = false
  unused : (b.port p).retry = none
  state : psMISMATCH ≤ b.portState p
  retrain : (b.port p).retrain = false
  locked : (b.port p).locked = 0

section

variable {b : Block} {p : Nat} {f : Frame} (h : RetryOpen b p) (hframe : (b.port p).frame = some f)
include h hframe

/-- The slot repeats a primary that failed, and stays idle after a success with no access waiting. -/
theorem retrySlot_open : ((b.port p).okPrimary = false → b.retrySlot p = b.sent p true false f) ∧
    ((b.port p).okPrimary = true → b.cfgNext p = none → b.retrySlot p = b) := by
  obtain ⟨htransmits, hslot, hboundary, hunused, hstate, hretrain, hlocked⟩ := h
  have hopen : (!b.transmits || !b.hasRetrySlot || b.glade.boundary || (b.port p).retry.isSome || decide (b.portState p < psMISMATCH) ||
      (b.port p).retrain) = false := by simp [htransmits, hslot, hboundary, hunused, Nat.not_lt.2 hstate, hretrain]
  unfold retrySlot
  dsimp only
  rw [if_neg (ne_true_of_eq_false hopen), if_neg (Nat.not_lt.2 (Nat.le_of_eq hlocked)), hframe]
  refine ⟨fun hfailed => if_pos (by rw [hfailed]; rfl), fun hok hnone => (if_neg (by rw [hok]; decide)).trans ?_⟩
  rw [hnone]
  exact ite_self _

/-- A failed primary is sent again as it was. -/
theorem retrySlot_repeats (hfailed : (b.port p).okPrimary = false) (hinject : (b.port p).inject = false) (hcrc : f.badCrc = false) :
    b.retrySlot p = b.setPort p { b.port p with retry := some f } := by
  have hsame : { f with badCrc := b.injectsDown p true } = f := by
    have hplain : b.injectsDown p true = f.badCrc := by simp [injectsDown, hinject, hcrc]
    rw [hplain]
  refine ((retrySlot_open h hframe).1 hfailed).trans ?_
  unfold sent
  rw [hsame]
  simp [modPort]

end

end Block

/-! ### The commands -/

/-- UPSTREAM_FRAME, where its meaning is known and leaves the pair and the faults alone. -/
theorem upstreamFrame_next {s : State} {p sof : Nat} {codeOk crcOk : Bool} {data : List Nat} {c : Block} (hp : p < 512)
    (hrejected : s.blk.pair.rejected = false) (hheld : s.blk.pair.held.length < s.blk.rd Obj.RedundancyConfig.HoldQuorum)
    (he : s.blk.upstream p false sof codeOk crcOk data = c) (hw : c.writes = {}) (hpair : c.pair = s.blk.pair) (hfaults : c.faults = s.blk.faults)
    (hquorum : c.rd Obj.RedundancyConfig.HoldQuorum = s.blk.rd Obj.RedundancyConfig.HoldQuorum) :
    exec (.upstreamFrame p false sof codeOk crcOk data) s = .next { s with blk := c } := by
  have hquiet : c.replyPair = c := Block.replyPair_quiet (by rwa [hpair]) (by rwa [hpair, hquorum])
  refine State.actOn_block (decide_eq_true hp) .port p
    (fun b => (b.upstream p false sof codeOk crcOk data).replyPair.barSeat (b.isPresent Src.SEAT_MISMATCH 0)) ?_ hw
  rw [he, hquiet]
  exact Block.barSeat_same (by rw [Block.isPresent, hfaults]; rfl)

/-- A count of the link goes up by one, and the port has heard its slot. -/
def Counted (p key : Nat) (s t : State) : Prop :=
  t.blk.rd key = min (s.blk.rd key + 1) 0xFFFFFFFF ∧ t.blk.port p = { s.blk.port p with heard0 := true } ∧ KeepsObjects [key] s t ∧ SameArrays s t

theorem counted_hear (s : State) (p key : Nat) : Counted p key s { s with blk := (s.blk.hear p).bump key } :=
  ⟨Block.rd_wr_self .., Block.port_setPort_self .., ((Block.Keeps.refl s.blk).setPort p _).wr _ (List.mem_singleton_self _), rfl, rfl, rfl⟩

section

variable {s : State} {p sof : Nat} {f : Frame} {data : List Nat} (hs : Settled s) (hp : p < 512)
  (hrejected : s.blk.pair.rejected = false) (hheld : s.blk.pair.held.length < s.blk.rd Obj.RedundancyConfig.HoldQuorum)
include hs hp hrejected hheld

/-- A frame that is only counted. -/
theorem upstreamFrame_counts {sub : Nat} {codeOk crcOk : Bool} (hsub : sub < 256) (hcounted : (s.blk.port p).counted = true)
    (he : s.blk.upstream p false sof codeOk crcOk data = (s.blk.hear p).linkCount p (objKey (0x3000 + p) sub)) :
    ∃ t, exec (.upstreamFrame p false sof codeOk crcOk data) s = .next t ∧ Counted p (objKey (0x3000 + p) sub) s t :=
  ⟨_, upstreamFrame_next hp hrejected hheld (he.trans (Block.linkCount_hear hcounted _)) hs rfl rfl
    (Block.rd_wr_of_ne _ _ (ne_portObject hp (.inr (by decide)) hsub)), counted_hear ..⟩

/-- A good reply to a COMMAND on a port that is not shared. -/
theorem upstreamFrame_succeeds (h : Awaits s.blk p f sof) (hd : GoodReply f data) (hfree : Unburdened s.blk p) :
    ∃ n, exec (.upstreamFrame p false sof true true data) s =
      .next { s with blk := ((s.blk.hear p).showReply p data n).setPort p ((s.blk.port p).hear.takeReply data) } := by
  obtain ⟨n, hreply⟩ := Block.reply_good hp hd (Block.unburdened_hear hfree) sof
  rw [Block.port_hear] at hreply
  have hshow {α : Type} (g : Block → α) (hw : ∀ (b : Block) (k v : Nat), g (b.wr k v) = g b)
    (hwN : ∀ (b : Block) (k v : Nat), g (b.wrN k v) = g b) := Block.showReply_of g hw hwN (s.blk.hear p) p data n
  exact ⟨n, upstreamFrame_next hp hrejected hheld ((Block.upstream_good h hd).trans hreply)
    ((hshow (·.writes) (fun _ _ _ => rfl) (fun _ _ _ => rfl)).trans hs) (hshow (·.pair) (fun _ _ _ => rfl) (fun _ _ _ => rfl))
    (hshow (·.faults) (fun _ _ _ => rfl) (fun _ _ _ => rfl)) (Block.rd_showReply hp (.inr (by decide)) ..)⟩

end

/-- Settles O26: a good reply by `upstreamFrame_succeeds`, a bad one by `upstreamFrame_counts`, and the retry slot by its two cases. -/
theorem exchangesSucceedRetryOrCount : Obligations.ExchangesSucceedRetryOrCount := by
  unfold Obligations.ExchangesSucceedRetryOrCount
  refine ⟨?_, ?_, ?_⟩
  · intro s p sof f data hs hp hframe hunheard hlo hhi hlen hstate htype htoken hseq hseat hkind hack hholder hstatus hpresent hsafe hactive
      hinject hentered hreceived hlink hrejected hheld
    have hd : GoodReply f data := ⟨htype, htoken, hseq, hlen, hkind, hack, hholder, hstatus⟩
    have hfree : Unburdened s.blk p := ⟨hseat, hpresent, hsafe, hactive, hentered, hreceived, hlink⟩
    have h : Awaits s.blk p f sof := ⟨hframe, hunheard, by rw [hstate]; decide, by rw [htype]; decide, hinject, hlo, hhi⟩
    obtain ⟨n, hexec⟩ := upstreamFrame_succeeds hs hp hrejected hheld h hd hfree
    obtain ⟨hshown, hletter⟩ := (s.blk.hear p).showReply_shows p data n
    have hkeeps : Block.Keeps (Block.replyObjects p) s.blk _ := ((Block.Keeps.refl s.blk).setPort p _).trans ((s.blk.hear p).showReply_keeps p data n)
    have hport := ((s.blk.hear p).showReply p data n).port_setPort_self p ((s.blk.port p).hear.takeReply data)
    have hsame {α : Type} (g : Block → α) (hw : ∀ (b : Block) (k v : Nat), g (b.wr k v) = g b)
      (hwN : ∀ (b : Block) (k v : Nat), g (b.wrN k v) = g b) := Block.showReply_of g hw hwN (s.blk.hear p) p data n
    refine ⟨_, hexec, congrArg Port.okPrimary hport, congrArg Port.heard0 hport, (congrArg Port.entered hport).trans (congrArg some hd.set),
      hshown, hletter, fun q hq => ?_, hsame (·.faults) (fun _ _ _ => rfl) (fun _ _ _ => rfl), hkeeps.setPort p _, rfl, rfl, rfl⟩
    refine (Block.port_setPort ..).trans ((if_neg hq).trans ((hsame (·.port q) (fun _ _ _ => rfl) (fun _ _ _ => rfl)).trans ?_))
    exact (Block.port_setPort ..).trans (if_neg hq)
  · intro s p sof f data hs hp hframe hunheard hcounted htype hstate hinject hlo hhi hrejected hheld
    have h : Awaits s.blk p f sof := ⟨hframe, hunheard, hstate, htype, hinject, hlo, hhi⟩
    refine ⟨fun hlen => upstreamFrame_counts hs hp hrejected hheld (by decide) hcounted (Block.upstream_badCrc h hlen),
      upstreamFrame_counts hs hp hrejected hheld (by decide) hcounted (Block.upstream_badCode h true data), ?_⟩
    have he := (Block.windowEnd_unheard hframe hunheard).trans (Block.linkCount_hear hcounted _)
    exact ⟨_, State.actOn_block (decide_eq_true hp) .port p (·.windowEnd p false) he hs, counted_hear ..⟩
  · intro s p f hs hp htransmits hslot hboundary hunused hstate hretrain hlocked hframe hinject
    have h : Block.RetryOpen s.blk p := ⟨htransmits, hslot, hboundary, hunused, hstate, hretrain, hlocked⟩
    have hexec {c : Block} (he : s.blk.retrySlot p = c) (hw : c.writes = {}) : exec (.retrySlot p) s = .next { s with blk := c } :=
      State.actOn_block (decide_eq_true hp) .port p (·.retrySlot p) he hw
    refine ⟨fun hfailed hcrc => ?_, fun hok hnone => hexec ((Block.retrySlot_open h hframe).2 hok hnone) hs⟩
    exact ⟨_, hexec (Block.retrySlot_repeats h hframe hfailed hinject hcrc) hs, Block.port_setPort_self ..,
      fun q hq => (Block.port_setPort ..).trans (if_neg hq), rfl, rfl, rfl, rfl⟩

end Sys2Proof.Machine
end

section
/-! PROOFS. One-shots: a host's one-shot on an idle port, the timeout of a pending one, and the arming of CRC injection (R137, R138, R146, R156,
R358). -/

namespace Sys2Proof.Machine

open Sys2Proof.Safety

/-! ### A one-shot fires (R137) -/

/-- A one-shot joins a port's queue. -/
def Port.addShot (x : Port) (o : Shot) : Port := { x with shots := x.shots ++ [o], result := none }

/-- The first one-shot of a port's queue is pending under the next tag from the tick that opens next. -/
def Port.pend (x : Port) (ticks : Nat) : Port := { x with active := true, tag := nextTag x.tag, since := ticks + 1 }

namespace Block

/-- With nothing waiting there is no one-shot to start. -/
theorem startShot_none {b : Block} {p : Nat} (hshots : (b.port p).shots = []) : b.startShot p = b.setPort p (b.port p) := by
  simp [startShot, modPort, hshots]

theorem startShot_pends {b : Block} {p : Nat} (hactive : (b.port p).active = false) (hshots : (b.port p).shots ≠ []) :
    b.startShot p = b.setPort p ((b.port p).pend b.glade.ticks) := by
  simp [startShot, modPort, Port.pend, hactive, hshots]

theorem inTraining_setPort (b : Block) (p : Nat) {x : Port} (h : x.retrain = (b.port p).retrain) :
    (b.setPort p x).inTraining p = b.inTraining p := by
  rw [inTraining, port_setPort_self, h]
  rfl

/-- A one-shot fires once it stands in the queue. -/
theorem fireShot_eq (b : Block) (p op : Nat) (handle : Option Nat) : b.fireShot p op handle =
    if (b.setPort p ((b.port p).addShot { op, handle })).inTraining p then (b.setPort p ((b.port p).addShot { op, handle })).failShots p
    else (b.setPort p ((b.port p).addShot { op, handle })).startShot p := rfl

/-- On an idle port that does not train, a one-shot is pending at once. -/
theorem fireShot_idle {b : Block} {p : Nat} (hactive : (b.port p).active = false) (htrain : b.inTraining p = false) (op : Nat)
    (handle : Option Nat) : b.fireShot p op handle = b.setPort p (((b.port p).addShot { op, handle }).pend b.glade.ticks) := by
  have hidle := (b.inTraining_setPort p (x := (b.port p).addShot { op, handle }) rfl).trans htrain
  rw [fireShot_eq, hidle, if_neg Bool.false_ne_true, startShot_pends, port_setPort_self, setPort_setPort, setPort_glade]
  · rwa [port_setPort_self]
  · simp [Port.addShot]

/-- A host's entry that is due fires its one-shot where nothing waits on the port (R146). -/
theorem hostShot_fires {b : Block} {h act : Nat} {a : Action} (hdue : Due b h act a) (hshots : (b.port a.target).shots = []) (op : Nat) :
    b.hostShot h op act = b.fireShot a.target op (some h) := by
  obtain ⟨hentry, hok, hop, hpast, hlast⟩ := hdue
  simp [hostShot, hentry, hok, hop, hpast, hlast, hshots]

theorem hostShot_none {b : Block} {h : Nat} (hentry : b.entry? h = none) (op act : Nat) : b.hostShot h op act = b := by
  simp [hostShot, hentry]

/-! ### A one-shot without its reply (R137) -/

/-- The device's own one-shot, alone on its port, ends as failed: it leaves the port idle and is reported. -/
theorem endShot_failed {b : Block} {p op : Nat} (hshots : (b.port p).shots = [{ op }]) :
    b.endShot p 2 =
      (b.report Src.ONESHOT_FAIL p [op, 2]).setPort p { b.port p with shots := [], active := false, result := some (op, 2) } := by
  unfold endShot
  simp only [hshots, Option.isSome_none, Bool.false_and, Bool.or_false, if_neg (show 2 ≠ 0 by decide)]
  rw [startShot_none (congrArg Port.shots ((report_port ..).trans (port_setPort_self ..))), report_port, port_setPort_self]
  exact setPort_setPort (b.report Src.ONESHOT_FAIL p [op, 2]) p _ _

theorem shotTimeout_ends {b : Block} {p : Nat} (hactive : (b.port p).active = true)
    (hlong : (b.port p).since + b.rd (Obj.PortRecord.HoldLimit p) ≤ b.glade.ticks) : b.shotTimeout p = b.endShot p 2 := by
  simp [shotTimeout, hactive, hlong]

theorem shotTimeout_early {b : Block} {p : Nat} (hshort : b.glade.ticks < (b.port p).since + b.rd (Obj.PortRecord.HoldLimit p)) :
    b.shotTimeout p = b := by
  simp [shotTimeout, Nat.not_le.2 hshort]

end Block

/-! ### The commands -/

/-- A host's one-shot changes its port's link record alone, and its entry stays. -/
theorem hostShot_next {s : State} {h act : Nat} {a : Action} (hs : Settled s) (hdue : Due s.blk h act a)
    (hshots : (s.blk.port a.target).shots = []) (hactive : (s.blk.port a.target).active = false) (htrain : s.blk.inTraining a.target = false)
    (op : Nat) : ∃ t, s.act (·.hostShot h op act) = .next t ∧
      t.blk.port a.target = Port.pend { s.blk.port a.target with shots := [{ op, handle := some h }], result := none } s.blk.glade.ticks ∧
      t.blk.entry? h = some a ∧ t.blk = { s.blk with ports := t.blk.ports } ∧ SameArrays s t := by
  have he := (Block.hostShot_fires hdue hshots op).trans (Block.fireShot_idle hactive htrain op (some h))
  refine ⟨_, State.act_block _ he hs, (Block.port_setPort_self ..).trans ?_, hdue.1, rfl, rfl, rfl, rfl⟩
  rw [Port.addShot, hshots]
  rfl

/-- Settles O27: a host's one-shot by `hostShot_next`, the timeout by `endShot_failed`; injection writes the port's count and its object. -/
theorem oneShotsActOnceUnderATag : Obligations.OneShotsActOnceUnderATag := by
  unfold Obligations.OneShotsActOnceUnderATag
  refine ⟨?_, ?_, ?_, ?_⟩
  · intro s h op act c a hs hc hdue hshots hactive htrain
    simp only [List.mem_cons, List.not_mem_nil, or_false, Prod.mk.injEq] at hc
    obtain ⟨rfl, rfl, rfl⟩ | ⟨rfl, rfl, rfl⟩ := hc
    · exact hostShot_next hs hdue hshots hactive htrain osSAFE
    · exact hostShot_next hs hdue hshots hactive htrain osLATCH_RESET
  · intro s h hentry hs
    have hnext (op act : Nat) : s.act (·.hostShot h op act) = .next s := State.act_block _ (Block.hostShot_none hentry op act) hs
    exact ⟨hnext osSAFE 6, hnext osLATCH_RESET 7⟩
  · intro s p op hs hp hactive hshots
    refine ⟨fun hlong => ?_, fun hshort => State.actOn_block (decide_eq_true hp) .port p (·.shotTimeout p) (Block.shotTimeout_early hshort) hs⟩
    have he := (Block.shotTimeout_ends hactive hlong).trans (Block.endShot_failed hshots)
    exact ⟨_, State.actOn_block (decide_eq_true hp) .port p (·.shotTimeout p) he hs, Block.port_setPort_self .., rfl,
      ((Block.Keeps.refl s.blk).report _ _ _).setPort p _, rfl, rfl, rfl⟩
  · intro s p v hs hp
    refine ⟨fun hon => ?_, fun hoff => State.actOn_block (decide_eq_true hp) .port p (·.injectCrc p v) (if_pos hoff) hs⟩
    refine ⟨_, State.actOn_block (decide_eq_true hp) .port p (·.injectCrc p v) (if_neg (not_not.2 hon)) hs, ?_,
      Block.rd_wr_self .., ((Block.Keeps.refl s.blk).setPort p _).wr _ (List.mem_singleton_self _), rfl, rfl, rfl, rfl⟩
    exact s.blk.port_modPort_self p (fun x => { x with injectLeft := v / 256 % 256 })

end Sys2Proof.Machine
end

section
/-! PROOFS. Groups: a unit is shed, a setpoint is taken, feedback is lost (R169, R170, R177, R178, R189). -/

namespace Sys2Proof.Machine

open Sys2Proof.Safety

/-- What one step of a fold makes holds at the fold's end where every step keeps it. -/
theorem foldl_makes {α β : Type} {I Q : β → Prop} {f : β → α → β} {l : List α} {x : α} (hx : x ∈ l)
    (hkeepI : ∀ b, I b → ∀ a ∈ l, I (f b a)) (hmake : ∀ b, I b → Q (f b x)) (hkeep : ∀ b, I b → Q b → ∀ a ∈ l, Q (f b a)) {b : β}
    (hb : I b) : Q (l.foldl f b) := by
  obtain ⟨before, after, rfl⟩ := List.append_of_mem hx
  rw [List.foldl_append, List.foldl_cons]
  have hbefore : I (before.foldl f b) := List.foldlRecOn before f hb fun c hc a ha => hkeepI c hc a (List.mem_append_left _ ha)
  have hafter := List.foldlRecOn (motive := fun c => I c ∧ Q c) after f ⟨hkeepI _ hbefore x hx, hmake _ hbefore⟩ fun c hc a ha =>
    have hmem := List.mem_append_right before (List.mem_cons_of_mem x ha)
    ⟨hkeepI c hc.1 a hmem, hkeep c hc.1 hc.2 a hmem⟩
  exact hafter.2

/-- The sub-index of an object's key. -/
theorem objKey_mod (index : Nat) {sub : Nat} (h : sub < 256) : objKey index sub % 256 = sub := by
  unfold objKey
  omega

/-- The MODE of a port's words for the next tick (R131). -/
def Port.modeN (x : Port) : Nat := x.cmdN.headD 0 / 4096

namespace Block

/-! ### Nothing but the records of ports changes -/

/-- The blocks differ at most in the link records of the ports listed. -/
structure OnPorts (l : List Nat) (b c : Block) : Prop where
  parts : c = { b with ports := c.ports }
  others : ∀ p, p ∉ l → c.port p = b.port p

namespace OnPorts

variable {l : List Nat} {b c d : Block}

theorem refl (b : Block) : OnPorts l b b := ⟨rfl, fun _ _ => rfl⟩

theorem trans (h : OnPorts l b c) (h' : OnPorts l c d) : OnPorts l b d where
  parts := h'.parts.trans (congrArg (fun x : Block => { x with ports := d.ports }) h.parts)
  others p hp := (h'.others p hp).trans (h.others p hp)

theorem mono {m : List Nat} (h : OnPorts l b c) (hs : l ⊆ m) : OnPorts m b c := ⟨h.parts, fun p hp => h.others p fun hl => hp (hs hl)⟩

/-- Every part that does not show the ports reads as it did. -/
theorem part (h : OnPorts l b c) {α : Type} (f : Block → α) (hf : ∀ (x : Block) (ps : Tab Port), f { x with ports := ps } = f x) :
    f c = f b := by
  rw [h.parts, hf]

theorem keeps (h : OnPorts l b c) {named : List Nat} : Keeps named b c := Keeps.of_images (h.part (·.dict) fun _ _ => rfl)
  (h.part (·.wimg) fun _ _ => rfl)

theorem setPort (b : Block) (p : Nat) (x : Port) : OnPorts [p] b (b.setPort p x) :=
  ⟨rfl, fun q hq => by rw [port_setPort, if_neg (by simpa using hq)]⟩

theorem modPort (b : Block) (p : Nat) (f : Port → Port) : OnPorts [p] b (b.modPort p f) := setPort b p _

/-- A fold over ports, each step of which changes its own port. -/
theorem foldl {f : Block → Nat → Block} (hf : ∀ b p, OnPorts [p] b (f b p)) (l : List Nat) (b : Block) : OnPorts l b (l.foldl f b) :=
  List.foldlRecOn l f (refl b) fun c hc p hp => hc.trans ((hf c p).mono (by simpa using hp))

/-- What the step of a port makes of its record stays through the steps of the other ports. -/
theorem foldl_makes {f : Block → Nat → Block} (hf : ∀ b p, OnPorts [p] b (f b p)) {l : List Nat} {p : Nat} (hp : p ∈ l)
    {Q : Port → Prop} (hQ : ∀ b, Q ((f b p).port p)) (b : Block) : Q ((l.foldl f b).port p) :=
  Machine.foldl_makes (I := fun _ => True) (Q := fun c => Q (c.port p)) hp (fun _ _ _ _ => trivial) (fun c _ => hQ c)
    (fun c _ hc a _ => by
      by_cases ha : p = a
      · exact ha ▸ hQ c
      · rwa [(hf c a).others p (by simpa using ha)]) trivial

end OnPorts

/-! ### Which ports belong to a group (R14, R17) -/

section

variable {named : List Nat} {b c : Block} (h : Keeps named b c) (hn : ∀ k ∈ named, k % 256 ∉ [1, 3, 4])
include h hn

/-- With the class, group and member of every port kept, a port's wiring reads as it did. -/
theorem Keeps.wiring (p : Nat) : c.classOf p = b.classOf p ∧ c.groupOf p = b.groupOf p ∧ c.memberOf p = b.memberOf p := by
  have hrd (sub : Nat) (hs : sub ∈ [1, 3, 4]) (hlt : sub < 256) : c.rd (objKey (0x3000 + p) sub) = b.rd (objKey (0x3000 + p) sub) :=
    h.rd_eq fun hk => hn _ hk (by rwa [objKey_mod _ hlt])
  exact ⟨congrArg (· % 8) (hrd 1 (by simp) (by decide)), hrd 3 (by simp) (by decide), hrd 4 (by simp) (by decide)⟩

theorem Keeps.groupPorts (g : Nat) : c.groupPorts g = b.groupPorts g := by
  refine List.filter_congr fun p _ => ?_
  obtain ⟨hclass, hgroup, -⟩ := h.wiring hn p
  rw [hgroup, isPhase, hclass, isPhase]

theorem Keeps.groupClass (g : Nat) : c.groupClass g = b.groupClass g := by
  unfold Block.groupClass
  rw [h.groupPorts hn g]
  split
  · rfl
  · exact (h.wiring hn _).1

theorem Keeps.groupString (g : Nat) : c.groupString g = b.groupString g := by
  unfold Block.groupString
  rw [h.groupPorts hn g]
  split
  · rfl
  · next p _ _ =>
    obtain ⟨hclass, -, hmember⟩ := h.wiring hn p
    rw [hclass, hmember]

theorem Keeps.groupFeeds (g : Nat) : c.groupFeeds g = b.groupFeeds g := by
  unfold Block.groupFeeds
  rw [List.filter_congr (q := fun p => b.groupOf p == g && b.classOf p == 4) fun p _ => ?_]
  · exact List.map_congr_left fun p _ => (h.wiring hn p).2.2
  · obtain ⟨hclass, hgroup, -⟩ := h.wiring hn p
    rw [hclass, hgroup]

end

theorem group_congr {b c : Block} (h : c.groupTab = b.groupTab) (g : Nat) : c.group g = b.group g := by rw [group, h, group]

/-! ### The commands of a group's phases -/

theorem switchWords_onPorts (b : Block) (p mode offset : Nat) (iref : Int) (charge : Bool) (ival : Nat) :
    OnPorts [p] b (b.switchWords p mode offset iref charge ival).2 := by
  unfold switchWords
  dsimp only
  split
  · exact OnPorts.modPort b p _
  · exact OnPorts.refl b

/-- The words of a phase that does not switch carry the MODE they were made for. -/
theorem idleWords_mode (b : Block) (p mode : Nat) (charge : Bool) : (b.idleWords p mode charge).headD 0 / 4096 = mode := by
  unfold idleWords
  rw [List.headD_cons, Nat.mul_comm, Nat.mul_add_div (by decide), Nat.div_eq_of_lt (Nat.mod_lt _ (by decide)), Nat.add_zero]

/-- The phases of group `g` got their words: of the objects its RunPhases changed, in the next tick, and of the parts its own ports. -/
structure PhasesWritten (g : Nat) (b c : Block) : Prop where
  objects : Keeps [Obj.GroupRecord.RunPhases g] b c
  now : ∀ k, c.rd k = b.rd k
  others : ∀ p, p ∉ b.servingN g → c.port p = b.port p
  groupTab : c.groupTab = b.groupTab
  faults : c.faults = b.faults
  writes : c.writes = b.writes

/-- One phase in service gets its words: a reference under the offset listed for it, SHED where none is. -/
def writePhase (g : Nat) (run : List Nat) (md : Nat) (ig vfb : Int) (charge : Bool) (offs : List (Nat × Nat)) (b : Block) (p : Nat) : Block :=
  match offs.find? (fun o => o.1 == p) with
  | some o =>
    let r := b.switchWords p md o.2 (b.phaseRef g p run ig vfb) charge (b.ivalMin p)
    r.2.setWords p r.1
  | none => b.setWords p (b.idleWords p mdSHED charge)

theorem wrN_port (b : Block) (k v p : Nat) : (b.wrN k v).port p = b.port p := rfl

section

variable (g : Nat) (run : List Nat) (md : Nat) (ig vfb : Int) (charge : Bool)

theorem writePhase_onPorts (offs : List (Nat × Nat)) (b : Block) (p : Nat) : OnPorts [p] b (writePhase g run md ig vfb charge offs b p) := by
  unfold writePhase
  split
  · exact (switchWords_onPorts ..).trans (OnPorts.modPort ..)
  · exact OnPorts.modPort ..

theorem writePhase_sheds {offs : List (Nat × Nat)} {p : Nat} (hp : ∀ o ∈ offs, o.1 ≠ p) (b : Block) :
    ((writePhase g run md ig vfb charge offs b p).port p).modeN = mdSHED := by
  have hnone : offs.find? (fun o => o.1 == p) = none := List.find?_eq_none.2 fun o ho => by simpa using hp o ho
  rw [writePhase, hnone]
  exact (congrArg Port.modeN (b.port_modPort_self p _)).trans (b.idleWords_mode p mdSHED charge)

/-- The offsets of the phases that switch, in the state before any of them is written. -/
def offsets (b : Block) (run : List Nat) : List (Nat × Nat) := run.map (fun p => (p, b.nextOffset run p))

theorem writePhases_eq (b : Block) : b.writePhases g run md ig vfb charge =
    ((b.servingN g).foldl (writePhase g run md ig vfb charge (b.offsets run)) b).wrN (Obj.GroupRecord.RunPhases g) run.length := rfl

/-- A phase in service that does not switch is SHED in the next tick. -/
theorem writePhases_sheds {b : Block} {p : Nat} (hserves : p ∈ b.servingN g) (hrun : p ∉ run) :
    ((b.writePhases g run md ig vfb charge).port p).modeN = mdSHED := by
  have hoffs : ∀ o ∈ b.offsets run, o.1 ≠ p := fun o ho e => by
    obtain ⟨q, hq, rfl⟩ := List.mem_map.1 ho
    exact hrun (e ▸ hq)
  rw [writePhases_eq, wrN_port]
  exact OnPorts.foldl_makes (writePhase_onPorts g run md ig vfb charge (b.offsets run)) hserves (Q := (·.modeN = mdSHED))
    (writePhase_sheds g run md ig vfb charge hoffs) b

theorem writePhases_frame (b : Block) : PhasesWritten g b (b.writePhases g run md ig vfb charge) := by
  have hfold := OnPorts.foldl (writePhase_onPorts g run md ig vfb charge (b.offsets run)) (b.servingN g) b
  rw [writePhases_eq]
  refine ⟨hfold.keeps.wrN _ (List.mem_singleton_self _), fun k => ?_, fun p hp => ?_, ?_, ?_, ?_⟩
  · exact (rd_wrN ..).trans (hfold.keeps.rd_eq (named := []) List.not_mem_nil)
  · exact (wrN_port ..).trans (hfold.others p hp)
  · exact (wrN_groupTab ..).trans (hfold.part (·.groupTab) fun _ _ => rfl)
  · exact (wrN_faults ..).trans (hfold.part (·.faults) fun _ _ => rfl)
  · exact (wrN_writes ..).trans (hfold.part (·.writes) fun _ _ => rfl)

end

/-! ### The unit that a shed takes (R178) -/

theorem mem_insertUnit {u v : List Nat} {l : List (List Nat)} : v ∈ insertUnit u l ↔ v = u ∨ v ∈ l := by
  induction l with
  | nil => simp [insertUnit]
  | cons w r ih =>
    unfold insertUnit
    split
    · simp
    · simp [ih, or_left_comm]

theorem mem_byPort {u : List Nat} {l : List (List Nat)} (h : u ∈ byPort l) : u ∈ l := by
  have hsub : ∀ v ∈ byPort l, v ∈ l := List.foldlRecOn (motive := fun s => ∀ v ∈ s, v ∈ l) l _ (by simp) fun s hs a ha v hv => by
    obtain rfl | hv := mem_insertUnit.1 hv
    · exact ha
    · exact hs v hv
  exact hsub u h

theorem mostRun_mem {b : Block} {l : List (List Nat)} {u : List Nat} (h : b.mostRun l = some u) : u ∈ l := by
  refine mem_byPort (List.foldlRecOn (motive := fun best => ∀ v, best = some v → v ∈ byPort l) (byPort l) _ (by simp)
    (fun best hbest a ha v hv => ?_) u h)
  split at hv
  · exact Option.some.inj hv ▸ ha
  · split at hv
    · exact Option.some.inj hv ▸ ha
    · exact hbest v hv

theorem pickShed_mem {b : Block} {g : Nat} {run : List (List Nat)} {u : List Nat} (h : b.pickShed g run = some u) : u ∈ run := by
  unfold pickShed at h
  split at h
  · obtain ⟨f, -, hf⟩ := List.exists_of_findSome?_eq_some h
    exact (List.mem_filter.1 (mostRun_mem hf)).1
  · exact mostRun_mem h

/-- Every phase of the unit is in service. -/
theorem shedUnit_serves {b : Block} {g : Nat} {u : List Nat} (h : b.shedUnit g = some u) {p : Nat} (hp : p ∈ u) : p ∈ b.servingN g := by
  obtain ⟨-, hall⟩ := List.mem_filter.1 (pickShed_mem h)
  simpa using (Bool.and_eq_true_iff.1 (List.all_eq_true.1 hall p hp)).1

/-! ### A shed (R177) -/

/-- The shed is counted and reported, and the delay begins again. -/
def shedNoted (b : Block) (g : Nat) (u : List Nat) : Block := (b.setGroup g { b.group g with low := 0 }).thinRecord g Src.THIN_SHED u

/-- The phases that go on switching without the unit. -/
def shedLeft (b : Block) (g : Nat) (u : List Nat) : List Nat := (b.servingN g).filter (fun p => b.switchingN p && !u.contains p)

/-- A running group whose command has been low for ShedDelay cycles. -/
abbrev shedDue (b : Block) (g : Nat) : Prop := b.groupState g = gsRUNNING ∧ b.rd (Obj.GroupRecord.ShedDelay g) * b.glade.nt ≤ (b.group g).low

theorem thinShed_sheds {b : Block} {g : Nat} {u : List Nat} (hdue : b.shedDue g) (hu : b.shedUnit g = some u) :
    b.thinShed g = (b.shedNoted g u).writePhases g (b.shedLeft g u) (if b.groupClass g == 3 then mdSOFT else mdRUN) (b.group g).ig
      (b.group g).fb (b.groupClass g == 3) := by
  rw [thinShed, if_pos hdue, hu]
  rfl

theorem thinShed_early {b : Block} {g : Nat} (h : ¬ b.shedDue g) : b.thinShed g = b := by
  unfold thinShed
  exact if_neg h

theorem thinShed_idle {b : Block} {g : Nat} (hu : b.shedUnit g = none) : b.thinShed g = b := by
  simp [thinShed, hu]

theorem shedNoted_keeps (b : Block) (g : Nat) (u : List Nat) : Keeps [Obj.GroupRecord.ThinEvents g] b (b.shedNoted g u) :=
  ((Keeps.of_images rfl rfl : Keeps _ b (b.setGroup g _)).wr _ (List.mem_singleton_self _)).report _ _ _

theorem shedNoted_serving (b : Block) (g : Nat) (u : List Nat) : (b.shedNoted g u).servingN g = b.servingN g := by
  unfold servingN
  rw [(b.shedNoted_keeps g u).groupPorts (by simp [Obj.GroupRecord.ThinEvents, objKey_mod])]
  refine List.filter_congr fun p _ => ?_
  have hstate := (b.shedNoted_keeps g u (Obj.PortRecord.PortState p) fun hk =>
    objKey_ne_of_sub_ne (by decide) (by decide) (by decide) (List.mem_singleton.1 hk)).2
  rw [hstate]
  rfl

/-- A shed writes the commands of the group's phases after it is noted, and SHED to those of its unit. -/
theorem thinShed_writes {b : Block} {g : Nat} {u : List Nat} (hdue : b.shedDue g) (hu : b.shedUnit g = some u) :
    PhasesWritten g (b.shedNoted g u) (b.thinShed g) ∧ ∀ p ∈ u, ((b.thinShed g).port p).modeN = mdSHED := by
  rw [thinShed_sheds hdue hu]
  refine ⟨writePhases_frame .., fun p hp => writePhases_sheds _ _ _ _ _ _ ?_ ?_⟩
  · rw [shedNoted_serving]
    exact shedUnit_serves hu hp
  · intro hleft
    simpa [hp] using (List.mem_filter.1 hleft).2

/-! ### Feedback is lost (R169) -/

theorem senseLost_raises {b : Block} {g : Nat} (hstale : 4 ≤ (b.group g).stale) (hstate : b.groupState g = gsRUNNING ∨ b.groupState g = gsSTARTING) :
    b.senseLost g = b.condition Src.GROUP_SENSE_LOST g true := if_pos ⟨hstale, hstate⟩

/-- A condition that is raised is reported where it was not present (R333). -/
theorem condition_true_reports (b : Block) (src inst : Nat) (d : List Int) : (b.condition src inst true d).faults.reports =
    b.faults.reports ++ if b.isPresent src inst then [] else [{ src, inst, detail := d }] := by
  cases h : b.isPresent src inst with
  | true => simp [condition, h]
  | false => simpa using condition_appears h d

/-! ### A setpoint (R170, R189) -/

/-- What the recorder, its readers and the table of entries do not show, the completion of an entry does not change. -/
theorem completeEntry_of {α : Type} (f : Block → α) (hwr : ∀ (b : Block) (k v : Nat), f (b.wr k v) = f b)
    (hrings : ∀ (b : Block) (x : Rings), f { b with rings := x } = f b)
    (hsessions : ∀ (b : Block) (x : Tab Session), f { b with sessions := x } = f b)
    (hactions : ∀ (b : Block) (x : Actions), f { b with actions := x } = f b) (b : Block) (h : Nat) (a : Action) (outcome : Nat)
    (extra : List Nat) (ago : Option Nat) : f (b.completeEntry h a outcome extra ago) = f b := by
  obtain ⟨n, tick, hcode, -, he⟩ := b.completeEntry_eq h a outcome extra ago
  rw [he, actionCounts, wrs_of f hwr, hactions]
  exact Recorder.append (P := fun c => f c = f b) ⟨fun _ hc _ => (hwr ..).trans hc, fun _ hc => (hrings ..).trans hc,
    fun _ hc => (hsessions ..).trans hc⟩ (by omega) rfl

theorem completeEntry_faults (b : Block) (h : Nat) (a : Action) (outcome : Nat) (extra : List Nat) (ago : Option Nat) :
    (b.completeEntry h a outcome extra ago).faults = b.faults :=
  completeEntry_of (·.faults) (fun _ _ _ => rfl) (fun _ _ => rfl) (fun _ _ => rfl) (fun _ _ => rfl) b h a outcome extra ago

/-- An entry that is due fires and completes. -/
theorem fireEntry_due {b : Block} {h op : Nat} {a : Action} (hdue : Due b h op a) (eff : Action → Block → Block) :
    b.fireEntry h op eff = (eff a b).completeEntry h a (if a.late then actFIRED_LATE else actFIRED) := by
  obtain ⟨hentry, hok, hop, hpast, hlast⟩ := hdue
  exact (b.fireEntry_some h op eff a hentry hok hop hpast).trans (if_neg (Bool.eq_false_iff.1 hlast))

/-- The objects of the recorder and of the action table have three indices. -/
theorem objKey_notMem_recordObjects {index sub : Nat} (hlt : sub < 256) (h : index ≠ 0x2083 ∧ index ≠ 0x20A1 ∧ index ≠ 0x4401) :
    objKey index sub ∉ recordObjects := by
  simp only [recordObjects, Obj.EventOrder.EventSequence, Obj.EventOrder.Generation, Obj.RingsStatus.Unflushed, Obj.RingsStatus.Held,
    Obj.RingsStatus.NewestGeneration, Obj.RingsStatus.NewestSequence, Obj.RingsStatus.RecordsLost, Obj.ActionTable.InUse,
    Obj.ActionTable.HighWater, objKey, List.mem_cons, List.not_mem_nil, or_false]
  omega

theorem setpoint_notMem_recordObjects {g : Nat} (hg : g < 64) : Obj.GroupRecord.Setpoint g ∉ recordObjects :=
  objKey_notMem_recordObjects (by decide) (by omega)

end Block

/-! ### The commands -/

section

variable {s : State} {g : Nat}

theorem thinShed_next (hs : Settled s) (hg : g < 64) {u : List Nat} (hdue : s.blk.shedDue g) (hu : s.blk.shedUnit g = some u) :
    ∃ t, exec (.thinShed g) s = .next t ∧ (∀ p ∈ u, (t.blk.port p).cmdN.headD 0 / 4096 = mdSHED) ∧
      t.blk.rd (Obj.GroupRecord.ThinEvents g) = min (s.blk.rd (Obj.GroupRecord.ThinEvents g) + 1) 0xFFFFFFFF ∧
      Reports s t [{ src := Src.THIN_SHED, inst := g, detail := [(Block.unitPort u : Nat)] }] ∧
      t.blk.group g = { s.blk.group g with low := 0 } ∧ (∀ h, h ≠ g → t.blk.group h = s.blk.group h) ∧
      (∀ p, p ∉ s.blk.groupPorts g → t.blk.port p = s.blk.port p) ∧
      KeepsObjects [Obj.GroupRecord.ThinEvents g, Obj.GroupRecord.RunPhases g] s t ∧ SameArrays s t := by
  obtain ⟨hframe, hsheds⟩ := Block.thinShed_writes hdue hu
  have hnoted := s.blk.shedNoted_keeps g u
  have hgroup (h : Nat) : (s.blk.shedNoted g u).group h = if h = g then { s.blk.group g with low := 0 } else s.blk.group h :=
    s.blk.group_setGroup g h _
  have htab (h : Nat) : (s.blk.thinShed g).group h = (s.blk.shedNoted g u).group h := Block.group_congr hframe.groupTab h
  refine ⟨_, State.actOn_block (decide_eq_true hg) .group g (·.thinShed g) rfl (hframe.writes.trans hs), hsheds,
    (hframe.now _).trans (Block.rd_wr_self ..), congrArg Faults.reports hframe.faults, ?_, fun h hne => ?_, fun p hp => ?_,
    (hnoted.mono (by simp)).trans (hframe.objects.mono (by simp)), rfl, rfl, rfl⟩
  · exact ((htab g).trans (hgroup g)).trans (if_pos rfl)
  · exact ((htab h).trans (hgroup h)).trans (if_neg hne)
  · exact hframe.others p fun hserves => hp (List.mem_filter.1 (s.blk.shedNoted_serving g u ▸ hserves)).1

theorem senseLost_next (hs : Settled s) (hg : g < 64) (hstale : 4 ≤ (s.blk.group g).stale)
    (hstate : s.blk.groupState g = gsRUNNING ∨ s.blk.groupState g = gsSTARTING) :
    ∃ t, exec (.groupSenseLost g) s = .next t ∧ t.blk.isPresent Src.GROUP_SENSE_LOST g = true ∧
      t.blk.faults.reports = s.blk.faults.reports ++
        (if s.blk.isPresent Src.GROUP_SENSE_LOST g then [] else [{ src := Src.GROUP_SENSE_LOST, inst := g }]) ∧
      KeepsObjects [Obj.SourceConfig.PresentInstances Src.GROUP_SENSE_LOST] s t ∧ SameArrays s t :=
  ⟨_, State.actOn_block (decide_eq_true hg) .group g (·.senseLost g) (Block.senseLost_raises hstale hstate)
      ((Block.condition_writes ..).trans hs), Block.isPresent_condition .., Block.condition_true_reports ..,
    (Block.Keeps.refl s.blk).condition _ _ _ _ _ (List.mem_singleton_self _), rfl, rfl, rfl⟩

/-- A GROUP_SETPOINT that is due has its effect and completes; nothing but the record of that follows the effect. -/
theorem groupSetpoint_next (hs : Settled s) {h : Nat} {a : Action} (hdue : Due s.blk h 5 a) :
    ∃ t, exec (.groupSetpoint h) s = .next t ∧ t.blk.entry? h = none ∧ SameArrays s t ∧
      t.blk.faults = (Block.setpointAction a s.blk).faults ∧ Block.Keeps recordObjects (Block.setpointAction a s.blk) t.blk := by
  have hwrites : (Block.setpointAction a s.blk).writes = s.blk.writes := by
    unfold Block.setpointAction
    split <;> rfl
  have hfire := Block.fireEntry_due hdue Block.setpointAction
  generalize Block.setpointAction a s.blk = d, (if a.late then actFIRED_LATE else actFIRED) = outcome at *
  have hdone := d.entry?_completeEntry h a outcome [] none h
  exact ⟨_, State.act_block (·.fireEntry h 5 Block.setpointAction) hfire ((d.completeEntry_writes h a outcome [] none).trans (hwrites.trans hs)),
    hdone.trans (if_pos rfl), ⟨rfl, rfl, rfl⟩, d.completeEntry_faults h a outcome [] none,
    (Block.Keeps.refl d).completeEntry h a outcome [] none (List.Subset.refl _)⟩

end

/-- Settles O35: the shed by `thinShed_next`, lost feedback by `senseLost_next`, the setpoint by its effect and `groupSetpoint_next`. -/
theorem groupsShedSetpointsAndSenseLoss : Obligations.GroupsShedSetpointsAndSenseLoss := by
  unfold Obligations.GroupsShedSetpointsAndSenseLoss
  refine ⟨fun s g hs hg => ⟨fun u hdue hu => thinShed_next hs hg hdue hu, fun hearly => ?_, fun hnone => ?_, senseLost_next hs hg⟩,
    fun s h a hs hdue ha => ?_⟩
  · exact State.actOn_block (decide_eq_true hg) .group g (·.thinShed g) (Block.thinShed_early hearly) hs
  · exact State.actOn_block (decide_eq_true hg) .group g (·.thinShed g) (Block.thinShed_idle hnone) hs
  · obtain ⟨t, ht, hentry, hsame, hfaults, hkeeps⟩ := groupSetpoint_next hs hdue
    refine ⟨t, ht, hentry, hsame, fun hok => ?_, fun hbad => ?_⟩
    · rw [Block.setpointAction, if_pos hok] at hfaults hkeeps
      exact ⟨(hkeeps.rd_eq (Block.setpoint_notMem_recordObjects ha)).trans (Block.rd_wr_self ..), hfaults,
        ((Block.Keeps.refl s.blk).wr _ List.mem_cons_self).trans (hkeeps.mono (List.subset_cons_self ..))⟩
    · rw [Block.setpointAction, if_neg (Bool.eq_false_iff.1 hbad)] at hfaults hkeeps
      exact ⟨congrArg Faults.reports hfaults, ((Block.Keeps.refl s.blk).report _ _ _).trans hkeeps⟩

end Sys2Proof.Machine
end

section
/-! PROOFS. Groups: the stop, a start that fails and a start that ends in RUNNING (R181-R183, R227, R246, R251, R612). -/

namespace Sys2Proof.Machine

open Sys2Proof.Safety

/-- An object is none of those whose sub-indices differ from its own. -/
theorem objKey_notMem (index : Nat) {sub : Nat} (hlt : sub < 256) {l : List Nat} (hl : ∀ k ∈ l, k % 256 ≠ sub) : objKey index sub ∉ l :=
  fun hk => hl _ hk (objKey_mod index hlt)

/-- The record of a group that is stopped (R183). -/
def Group.stopped (x : Group) : Group :=
  { x with
    step := 0, phases := [], spares := [], waiting := false, veff := 0, iint := 0, ig := 0, stale := 0, low := 0,
    owed := 0, bringing := [], emptying := 0, short := false, swap := false }

namespace Block

/-! ### The parts of a stop -/

/-- One phase receives MODE OFF from the next tick (R612). -/
def phaseOff (b : Block) (p : Nat) : Block :=
  if b.rdN (Obj.PortRecord.PortState p) == psIN_SERVICE && (b.port p).offUntil.isNone then
    (b.offPhase p).modPort p (fun x => { x with offUntil := some ((b.offPhase p).glade.ticks + 33) })
  else b.offPhase p

theorem groupOff_eq (b : Block) (g : Nat) : b.groupOff g = (b.groupPorts g).foldl phaseOff b := rfl

theorem phaseOff_onPorts (b : Block) (p : Nat) : OnPorts [p] b (b.phaseOff p) := by
  unfold phaseOff
  split
  · exact (OnPorts.modPort b p _).trans (OnPorts.modPort _ p _)
  · exact OnPorts.modPort b p _

theorem phaseOff_cmdN (b : Block) (p : Nat) : ((b.phaseOff p).port p).cmdN = [0, 0, 0, 0] := by
  unfold phaseOff
  split <;> simp [offPhase]

theorem groupOff_onPorts (b : Block) (g : Nat) : OnPorts (b.groupPorts g) b (b.groupOff g) := by
  rw [groupOff_eq]
  exact OnPorts.foldl phaseOff_onPorts _ b

theorem groupOff_cmdN (b : Block) {g p : Nat} (hp : p ∈ b.groupPorts g) : ((b.groupOff g).port p).cmdN = [0, 0, 0, 0] := by
  rw [groupOff_eq]
  exact OnPorts.foldl_makes phaseOff_onPorts hp (Q := (·.cmdN = [0, 0, 0, 0])) (fun c => c.phaseOff_cmdN p) b

/-- The group's phases are off, and its record is empty. -/
def groupEmptied (b : Block) (g : Nat) : Block := (b.groupOff g).setGroup g ((b.groupOff g).group g).stopped

/-- The values that the group's objects show once it is stopped. -/
def stopValues (g state : Nat) : List (Nat × Nat) :=
  [(Obj.GroupRecord.State g, state), (Obj.GroupRecord.RunPhases g, 0), (Obj.GroupRecord.EffSetpoint g, 0),
    (Obj.GroupRecord.CurrentCommand g, 0), (Obj.GroupRecord.Integrator g, 0)]

/-- A stop ends the group's conditions, and GROUP_OV says whether it is latched. -/
def stopConditions (b : Block) (g : Nat) (latched : Bool) : Block :=
  (((b.condition Src.GROUP_SENSE_LOST g false).condition Src.GROUP_OV_WARN g false).condition Src.GROUP_SHORT g false).condition Src.GROUP_OV g latched

/-- The group's string is OFF and out of the support set (R246, R251). -/
def stringOff (b : Block) (g : Nat) : Block :=
  match b.groupString g with
  | some n => (b.setBat n { b.bat n with support := false }).wr (Obj.StringRecord.Mode n) smOFF
  | none => b

/-- With the REC group stopped the bus is no longer on the mains (R227). -/
def holdupStops (b : Block) (g : Nat) : Block :=
  if b.groupClass g == 1 && (b.holdupState == huMAINS || b.holdupState == huWALK_IN) then b.wr Obj.HoldupStatus.State huSTOPPED else b

theorem groupStop_eq (b : Block) (g state : Nat) : b.groupStop g state =
    (((((b.groupEmptied g).wrs (stopValues g state)).stopConditions g (state == gsOV_LATCHED)).stringOff g).holdupStops g) := by
  unfold groupStop
  extract_lets c0 x c1 c2 c3 c4 c5
  have h2 : c2 = (b.groupEmptied g).wrs (stopValues g state) := by
    unfold stopValues
    exact congrArg (wrs · _) (show c1 = b.groupEmptied g from rfl)
  have h4 : c4 = c2.stopConditions g (state == gsOV_LATCHED) := rfl
  have h5 : c5 = c4.stringOff g := by
    unfold c5 stringOff
    cases c4.groupString g <;> rfl
  rw [← h2, ← h4, ← h5]
  rfl

/-- What no write, no condition and no string's record changes is after a stop as the group's emptying left it. -/
theorem groupStop_of {α : Type} (f : Block → α) (hwr : ∀ (b : Block) (k v : Nat), f (b.wr k v) = f b)
    (hfaults : ∀ (b : Block) (x : Faults), f { b with faults := x } = f b) (hbat : ∀ (b : Block) (n : Nat) (x : BatString), f (b.setBat n x) = f b)
    (b : Block) (g state : Nat) : f (b.groupStop g state) = f (b.groupEmptied g) := by
  have hstring (c : Block) : f (c.stringOff g) = f c := by
    unfold stringOff
    split
    · rw [hwr, hbat]
    · rfl
  have hholdup (c : Block) : f (c.holdupStops g) = f c := by
    unfold holdupStops
    split
    · exact hwr ..
    · rfl
  rw [groupStop_eq, hholdup, hstring, stopConditions, condition_of f hwr hfaults, condition_of f hwr hfaults, condition_of f hwr hfaults,
    condition_of f hwr hfaults, wrs_of f hwr]

theorem setGroup_port (b : Block) (g : Nat) (x : Group) (p : Nat) : (b.setGroup g x).port p = b.port p := rfl

theorem Keeps.setGroup {named : List Nat} {b c : Block} (h : Keeps named b c) (g : Nat) (x : Group) : Keeps named b (c.setGroup g x) :=
  h.trans (of_images rfl rfl)

theorem groupStop_writes (b : Block) (g state : Nat) : (b.groupStop g state).writes = b.writes :=
  (groupStop_of (·.writes) (fun _ _ _ => rfl) (fun _ _ => rfl) (fun _ _ _ => rfl) b g state).trans
    ((setGroup_writes ..).trans ((b.groupOff_onPorts g).part (·.writes) fun _ _ => rfl))

theorem groupStop_cmdN (b : Block) {g p : Nat} (state : Nat) (hp : p ∈ b.groupPorts g) : ((b.groupStop g state).port p).cmdN = [0, 0, 0, 0] := by
  rw [groupStop_of (·.port p) (fun _ _ _ => rfl) (fun _ _ => rfl) (fun _ _ _ => rfl), groupEmptied, setGroup_port]
  exact b.groupOff_cmdN hp

theorem groupStop_group (b : Block) (g state h : Nat) :
    (b.groupStop g state).group h = if h = g then (b.group g).stopped else b.group h := by
  have hoff (k : Nat) : (b.groupOff g).group k = b.group k := (b.groupOff_onPorts g).part (·.group k) fun _ _ => rfl
  rw [groupStop_of (·.group h) (fun _ _ _ => rfl) (fun _ _ => rfl) (fun _ _ _ => rfl), groupEmptied, group_setGroup, hoff, hoff]

/-! ### The objects a stop and a start's end may change -/

/-- The hold-up state and the mode of the group's string. -/
def bankObjects (b : Block) (g : Nat) : List Nat := Obj.HoldupStatus.State :: (b.groupString g).toList.map Obj.StringRecord.Mode

theorem bankObjects_sub {b : Block} {g k : Nat} (hk : k ∈ b.bankObjects g) : k % 256 = 1 ∨ k % 256 = 0x42 := by
  obtain rfl | hk := List.mem_cons.1 hk
  · exact .inl rfl
  · obtain ⟨n, -, rfl⟩ := List.mem_map.1 hk
    exact .inr (objKey_mod _ (by decide))

theorem bankObjects_notMem {b : Block} {g : Nat} (index : Nat) {sub : Nat} (hlt : sub < 256) (h : sub ∉ [1, 0x42]) :
    objKey index sub ∉ b.bankObjects g :=
  objKey_notMem index hlt fun k hk e => h (by simpa [e] using bankObjects_sub hk)

theorem bankObjects_subset (b : Block) (g : Nat) : b.bankObjects g ⊆ stopObjects b g := by
  intro k hk
  obtain rfl | hk := List.mem_cons.1 hk
  · exact List.mem_append_left _ (by simp)
  · exact List.mem_append_right _ hk

theorem mode_mem_bankObjects {b : Block} {g n : Nat} (h : b.groupString g = some n) : Obj.StringRecord.Mode n ∈ b.bankObjects g := by
  simp [bankObjects, h]

theorem stringOff_keeps (b : Block) (g : Nat) : Keeps (b.bankObjects g) b (b.stringOff g) := by
  unfold stringOff
  split
  · next n hn => exact (Keeps.of_images rfl rfl : Keeps _ b (b.setBat n _)).wr _ (mode_mem_bankObjects hn)
  · exact Keeps.refl b

theorem holdupStops_keeps (b : Block) (g : Nat) {named : List Nat} (h : Obj.HoldupStatus.State ∈ named) : Keeps named b (b.holdupStops g) := by
  unfold holdupStops
  split
  · exact (Keeps.refl b).wr _ h
  · exact Keeps.refl b

/-- The counts of the conditions that a stop ends. -/
def stopCounts : List Nat := [Src.GROUP_SENSE_LOST, Src.GROUP_OV_WARN, Src.GROUP_SHORT, Src.GROUP_OV].map Obj.SourceConfig.PresentInstances

theorem stopCounts_sub : ∀ k ∈ stopCounts, k % 256 ≠ 0x12 := by
  simp [stopCounts, Obj.SourceConfig.PresentInstances, objKey_mod]

theorem stopConditions_keeps (b : Block) (g : Nat) (latched : Bool) : Keeps stopCounts b (b.stopConditions g latched) :=
  ((((Keeps.refl b).condition _ _ _ _ _ (by simp [stopCounts])).condition _ _ _ _ _ (by simp [stopCounts])).condition _ _ _ _ _
    (by simp [stopCounts])).condition _ _ _ _ _ (by simp [stopCounts])

theorem stopValues_keeps (b : Block) (g state : Nat) : Keeps ((stopValues g state).map (·.1)) b ((b.groupEmptied g).wrs (stopValues g state)) :=
  Keeps.wrs ((b.groupOff_onPorts g).keeps.setGroup g _) _ fun _ he => List.mem_map_of_mem he

theorem groupStop_keeps (b : Block) (g state : Nat) : Keeps (stopObjects b g) b (b.groupStop g state) ∧
    (b.groupStop g state).groupState g = state := by
  have hhead := (stopValues_keeps b g state).mono (m := (stopValues g state).map (·.1) ++ stopCounts) (List.subset_append_left ..)
  have hstate : ((b.groupEmptied g).wrs (stopValues g state)).rd (Obj.GroupRecord.State g) = state := by
    rw [stopValues, wrs_cons, rd_wrs_of_notMem, rd_wr_self]
    simp [Obj.GroupRecord.RunPhases, Obj.GroupRecord.EffSetpoint, Obj.GroupRecord.CurrentCommand, Obj.GroupRecord.Integrator,
      Obj.GroupRecord.State, objKey]
  rw [groupStop_eq]
  generalize (b.groupEmptied g).wrs (stopValues g state) = c at *
  have hconds := c.stopConditions_keeps g (state == gsOV_LATCHED)
  generalize c.stopConditions g (state == gsOV_LATCHED) = d at *
  have hd := hhead.trans (hconds.mono (List.subset_append_right ..))
  have hstring : d.groupString g = b.groupString g := hd.groupString (by
    simp [stopValues, stopCounts, Obj.GroupRecord.State, Obj.GroupRecord.RunPhases, Obj.GroupRecord.EffSetpoint,
      Obj.GroupRecord.CurrentCommand, Obj.GroupRecord.Integrator, Obj.SourceConfig.PresentInstances, objKey_mod]) g
  have hbank : Keeps (b.bankObjects g) d ((d.stringOff g).holdupStops g) := by
    have hd := d.stringOff_keeps g
    rw [bankObjects, hstring, ← bankObjects] at hd
    exact hd.trans (holdupStops_keeps _ g List.mem_cons_self)
  refine ⟨(hd.mono ?_).trans (hbank.mono (b.bankObjects_subset g)), ?_⟩
  · simp [stopValues, stopCounts, stopObjects]
  · have hbankState := hbank.rd_eq (k := Obj.GroupRecord.State g) (bankObjects_notMem _ (by decide) (by decide))
    have hcondState := hconds.rd_eq (k := Obj.GroupRecord.State g) (objKey_notMem _ (by decide) stopCounts_sub)
    exact (hbankState.trans hcondState).trans hstate

/-! ### A start fails (R181, R182, R236) -/

/-- The code of LastStartResult for the source of a failed start. -/
def failCode (src : Nat) : Nat := if src = Src.PREBIAS_HIGH then 3 else 2

/-- A stopped group's record and its LastStartResult tell that the start failed. -/
def noteFailure (b : Block) (g src : Nat) : Block :=
  let c := b.wr (Obj.GroupRecord.LastStartResult g) (failCode src)
  c.setGroup g { c.group g with result := 2 }

theorem startFail_eq (b : Block) (g src : Nat) : b.startFail g src = ((b.groupStop g gsSTOPPED).noteFailure g src).report src g := by
  unfold startFail noteFailure failCode
  rfl

/-- What a start that fails makes of the block. -/
structure StartFailed (g src : Nat) (b c : Block) : Prop where
  state : c.groupState g = gsSTOPPED
  result : c.rd (Obj.GroupRecord.LastStartResult g) = failCode src
  group : ∀ h, c.group h = if h = g then { (b.group g).stopped with result := 2 } else b.group h
  ports : ∀ p ∈ b.groupPorts g, (c.port p).cmdN = [0, 0, 0, 0]
  report : ({ src, inst := g } : Report) ∈ c.faults.reports
  objects : Keeps (stopObjects b g) b c
  writes : c.writes = b.writes

theorem noteFailure_keeps (b : Block) (g src : Nat) : Keeps [Obj.GroupRecord.LastStartResult g] b (b.noteFailure g src) :=
  Keeps.setGroup ((Keeps.refl b).wr _ (List.mem_singleton_self _)) g _

theorem startFail_fails (b : Block) (g src : Nat) : StartFailed g src b (b.startFail g src) := by
  obtain ⟨hkeeps, hstate⟩ := b.groupStop_keeps g gsSTOPPED
  have hgroup := b.groupStop_group g gsSTOPPED
  have hports := fun p (hp : p ∈ b.groupPorts g) => b.groupStop_cmdN gsSTOPPED hp
  have hwrites := b.groupStop_writes g gsSTOPPED
  rw [startFail_eq]
  generalize b.groupStop g gsSTOPPED = c at *
  have hnote := c.noteFailure_keeps g src
  refine ⟨?_, rd_wr_self .., fun h => ?_, hports, List.mem_append_right _ (List.mem_singleton_self _), ?_, hwrites⟩
  · exact (hnote.rd_eq (objKey_notMem (0x3A00 + g) (sub := 0x12) (by decide) (by simp [Obj.GroupRecord.LastStartResult, objKey_mod]))).trans hstate
  · refine (group_setGroup ..).trans ?_
    split
    · exact congrArg (fun x : Group => { x with result := 2 }) ((hgroup g).trans (if_pos rfl))
    · next hne => exact (hgroup h).trans (if_neg hne)
  · exact hkeeps.trans ((hnote.mono (by simp [stopObjects])).report _ _ _)

/-! ### A start ends in RUNNING (R181 step 6, R227) -/

/-- The group runs, and its start is over. -/
def runGroup (b : Block) (g : Nat) : Block :=
  let c := b.wrs [(Obj.GroupRecord.State g, gsRUNNING), (Obj.GroupRecord.LastStartResult g, 1)]
  c.setGroup g { c.group g with step := 0, result := 1 }

/-- The group's string is in REST. -/
def stringRests (b : Block) (g : Nat) : Block :=
  match b.groupString g with
  | some n => b.wr (Obj.StringRecord.Mode n) smREST
  | none => b

/-- With the REC group running the bus is on the mains (R227). -/
def holdupMains (b : Block) (g : Nat) : Block :=
  if b.groupClass g == 1 && b.holdupState == huSTOPPED then b.wr Obj.HoldupStatus.State huMAINS else b

/-- The string and the hold-up function follow the group. -/
def bankRuns (b : Block) (g : Nat) : Block := (b.stringRests g).holdupMains g

theorem groupRunning_eq (b : Block) (g : Nat) : b.groupRunning g = (b.runGroup g).bankRuns g := by
  unfold groupRunning
  extract_lets c0 x c1 c2
  have h1 : c1 = b.runGroup g := rfl
  have h2 : c2 = c1.stringRests g := by
    unfold c2 stringRests
    cases c1.groupString g <;> rfl
  rw [bankRuns, ← h1, ← h2]
  rfl

theorem stringRests_sameParts (b : Block) (g : Nat) : SameParts b (b.stringRests g) := by
  unfold stringRests
  split
  · exact (SameParts.refl b).wr _ _
  · exact SameParts.refl b

theorem bankRuns_sameParts (b : Block) (g : Nat) : SameParts b (b.bankRuns g) := by
  unfold bankRuns holdupMains
  split
  · exact (b.stringRests_sameParts g).wr _ _
  · exact b.stringRests_sameParts g

theorem stringRests_keeps (b : Block) (g : Nat) : Keeps ((b.groupString g).toList.map Obj.StringRecord.Mode) b (b.stringRests g) := by
  unfold stringRests
  split
  · next n hn => exact (Keeps.refl b).wr _ (by simp [hn])
  · exact Keeps.refl b

theorem holdupMains_keeps (b : Block) (g : Nat) : Keeps [Obj.HoldupStatus.State] b (b.holdupMains g) := by
  unfold holdupMains
  split
  · exact (Keeps.refl b).wr _ (List.mem_singleton_self _)
  · exact Keeps.refl b

theorem bankRuns_keeps (b : Block) (g : Nat) : Keeps (b.bankObjects g) b (b.bankRuns g) :=
  ((b.stringRests_keeps g).mono (List.subset_cons_self ..)).trans ((holdupMains_keeps _ g).mono (by simp))

theorem bankRuns_mode {b : Block} {g n : Nat} (h : b.groupString g = some n) : (b.bankRuns g).stringMode n = smREST := by
  have hrests : (b.stringRests g).rd (Obj.StringRecord.Mode n) = smREST := by
    unfold stringRests
    rw [h]
    exact rd_wr_self ..
  exact (((b.stringRests g).holdupMains_keeps g).rd_eq (objKey_notMem (0x3600 + n) (by decide) (by decide))).trans hrests

theorem bankRuns_mains {b : Block} {g : Nat} (hclass : b.groupClass g = 1) (hstopped : b.holdupState = huSTOPPED) :
    (b.bankRuns g).holdupState = huMAINS := by
  have hsub : ∀ k ∈ (b.groupString g).toList.map Obj.StringRecord.Mode, k % 256 = 0x42 := by
    simp [Obj.StringRecord.Mode, objKey_mod]
  have hclass' := (b.stringRests_keeps g).groupClass (fun k hk => by simp [hsub k hk]) g
  have hstopped' : (b.stringRests g).holdupState = b.holdupState :=
    (b.stringRests_keeps g).rd_eq (objKey_notMem 0x3B20 (by decide) fun k hk => by simp [hsub k hk])
  rw [bankRuns, holdupMains, hclass', hclass, hstopped', hstopped]
  exact rd_wr_self ..

/-- The objects that say a group runs. -/
def runObjects (g : Nat) : List Nat := [Obj.GroupRecord.State g, Obj.GroupRecord.LastStartResult g]

theorem runGroup_keeps (b : Block) (g : Nat) : Keeps (runObjects g) b (b.runGroup g) :=
  Keeps.setGroup ((Keeps.refl b).wrs _ (by simp [runObjects])) g _

theorem runObjects_sub (g : Nat) : ∀ k ∈ runObjects g, k % 256 = 0x12 ∨ k % 256 = 0x1C := by
  simp [runObjects, Obj.GroupRecord.State, Obj.GroupRecord.LastStartResult, objKey_mod]

theorem runGroup_wiring (b : Block) (g : Nat) : (b.runGroup g).groupString g = b.groupString g ∧ (b.runGroup g).groupClass g = b.groupClass g := by
  have hsub : ∀ k ∈ runObjects g, k % 256 ∉ [1, 3, 4] := fun k hk => by
    obtain h | h := runObjects_sub g k hk <;> simp [h]
  exact ⟨(b.runGroup_keeps g).groupString hsub g, (b.runGroup_keeps g).groupClass hsub g⟩

/-- What a start that ends in RUNNING makes of the block. -/
structure Running (g : Nat) (b c : Block) : Prop where
  state : c.groupState g = gsRUNNING
  result : c.rd (Obj.GroupRecord.LastStartResult g) = 1
  group : ∀ h, c.group h = if h = g then { b.group g with step := 0, result := 1 } else b.group h
  mains : b.groupClass g = 1 → b.holdupState = huSTOPPED → c.holdupState = huMAINS
  mode : ∀ n, b.groupString g = some n → c.stringMode n = smREST
  objects : Keeps (stopObjects b g) b c
  writes : c.writes = b.writes

theorem groupRunning_running (b : Block) (g : Nat) : Running g b (b.groupRunning g) := by
  obtain ⟨hstring, hclass⟩ := b.runGroup_wiring g
  have hrun := b.runGroup_keeps g
  have hstate : (b.runGroup g).rd (Obj.GroupRecord.State g) = gsRUNNING :=
    (rd_wr_of_ne _ _ (objKey_ne_of_sub_ne (by decide) (by decide) (by decide))).trans (rd_wr_self ..)
  have hresult : (b.runGroup g).rd (Obj.GroupRecord.LastStartResult g) = 1 := rd_wr_self ..
  have hgroup (h : Nat) : (b.runGroup g).group h = if h = g then { b.group g with step := 0, result := 1 } else b.group h :=
    group_setGroup ..
  have hholdup : (b.runGroup g).holdupState = b.holdupState := hrun.rd_eq (objKey_notMem 0x3B20 (by decide) fun k hk => by
    obtain h | h := runObjects_sub g k hk <;> simp [h])
  have hwrites : (b.runGroup g).writes = b.writes := rfl
  have hbank := (b.runGroup g).bankRuns_keeps g
  have hparts := (b.runGroup g).bankRuns_sameParts g
  rw [groupRunning_eq]
  refine ⟨?_, ?_, fun h => ?_, fun h1 h2 => bankRuns_mains (hclass.trans h1) (hholdup.trans h2), fun n hn => bankRuns_mode (hstring.trans hn), ?_, ?_⟩
  · exact (hbank.rd_eq (bankObjects_notMem (0x3A00 + g) (by decide) (by decide))).trans hstate
  · exact (hbank.rd_eq (bankObjects_notMem (0x3A00 + g) (by decide) (by decide))).trans hresult
  · exact (hparts.part (·.group h) fun _ _ _ => rfl).trans (hgroup h)
  · rw [bankObjects, hstring, ← bankObjects] at hbank
    exact (hrun.mono (by simp [runObjects, stopObjects])).trans (hbank.mono (b.bankObjects_subset g))
  · exact (hparts.part (·.writes) fun _ _ _ => rfl).trans hwrites

end Block
end Sys2Proof.Machine
end

section
/-! PROOFS. Groups: the first step of a start, its calibration, and its end (R181-R183, R292, R297, R612). -/

namespace Sys2Proof.Machine

open Sys2Proof.Safety

/-- The record of a group whose start begins (R181). -/
def Group.begun (x : Group) (cycles : Nat) (phases spares : List Nat) : Group :=
  { x with
    step := 1, startAt := cycles, phases, spares, waiting := false, result := 0, prebias := false, veff := 0, iint := 0, ig := 0,
    owed := 0, bringing := [], spent := [], low := 0, stale := 0 }

namespace Block

/-! ### Units and roles (R290, R292) -/

theorem mem_groupPorts_lt {b : Block} {g p : Nat} (h : p ∈ b.groupPorts g) : p < 512 := List.mem_range.1 (List.mem_filter.1 h).1

theorem mem_lineRecs_lt {b : Block} {f x p : Nat} (h : p ∈ b.lineRecs f x) : p < 512 := List.mem_range.1 (List.mem_filter.1 h).1

/-- The ports of a unit exist. -/
theorem mem_units_lt {b : Block} {g : Nat} {u : List Nat} (hu : u ∈ b.units g) {p : Nat} (hp : p ∈ u) : p < 512 := by
  unfold units at hu
  split at hu
  · obtain ⟨f, -, hf⟩ := List.mem_flatMap.1 hu
    split at hf
    · obtain ⟨⟨p1, p2, p3⟩, ht, rfl⟩ := List.mem_map.1 (List.mem_filter.1 hf).1
      obtain ⟨h1, h23⟩ := List.of_mem_zip ht
      obtain ⟨h2, h3⟩ := List.of_mem_zip h23
      simp only [List.mem_cons, List.not_mem_nil, or_false] at hp
      obtain rfl | rfl | rfl := hp
      · exact mem_lineRecs_lt h1
      · exact mem_lineRecs_lt h2
      · exact mem_lineRecs_lt h3
    · obtain ⟨q, hq, rfl⟩ := List.mem_map.1 hf
      exact List.mem_singleton.1 hp ▸ mem_lineRecs_lt (List.mem_filter.1 hq).1
  · obtain ⟨q, hq, rfl⟩ := List.mem_map.1 hu
    exact List.mem_singleton.1 hp ▸ mem_groupPorts_lt hq

/-- Nothing but the Role of ports listed changes. -/
def RolesSet (l : List Nat) (b c : Block) : Prop := SameParts b c ∧ Keeps (l.map Obj.PortRecord.Role) b c

theorem setRole_rolesSet {l u : List Nat} {b c : Block} (h : RolesSet l b c) (hu : u ⊆ l) (r : Nat) : RolesSet l b (c.setRole u r) :=
  List.foldlRecOn u _ h fun _ hd _ hp => ⟨hd.1.wr _ _, hd.2.wr _ (List.mem_map_of_mem (hu hp))⟩

/-- The roles a start assigns change the Role of the ports of the group's units alone. -/
theorem assignRoles_rolesSet (b : Block) (g : Nat) : RolesSet (b.units g).flatten b (b.assignRoles g) := by
  have hsub : ∀ u ∈ byPort (b.units g), u ⊆ (b.units g).flatten := fun u hu p hp => List.mem_flatten.2 ⟨u, mem_byPort hu, hp⟩
  have hset (r : Nat) {us : List (List Nat)} (hus : us ⊆ byPort (b.units g)) {c : Block} (hc : RolesSet (b.units g).flatten b c) :
      RolesSet (b.units g).flatten b (us.foldl (fun b u => b.setRole u r) c) :=
    List.foldlRecOn us _ hc fun _ hd u hu => setRole_rolesSet hd (hsub u (hus hu)) r
  have hok : (byPort (b.units g)).filter (fun u => b.unitCond u != 0) ⊆ byPort (b.units g) := List.filter_subset_self _
  exact hset _ (List.Subset.trans (List.drop_subset _ _) hok) (hset _ (List.Subset.trans (List.take_subset _ _) hok)
    (hset _ (List.filter_subset_self _) ⟨SameParts.refl b, Keeps.refl b⟩))

/-! ### GROUP_SHORT and the contingency allocations (R297) -/

/-- The objects of feeds that the contingency allocations change. -/
def capObjects (fs : List Nat) : List Nat := fs.flatMap fun f => Obj.FeedRecord.CapNotices f :: feedObjects f

theorem capObjects_sub {fs : List Nat} {k : Nat} (hk : k ∈ capObjects fs) : k % 256 ∉ [1, 3, 4, 5, 0x12] := by
  obtain ⟨f, -, hf⟩ := List.mem_flatMap.1 hk
  have hsub : ∀ j ∈ Obj.FeedRecord.CapNotices f :: feedObjects f, j % 256 ∉ [1, 3, 4, 5, 0x12] := by
    simp [feedObjects, Obj.FeedRecord.CapNotices, Obj.FeedRecord.State, Obj.FeedRecord.LastOpenCause, Obj.FeedRecord.LastOpenEpoch,
      Obj.FeedRecord.LastOpenCycle, Obj.FeedRecord.LastOpenTick, Obj.FeedRecord.IlimInForce, Obj.FeedRecord.CapState,
      Obj.FeedRecord.CapCurrent, Obj.FeedRecord.Allocation, Obj.FeedRecord.RetriesUsed, Obj.FeedRecord.TripCount,
      Obj.SourceConfig.PresentInstances, objKey_mod]
  exact hsub k hf

/-- Allocations came into force for feeds: their objects changed, the conditions and records of feeds, and no other part of the block. -/
structure Capped (fs : List Nat) (b c : Block) : Prop where
  writes : c.writes = b.writes
  ports : c.ports = b.ports
  groupTab : c.groupTab = b.groupTab
  present : ∀ src inst, src < Src.FEED_FLOOR_BREACH → inst < 65536 → c.isPresent src inst = b.isPresent src inst
  objects : Keeps (capObjects fs) b c

/-- A condition of another source or unit stays as it was. -/
theorem isPresent_condition_of_ne (b : Block) {src inst src' inst' : Nat} (h : instKey src inst ≠ instKey src' inst') (p : Bool) (d : List Int) :
    (b.condition src' inst' p d).isPresent src inst = b.isPresent src inst := by
  obtain ⟨-, he⟩ | ⟨-, -, -, hpresent⟩ | ⟨-, -, -, hpresent⟩ := b.condition_cases src' inst' p d
  · rw [he]
  · simp [isPresent, hpresent, h]
  · simp [isPresent, hpresent, h]

theorem putAllocation_capped (fs : List Nat) {f : Nat} (hf : f ∈ fs) (b : Block) (a state : Nat) : Capped fs b (b.putAllocation f a state) := by
  have hmem {k : Nat} (hk : k ∈ feedObjects f) : k ∈ capObjects fs := List.mem_flatMap.2 ⟨f, hf, List.mem_cons_of_mem _ hk⟩
  unfold putAllocation
  refine ⟨condition_writes .., condition_of (·.ports) (fun _ _ _ => rfl) (fun _ _ => rfl) .., condition_of (·.groupTab) (fun _ _ _ => rfl)
    (fun _ _ => rfl) .., fun src inst hsrc hinst => isPresent_condition_of_ne _ ?_ _ _, ?_⟩
  · unfold instKey
    omega
  · exact ((((Keeps.refl b).wrN _ (hmem (by simp [feedObjects]))).wrN _ (hmem (by simp [feedObjects]))).wrN _
      (hmem (by simp [feedObjects]))).condition _ _ _ _ _ (hmem (by simp [feedObjects]))

theorem capNotice_capped (fs : List Nat) {f : Nat} (hf : f ∈ fs) (b : Block) (bit old new : Nat) : Capped fs b (b.capNotice f bit old new) := by
  unfold capNotice
  split
  · exact ⟨rfl, rfl, rfl, fun _ _ _ _ => rfl,
      ((Keeps.refl b).wr _ (List.mem_flatMap.2 ⟨f, hf, List.mem_cons_self⟩)).trans (Keeps.of_images rfl rfl)⟩
  · exact ⟨rfl, rfl, rfl, fun _ _ _ _ => rfl, Keeps.refl b⟩

theorem Capped.trans {fs : List Nat} {b c d : Block} (h : Capped fs b c) (h' : Capped fs c d) : Capped fs b d :=
  ⟨h'.writes.trans h.writes, h'.ports.trans h.ports, h'.groupTab.trans h.groupTab,
    fun src inst hs hi => (h'.present src inst hs hi).trans (h.present src inst hs hi), h.objects.trans h'.objects⟩

/-- A group whose start finds it short (R297): the start goes on, with allocations in force and the shortage noted. -/
structure Shortened (g : Nat) (b c : Block) : Prop where
  writes : c.writes = b.writes
  ports : c.ports = b.ports
  group : c.group g = { b.group g with short := (c.group g).short, shortAt := (c.group g).shortAt }
  others : ∀ h, h ≠ g → c.group h = b.group h
  latched : c.isPresent Src.GROUP_OV g = b.isPresent Src.GROUP_OV g
  objects : Keeps (Obj.SourceConfig.PresentInstances Src.GROUP_SHORT :: capObjects (b.groupFeeds g)) b c

/-- GROUP_SHORT is present. -/
def noteShort (b : Block) (g : Nat) : Block := (b.setGroup g { b.group g with short := true }).condition Src.GROUP_SHORT g true [b.unitsOk g]

theorem noteShort_shortened (b : Block) (g : Nat) : Shortened g b (b.noteShort g) := by
  have hgroup (h : Nat) : (b.noteShort g).group h = if h = g then { b.group g with short := true } else b.group h :=
    (condition_of (·.group h) (fun _ _ _ => rfl) (fun _ _ => rfl) ..).trans (group_setGroup ..)
  refine ⟨condition_writes .., condition_of (·.ports) (fun _ _ _ => rfl) (fun _ _ => rfl) .., ?_, fun h hne => (hgroup h).trans (if_neg hne), ?_,
    ((Keeps.refl b).setGroup g _).condition _ _ _ _ _ List.mem_cons_self⟩
  · rw [hgroup, if_pos rfl]
  · refine (isPresent_condition_of_ne _ ?_ _ _).trans rfl
    unfold instKey Src.GROUP_OV Src.GROUP_SHORT
    omega

/-- One feed's contingency allocation comes into force. -/
def contingencyFeed (b : Block) (f : Nat) : Block :=
  (b.putAllocation f (b.rd (Obj.FeedRecord.ContingencyAllocation f)) (capState (b.rd (Obj.FeedRecord.ContingencyAllocation f))
    (b.rd (Obj.FeedRecord.Request f)) (b.rd (Obj.FeedRecord.Floor f)))).capNotice f 5 (b.rd (Obj.FeedRecord.Allocation f))
      (b.rd (Obj.FeedRecord.ContingencyAllocation f))

/-- The contingency allocations of the feeds that take part come into force. -/
def contingencyFeeds (b : Block) (g : Nat) : Block := ((b.groupFeeds g).filter b.takesPart).foldl contingencyFeed b

/-- The cycle in which contingency allocations came into force is noted (R297). -/
def noteContingency (b : Block) (g : Nat) : Block := b.setGroup g { b.group g with shortAt := some b.glade.cycles }

theorem contingency_eq (b : Block) (g : Nat) : b.contingency g = (b.contingencyFeeds g).noteContingency g := by
  unfold contingency
  extract_lets c
  have hc : c = b.contingencyFeeds g := by
    unfold c contingencyFeeds contingencyFeed
    rfl
  rw [← hc]
  rfl

theorem contingencyFeeds_capped (b : Block) (g : Nat) : Capped (b.groupFeeds g) b (b.contingencyFeeds g) :=
  List.foldlRecOn _ _ ⟨rfl, rfl, rfl, fun _ _ _ _ => rfl, Keeps.refl b⟩ fun _ hc _ hf =>
    have hmem := (List.mem_filter.1 hf).1
    hc.trans ((putAllocation_capped _ hmem ..).trans (capNotice_capped _ hmem ..))

theorem raiseShort_shortened (b : Block) {g : Nat} (hg : g < 64) : Shortened g b (b.raiseShort g) := by
  have hnote := b.noteShort_shortened g
  have hkeeps : Keeps [Obj.SourceConfig.PresentInstances Src.GROUP_SHORT] b (b.noteShort g) :=
    ((Keeps.refl b).setGroup g _).condition _ _ _ _ _ (List.mem_singleton_self _)
  have hfeeds := hkeeps.groupFeeds (by simp [Obj.SourceConfig.PresentInstances, objKey_mod]) g
  have he : b.raiseShort g = (b.noteShort g).contingency g := rfl
  rw [he, contingency_eq]
  generalize b.noteShort g = c at *
  have hcap := c.contingencyFeeds_capped g
  generalize c.contingencyFeeds g = d at *
  have hgroup (h : Nat) : (d.noteContingency g).group h = if h = g then { c.group g with shortAt := some d.glade.cycles } else c.group h := by
    rw [noteContingency, group_setGroup, group_congr hcap.groupTab, group_congr hcap.groupTab]
  rw [hfeeds] at hcap
  refine ⟨hcap.writes.trans hnote.writes, hcap.ports.trans hnote.ports, ?_, fun h hne => ?_, ?_, ?_⟩
  · rw [hgroup, if_pos rfl, hnote.group]
  · rw [hgroup, if_neg hne, hnote.others h hne]
  · exact (hcap.present Src.GROUP_OV g (by decide) (by omega)).trans hnote.latched
  · exact hnote.objects.trans ((hcap.objects.mono (List.subset_cons_self ..)).setGroup g _)

/-! ### A LATCH_RESET fires on every phase (R137, R181) -/

/-- One-shots fired on ports listed: of the objects those of the recorder and the action table changed, of the parts nothing a group shows. -/
structure ShotsFired (l : List Nat) (b c : Block) : Prop where
  writes : c.writes = b.writes
  groupTab : c.groupTab = b.groupTab
  present : c.faults.present = b.faults.present
  others : ∀ p, p ∉ l → c.port p = b.port p
  objects : Keeps recordObjects b c

namespace ShotsFired

variable {l : List Nat} {b c d : Block}

theorem trans (h : ShotsFired l b c) (h' : ShotsFired l c d) : ShotsFired l b d :=
  ⟨h'.writes.trans h.writes, h'.groupTab.trans h.groupTab, h'.present.trans h.present, fun p hp => (h'.others p hp).trans (h.others p hp),
    h.objects.trans h'.objects⟩

theorem mono {m : List Nat} (h : ShotsFired l b c) (hs : l ⊆ m) : ShotsFired m b c :=
  ⟨h.writes, h.groupTab, h.present, fun p hp => h.others p fun hl => hp (hs hl), h.objects⟩

theorem of_onPorts (h : OnPorts l b c) : ShotsFired l b c :=
  ⟨h.part (·.writes) fun _ _ => rfl, h.part (·.groupTab) fun _ _ => rfl, h.part (·.faults.present) fun _ _ => rfl, h.others, h.keeps⟩

theorem report (h : ShotsFired l b c) (src inst : Nat) (d : List Int) : ShotsFired l b (c.report src inst d) :=
  ⟨h.writes, h.groupTab, h.present, h.others, h.objects.report _ _ _⟩

end ShotsFired

theorem completeEntry_shotsFired (l : List Nat) (b : Block) (h : Nat) (a : Action) (outcome : Nat) (extra : List Nat) (ago : Option Nat) :
    ShotsFired l b (b.completeEntry h a outcome extra ago) where
  writes := completeEntry_writes ..
  groupTab := completeEntry_of (·.groupTab) (fun _ _ _ => rfl) (fun _ _ => rfl) (fun _ _ => rfl) (fun _ _ => rfl) ..
  present := congrArg Faults.present (completeEntry_faults ..)
  others p _ := completeEntry_of (·.port p) (fun _ _ _ => rfl) (fun _ _ => rfl) (fun _ _ => rfl) (fun _ _ => rfl) ..
  objects := (Keeps.refl b).completeEntry h a outcome extra ago (List.Subset.refl _)

theorem shotEntry_shotsFired (l : List Nat) (b : Block) (h outcome ago : Nat) : ShotsFired l b (b.shotEntry h outcome ago) := by
  unfold shotEntry
  split
  · exact .of_onPorts (OnPorts.refl b)
  · exact completeEntry_shotsFired ..

theorem startShot_onPorts (b : Block) (p : Nat) : OnPorts [p] b (b.startShot p) := OnPorts.modPort b p _

theorem endShot_shotsFired (b : Block) (p outcome : Nat) : ShotsFired [p] b (b.endShot p outcome) := by
  unfold endShot
  extract_lets x
  split
  · exact .of_onPorts (OnPorts.refl b)
  · next o rest _ =>
    extract_lets host b1 b2 b3
    have h1 : ShotsFired [p] b b1 := .of_onPorts (OnPorts.setPort b p _)
    have h2 : ShotsFired [p] b b2 := by
      unfold b2
      split
      · exact h1
      · exact h1.report _ _ _
    have h3 : ShotsFired [p] b b3 := by
      unfold b3
      split
      · exact h2.trans (shotEntry_shotsFired ..)
      · exact h2
    exact h3.trans (.of_onPorts (startShot_onPorts b3 p))

theorem fireShot_shotsFired (b : Block) (p op : Nat) (handle : Option Nat) : ShotsFired [p] b (b.fireShot p op handle) := by
  have hadd : ShotsFired [p] b (b.setPort p ((b.port p).addShot { op, handle })) := .of_onPorts (OnPorts.setPort b p _)
  rw [fireShot_eq]
  generalize b.setPort p ((b.port p).addShot { op, handle }) = c at *
  split
  · exact hadd.trans (List.foldlRecOn _ _ (.of_onPorts (OnPorts.refl c)) fun d hd _ _ => hd.trans (endShot_shotsFired d p 2))
  · exact hadd.trans (.of_onPorts (startShot_onPorts c p))

/-- On a port that does not train the one-shot joins those that wait. -/
theorem fireShot_joins {b : Block} {p : Nat} (htrain : b.inTraining p = false) (op : Nat) (handle : Option Nat) :
    ((b.fireShot p op handle).port p).shots = (b.port p).shots ++ [({ op, handle } : Shot)] ∧
      ((b.fireShot p op handle).port p).retrain = (b.port p).retrain := by
  have hidle := (b.inTraining_setPort p (x := (b.port p).addShot { op, handle }) rfl).trans htrain
  rw [fireShot_eq, hidle, if_neg Bool.false_ne_true, startShot, port_modPort_self, port_setPort_self]
  split <;> exact ⟨rfl, rfl⟩

/-- The state of a port that exists is no object of the recorder or of the action table. -/
theorem portState_notMem_recordObjects {p : Nat} (hp : p < 512) : Obj.PortRecord.PortState p ∉ recordObjects :=
  objKey_notMem_recordObjects (by decide) (by omega)

theorem groupState_notMem_recordObjects (g : Nat) : Obj.GroupRecord.State g ∉ recordObjects :=
  objKey_notMem _ (by decide) (by decide)

/-- A LATCH_RESET fires on every phase. -/
def resetPhases (b : Block) (l : List Nat) : Block := l.foldl (fun b p => b.fireShot p osLATCH_RESET) b

theorem resetPhases_shotsFired (b : Block) (l : List Nat) : ShotsFired l b (b.resetPhases l) :=
  List.foldlRecOn l _ (.of_onPorts (OnPorts.refl b)) fun c hc p hp => hc.trans ((fireShot_shotsFired c p _ _).mono (by simpa using hp))

/-- A one-shot on any port leaves a port that does not train outside training. -/
theorem inTraining_fireShot {b : Block} {p : Nat} (hp : p < 512) (htrain : b.inTraining p = false) (q op : Nat) :
    (b.fireShot q op).inTraining p = false := by
  have hfired := fireShot_shotsFired b q op none
  have hstate : (b.fireShot q op).portState p = b.portState p := hfired.objects.rd_eq (portState_notMem_recordObjects hp)
  have hretrain : ((b.fireShot q op).port p).retrain = (b.port p).retrain := by
    by_cases hq : p = q
    · subst hq
      exact (fireShot_joins htrain op none).2
    · rw [hfired.others p (by simpa using hq)]
  rw [inTraining, hstate, hretrain]
  exact htrain

/-- The LATCH_RESET of a phase that does not train waits or is pending. -/
theorem resetPhases_fires {b : Block} {l : List Nat} {p : Nat} (hmem : p ∈ l) (hp : p < 512) (htrain : b.inTraining p = false) :
    osLATCH_RESET ∈ ((b.resetPhases l).port p).shots.map (·.op) := by
  have hjoins {c : Block} (hc : c.inTraining p = false) := (fireShot_joins hc osLATCH_RESET none).1
  refine foldl_makes (f := fun b p => b.fireShot p osLATCH_RESET) (I := fun c : Block => c.inTraining p = false)
    (Q := fun c : Block => osLATCH_RESET ∈ (c.port p).shots.map (·.op)) hmem
    (fun c hc q _ => inTraining_fireShot hp hc q _) (fun c hc => by simp [hjoins hc]) (fun c hc hin q _ => ?_) htrain
  by_cases hq : p = q
  · subst hq
    simp [hjoins hc]
  · rwa [(fireShot_shotsFired c q _ _).others p (by simpa using hq)]

/-! ### The first step of a start (R181) -/

/-- The ports of the group's units in a role, in unit order (R292). -/
def rolePorts (b : Block) (g role : Nat) : List Nat := ((byPort (b.units g)).filter (fun u => b.unitRole u == role)).flatten

theorem mem_rolePorts_lt {b : Block} {g role p : Nat} (h : p ∈ b.rolePorts g role) : p < 512 := by
  unfold rolePorts at h
  obtain ⟨u, hu, hp⟩ := List.mem_flatten.1 h
  exact mem_units_lt (mem_byPort (List.mem_filter.1 hu).1) hp

/-- With the roles assigned, the group is STARTING at step 1 and GROUP_OV ends. -/
def beginStart (b : Block) (g : Nat) : Block :=
  ((b.setGroup g ((b.group g).begun b.glade.cycles (b.rolePorts g rlMEMBER) (b.rolePorts g rlSPARE))).wr (Obj.GroupRecord.State g) gsSTARTING).condition
    Src.GROUP_OV g false

/-- A start of a group that is short raises GROUP_SHORT (R297). -/
def startShort (b : Block) (g : Nat) : Block := if b.supplyState g = ssSHORT then b.raiseShort g else b

theorem startStep1_eq (b : Block) (g : Nat) :
    b.startStep1 g = (((b.assignRoles g).beginStart g).startShort g).resetPhases ((b.assignRoles g).rolePorts g rlMEMBER) := by
  unfold startStep1
  extract_lets c us phases spares x c1 c2 c3
  have h2 : c2 = c.beginStart g := by
    unfold c2 c1 x phases spares us beginStart rolePorts Group.begun
    rfl
  have h3 : c3 = c2.startShort g := rfl
  rw [← h2, ← h3]
  rfl

theorem startShort_shortened (b : Block) {g : Nat} (hg : g < 64) : Shortened g b (b.startShort g) := by
  unfold startShort
  split
  · exact b.raiseShort_shortened hg
  · exact ⟨rfl, rfl, rfl, fun _ _ => rfl, rfl, Keeps.refl b⟩

/-- The objects that the first step of a start may change (R181, R292, R297). -/
def startObjects (b : Block) (g : Nat) : List Nat :=
  Obj.GroupRecord.State g :: Obj.SourceConfig.PresentInstances Src.GROUP_OV :: Obj.SourceConfig.PresentInstances Src.GROUP_SHORT ::
    ((b.units g).flatten.map Obj.PortRecord.Role ++ capObjects (b.groupFeeds g) ++ recordObjects)

/-- What the first step of a start makes of the block. -/
structure Started (g : Nat) (b c : Block) : Prop where
  state : c.groupState g = gsSTARTING
  latched : c.isPresent Src.GROUP_OV g = false
  group : ∃ (phases spares : List Nat) (short : Bool) (at' : Option Nat),
    c.group g = { (b.group g).begun b.glade.cycles phases spares with short, shortAt := at' }
  others : ∀ h, h ≠ g → c.group h = b.group h
  fired : ∀ p ∈ (c.group g).phases, b.inTraining p = false → osLATCH_RESET ∈ (c.port p).shots.map (·.op)
  objects : Keeps (startObjects b g) b c
  writes : c.writes = b.writes

/-- The objects of the roles, and of the state a start begins in. -/
def beginObjects (b : Block) (g : Nat) : List Nat :=
  [Obj.GroupRecord.State g, Obj.SourceConfig.PresentInstances Src.GROUP_OV] ++ (b.units g).flatten.map Obj.PortRecord.Role

theorem beginObjects_sub {b : Block} {g k : Nat} (hk : k ∈ b.beginObjects g) : k % 256 ∉ [1, 3, 4, 5] := by
  obtain hk | hk := List.mem_append.1 hk
  · have hsub : ∀ j ∈ [Obj.GroupRecord.State g, Obj.SourceConfig.PresentInstances Src.GROUP_OV], j % 256 ∉ [1, 3, 4, 5] := by
      simp [Obj.GroupRecord.State, Obj.SourceConfig.PresentInstances, objKey_mod]
    exact hsub k hk
  · obtain ⟨p, -, rfl⟩ := List.mem_map.1 hk
    simp [Obj.PortRecord.Role, objKey_mod]

/-- The objects of a shortage. -/
def shortObjects (b : Block) (g : Nat) : List Nat := Obj.SourceConfig.PresentInstances Src.GROUP_SHORT :: capObjects (b.groupFeeds g)

theorem shortObjects_sub {b : Block} {g k : Nat} (hk : k ∈ b.shortObjects g) : k % 256 ∉ [1, 3, 4, 5, 0x12] := by
  obtain rfl | hk := List.mem_cons.1 hk
  · simp [Obj.SourceConfig.PresentInstances, objKey_mod]
  · exact capObjects_sub hk

theorem beginObjects_subset (b : Block) (g : Nat) : b.beginObjects g ⊆ b.startObjects g := by
  intro k hk
  obtain hk | hk := List.mem_append.1 hk
  · obtain rfl | hk := List.mem_cons.1 hk
    · exact List.mem_cons_self
    · exact List.mem_cons_of_mem _ (List.mem_singleton.1 hk ▸ List.mem_cons_self)
  · exact List.mem_cons_of_mem _ (List.mem_cons_of_mem _ (List.mem_cons_of_mem _ (List.mem_append_left _ (List.mem_append_left _ hk))))

theorem shortObjects_subset (b : Block) (g : Nat) : b.shortObjects g ⊆ b.startObjects g := by
  intro k hk
  refine List.mem_cons_of_mem _ (List.mem_cons_of_mem _ ?_)
  obtain rfl | hk := List.mem_cons.1 hk
  · exact List.mem_cons_self
  · exact List.mem_cons_of_mem _ (List.mem_append_left _ (List.mem_append_right _ hk))

theorem recordObjects_subset (b : Block) (g : Nat) : recordObjects ⊆ b.startObjects g := fun _ hk =>
  List.mem_cons_of_mem _ (List.mem_cons_of_mem _ (List.mem_cons_of_mem _ (List.mem_append_right _ hk)))

theorem beginStart_keeps (b : Block) (g : Nat) : Keeps (b.beginObjects g) b ((b.assignRoles g).beginStart g) := by
  have hroles := (b.assignRoles_rolesSet g).2
  exact (((hroles.mono (List.subset_append_right ..)).setGroup g _).wr _ (by simp)).condition _ _ _ _ _ (by simp)

theorem startShort_keeps (b : Block) {g : Nat} (hg : g < 64) :
    Keeps (b.shortObjects g) ((b.assignRoles g).beginStart g) (((b.assignRoles g).beginStart g).startShort g) := by
  have hfeeds := (b.beginStart_keeps g).groupFeeds (fun k hk h => beginObjects_sub hk ((by decide : [1, 3, 4] ⊆ [1, 3, 4, 5]) h)) g
  have hshort := (((b.assignRoles g).beginStart g).startShort_shortened hg).objects
  rwa [hfeeds] at hshort

/-- The group's record once its start has begun, and every other group's as it was. -/
theorem beginStart_group (b : Block) (g h : Nat) : ((b.assignRoles g).beginStart g).group h = if h = g then
    (b.group g).begun b.glade.cycles ((b.assignRoles g).rolePorts g rlMEMBER) ((b.assignRoles g).rolePorts g rlSPARE) else b.group h := by
  have hroles (k : Nat) : (b.assignRoles g).group k = b.group k := (b.assignRoles_rolesSet g).1.part (·.group k) fun _ _ _ => rfl
  rw [beginStart, condition_of (·.group h) (fun _ _ _ => rfl) (fun _ _ => rfl), group_congr (wr_groupTab ..), group_setGroup, hroles, hroles,
    assignRoles_glade]

theorem beginStart_parts (b : Block) (g : Nat) : ((b.assignRoles g).beginStart g).ports = b.ports ∧
    ((b.assignRoles g).beginStart g).writes = b.writes := by
  have hroles := (b.assignRoles_rolesSet g).1
  refine ⟨Eq.trans ?_ (hroles.part (·.ports) fun _ _ _ => rfl), Eq.trans ?_ (hroles.part (·.writes) fun _ _ _ => rfl)⟩
  · exact condition_of (·.ports) (fun _ _ _ => rfl) (fun _ _ => rfl) ..
  · exact condition_writes ..

theorem beginStart_state (b : Block) (g : Nat) : ((b.assignRoles g).beginStart g).groupState g = gsSTARTING :=
  (rd_condition_of_ne _ _ _ _ _ _ (objKey_ne_of_sub_ne (by decide) (by decide) (by decide))).trans (rd_wr_self ..)

theorem startStep1_started (b : Block) {g : Nat} (hg : g < 64) : Started g b (b.startStep1 g) := by
  have hbegin := b.beginStart_keeps g
  have hgroup := b.beginStart_group g
  obtain ⟨hports, hwrites⟩ := b.beginStart_parts g
  have hstate := b.beginStart_state g
  have hlatched : ((b.assignRoles g).beginStart g).isPresent Src.GROUP_OV g = false := isPresent_condition ..
  have hkeeps := b.startShort_keeps hg
  have hshort := ((b.assignRoles g).beginStart g).startShort_shortened hg
  have hlt : ∀ p ∈ (b.assignRoles g).rolePorts g rlMEMBER, p < 512 := fun p hp => mem_rolePorts_lt hp
  rw [startStep1_eq]
  generalize (b.assignRoles g).rolePorts g rlMEMBER = phases, (b.assignRoles g).rolePorts g rlSPARE = spares,
    (b.assignRoles g).beginStart g = c at *
  generalize c.startShort g = d at *
  have hfired := d.resetPhases_shotsFired phases
  have hdgroup : d.group g = { (b.group g).begun b.glade.cycles phases spares with short := (d.group g).short, shortAt := (d.group g).shortAt } := by
    rw [hshort.group, hgroup, if_pos rfl]
  have hphases : ((d.resetPhases phases).group g).phases = phases := by
    rw [group_congr hfired.groupTab, hdgroup]
    rfl
  have htrain (p : Nat) : d.inTraining p = b.inTraining p := by
    have h1 : c.portState p = b.portState p := hbegin.rd_eq (objKey_notMem (0x3000 + p) (by decide) fun k hk h => beginObjects_sub hk (by simp [h]))
    have h2 : d.portState p = c.portState p := hkeeps.rd_eq (objKey_notMem (0x3000 + p) (by decide) fun k hk h => shortObjects_sub hk (by simp [h]))
    have h3 : d.port p = b.port p := by rw [port, hshort.ports, hports, port]
    rw [inTraining, inTraining, h2, h1, h3]
  refine ⟨?_, ?_, ?_, fun h hne => ?_, fun p hp hidle => ?_, ?_, hfired.writes.trans (hshort.writes.trans hwrites)⟩
  · have h1 : d.groupState g = c.groupState g := hkeeps.rd_eq (objKey_notMem (0x3A00 + g) (by decide) fun k hk h => shortObjects_sub hk (by simp [h]))
    exact (hfired.objects.rd_eq (groupState_notMem_recordObjects g)).trans (h1.trans hstate)
  · exact (congrArg (List.contains · (instKey Src.GROUP_OV g)) hfired.present).trans (hshort.latched.trans hlatched)
  · exact ⟨phases, spares, _, _, (group_congr hfired.groupTab g).trans hdgroup⟩
  · rw [group_congr hfired.groupTab, hshort.others h hne, hgroup, if_neg hne]
  · rw [hphases] at hp
    exact resetPhases_fires hp (hlt p hp) ((htrain p).trans hidle)
  · exact ((hbegin.mono (b.beginObjects_subset g)).trans (hkeeps.mono (b.shortObjects_subset g))).trans
      (hfired.objects.mono (b.recordObjects_subset g))

theorem groupStart_starts {b : Block} {g : Nat} (hstate : b.groupState g = gsSTOPPED ∨ b.groupState g = gsOV_LATCHED)
    (hports : b.groupPorts g ≠ []) (hgrave : b.inGrave = false) :
    b.groupStart g = if (b.groupPorts g).any (fun p => (b.port p).offUntil.isSome) then
      b.setGroup g { b.group g with waiting := true, result := 0, startAt := b.glade.cycles } else b.startStep1 g := by
  have hgo : ¬ ((b.groupState g ≠ gsSTOPPED ∧ b.groupState g ≠ gsOV_LATCHED) ∨ (b.groupPorts g).isEmpty ∨ b.inGrave) := by
    rintro (⟨hstopped, hlatched⟩ | hempty | hin)
    · exact hstate.elim hstopped hlatched
    · exact hports (List.isEmpty_iff.1 hempty)
    · exact Bool.false_ne_true (hgrave.symm.trans hin)
  unfold groupStart
  exact if_neg hgo

/-! ### Calibration and the reads after it (R181 steps 3 and 4) -/

/-- A read of a register waits on every port. -/
def readPorts (b : Block) (addr : Nat) (l : List Nat) : Block := l.foldl (fun b p => b.cfgRead p addr) b

theorem cfgRead_onPorts (b : Block) (p addr : Nat) : OnPorts [p] b (b.cfgRead p addr) := OnPorts.modPort b p _

theorem readPorts_onPorts (b : Block) (addr : Nat) (l : List Nat) : OnPorts l b (b.readPorts addr l) :=
  OnPorts.foldl (fun c p => cfgRead_onPorts c p addr) l b

/-- A read that did not wait already waits after it is called for. -/
theorem cfgRead_waits {b : Block} {p addr : Nat} (h : (b.port p).cfg.any (fun c => !c.write && c.addr == addr) = false) :
    ({ write := false, addr } : Cfg) ∈ ((b.cfgRead p addr).port p).cfg := by
  rw [cfgRead_eq, port_modPort_self, readQueue, h]
  simp

theorem readPorts_waits {b : Block} {addr p : Nat} {l : List Nat} (hp : p ∈ l) :
    ({ write := false, addr } : Cfg) ∈ ((b.readPorts addr l).port p).cfg ∨ (b.port p).cfg.any (fun c => !c.write && c.addr == addr) = true := by
  cases hany : (b.port p).cfg.any (fun c => !c.write && c.addr == addr) with
  | true => exact .inr rfl
  | false =>
    have hread {c : Block} (hc : ({ write := false, addr } : Cfg) ∈ (c.port p).cfg ∨ (c.port p).cfg = (b.port p).cfg) :
        ({ write := false, addr } : Cfg) ∈ ((c.cfgRead p addr).port p).cfg := by
      obtain hc | hc := hc
      · exact mem_cfgRead addr hc
      · exact cfgRead_waits (hc ▸ hany)
    refine .inl (foldl_makes (f := fun b p => b.cfgRead p addr)
      (I := fun c : Block => ({ write := false, addr } : Cfg) ∈ (c.port p).cfg ∨ (c.port p).cfg = (b.port p).cfg)
      (Q := fun c : Block => ({ write := false, addr } : Cfg) ∈ (c.port p).cfg) hp (fun c hc q _ => ?_) (fun c hc => hread hc)
      (fun c _ hc q _ => ?_) (.inr rfl))
    · by_cases hq : p = q
      · exact .inl (hq ▸ hread hc)
      · rwa [(cfgRead_onPorts c q addr).others p (by simpa using hq)]
    · by_cases hq : p = q
      · exact hq ▸ mem_cfgRead addr hc
      · rwa [(cfgRead_onPorts c q addr).others p (by simpa using hq)]

section

variable {b : Block} {g : Nat} (hstate : b.groupState g = gsSTARTING)
include hstate

theorem startAdvance_calibrated (hstep : (b.group g).step = 3) (hdone : b.shotsDone osZERO_CAL (b.group g).phases = true)
    (hok : b.shotsOk osZERO_CAL (b.group g).phases = true) : b.startAdvance g =
      (b.setGroup g { b.group g with step := 4 }).readPorts 0x36 ((b.group g).phases ++ (b.group g).spares) := by
  simp [startAdvance, hstate, hstep, hdone, hok, readPorts]

theorem startAdvance_uncalibrated (hstep : (b.group g).step = 3) (hdone : b.shotsDone osZERO_CAL (b.group g).phases = true)
    (hbad : b.shotsOk osZERO_CAL (b.group g).phases = false) : b.startAdvance g = b.startFail g Src.GROUP_START_FAIL := by
  simp [startAdvance, hstate, hstep, hdone, hbad]

theorem startAdvance_runs (hstep : (b.group g).step = 5)
    (hready : let sp : Int := (b.rd (Obj.GroupRecord.Setpoint g) * 1000 : Nat)
      b.groupClass g = 3 ∨ ((b.group g).veff = sp ∧ (b.group g).stale = 0 ∧ ((b.group g).fb - sp).natAbs * 50 ≤ sp.natAbs)) :
    b.startAdvance g = b.groupRunning g := by
  unfold startAdvance
  extract_lets x sp
  rw [if_neg (not_not.2 hstate), hstep]
  exact if_pos hready

theorem startTimeout_fails (hlong : (b.group g).startAt + b.rd (Obj.GroupRecord.StartTimeout g) ≤ b.glade.cycles) :
    b.startTimeout g = b.startFail g (if (b.group g).prebias then Src.PREBIAS_HIGH else Src.GROUP_START_FAIL) := by
  unfold startTimeout
  exact if_pos ⟨hstate, hlong⟩

end

/-! ### A port that was off long enough (R612) -/

theorem admitAfterOff_admits {b : Block} {p at' : Nat} (hoff : (b.port p).offUntil = some at') (hlate : at' ≤ b.glade.ticks + 1) :
    b.admitAfterOff p = if b.portState p = psIN_SERVICE then (b.modPort p fun x => { x with offUntil := none }).setPortState p psADMITTED
      else b.modPort p fun x => { x with offUntil := none } := by
  unfold admitAfterOff
  rw [hoff]
  exact if_pos hlate

end Block

/-! ### The commands -/

/-- What a start that fails leaves of the state. -/
def Failed (s : State) (g src : Nat) (t : State) : Prop := t.blk.groupState g = gsSTOPPED ∧ (t.blk.group g).step = 0 ∧ (t.blk.group g).result = 2 ∧
  t.blk.rd (Obj.GroupRecord.LastStartResult g) = Block.failCode src ∧ (∀ p ∈ s.blk.groupPorts g, (t.blk.port p).cmdN = [0, 0, 0, 0]) ∧
  ({ src := src, inst := g } : Report) ∈ t.blk.faults.reports ∧ KeepsObjects (stopObjects s.blk g) s t ∧
  (∀ h, h ≠ g → t.blk.group h = s.blk.group h) ∧ SameArrays s t

section

variable {s : State} {g : Nat} (hs : Settled s) (hg : g < 64)
include hs hg

theorem startFail_next {src : Nat} (f : Block → Block) (he : f s.blk = s.blk.startFail g src) :
    ∃ t, s.actOn (decide (g < 64)) .group g f = .next t ∧ Failed s g src t := by
  obtain ⟨hstate, hresult, hgroup, hports, hreport, hkeeps, hwrites⟩ := s.blk.startFail_fails g src
  generalize s.blk.startFail g src = c at *
  refine ⟨_, State.actOn_block (decide_eq_true hg) .group g f he (hwrites.trans hs), hstate, ?_, ?_, hresult, hports, hreport, hkeeps,
    fun h hne => (hgroup h).trans (if_neg hne), rfl, rfl, rfl⟩
  · exact congrArg Group.step ((hgroup g).trans (if_pos rfl))
  · exact congrArg Group.result ((hgroup g).trans (if_pos rfl))

theorem groupRunning_next (f : Block → Block) (he : f s.blk = s.blk.groupRunning g) : ∃ t, s.actOn (decide (g < 64)) .group g f = .next t ∧
    t.blk.groupState g = gsRUNNING ∧ t.blk.rd (Obj.GroupRecord.LastStartResult g) = 1 ∧
    t.blk.group g = { s.blk.group g with step := 0, result := 1 } ∧
    (s.blk.groupClass g = 1 → s.blk.holdupState = huSTOPPED → t.blk.holdupState = huMAINS) ∧
    (∀ n, s.blk.groupString g = some n → n < 16 → t.blk.stringMode n = smREST) ∧ KeepsObjects (stopObjects s.blk g) s t ∧
    (∀ h, h ≠ g → t.blk.group h = s.blk.group h) ∧ SameArrays s t := by
  obtain ⟨hstate, hresult, hgroup, hmains, hmode, hkeeps, hwrites⟩ := s.blk.groupRunning_running g
  generalize s.blk.groupRunning g = c at *
  exact ⟨_, State.actOn_block (decide_eq_true hg) .group g f he (hwrites.trans hs), hstate, hresult, (hgroup g).trans (if_pos rfl), hmains,
    fun n hn _ => hmode n hn, hkeeps, fun h hne => (hgroup h).trans (if_neg hne), rfl, rfl, rfl⟩

section

variable (hstate : s.blk.groupState g = gsSTOPPED ∨ s.blk.groupState g = gsOV_LATCHED) (hports : s.blk.groupPorts g ≠ [])
  (hgrave : s.blk.inGrave = false)
include hstate hports hgrave

/-- A start waits while a port of the group still carries its MODE OFF (R612). -/
theorem groupStart_waits (hoff : (s.blk.groupPorts g).any (fun p => (s.blk.port p).offUntil.isSome) = true) : ∃ t,
    exec (.groupStart g) s = .next t ∧ t.blk.group g = { s.blk.group g with waiting := true, result := 0, startAt := s.blk.glade.cycles } ∧
      t.blk = { s.blk with groupTab := t.blk.groupTab } ∧ (∀ h, h ≠ g → t.blk.group h = s.blk.group h) ∧ SameArrays s t :=
  ⟨_, State.actOn_block (decide_eq_true hg) .group g (·.groupStart g)
      ((Block.groupStart_starts hstate hports hgrave).trans (if_pos hoff)) hs, Block.group_setGroup_self .., rfl,
    fun _ hne => (Block.group_setGroup ..).trans (if_neg hne), rfl, rfl, rfl⟩

/-- Otherwise the group is STARTING at step 1 (R181). -/
theorem groupStart_next (hoff : (s.blk.groupPorts g).any (fun p => (s.blk.port p).offUntil.isSome) = false) : ∃ t,
    exec (.groupStart g) s = .next t ∧ Block.Started g s.blk t.blk ∧ SameArrays s t := by
  have hstarted := s.blk.startStep1_started hg
  have he := (Block.groupStart_starts hstate hports hgrave).trans (if_neg (Bool.eq_false_iff.1 hoff))
  generalize s.blk.startStep1 g = c at *
  exact ⟨_, State.actOn_block (decide_eq_true hg) .group g (·.groupStart g) he (hstarted.writes.trans hs), hstarted, rfl, rfl, rfl⟩

end

/-- With every ZERO_CAL done, step 4 begins with a read of register 0x36 of each phase and spare (R181). -/
theorem startAdvance_reads (hstate : s.blk.groupState g = gsSTARTING) (hstep : (s.blk.group g).step = 3)
    (hdone : s.blk.shotsDone osZERO_CAL (s.blk.group g).phases = true) (hok : s.blk.shotsOk osZERO_CAL (s.blk.group g).phases = true) :
    ∃ t, exec (.groupStartAdvance g) s = .next t ∧ t.blk.group g = { s.blk.group g with step := 4 } ∧
      (∀ p ∈ (s.blk.group g).phases ++ (s.blk.group g).spares, ({ write := false, addr := 0x36 } : Cfg) ∈ (t.blk.port p).cfg ∨
        (s.blk.port p).cfg.any (fun c => !c.write && c.addr == 0x36) = true) ∧
      (∀ p, p ∉ (s.blk.group g).phases ++ (s.blk.group g).spares → t.blk.port p = s.blk.port p) ∧
      t.blk = { s.blk with groupTab := t.blk.groupTab, ports := t.blk.ports } ∧ (∀ h, h ≠ g → t.blk.group h = s.blk.group h) ∧ SameArrays s t := by
  have he := Block.startAdvance_calibrated hstate hstep hdone hok
  have hgroup := s.blk.group_setGroup g (x := { s.blk.group g with step := 4 })
  have hreads := (s.blk.setGroup g { s.blk.group g with step := 4 }).readPorts_onPorts 0x36 ((s.blk.group g).phases ++ (s.blk.group g).spares)
  have hwaits := fun p (hp : p ∈ (s.blk.group g).phases ++ (s.blk.group g).spares) =>
    Block.readPorts_waits (b := s.blk.setGroup g { s.blk.group g with step := 4 }) (addr := 0x36) hp
  generalize (s.blk.setGroup g { s.blk.group g with step := 4 }).readPorts 0x36 ((s.blk.group g).phases ++ (s.blk.group g).spares) = c at *
  have htab := hreads.part (·.groupTab) fun _ _ => rfl
  refine ⟨_, State.actOn_block (decide_eq_true hg) .group g (·.startAdvance g) he ((hreads.part (·.writes) fun _ _ => rfl).trans hs), ?_,
    hwaits, hreads.others, ?_, fun h hne => ?_, rfl, rfl, rfl⟩
  · exact ((Block.group_congr htab g).trans (hgroup g)).trans (if_pos rfl)
  · rw [htab]
    exact hreads.parts
  · exact ((Block.group_congr htab h).trans (hgroup h)).trans (if_neg hne)

end

/-- A port in service that was off for its 32 ticks is ADMITTED (R612). -/
theorem portAdmitAfterOff_next {s : State} {p at' : Nat} (hs : Settled s) (hp : p < 512) (hoff : (s.blk.port p).offUntil = some at')
    (hlate : at' ≤ s.blk.glade.ticks + 1) : ∃ t, exec (.portAdmitAfterOff p) s = .next t ∧
      t.blk.port p = { s.blk.port p with offUntil := none } ∧
      t.blk.portState p = (if s.blk.portState p = psIN_SERVICE then psADMITTED else s.blk.portState p) ∧
      (∀ q, q ≠ p → t.blk.port q = s.blk.port q) ∧ KeepsObjects [Obj.PortRecord.PortState p] s t ∧
      t.blk = { s.blk with ports := t.blk.ports, dict := t.blk.dict, wimg := t.blk.wimg } ∧ SameArrays s t := by
  have he := Block.admitAfterOff_admits hoff hlate
  have hported := Block.OnPorts.modPort s.blk p (fun x => { x with offUntil := none })
  have hself := s.blk.port_modPort_self p (fun x => { x with offUntil := none })
  have hothers := fun q (hq : q ≠ p) => hported.others q (by simpa using hq)
  by_cases hserves : s.blk.portState p = psIN_SERVICE
  · rw [if_pos hserves] at he
    refine ⟨_, State.actOn_block (decide_eq_true hp) .port p (·.admitAfterOff p) he ((Block.setPortState_writes ..).trans hs), ?_, ?_,
      fun q hq => ?_, hported.keeps.setPortState p _ (List.mem_singleton_self _), rfl, rfl, rfl, rfl⟩
    · exact (Block.setPortState_port ..).trans hself
    · exact (Block.portState_setPortState ..).trans (if_pos hserves).symm
    · exact (Block.setPortState_port ..).trans (hothers q hq)
  · rw [if_neg hserves] at he
    exact ⟨_, State.actOn_block (decide_eq_true hp) .port p (·.admitAfterOff p) he hs, hself, (if_neg hserves).symm, hothers, hported.keeps,
      rfl, rfl, rfl, rfl⟩

/-- Settles O34: the first step by `startStep1_started`, calibration by `startAdvance_reads`, RUNNING by `groupRunning_running`, every
failure by `startFail_fails`. -/
theorem groupsStartStepByStepAndStop : Obligations.GroupsStartStepByStepAndStop := by
  unfold Obligations.GroupsStartStepByStepAndStop
  refine ⟨fun s g hs hg => ⟨fun hstate hports hgrave => ⟨groupStart_waits hs hg hstate hports hgrave, fun hoff => ?_⟩,
    fun hstate hstep hdone => ⟨startAdvance_reads hs hg hstate hstep hdone, fun hbad => ?_⟩, fun hstate hstep hready => ?_,
    fun hstate hlong => ?_⟩, fun s p at' hs hp => portAdmitAfterOff_next hs hp⟩
  · obtain ⟨t, ht, hstarted, hsame⟩ := groupStart_next hs hg hstate hports hgrave hoff
    obtain ⟨phases, spares, short, at', hgroup⟩ := hstarted.group
    refine ⟨t, ht, hstarted.state, hstarted.latched, ?_, ?_, ?_, ?_, ?_, ?_, ?_, hstarted.fired, hstarted.objects, hstarted.others, hsame⟩ <;>
      rw [hgroup] <;> rfl
  · exact startFail_next hs hg (·.startAdvance g) (Block.startAdvance_uncalibrated hstate hstep hdone hbad)
  · exact groupRunning_next hs hg (·.startAdvance g) (Block.startAdvance_runs hstate hstep hready)
  · exact startFail_next hs hg (·.startTimeout g) (Block.startTimeout_fails hstate hlong)

end Sys2Proof.Machine
end

section
/-! PROOFS. MEAS_LOCAL does not outlast the delivery of the standby's own results where a string that is lost with it stops a group whose
number no record has (R183, R198, R261). -/

namespace Sys2Proof.Machine

open Sys2Proof.Safety

namespace Block

/-! ### Conditions that end, and conditions with other keys -/

/-- The end of a condition, and the appearance of one with another key, make no absent condition present. -/
theorem condition_leaves_absent {b : Block} {src inst : Nat} (h : b.isPresent src inst = false) {src' inst' : Nat} {p : Bool}
    (hp : p = true → instKey src inst ≠ instKey src' inst') (d : List Int) : (b.condition src' inst' p d).isPresent src inst = false := by
  obtain ⟨-, he⟩ | ⟨hon, -, -, -⟩ | ⟨-, -, -, hpresent⟩ := b.condition_cases src' inst' p d
  · rwa [he]
  · rwa [isPresent_condition_of_ne b (hp hon)]
  · rw [isPresent, hpresent]
    rw [isPresent, List.contains_eq_mem, decide_eq_false_iff_not] at h
    simp [h]

theorem condition_end_leaves_absent {b : Block} {src inst : Nat} (h : b.isPresent src inst = false) (src' inst' : Nat) :
    (b.condition src' inst' false).isPresent src inst = false :=
  condition_leaves_absent h (fun e => absurd e Bool.false_ne_true) []

theorem isPresent_congr {b c : Block} (h : c.faults.present = b.faults.present) (src inst : Nat) : c.isPresent src inst = b.isPresent src inst := by
  rw [isPresent, h, isPresent]

/-- Conditions with one key are present together. -/
theorem isPresent_of_key {b : Block} {src inst src' inst' : Nat} (h : instKey src inst = instKey src' inst') :
    b.isPresent src inst = b.isPresent src' inst' := by
  rw [isPresent, h, isPresent]

/-- Of the conditions present, a stop leaves those that its four conditions leave. -/
theorem groupStop_isPresent (b : Block) (g state src inst : Nat) : ∃ c : Block, c.faults = b.faults ∧
    (b.groupStop g state).isPresent src inst = (c.stopConditions g (state == gsOV_LATCHED)).isPresent src inst := by
  refine ⟨(b.groupEmptied g).wrs (stopValues g state), ?_, ?_⟩
  · rw [wrs_faults, groupEmptied, setGroup_faults]
    exact (b.groupOff_onPorts g).part (·.faults) fun _ _ => rfl
  · have hstring (c : Block) : (c.stringOff g).faults = c.faults := by
      unfold stringOff
      split <;> rfl
    have hholdup (c : Block) : (c.holdupStops g).faults = c.faults := by
      unfold holdupStops
      split <;> rfl
    rw [groupStop_eq]
    exact isPresent_congr (congrArg Faults.present ((hholdup _).trans (hstring _))) src inst

/-- A stop into STOPPED makes no absent condition present. -/
theorem groupStop_leaves_absent {b : Block} {src inst : Nat} (h : b.isPresent src inst = false) (g : Nat) :
    (b.groupStop g gsSTOPPED).isPresent src inst = false := by
  obtain ⟨c, hfaults, he⟩ := b.groupStop_isPresent g gsSTOPPED src inst
  have hc : c.isPresent src inst = false := (isPresent_congr (congrArg Faults.present hfaults) src inst).trans h
  have hlost := condition_end_leaves_absent hc Src.GROUP_SENSE_LOST g
  rw [he]
  exact condition_end_leaves_absent (condition_end_leaves_absent (condition_end_leaves_absent hlost _ _) _ _) _ _

/-- A stop into STOPPED ends GROUP_SENSE_LOST of its group (R183). -/
theorem groupStop_ends_senseLost (b : Block) (g : Nat) : (b.groupStop g gsSTOPPED).isPresent Src.GROUP_SENSE_LOST g = false := by
  obtain ⟨c, -, he⟩ := b.groupStop_isPresent g gsSTOPPED Src.GROUP_SENSE_LOST g
  have hlost := isPresent_condition c Src.GROUP_SENSE_LOST g false []
  rw [he]
  exact condition_end_leaves_absent (condition_end_leaves_absent (condition_end_leaves_absent hlost _ _) _ _) _ _

/-! ### A string's presence is lost (R261, R262) -/

/-- What the loss of string `n` shows before its group stops. -/
def lossShown (b : Block) (n v : Nat) : Block :=
  let old := b.rd (Obj.StringRecord.Presence n)
  let x := b.bat n
  let c := b.setBat n { x with inBand := 0, absentSeen := x.absentSeen || decide (v = prABSENT), startWanted := false }
  let c := c.wrs [(Obj.StringRecord.Presence n, v), (Obj.StringRecord.Temperature n, 0x8000)]
  let c := if old = prPRESENT then c.condition Src.STRING_ABSENT n true else c
  (((c.condition Src.STRING_THERM_SHORT n (v == prTHERM_SHORT)).stringEvent n 5).abandonTest n).showInhibit n

/-- The group of string `n`, whose Presence was `old`, stops where it had started. -/
def stopsWith (b : Block) (n old : Nat) : Block :=
  match b.stringGroup n with
  | some g => if old = prPRESENT ∧ (b.groupState g = gsRUNNING ∨ b.groupState g = gsSTARTING) then b.groupStop g gsSTOPPED else b
  | none => b

theorem presenceLost_eq {b : Block} {n v : Nat} (h : b.rd (Obj.StringRecord.Presence n) ≠ v) :
    b.presenceLost n v = ((((b.lossShown n v).stopsWith n (b.rd (Obj.StringRecord.Presence n))).leaveSet n).storeString n) := by
  unfold presenceLost
  extract_lets old x c1 c2 c3 c4 c5 c6
  have h5 : c5 = b.lossShown n v := rfl
  have h6 : c6 = c5.stopsWith n old := by
    unfold c6 stopsWith
    cases c5.stringGroup n <;> rfl
  rw [if_neg h, h6, h5]

theorem presenceLost_faults_of_same {b : Block} {n v : Nat} (h : b.rd (Obj.StringRecord.Presence n) = v) :
    (b.presenceLost n v).faults = b.faults := by
  unfold presenceLost
  extract_lets old x c1 c2 c3 c4 c5 c6
  rw [if_pos h]
  rfl

theorem stringEvent_faults (b : Block) (n bit : Nat) : (b.stringEvent n bit).faults = b.faults := by
  unfold stringEvent
  split <;> rfl

theorem abandonTest_faults (b : Block) (n : Nat) : (b.abandonTest n).faults = b.faults := by
  unfold abandonTest
  split
  · dsimp only
    split <;> rfl
  · rfl

theorem showInhibit_faults (b : Block) (n : Nat) : (b.showInhibit n).faults = b.faults := by
  unfold showInhibit
  dsimp only
  split <;> rfl

theorem leaveSet_faults (b : Block) (n : Nat) : (b.leaveSet n).faults = b.faults := by
  unfold leaveSet
  dsimp only
  split
  · rw [wr_faults, wrs_faults, setBat_faults]
  · rw [wrs_faults, setBat_faults]

theorem storeString_present (b : Block) (n : Nat) : (b.storeString n).faults.present = b.faults.present := by
  unfold storeString storeSet
  dsimp only
  split
  · split <;> rfl
  · rfl

/-- The store and the support set hold no condition. -/
theorem leave_store_isPresent (b : Block) (n src inst : Nat) : ((b.leaveSet n).storeString n).isPresent src inst = b.isPresent src inst :=
  isPresent_congr ((storeString_present ..).trans (congrArg Faults.present (b.leaveSet_faults n))) src inst

/-- What is shown of a loss makes MEAS_LOCAL not present. -/
theorem lossShown_leaves_absent {b : Block} (h : b.isPresent Src.MEAS_LOCAL 0 = false) (n v : Nat) :
    (b.lossShown n v).isPresent Src.MEAS_LOCAL 0 = false := by
  have hkey {src : Nat} (hsrc : Src.MEAS_LOCAL < src) : instKey Src.MEAS_LOCAL 0 ≠ instKey src n := by
    unfold instKey
    omega
  unfold lossShown
  extract_lets old x c1 c2 c3
  have h2 : c2.isPresent Src.MEAS_LOCAL 0 = false :=
    (isPresent_congr (congrArg Faults.present (wrs_faults c1 _)) _ _).trans h
  have h3 : c3.isPresent Src.MEAS_LOCAL 0 = false := by
    unfold c3
    split
    · exact condition_leaves_absent h2 (fun _ => hkey (by decide)) []
    · exact h2
  rw [isPresent_congr (congrArg Faults.present ((showInhibit_faults _ n).trans ((abandonTest_faults _ n).trans (stringEvent_faults _ n 5))))]
  exact condition_leaves_absent h3 (fun _ => hkey (by decide)) []

theorem stopsWith_leaves_absent {b : Block} {src inst : Nat} (h : b.isPresent src inst = false) (n old : Nat) :
    (b.stopsWith n old).isPresent src inst = false := by
  unfold stopsWith
  split
  · split
    · exact groupStop_leaves_absent h _
    · exact h
  · exact h

theorem presenceLost_leaves_absent {b : Block} (h : b.isPresent Src.MEAS_LOCAL 0 = false) (n v : Nat) :
    (b.presenceLost n v).isPresent Src.MEAS_LOCAL 0 = false := by
  by_cases hold : b.rd (Obj.StringRecord.Presence n) = v
  · exact (isPresent_congr (congrArg Faults.present (presenceLost_faults_of_same hold)) _ _).trans h
  · rw [presenceLost_eq hold]
    exact (leave_store_isPresent ..).trans (stopsWith_leaves_absent (lossShown_leaves_absent h n v) n _)

/-- The objects that are shown of a loss. -/
def lossObjects (n : Nat) : List Nat :=
  [Obj.StringRecord.Presence n, Obj.StringRecord.Temperature n, Obj.StringRecord.TestStatus n, Obj.StringRecord.Mode n,
    Obj.StringRecord.Inhibit n, Obj.SourceConfig.PresentInstances Src.STRING_ABSENT, Obj.SourceConfig.PresentInstances Src.STRING_THERM_SHORT]

theorem lossShown_keeps (b : Block) (n v : Nat) : Keeps (lossObjects n) b (b.lossShown n v) := by
  unfold lossShown
  extract_lets old x c1 c2 c3
  have h1 : Keeps (lossObjects n) b c1 := Keeps.of_images rfl rfl
  have h2 : Keeps (lossObjects n) b c2 := h1.wrs _ (by simp [lossObjects])
  have h3 : Keeps (lossObjects n) b c3 := by
    unfold c3
    split
    · exact h2.condition _ _ _ _ _ (by simp [lossObjects])
    · exact h2
  have h4 := h3.condition Src.STRING_THERM_SHORT n (v == prTHERM_SHORT) [] false (by simp [lossObjects])
  have hevent (c : Block) : Keeps (lossObjects n) c (c.stringEvent n 5) := by
    unfold stringEvent
    split <;> exact Keeps.of_images rfl rfl
  have htest (c : Block) : Keeps (lossObjects n) c (c.abandonTest n) := by
    unfold abandonTest
    split
    · extract_lets x d
      have hended : Keeps (lossObjects n) c (c.wr (Obj.StringRecord.TestStatus n) 4) := (Keeps.refl c).wr _ (by simp [lossObjects])
      have hd : Keeps (lossObjects n) c d := hended.trans (Keeps.of_images rfl rfl)
      split
      · exact hd.wr _ (by simp [lossObjects])
      · exact hd
    · exact Keeps.refl c
  have hinhibit (c : Block) : Keeps (lossObjects n) c (c.showInhibit n) := by
    unfold showInhibit
    extract_lets bits
    split
    · exact Keeps.refl c
    · exact (Keeps.refl c).wr _ (by simp [lossObjects])
  exact ((h4.trans (hevent _)).trans (htest _)).trans (hinhibit _)

theorem lossShown_groupState (b : Block) (n v g : Nat) : (b.lossShown n v).groupState g = b.groupState g := by
  refine (b.lossShown_keeps n v).rd_eq (objKey_notMem _ (by decide) ?_)
  simp [lossObjects, Obj.StringRecord.Presence, Obj.StringRecord.Temperature, Obj.StringRecord.TestStatus, Obj.StringRecord.Mode,
    Obj.StringRecord.Inhibit, Obj.SourceConfig.PresentInstances, objKey_mod]

/-! ### A delivery of a string's results (R261) -/

/-- An object of a string takes the value of channel `ch`, where that is valid. -/
def takeValue (b : Block) (key ch : Nat) : Block := if ch < 64 ∧ b.valid ch then b.wrI 32 key (b.value ch) else b

/-- String `n` takes its voltage and its current. -/
def takeValues (b : Block) (n : Nat) : Block :=
  let c := b.takeValue (Obj.StringRecord.Voltage n) (b.rd (Obj.StringRecord.VoltageChannel n))
  c.takeValue (Obj.StringRecord.Current n) (c.rd (Obj.StringRecord.CurrentChannel n))

theorem takeValue_faults (b : Block) (key ch : Nat) : (b.takeValue key ch).faults = b.faults := by
  unfold takeValue
  split <;> rfl

theorem takeValues_faults (b : Block) (n : Nat) : (b.takeValues n).faults = b.faults :=
  (takeValue_faults ..).trans (takeValue_faults ..)

theorem takeValue_keeps {named : List Nat} (b : Block) {key : Nat} (hk : key ∈ named) (ch : Nat) : Keeps named b (b.takeValue key ch) := by
  unfold takeValue
  split
  · exact (Keeps.refl b).wr _ hk
  · exact Keeps.refl b

theorem takeValues_keeps (b : Block) (n : Nat) : Keeps [Obj.StringRecord.Voltage n, Obj.StringRecord.Current n] b (b.takeValues n) :=
  (takeValue_keeps b (by simp) _).trans (takeValue_keeps _ (by simp) _)

theorem thermistor_faults (b : Block) (n : Nat) (v : Int) : (b.thermistor n v).2.faults = b.faults := by
  unfold thermistor
  extract_lets bias up nom top low inv
  split <;> rfl

/-- A string's results change nothing of the fault collector, or its presence is lost. -/
theorem stringResults_cases (b : Block) (n : Nat) : (b.stringResults n).faults = b.faults ∨
    ∃ v, b.stringResults n = (b.takeValues n).presenceLost n v := by
  unfold stringResults
  split
  · exact .inl rfl
  · extract_lets take b1 b2 c v fl b3 t
    have hfaults : b2.faults = b.faults := b.takeValues_faults n
    split
    · exact .inl hfaults
    · split
      · exact .inr ⟨_, rfl⟩
      · split
        · exact .inl hfaults
        · split
          · exact .inr ⟨_, rfl⟩
          · split
            · exact .inl ((wrI_faults ..).trans ((thermistor_faults ..).trans hfaults))
            · exact .inl hfaults

/-- An open thermistor makes the string ABSENT (R261). -/
theorem stringResults_open {b : Block} {n : Nat} (hon : b.stringOn n = true)
    (hch : (b.takeValues n).rd (Obj.StringRecord.ThermChannel n) < 64)
    (hopen : ((b.takeValues n).rd (Obj.StringRecord.ThermOpenLevel n) : Int) <
      (b.takeValues n).value ((b.takeValues n).rd (Obj.StringRecord.ThermChannel n))) :
    b.stringResults n = (b.takeValues n).presenceLost n prABSENT := by
  unfold stringResults
  rw [hon]
  exact (if_neg (Nat.not_le.2 hch)).trans (if_pos (.inr hopen))

theorem stringResults_leaves_absent {b : Block} (h : b.isPresent Src.MEAS_LOCAL 0 = false) (n : Nat) :
    (b.stringResults n).isPresent Src.MEAS_LOCAL 0 = false := by
  obtain he | ⟨v, he⟩ := b.stringResults_cases n
  · exact (isPresent_congr (congrArg Faults.present he) _ _).trans h
  · rw [he]
    exact presenceLost_leaves_absent ((isPresent_congr (congrArg Faults.present (b.takeValues_faults n)) _ _).trans h) n v

theorem cellCheck_leaves_absent {b : Block} (h : b.isPresent Src.MEAS_LOCAL 0 = false) : b.cellCheck.isPresent Src.MEAS_LOCAL 0 = false := by
  unfold cellCheck
  split
  · extract_lets low
    refine condition_leaves_absent ?_ (fun _ => by decide) []
    split <;> exact h
  · exact h

/-! ### A string whose group no record has -/

/-- The group number whose key of GROUP_SENSE_LOST is the key of MEAS_LOCAL. -/
def strayGroup : Nat := 0xD0000

theorem instKey_strayGroup : instKey Src.GROUP_SENSE_LOST strayGroup = instKey Src.MEAS_LOCAL 0 := by decide

/-- String 0 is PRESENT, and its thermistor reads open; its port, port 0, names a group that runs under a number no record has. -/
structure Stray (b : Block) : Prop where
  cls : b.classOf 0 = 3
  group : b.groupOf 0 = strayGroup
  member : b.memberOf 0 = 0
  runs : b.groupState strayGroup = gsRUNNING
  present : b.rd (Obj.StringRecord.Presence 0) = prPRESENT
  channel : b.rd (Obj.StringRecord.ThermChannel 0) = 0
  reads : (b.rd (Obj.StringRecord.ThermOpenLevel 0) : Int) < b.value 0

/-- The first port is the first of its string. -/
theorem stringGroup_of_first {b : Block} {n : Nat} (hclass : b.classOf 0 = 3) (hmember : b.memberOf 0 = n) :
    b.stringGroup n = some (b.groupOf 0) := by
  have hports : allPorts = 0 :: (List.range 511).map Nat.succ := List.range_succ_eq_map
  rw [stringGroup, stringPorts, hports, List.filter_cons_of_pos (by simp [hclass, hmember])]
  rfl

/-- The sub-indices of the objects that `Stray` speaks of. -/
def straySubs : List Nat := [1, 3, 4, 0x0C, 0x12, 0x1E, 0x40]

theorem Keeps.rd_sub {named : List Nat} {b c : Block} (h : Keeps named b c) {subs : List Nat} (hn : ∀ k ∈ named, k % 256 ∉ subs) (index : Nat)
    {sub : Nat} (hlt : sub < 256) (hsub : sub ∈ subs) : c.rd (objKey index sub) = b.rd (objKey index sub) :=
  h.rd_eq (objKey_notMem index hlt fun k hk e => hn k hk (e ▸ hsub))

theorem Stray.keeps {named : List Nat} {b c : Block} (hb : Stray b) (h : Keeps named b c)
    (hn : ∀ k ∈ named, k % 256 ∉ straySubs) : Stray c := by
  obtain ⟨hclass, hgroup, hmember⟩ := h.wiring (fun k hk hsub => hn k hk ((by decide : [1, 3, 4] ⊆ straySubs) hsub)) 0
  have hrd (index : Nat) {sub : Nat} (hlt : sub < 256) (hsub : sub ∈ straySubs) := h.rd_sub hn index hlt hsub
  exact {
    cls := hclass.trans hb.cls
    group := hgroup.trans hb.group
    member := hmember.trans hb.member
    runs := (hrd _ (by decide) (by decide)).trans hb.runs
    present := (hrd _ (by decide) (by decide)).trans hb.present
    channel := (hrd _ (by decide) (by decide)).trans hb.channel
    reads := by
      have hopen : c.rd (Obj.StringRecord.ThermOpenLevel 0) = b.rd (Obj.StringRecord.ThermOpenLevel 0) := hrd _ (by decide) (by decide)
      have hvalue : c.value 0 = b.value 0 := congrArg (toI 32) (hrd _ (by decide) (by decide))
      rw [hopen, hvalue]
      exact hb.reads }

theorem Stray.stringOn {b : Block} (hb : Stray b) : b.stringOn 0 = true := by
  have hgroup := stringGroup_of_first hb.cls hb.member
  rw [Block.stringOn]
  cases hports : b.stringPorts 0 with
  | nil => simp [stringGroup, hports] at hgroup
  | cons p r => rfl

/-- The group of a string whose port was the first runs: it stops with the string that was PRESENT. -/
theorem stopsWith_stops {b : Block} {n g : Nat} (hgroup : b.stringGroup n = some g) (hruns : b.groupState g = gsRUNNING) :
    b.stopsWith n prPRESENT = b.groupStop g gsSTOPPED := by
  unfold stopsWith
  rw [hgroup]
  exact if_pos ⟨rfl, .inl hruns⟩

/-- The loss of the string stops the stray group, and so ends MEAS_LOCAL. -/
theorem Stray.presenceLost_ends_local {b : Block} (hb : Stray b) : (b.presenceLost 0 prABSENT).isPresent Src.MEAS_LOCAL 0 = false := by
  have hold : b.rd (Obj.StringRecord.Presence 0) ≠ prABSENT := by
    rw [hb.present]
    decide
  have hshown := b.lossShown_keeps 0 prABSENT
  obtain ⟨hclass, hgroup, hmember⟩ := hshown.wiring (by decide) 0
  have hnames : (b.lossShown 0 prABSENT).stringGroup 0 = some strayGroup := by
    rw [stringGroup_of_first (hclass.trans hb.cls) (hmember.trans hb.member), hgroup, hb.group]
  have hruns := (b.lossShown_groupState 0 prABSENT strayGroup).trans hb.runs
  rw [presenceLost_eq hold, hb.present, stopsWith_stops hnames hruns]
  calc _ = ((b.lossShown 0 prABSENT).groupStop strayGroup gsSTOPPED).isPresent Src.MEAS_LOCAL 0 := leave_store_isPresent ..
    _ = ((b.lossShown 0 prABSENT).groupStop strayGroup gsSTOPPED).isPresent Src.GROUP_SENSE_LOST strayGroup :=
      isPresent_of_key instKey_strayGroup.symm
    _ = false := groupStop_ends_senseLost ..

theorem Stray.stringResults_ends_local {b : Block} (hb : Stray b) : (b.stringResults 0).isPresent Src.MEAS_LOCAL 0 = false := by
  have htaken : Stray (b.takeValues 0) := hb.keeps (b.takeValues_keeps 0) (by decide)
  rw [stringResults_open hb.stringOn (by rw [htaken.channel]; decide) (by rw [htaken.channel]; exact htaken.reads)]
  exact htaken.presenceLost_ends_local

/-- After the delivery MEAS_LOCAL is not present: string 0 comes first, and no other string makes it present again. -/
theorem Stray.resultsDelivered_ends_local {b : Block} (hb : Stray b) : b.resultsDelivered.isPresent Src.MEAS_LOCAL 0 = false := by
  have hstrings : List.range 16 = 0 :: (List.range 15).map Nat.succ := List.range_succ_eq_map
  rw [resultsDelivered, hstrings, List.filter_cons_of_pos hb.stringOn, List.foldl_cons]
  exact cellCheck_leaves_absent (List.foldlRecOn (motive := fun c : Block => c.isPresent Src.MEAS_LOCAL 0 = false) _ _ hb.stringResults_ends_local
    fun c hc n _ => stringResults_leaves_absent hc n)

/-! ### The standby's own results, every channel in calibration (R198, R201) -/

/-- The objects of channel `c` that a delivery shows while the channel is in calibration. -/
def calResultObjects (c : Nat) : List Nat :=
  [Obj.Channel.Flags c, Obj.Channel.ResultEpoch c, Obj.Channel.ResultCycle c, Obj.Channel.AvgSum c, Obj.Channel.Average c,
    Obj.Channel.AvgValue c, Obj.Channel.AvgCycle c, Obj.Channel.AvgDiscarded c]

theorem engValue_images (b : Block) (c range : Nat) (x : Int) :
    (b.engValue c range x).2.dict = b.dict ∧ (b.engValue c range x).2.wimg = b.wimg ∧ (b.engValue c range x).2.meas = b.meas := by
  unfold engValue
  split <;> exact ⟨rfl, rfl, rfl⟩

theorem average_keeps (b : Block) (w : Window72) (c : Nat) (x : Int) (ok : Bool) :
    Keeps (calResultObjects c) b (b.average w c x ok) ∧ (b.average w c x ok).meas.ownFlags = b.meas.ownFlags := by
  unfold average
  extract_lets k a1 a2 a3 good b1 fl mean v
  have hset (a : Avg) : Keeps (calResultObjects c) b (b.setAvg c a) := Keeps.of_images rfl rfl
  obtain ⟨hdict, hwimg, hmeas⟩ := b1.engValue_images c (w.ranges.getD c 0) mean
  split
  · exact ⟨hset _, rfl⟩
  · split
    · refine ⟨?_, (congrArg Meas.ownFlags hmeas : v.2.meas.ownFlags = b1.meas.ownFlags)⟩
      have hv : Keeps (calResultObjects c) b v.2 := (hset _).trans (Keeps.of_images hdict hwimg)
      exact ((((hv.wr _ (by simp [calResultObjects])).wr _ (by simp [calResultObjects])).wr _ (by simp [calResultObjects])).wr _
        (by simp [calResultObjects])).wr _ (by simp [calResultObjects])
    · exact ⟨((hset _).wr _ (by simp [calResultObjects])).wr _ (by simp [calResultObjects]), rfl⟩

/-- A channel in calibration keeps its Result and its Value (R201). -/
theorem deliver_keeps_of_cal (b : Block) (w : Window72) (c : Nat) (x : Int) {fl : Nat} (h : bitOf fl mfCAL = true) :
    Keeps (calResultObjects c) b (b.deliver w c x fl) ∧ (b.deliver w c x fl).meas.ownFlags = b.meas.ownFlags := by
  unfold deliver
  extract_lets keep avgOk b1 v b2
  have h1 : Keeps (calResultObjects c) b b1 := (Keeps.refl b).wrs _ (by simp [calResultObjects])
  have h2 : b2 = b1 := if_pos h
  obtain ⟨havg, hown⟩ := b2.average_keeps w c x (bitOf fl mfVALID)
  rw [h2] at havg hown ⊢
  exact ⟨h1.trans havg, hown.trans (congrArg Meas.ownFlags (wrs_meas ..))⟩

/-- The objects that the checks on the internal channels may change. -/
def checkObjects : List Nat :=
  Obj.Channel.RefState :: [Src.REF_FAULT, Src.GROUND_CHECK_FAIL, Src.DIE_TEMP_HIGH].map Obj.SourceConfig.PresentInstances

theorem internalChecks_keeps (b : Block) : Keeps checkObjects b b.internalChecks := by
  have href (c : Block) : Keeps checkObjects c c.refFault := by
    unfold refFault
    split
    · exact Keeps.refl c
    · exact (Keeps.trans (Keeps.of_images rfl rfl) ((Keeps.refl _).wr _ (by simp [checkObjects]))).condition _ _ _ _ _ (by simp [checkObjects])
  unfold internalChecks
  extract_lets v bad n m b1 b2 b3 hot
  have h1 : Keeps checkObjects b b1 := Keeps.of_images rfl rfl
  have h2 : Keeps checkObjects b b2 := by
    unfold b2
    split
    · exact h1.trans (href b1)
    · exact h1
  have h3 : Keeps checkObjects b b3 := by
    unfold b3
    split
    · exact h2.condition _ _ _ _ _ (by simp [checkObjects])
    · exact h2
  split
  · exact h3.condition _ _ _ _ _ (by simp [checkObjects])
  · exact h3

/-- The objects that change where the standby uses its own results with every channel in calibration. -/
def ownResultObjects : List Nat :=
  Obj.SourceConfig.PresentInstances Src.MEAS_LOCAL :: checkObjects ++ allChannels.flatMap calResultObjects

theorem resultsMissing_keeps {b : Block} (hcal : ∀ c ∈ allChannels, bitOf (b.meas.ownFlags.getD c 0 + 2 ^ mfLOCAL) mfCAL = true) :
    Keeps ownResultObjects b b.resultsMissing := by
  unfold resultsMissing
  split
  · exact Keeps.refl b
  · next w _ =>
    split
    · exact Keeps.refl b
    · have hchannels := List.foldlRecOn (motive := fun d => Keeps ownResultObjects b d ∧ d.meas.ownFlags = b.meas.ownFlags) allChannels
        (fun d c => d.deliver w c (d.rdI 32 (Obj.Channel.LocalResult c)) (d.meas.ownFlags.getD c 0 + 2 ^ mfLOCAL))
        ⟨Keeps.refl b, rfl⟩ fun d hd c hc => by
          obtain ⟨hkeeps, hown⟩ := d.deliver_keeps_of_cal w c (d.rdI 32 (Obj.Channel.LocalResult c)) (hd.2 ▸ hcal c hc)
          refine ⟨hd.1.trans (hkeeps.mono fun k hk => ?_), hown.trans hd.2⟩
          exact List.mem_append_right _ (List.mem_flatMap.2 ⟨c, hc, hk⟩)
      exact (hchannels.1.condition _ _ _ _ _ (by simp [ownResultObjects])).trans
        ((internalChecks_keeps _).mono fun k hk => List.mem_append_left _ (List.mem_cons_of_mem _ hk))

/-- RESULTS_MISSING delivers the standby's own set from tick 50 on, where the holder's has not come (R198). -/
theorem ownInstead_acts {b : Block} {w : Window72} (hended : b.meas.ended = some w) (hdelivered : b.meas.delivered = true)
    (hstandby : b.isHolder = false) (hcame : b.meas.partnerCame = false) (htick : b.glade.boundary = false) (hlate : 50 ≤ b.glade.tick) :
    b.ownInstead = b.resultsMissing.resultsDelivered :=
  if_neg (by simp [hended, hdelivered, hstandby, hcame, htick, hlate])

theorem calResultObjects_sub (c : Nat) : ∀ k ∈ calResultObjects c, k % 256 ∉ straySubs := by
  simp [calResultObjects, Obj.Channel.Flags, Obj.Channel.ResultEpoch, Obj.Channel.ResultCycle, Obj.Channel.AvgSum, Obj.Channel.Average,
    Obj.Channel.AvgValue, Obj.Channel.AvgCycle, Obj.Channel.AvgDiscarded, objKey_mod, straySubs]

theorem ownResultObjects_sub : ∀ k ∈ ownResultObjects, k % 256 ∉ straySubs := by
  have hchecks : ∀ k ∈ Obj.SourceConfig.PresentInstances Src.MEAS_LOCAL :: checkObjects, k % 256 ∉ straySubs := by decide
  intro k hk
  obtain hk | hk := List.mem_append.1 hk
  · exact hchecks k hk
  · obtain ⟨c, -, hk⟩ := List.mem_flatMap.1 hk
    exact calResultObjects_sub c k hk

end Block

/-- RESULTS_MISSING on a standby with a stray string leaves MEAS_LOCAL not present. -/
theorem resultsMissing_ends_local {s : State} {w : Window72} (hstray : s.blk.Stray)
    (hcal : ∀ c ∈ allChannels, bitOf (s.blk.meas.ownFlags.getD c 0 + 2 ^ mfLOCAL) mfCAL = true) (hended : s.blk.meas.ended = some w)
    (hdelivered : s.blk.meas.delivered = true) (hstandby : s.blk.isHolder = false) (hcame : s.blk.meas.partnerCame = false)
    (htick : s.blk.glade.boundary = false) (hlate : 50 ≤ s.blk.glade.tick) :
    ∃ t, exec .resultsMissing s = .next t ∧ t.blk.isPresent Src.MEAS_LOCAL 0 = false := by
  refine ⟨_, State.act_eq s Block.ownInstead, ?_⟩
  rw [Block.isPresent_congr (congrArg Faults.present (State.settle_faults _)),
    Block.ownInstead_acts hended hdelivered hstandby hcame htick hlate]
  exact (hstray.keeps (Block.resultsMissing_keeps hcal) Block.ownResultObjects_sub).resultsDelivered_ends_local

/-! ### The statement fails -/

/-- Windows that ended. -/
def strayWindow : Window72 :=
  { epoch := 0, cycle := 3, no := 3, edges := 5, irregular := false, notTrack := false, settling := false, enabled := [], ranges := [] }

/-- A standby in tick 60 whose own set is there, every channel in calibration, and a stray string. -/
def strayState : State where
  pending := []
  blk := {
    dict := [(Obj.PortRecord.ConfiguredClass 0, 3), (Obj.PortRecord.Group 0, Block.strayGroup), (Obj.PortRecord.Member 0, 0),
      (Obj.StringRecord.ThermChannel 0, 0), (Obj.StringRecord.Presence 0, prPRESENT), (Obj.Channel.Value 0, 0x7FFFFFFF),
      (Obj.GroupRecord.State Block.strayGroup, gsRUNNING)]
    meas := { ended := some strayWindow, delivered := true, ownFlags := List.replicate 72 (2 ^ mfCAL) }
    glade := { tick := 60 } }
  heartwood := []
  flash := []

theorem strayState_stray : Block.Stray strayState.blk := by
  constructor <;> decide

theorem strayState_inCalibration : ∀ c ∈ allChannels, bitOf (strayState.blk.meas.ownFlags.getD c 0 + 2 ^ mfLOCAL) mfCAL = true := by
  intro c hc
  have hflags : strayState.blk.meas.ownFlags.getD c 0 = 2 ^ mfCAL := List.getD_replicate _ (List.mem_range.1 hc)
  rw [hflags]
  decide

theorem strayState_standby : strayState.blk.isHolder = false := by decide

/-- Refutes O51, by its clause on RESULTS_MISSING: the statement speaks of every dictionary, also of one in which a port's Group, an object
of one byte, holds 0xD0000. A condition's key is source × 65,536 + unit, so GROUP_SENSE_LOST of that group and MEAS_LOCAL have one
key. A string of that group that is lost with the delivery stops the group, and the stop ends MEAS_LOCAL (`resultsMissing_ends_local`). -/
theorem not_resultsAreDeliveredAndChannelsCalibrate : ¬ Obligations.ResultsAreDeliveredAndChannelsCalibrate := by
  unfold Obligations.ResultsAreDeliveredAndChannelsCalibrate
  rintro ⟨-, -, hmissing, -⟩
  obtain ⟨t, hnext, habsent⟩ := resultsMissing_ends_local (w := strayWindow) strayState_stray strayState_inCalibration rfl rfl
    strayState_standby rfl rfl (by decide)
  obtain ⟨t', hnext', hpresent, -⟩ := hmissing strayState strayWindow rfl rfl rfl strayState_standby rfl rfl (by decide)
    (by simp [strayState, mfCAL])
  have heq : t = t' := Host.Outcome.next.inj (hnext.symm.trans hnext')
  rw [← heq, habsent] at hpresent
  exact Bool.false_ne_true hpresent

end Sys2Proof.Machine
end

section
/-! PROOFS. Mains feeds: the detectors take a feed to LOST (R224-R226). -/

namespace Sys2Proof.Machine

open Sys2Proof.Safety

namespace Block

/-! ### What the detectors may change -/

/-- The blocks differ at most in their objects, the fault collector and the detector's records of the mains feeds. -/
def OnMainsFeeds (b c : Block) : Prop :=
  c = { b with dict := c.dict, wimg := c.wimg, faults := c.faults, holdup := { b.holdup with feeds := c.holdup.feeds } }

namespace OnMainsFeeds

variable {b c d : Block}

theorem trans (h : OnMainsFeeds b c) (h' : OnMainsFeeds c d) : OnMainsFeeds b d :=
  Eq.trans (a := d) h' (congrArg (fun x : Block =>
    { x with dict := d.dict, wimg := d.wimg, faults := d.faults, holdup := { x.holdup with feeds := d.holdup.feeds } }) h)

/-- Every part but those reads as it did. -/
theorem part {α : Type} (h : OnMainsFeeds b c) (f : Block → α)
    (hf : ∀ (x : Block) (dict wimg : Tab Nat) (faults : Faults) (feeds : List MainsFeed),
      f { x with dict, wimg, faults, holdup := { x.holdup with feeds } } = f x) : f c = f b := by
  rw [h, hf]

theorem condition (b : Block) (src inst : Nat) (p : Bool) (d : List Int) : OnMainsFeeds b (b.condition src inst p d) := by
  unfold Block.condition
  split
  · exact rfl
  · split <;> exact rfl

end OnMainsFeeds

/-! ### A disturbance (R225, R226) -/

/-- The class of a disturbance is kept, the disturbance counted, and the cycle no longer clean. -/
def noteClass (b : Block) (f code : Nat) : Block :=
  let c := (b.wrs [(Obj.MainsFeed.LastDisturbance f, code), (Obj.MainsFeed.QualCount f, 0)]).bump (Obj.MainsFeed.Disturbances f)
  c.setMf f { c.mf f with dirty := true }

/-- The state to which a disturbance that does not lose the feed takes it. -/
def rideThrough (b : Block) (f code : Nat) : Block :=
  if b.mainsNext f = mfAVAILABLE then b.wrN (Obj.MainsFeed.State f) mfQUALIFYING
  else if b.mainsNext f = mfCARRYING ∧ (code = 3 ∨ code = 4 ∨ code = 6) then b.wrN (Obj.MainsFeed.State f) mfRIDING
  else b

theorem disturb_eq (b : Block) (f code lines : Nat) (extreme : Int) (duration : Nat) : b.disturb f code lines extreme duration =
    ((b.noteClass f code).rideThrough f code).report Src.MAINS_DISTURBANCE f [code, lines, extreme, duration] := rfl

/-- What holds of a block and survives a write to the next tick's state of the feed holds after a disturbance was ridden through. -/
theorem rideThrough_of {P : Block → Prop} {b : Block} (h : P b) (f code : Nat) (hw : ∀ v, P (b.wrN (Obj.MainsFeed.State f) v)) :
    P (b.rideThrough f code) := by
  unfold rideThrough
  split
  · exact hw _
  · split
    · exact hw _
    · exact h

/-- The objects that a disturbance of feed `f` may change. -/
def disturbObjects (f : Nat) : List Nat :=
  [Obj.MainsFeed.State f, Obj.MainsFeed.QualCount f, Obj.MainsFeed.LastDisturbance f, Obj.MainsFeed.Disturbances f]

/-- What a disturbance of feed `f` with a class makes of the block. -/
structure Disturbed (f code : Nat) (b c : Block) : Prop where
  last : c.rd (Obj.MainsFeed.LastDisturbance f) = code
  count : c.rd (Obj.MainsFeed.Disturbances f) = min (b.rd (Obj.MainsFeed.Disturbances f) + 1) 0xFFFFFFFF
  present : c.faults.present = b.faults.present
  parts : OnMainsFeeds b c
  objects : Keeps (disturbObjects f) b c

theorem noteClass_keeps (b : Block) (f code : Nat) : Keeps (disturbObjects f) b (b.noteClass f code) :=
  (((Keeps.refl b).wrs _ (by simp [disturbObjects])).wr _ (by simp [disturbObjects])).trans (Keeps.of_images rfl rfl)

theorem noteClass_disturbs (b : Block) (f code : Nat) : Disturbed f code b (b.noteClass f code) where
  last := (rd_wr_of_ne _ _ (objKey_ne_of_sub_ne (by decide) (by decide) (by decide))).trans
    ((rd_wr_of_ne _ _ (objKey_ne_of_sub_ne (by decide) (by decide) (by decide))).trans (rd_wr_self ..))
  count := by
    have hkept : (b.wrs [(Obj.MainsFeed.LastDisturbance f, code), (Obj.MainsFeed.QualCount f, 0)]).rd (Obj.MainsFeed.Disturbances f) =
        b.rd (Obj.MainsFeed.Disturbances f) := rd_wrs_of_notMem _ _ _ (by
      simp [Obj.MainsFeed.LastDisturbance, Obj.MainsFeed.QualCount, Obj.MainsFeed.Disturbances, objKey])
    rw [← hkept]
    exact rd_wr_self ..
  present := rfl
  parts := rfl
  objects := b.noteClass_keeps f code

theorem disturb_disturbs (b : Block) (f code lines : Nat) (extreme : Int) (duration : Nat) :
    Disturbed f code b (b.disturb f code lines extreme duration) := by
  rw [disturb_eq]
  have hnoted := b.noteClass_disturbs f code
  obtain ⟨hlast, hcount, hpresent, hparts, hobjects⟩ := rideThrough_of (P := Disturbed f code b) hnoted f code fun v =>
    ⟨hnoted.last, hnoted.count, hnoted.present, hnoted.parts.trans rfl, hnoted.objects.wrN v List.mem_cons_self⟩
  exact ⟨hlast, hcount, hpresent, hparts.trans rfl, hobjects.report _ _ _⟩

/-! ### A feed enters LOST (R226) -/

/-- The objects that the entry of feed `f` into LOST may change. -/
def lostObjects (f : Nat) : List Nat :=
  [Obj.MainsFeed.State f, Obj.MainsFeed.QualCount f, Obj.MainsFeed.Losses f, Obj.SourceConfig.PresentInstances Src.MAINS_LOSS]

/-- The objects that a class whose effect is LOST may change. -/
def feedLossObjects (f : Nat) : List Nat :=
  [Obj.MainsFeed.State f, Obj.MainsFeed.QualCount f, Obj.MainsFeed.Losses f, Obj.MainsFeed.LastDisturbance f,
    Obj.MainsFeed.Disturbances f, Obj.SourceConfig.PresentInstances Src.MAINS_LOSS]

/-- Feed `f` is LOST from the next tick, and of the objects those named may differ. -/
structure Lost (named : List Nat) (f : Nat) (b c : Block) : Prop where
  next : c.mainsNext f = mfLOST
  qual : c.rd (Obj.MainsFeed.QualCount f) = 0
  losses : c.rd (Obj.MainsFeed.Losses f) = min (b.rd (Obj.MainsFeed.Losses f) + 1) 0xFFFFFFFF
  present : c.isPresent Src.MAINS_LOSS f = true
  parts : OnMainsFeeds b c
  objects : Keeps named b c

/-- The feed's own objects and record when it enters LOST, before its condition. -/
def feedOut (b : Block) (f : Nat) : Block :=
  let c := (b.wrN (Obj.MainsFeed.State f) mfLOST).bump (Obj.MainsFeed.Losses f)
  (c.wr (Obj.MainsFeed.QualCount f) 0).setMf f { c.mf f with dirty := true, back := true, moving := false, psiRun := 0 }

theorem feedLost_eq (b : Block) (f : Nat) : b.feedLost f = (b.feedOut f).condition Src.MAINS_LOSS f true := rfl

theorem feedOut_keeps (b : Block) (f : Nat) : Keeps (lostObjects f) b (b.feedOut f) :=
  ((((Keeps.refl b).wrN _ (by simp [lostObjects])).wr _ (by simp [lostObjects])).wr _ (by simp [lostObjects])).trans
    (Keeps.of_images rfl rfl)

theorem feedOut_next (b : Block) (f : Nat) : (b.feedOut f).mainsNext f = mfLOST := by
  have hqual : Obj.MainsFeed.State f ≠ Obj.MainsFeed.QualCount f := objKey_ne_of_sub_ne (by decide) (by decide) (by decide)
  have hlosses : Obj.MainsFeed.State f ≠ Obj.MainsFeed.Losses f := objKey_ne_of_sub_ne (by decide) (by decide) (by decide)
  exact (rdN_wr ..).trans ((if_neg hqual).trans ((rdN_wr ..).trans ((if_neg hlosses).trans (rdN_wrN_self ..))))

/-- A condition that comes changes the count of its source, and so no object of another sub-index (R333). -/
theorem keeps_condition (b : Block) (src inst : Nat) : Keeps [Obj.SourceConfig.PresentInstances src] b (b.condition src inst true) :=
  (Keeps.refl b).condition _ _ _ _ _ (List.mem_singleton_self _)

theorem condition_leaves_sub (b : Block) (src inst index : Nat) {sub : Nat} (hlt : sub < 256) (hsub : sub ≠ 0x0B) :
    (b.condition src inst true).rd (objKey index sub) = b.rd (objKey index sub) ∧
      (b.condition src inst true).rdN (objKey index sub) = b.rdN (objKey index sub) :=
  b.keeps_condition src inst _ (objKey_notMem index hlt (by simpa [Obj.SourceConfig.PresentInstances, objKey_mod] using hsub.symm))

theorem feedLost_loses (b : Block) (f : Nat) : Lost (lostObjects f) f b (b.feedLost f) := by
  have hkept := fun {sub : Nat} => (b.feedOut f).condition_leaves_sub Src.MAINS_LOSS f (0x3B10 + f) (sub := sub)
  rw [feedLost_eq]
  refine ⟨?_, ?_, ?_, isPresent_condition .., OnMainsFeeds.trans (c := b.feedOut f) rfl (OnMainsFeeds.condition ..),
    (b.feedOut_keeps f).condition _ _ _ _ _ (by simp [lostObjects])⟩
  · exact (hkept (by decide) (by decide)).2.trans (b.feedOut_next f)
  · exact (hkept (by decide) (by decide)).1.trans (rd_wr_self ..)
  · refine (hkept (by decide) (by decide)).1.trans ?_
    exact (rd_wr_of_ne _ _ (objKey_ne_of_sub_ne (by decide) (by decide) (by decide))).trans (rd_wr_self ..)

/-- The loss of a feed follows what left the count of its losses as it was. -/
theorem Lost.after {l m n : List Nat} {f : Nat} {b c d : Block} (h : Lost m f c d) (hparts : OnMainsFeeds b c) (hobjects : Keeps l b c)
    (hl : Obj.MainsFeed.Losses f ∉ l) (hln : l ⊆ n) (hmn : m ⊆ n) : Lost n f b d where
  next := h.next
  qual := h.qual
  losses := by rw [h.losses, hobjects.rd_eq hl]
  present := h.present
  parts := hparts.trans h.parts
  objects := (hobjects.mono hln).trans (h.objects.mono hmn)

/-- A disturbance whose class loses the feed. -/
theorem disturb_feedLost (b : Block) (f code lines : Nat) (extreme : Int) (duration : Nat) :
    Lost (feedLossObjects f) f b ((b.disturb f code lines extreme duration).feedLost f) := by
  have hdisturbed := b.disturb_disturbs f code lines extreme duration
  refine ((b.disturb f code lines extreme duration).feedLost_loses f).after hdisturbed.parts hdisturbed.objects ?_ ?_ ?_
  · exact objKey_notMem (0x3B10 + f) (by decide) (by
      simp [disturbObjects, Obj.MainsFeed.State, Obj.MainsFeed.QualCount, Obj.MainsFeed.LastDisturbance, Obj.MainsFeed.Disturbances, objKey_mod])
  · simp [disturbObjects, feedLossObjects]
  · simp [lostObjects, feedLossObjects]

/-- The class and the count of the disturbances outlast the loss. -/
theorem disturb_feedLost_class (b : Block) (f code lines : Nat) (extreme : Int) (duration : Nat) :
    ((b.disturb f code lines extreme duration).feedLost f).rd (Obj.MainsFeed.LastDisturbance f) = code ∧
      ((b.disturb f code lines extreme duration).feedLost f).rd (Obj.MainsFeed.Disturbances f) =
        min (b.rd (Obj.MainsFeed.Disturbances f) + 1) 0xFFFFFFFF := by
  have hdisturbed := b.disturb_disturbs f code lines extreme duration
  have hlost := ((b.disturb f code lines extreme duration).feedLost_loses f).objects
  have hsubs : ∀ k ∈ lostObjects f, k % 256 ∉ [0x0F, 0x10] := by
    simp [lostObjects, Obj.MainsFeed.State, Obj.MainsFeed.QualCount, Obj.MainsFeed.Losses, Obj.SourceConfig.PresentInstances, objKey_mod]
  exact ⟨(hlost.rd_sub hsubs _ (by decide) (by simp)).trans hdisturbed.last, (hlost.rd_sub hsubs _ (by decide) (by simp)).trans hdisturbed.count⟩

/-! ### The state of the hold-up function -/

/-- The sub-indices of FeedCount and of the hold-up function's state, of its HandoverCount and of ArmMargin are none of a loss. -/
theorem feedLossObjects_subs (f : Nat) : ∀ k ∈ feedLossObjects f, k % 256 ∉ [1, 6, 0x12] := by
  simp [feedLossObjects, Obj.MainsFeed.State, Obj.MainsFeed.QualCount, Obj.MainsFeed.Losses, Obj.MainsFeed.LastDisturbance,
    Obj.MainsFeed.Disturbances, Obj.SourceConfig.PresentInstances, objKey_mod]

theorem holdupState_notMem_feedLossObjects (f : Nat) : Obj.HoldupStatus.State ∉ feedLossObjects f :=
  objKey_notMem 0x3B20 (by decide) fun k hk e => feedLossObjects_subs f k hk (by simp [e])

theorem Keeps.onMains {named : List Nat} {b c : Block} (h : Keeps named b c) (hn : Obj.HoldupStatus.State ∉ named) : c.onMains = b.onMains := by
  unfold Block.onMains holdupNext
  rw [(h _ hn).2]

/-- Off the mains no trigger fires. -/
theorem checkCapacity_off {b : Block} (h : b.onMains = false) (lost : Bool) : b.checkCapacity lost = b := by
  simp [checkCapacity, h]

theorem loseFeed_off {b : Block} (h : b.onMains = false) (f code lines : Nat) (extreme : Int) (duration : Nat) :
    b.loseFeed f code lines extreme duration = (b.disturb f code lines extreme duration).feedLost f :=
  checkCapacity_off (((b.disturb_feedLost f code lines extreme duration).objects.onMains (holdupState_notMem_feedLossObjects f)).trans h) _

/-! ### The detectors (R224, R225) -/

/-- The detector's record of a feed with the tick's samples in it. -/
def detected (b : Block) (f : Nat) : MainsFeed := b.detect f (b.feedSamples b.enteredVolts f)

theorem lossDetect_finds {b : Block} {f : Nat} (hlosable : b.losable f = true) (hpos : 0 < (b.detected f).lossRun)
    (hlong : b.rd Obj.MainsConfig.LossTicks ≤ (b.detected f).lossRun) :
    ∃ extreme duration, b.lossDetect f = b.loseFeed f 1 7 extreme duration := by
  have hfound : (b.losable f && decide (b.rd Obj.MainsConfig.LossTicks ≤ (b.detected f).lossRun) &&
      decide (0 < (b.detected f).lossRun)) = true := by simp [hlosable, hlong, hpos]
  exact ⟨_, _, if_pos hfound⟩

theorem lossDetect_quiet {b : Block} {f : Nat}
    (h : (b.detected f).lossRun = 0 ∨ (b.detected f).lossRun < b.rd Obj.MainsConfig.LossTicks) : b.lossDetect f = b :=
  if_neg fun hfound => by
    simp only [Bool.and_eq_true, decide_eq_true_eq] at hfound
    obtain ⟨⟨-, hlong⟩, hpos⟩ := hfound
    obtain hzero | hshort := h
    · exact hpos.ne' hzero
    · exact hshort.not_ge hlong

theorem lineLossDetect_finds {b : Block} {f : Nat} (hlosable : b.losable f = true)
    (h : ∃ n ∈ (b.detected f).lineRun, 0 < n ∧ b.rd Obj.MainsConfig.LineLossTicks ≤ n) :
    ∃ lines extreme duration, b.lineLossDetect f = b.loseFeed f 2 lines extreme duration := by
  obtain ⟨n, hn, hpos, hlong⟩ := h
  refine ⟨_, _, _, if_pos ?_⟩
  rw [hlosable, Bool.true_and, List.any_map]
  exact List.any_eq_true.2 ⟨n, hn, by simp [hpos, hlong]⟩

theorem lineLossDetect_quiet {b : Block} {f : Nat} (h : ∀ n ∈ (b.detected f).lineRun, n < b.rd Obj.MainsConfig.LineLossTicks) :
    b.lineLossDetect f = b :=
  if_neg fun hfound => by
    rw [Bool.and_eq_true, List.any_map, List.any_eq_true] at hfound
    obtain ⟨-, n, hn, hlong⟩ := hfound
    simp only [Function.comp_apply, id, Bool.and_eq_true, decide_eq_true_eq] at hlong
    exact (h n hn).not_ge hlong.1

theorem swellTripDetect_finds {b : Block} {f : Nat} (hlosable : b.losable f = true) (hlong : 2 ≤ (b.detected f).swellRun) :
    ∃ extreme duration, b.swellTripDetect f = b.loseFeed f 5 7 extreme duration := by
  have hfound : (b.losable f && decide (2 ≤ (b.detected f).swellRun)) = true := by simp [hlosable, hlong]
  exact ⟨_, _, if_pos hfound⟩

theorem swellTripDetect_quiet {b : Block} {f : Nat} (h : (b.detected f).swellRun < 2) : b.swellTripDetect f = b :=
  if_neg fun hfound => h.not_ge (of_decide_eq_true (Bool.and_eq_true_iff.1 hfound).2)

theorem senseLostDetect_quiet {b : Block} {f : Nat} (h : (b.detected f).blindRun < 2) : b.senseLostDetect f = b :=
  if_neg fun hfound => h.not_ge (of_decide_eq_true (Bool.and_eq_true_iff.1 (Bool.and_eq_true_iff.1 hfound).1).2)

/-- The condition of a blind feed changes neither the feed's state nor that of the hold-up function. -/
theorem condition_losable (b : Block) (src inst f : Nat) : (b.condition src inst true).losable f = b.losable f := by
  have hcount : (b.condition src inst true).rd Obj.MainsConfig.FeedCount = b.rd Obj.MainsConfig.FeedCount :=
    (b.condition_leaves_sub src inst 0x3B00 (by decide) (by decide)).1
  have hstate : (b.condition src inst true).mainsNext f = b.mainsNext f :=
    (b.condition_leaves_sub src inst (0x3B10 + f) (by decide) (by decide)).2
  rw [losable, hcount, hstate, losable]

/-- Off the mains a blind feed that can be lost is lost, and nothing follows. -/
theorem senseLostDetect_finds {b : Block} {f : Nat} (hlosable : b.losable f = true) (hoff : b.onMains = false)
    (hblind : 2 ≤ (b.detected f).blindRun) (habsent : b.isPresent Src.MAINS_SENSE_LOST f = false) :
    b.senseLostDetect f = (b.condition Src.MAINS_SENSE_LOST f true).feedLost f := by
  have hcount : decide (f < b.rd Obj.MainsConfig.FeedCount) = true := (Bool.and_eq_true_iff.1 hlosable).1
  have hfound : (decide (f < b.rd Obj.MainsConfig.FeedCount) && decide (2 ≤ (b.detected f).blindRun) &&
      !b.isPresent Src.MAINS_SENSE_LOST f) = true := by rw [hcount, decide_eq_true hblind, habsent]; rfl
  have hoff' : ((b.condition Src.MAINS_SENSE_LOST f true).feedLost f).onMains = false := by
    rw [((feedLost_loses _ f).objects.mono (by simp [lostObjects, feedLossObjects])).onMains (holdupState_notMem_feedLossObjects f),
      (b.keeps_condition Src.MAINS_SENSE_LOST f).onMains (by decide), hoff]
  calc b.senseLostDetect f = ((b.condition Src.MAINS_SENSE_LOST f true).feedLost f).checkCapacity _ :=
      (if_pos hfound).trans (if_pos ((b.condition_losable _ f f).trans hlosable))
    _ = (b.condition Src.MAINS_SENSE_LOST f true).feedLost f := checkCapacity_off hoff' _

/-- A blind feed that is lost shows both conditions. -/
theorem blind_feedLost (b : Block) (f : Nat) :
    Lost (Obj.SourceConfig.PresentInstances Src.MAINS_SENSE_LOST :: lostObjects f) f b ((b.condition Src.MAINS_SENSE_LOST f true).feedLost f) ∧
      ((b.condition Src.MAINS_SENSE_LOST f true).feedLost f).isPresent Src.MAINS_SENSE_LOST f = true := by
  constructor
  · refine (feedLost_loses _ f).after (OnMainsFeeds.condition ..) (b.keeps_condition Src.MAINS_SENSE_LOST f) ?_ (by simp) (List.subset_cons_self ..)
    exact objKey_notMem (0x3B10 + f) (by decide) (by simp [Obj.SourceConfig.PresentInstances, objKey_mod])
  · have hkey : instKey Src.MAINS_SENSE_LOST f ≠ instKey Src.MAINS_LOSS f := by
      unfold instKey Src.MAINS_SENSE_LOST Src.MAINS_LOSS
      omega
    rw [feedLost_eq, isPresent_condition_of_ne _ hkey]
    exact isPresent_condition ..

end Block

/-! ### The commands -/

/-- Feed `f` is lost from the next tick, with its count, its qualification and its condition, and hold-up stands where it stood. -/
def TakesFeed (f : Nat) (s t : State) : Prop :=
  t.blk.mainsNext f = mfLOST ∧ t.blk.rd (Obj.MainsFeed.QualCount f) = 0 ∧
    t.blk.rd (Obj.MainsFeed.Losses f) = min (s.blk.rd (Obj.MainsFeed.Losses f) + 1) 0xFFFFFFFF ∧ t.blk.isPresent Src.MAINS_LOSS f = true ∧
    t.blk.rd Obj.HoldupStatus.State = s.blk.rd Obj.HoldupStatus.State ∧ SameArrays s t

/-- The class of the disturbance is kept and counted, and no other object than those of the loss differs. -/
def NotesClass (f code : Nat) (s t : State) : Prop :=
  t.blk.rd (Obj.MainsFeed.LastDisturbance f) = code ∧
    t.blk.rd (Obj.MainsFeed.Disturbances f) = min (s.blk.rd (Obj.MainsFeed.Disturbances f) + 1) 0xFFFFFFFF ∧
    KeepsObjects (Block.feedLossObjects f) s t

section

variable {s : State} {f : Nat} (hs : Settled s) (hf : f < 2)

theorem Block.Lost.takesFeed {named : List Nat} {d : Block} (h : Lost named f s.blk d) (hn : Obj.HoldupStatus.State ∉ named) :
    TakesFeed f s { s with blk := d } :=
  ⟨h.next, h.qual, h.losses, h.present, h.objects.rd_eq hn, rfl, rfl, rfl⟩

include hs hf

theorem detector_quiet {detector : Block → Block} (h : detector s.blk = s.blk) : s.actOn (decide (f < 2)) .mains f detector = .next s :=
  State.actOn_block (decide_eq_true hf) .mains f detector h hs

/-- Off the mains a detector that finds a class takes the feed. -/
theorem detector_takes {code lines duration : Nat} {extreme : Int} {detector : Block → Block} (hoff : s.blk.onMains = false)
    (h : detector s.blk = s.blk.loseFeed f code lines extreme duration) :
    ∃ t, s.actOn (decide (f < 2)) .mains f detector = .next t ∧ TakesFeed f s t ∧ NotesClass f code s t := by
  have hlost := s.blk.disturb_feedLost f code lines extreme duration
  obtain ⟨hlast, hcount⟩ := s.blk.disturb_feedLost_class f code lines extreme duration
  exact ⟨_, State.actOn_block (decide_eq_true hf) .mains f detector (h.trans (Block.loseFeed_off hoff ..))
    ((hlost.parts.part (·.writes) fun _ _ _ _ _ => rfl).trans hs), hlost.takesFeed (Block.holdupState_notMem_feedLossObjects f), hlast, hcount,
    hlost.objects⟩

theorem mainsSenseLost_takes (hlosable : s.blk.losable f = true) (hoff : s.blk.onMains = false) (hblind : 2 ≤ (s.blk.detected f).blindRun)
    (habsent : s.blk.isPresent Src.MAINS_SENSE_LOST f = false) :
    ∃ t, exec (.mainsSenseLost f) s = .next t ∧ TakesFeed f s t ∧ t.blk.isPresent Src.MAINS_SENSE_LOST f = true := by
  obtain ⟨hlost, hpresent⟩ := s.blk.blind_feedLost f
  refine ⟨_, State.actOn_block (decide_eq_true hf) .mains f (·.senseLostDetect f) (Block.senseLostDetect_finds hlosable hoff hblind habsent)
    ((hlost.parts.part (·.writes) fun _ _ _ _ _ => rfl).trans hs), hlost.takesFeed ?_, hpresent⟩
  exact List.not_mem_cons_of_ne_of_not_mem (by decide) fun h => Block.holdupState_notMem_feedLossObjects f
    ((by simp [Block.lostObjects, Block.feedLossObjects] : Block.lostObjects f ⊆ Block.feedLossObjects f) h)

end

/-- Settles O21: each detector that finds its class loses the feed (`detector_takes`, `mainsSenseLost_takes`), and off the mains no trigger
follows; without its condition the model leaves the block as it was (log entries 8 and 41). -/
theorem mainsLossIsDetectedPerFeed : Obligations.MainsLossIsDetectedPerFeed := by
  unfold Obligations.MainsLossIsDetectedPerFeed
  intro s f hs hf hlosable hoff _
  refine ⟨fun hpos hlong => ?_, fun hshort => ?_, fun hlines => ?_, fun hshort => ?_, fun hlong => ?_, fun hshort => ?_,
    fun hblind habsent => ?_, fun hshort => ?_⟩
  · obtain ⟨extreme, duration, he⟩ := Block.lossDetect_finds hlosable hpos hlong
    exact detector_takes hs hf hoff (detector := (·.lossDetect f)) he
  · exact detector_quiet hs hf (detector := (·.lossDetect f)) (Block.lossDetect_quiet hshort)
  · obtain ⟨lines, extreme, duration, he⟩ := Block.lineLossDetect_finds hlosable hlines
    exact detector_takes hs hf hoff (detector := (·.lineLossDetect f)) he
  · exact detector_quiet hs hf (detector := (·.lineLossDetect f)) (Block.lineLossDetect_quiet hshort)
  · obtain ⟨extreme, duration, he⟩ := Block.swellTripDetect_finds hlosable hlong
    exact detector_takes hs hf hoff (detector := (·.swellTripDetect f)) he
  · exact detector_quiet hs hf (detector := (·.swellTripDetect f)) (Block.swellTripDetect_quiet hshort)
  · exact mainsSenseLost_takes hs hf hlosable hoff hblind habsent
  · exact detector_quiet hs hf (detector := (·.senseLostDetect f)) (Block.senseLostDetect_quiet hshort)

end Sys2Proof.Machine
end

section
/-! PROOFS. The hold-up trigger: a mains loss that leaves too little capacity (R227, R229, R230). -/

namespace Sys2Proof.Machine

open Sys2Proof.Safety

/-- A fold whose steps each keep all objects but those of their own element keeps all but those of the list. -/
theorem Block.Keeps.foldl {α : Type} {step : Block → α → Block} {objects : α → List Nat} (h : ∀ b a, Keeps (objects a) b (step b a))
    (l : List α) (b : Block) : Keeps (l.flatMap objects) b (l.foldl step b) :=
  List.foldlRecOn l step (Keeps.refl b) fun c hc a ha => hc.trans ((h c a).mono fun _ hk => List.mem_flatMap.2 ⟨a, ha, hk⟩)

namespace Block

/-! ### What the feeds can supply (R229) -/

/-- With no feed left that can supply the bus its capacity is 0. -/
theorem feedCapacity_none {b : Block} (h : ∀ g < 2, b.mainsNext g < mfAVAILABLE ∨ b.rd Obj.MainsConfig.FeedCount ≤ g) : b.feedCapacity = 0 := by
  have hnone : b.mainsFeeds.filter (fun g => decide (mfAVAILABLE ≤ b.mainsNext g)) = [] := List.filter_eq_nil_iff.2 fun g hg => by
    obtain ⟨hrange, hcount⟩ := List.mem_filter.1 hg
    obtain hlow | hbeyond := h g (List.mem_range.1 hrange)
    · simpa using hlow
    · exact absurd (of_decide_eq_true hcount) hbeyond.not_gt
  have hphases : b.supplyPhases = 0 := by rw [supplyPhases, hnone, List.map_nil, List.sum_nil]
  rw [feedCapacity, hphases, Nat.cast_zero, zero_mul, zero_mul]

/-- The loss of one feed leaves the state of the other, and the number of feeds. -/
theorem Lost.leaves_none {f : Nat} {b c : Block} (h : Lost (feedLossObjects f) f b c)
    (hothers : ∀ g < 2, g ≠ f → b.mainsNext g < mfAVAILABLE ∨ b.rd Obj.MainsConfig.FeedCount ≤ g) :
    ∀ g < 2, c.mainsNext g < mfAVAILABLE ∨ c.rd Obj.MainsConfig.FeedCount ≤ g := fun g hg => by
  by_cases he : g = f
  · subst he
    exact .inl (h.next ▸ by decide)
  · have hstate : Obj.MainsFeed.State g ∉ feedLossObjects f := by
      simp only [feedLossObjects, Obj.MainsFeed.State, Obj.MainsFeed.QualCount, Obj.MainsFeed.Losses, Obj.MainsFeed.LastDisturbance,
        Obj.MainsFeed.Disturbances, Obj.SourceConfig.PresentInstances, objKey, List.mem_cons, List.not_mem_nil, or_false]
      omega
    have hcount : c.rd Obj.MainsConfig.FeedCount = b.rd Obj.MainsConfig.FeedCount :=
      h.objects.rd_sub (feedLossObjects_subs f) 0x3B00 (by decide) (by simp)
    rw [mainsNext, (h.objects _ hstate).2, hcount]
    exact hothers g hg he

/-! ### The support set takes over (R230) -/

/-- A string joins support: a test of it is abandoned. -/
def joinSupport (b : Block) (n : Nat) : Block :=
  (if b.rd (Obj.StringRecord.TestStatus n) = 1 then b.wr (Obj.StringRecord.TestStatus n) 4 else b).wrN (Obj.StringRecord.Mode n) smSUPPORT

theorem joinSupport_keeps (b : Block) (n : Nat) : Keeps [Obj.StringRecord.TestStatus n, Obj.StringRecord.Mode n] b (b.joinSupport n) := by
  unfold joinSupport
  split
  · exact ((Keeps.refl b).wr _ (by simp)).wrN _ (by simp)
  · exact (Keeps.refl b).wrN _ (by simp)

theorem joinSupport_sameParts (b : Block) (n : Nat) : SameParts b (b.joinSupport n) := by
  unfold joinSupport
  split <;> exact rfl

/-- The strings of a list join support. -/
def joinAll (b : Block) (l : List Nat) : Block := l.foldl joinSupport b

theorem joinAll_sameParts (b : Block) (l : List Nat) : SameParts b (b.joinAll l) :=
  List.foldlRecOn l joinSupport (SameParts.refl b) fun c hc n _ => hc.trans (c.joinSupport_sameParts n)

/-- The objects of the strings in a list that joining support may change. -/
def joinObjects (l : List Nat) : List Nat := l.flatMap fun n => [Obj.StringRecord.TestStatus n, Obj.StringRecord.Mode n]

theorem joinAll_keeps (b : Block) (l : List Nat) : Keeps (joinObjects l) b (b.joinAll l) := Keeps.foldl joinSupport_keeps l b

/-- Every string that joins is in SUPPORT from the next tick. -/
theorem joinAll_mode (b : Block) {l : List Nat} {n : Nat} (hn : n ∈ l) : (b.joinAll l).rdN (Obj.StringRecord.Mode n) = smSUPPORT := by
  have hmakes (c : Block) : (c.joinSupport n).rdN (Obj.StringRecord.Mode n) = smSUPPORT := by
    unfold joinSupport
    exact rdN_wrN_self ..
  refine foldl_makes (I := fun _ => True) (Q := fun c => c.rdN (Obj.StringRecord.Mode n) = smSUPPORT) hn (fun _ _ _ _ => trivial)
    (fun c _ => hmakes c) (fun c _ hc a _ => ?_) trivial
  by_cases ha : a = n
  · rw [ha]
    exact hmakes c
  · refine ((c.joinSupport_keeps a (Obj.StringRecord.Mode n) ?_).2).trans hc
    simp only [Obj.StringRecord.Mode, Obj.StringRecord.TestStatus, objKey, List.mem_cons, List.not_mem_nil, or_false]
    omega

/-! ### The trigger (R229, R230) -/

/-- With an empty support set hold-up stops, and the rack is to be taken down. -/
theorem fireTrigger_stops {b : Block} (h : b.supportSet = []) (cause : Nat) : b.fireTrigger cause =
    { (b.wrN Obj.HoldupStatus.State huSTOPPED).report Src.HOLDUP_UNAVAILABLE 0 with
      holdup := { b.holdup with takeDown := Src.HOLDUP_UNAVAILABLE } } := if_pos (List.isEmpty_iff.2 h)

/-- The support command with which a transfer starts: the REC command and the present support, times ArmMargin / 1,024. -/
def armedTotal (b : Block) : Int := roundDiv ((b.holdup.recIg + b.holdup.isup) * b.rd Obj.MainsConfig.ArmMargin) 1024

/-- What the hold-up function's record holds when a transfer starts. -/
def transferRecord (b : Block) (cause : Nat) : Holdup :=
  { b.holdup with
    isup := b.armedTotal, iint := b.armedTotal, veff := b.busSample, trigger := b.glade.ticks + 1,
    dipBefore := (b.holdup.bus :: b.holdup.busBefore).getD (if cause = 1 then b.rd Obj.MainsConfig.LossTicks - 1 else 0) b.holdup.bus,
    dipLow := b.busSample, dipLeft := 100, busLoad := b.holdup.recIg, walk := 0, scheduled := false }

/-- The transfer starts: the bus passes to the support set from the next tick. -/
def beginTransfer (b : Block) (cause : Nat) : Block :=
  (({ b with holdup := b.transferRecord cause } : Block).wrN Obj.HoldupStatus.State huTRANSFER).joinAll b.supportSet

/-- The place and the cause of the trigger. -/
def triggerPlace (b : Block) (cause : Nat) : List (Nat × Nat) :=
  [(Obj.HoldupStatus.LastTriggerEpoch, b.glade.epoch), (Obj.HoldupStatus.LastTriggerCycle, b.glade.cycle),
    (Obj.HoldupStatus.LastTriggerTick, b.glade.tick), (Obj.HoldupStatus.LastTriggerCause, cause)]

/-- The hand-over is counted and its place kept. -/
def noteHandover (b : Block) (cause : Nat) : Block := (b.bump Obj.HoldupStatus.HandoverCount).wrs (b.triggerPlace cause)

/-- With a support set the trigger starts a transfer, which is noted and reported. -/
theorem fireTrigger_transfers {b : Block} (h : b.supportSet ≠ []) (cause : Nat) : b.fireTrigger cause =
    ((b.beginTransfer cause).noteHandover cause).report Src.HANDOVER 0 [cause, (b.beginTransfer cause).glade.tick] :=
  if_neg (mt List.isEmpty_iff.1 h)

theorem beginTransfer_sameParts (b : Block) (cause : Nat) : SameParts { b with holdup := b.transferRecord cause } (b.beginTransfer cause) :=
  SameParts.trans (c := ({ b with holdup := b.transferRecord cause } : Block).wrN Obj.HoldupStatus.State huTRANSFER) rfl (joinAll_sameParts ..)

theorem beginTransfer_glade (b : Block) (cause : Nat) : (b.beginTransfer cause).glade = b.glade :=
  (b.beginTransfer_sameParts cause).part (·.glade) fun _ _ _ => rfl

theorem beginTransfer_keeps (b : Block) (cause : Nat) :
    Keeps (Obj.HoldupStatus.State :: joinObjects b.supportSet) b (b.beginTransfer cause) :=
  (Keeps.wrN (Keeps.of_images rfl rfl) _ List.mem_cons_self).trans ((joinAll_keeps _ _).mono (List.subset_cons_self ..))

/-- The objects that note a hand-over. -/
def handoverObjects : List Nat :=
  [Obj.HoldupStatus.HandoverCount, Obj.HoldupStatus.LastTriggerEpoch, Obj.HoldupStatus.LastTriggerCycle, Obj.HoldupStatus.LastTriggerTick,
    Obj.HoldupStatus.LastTriggerCause]

theorem noteHandover_keeps (b : Block) (cause : Nat) : Keeps handoverObjects b (b.noteHandover cause) :=
  ((Keeps.refl b).wr _ (by simp [handoverObjects])).wrs _ (by simp [triggerPlace, handoverObjects])

/-- What a trigger makes of the block where the support set is not empty. -/
structure Transfers (cause : Nat) (b c : Block) : Prop where
  next : c.holdupNext = huTRANSFER
  modes : ∀ n ∈ b.supportSet, c.rdN (Obj.StringRecord.Mode n) = smSUPPORT
  command : c.holdup.isup = b.armedTotal
  count : c.rd Obj.HoldupStatus.HandoverCount = min (b.rd Obj.HoldupStatus.HandoverCount + 1) 0xFFFFFFFF
  tick : c.rd Obj.HoldupStatus.LastTriggerTick = b.glade.tick
  cycle : c.rd Obj.HoldupStatus.LastTriggerCycle = b.glade.cycle
  reason : c.rd Obj.HoldupStatus.LastTriggerCause = cause
  report : ({ src := Src.HANDOVER, inst := 0, detail := [(cause : Int), (b.glade.tick : Int)] } : Report) ∈ c.faults.reports

theorem joinObjects_subs (l : List Nat) : ∀ k ∈ joinObjects l, k % 256 ∉ [1, 4, 6] := fun k hk => by
  obtain ⟨n, -, hk⟩ := List.mem_flatMap.1 hk
  obtain rfl | rfl := List.mem_pair.1 hk <;> simp [Obj.StringRecord.TestStatus, Obj.StringRecord.Mode, objKey_mod]

theorem handoverObjects_subs : ∀ k ∈ handoverObjects, k % 256 ∉ [1, 4, 0x42] := by decide

theorem beginTransfer_next (b : Block) (cause : Nat) : (b.beginTransfer cause).holdupNext = huTRANSFER :=
  (joinAll_keeps _ b.supportSet _ (objKey_notMem 0x3B20 (by decide) fun k hk e =>
    joinObjects_subs _ k hk (by simp [e]))).2.trans (rdN_wrN_self ..)

theorem beginTransfer_count (b : Block) (cause : Nat) :
    (b.beginTransfer cause).rd Obj.HoldupStatus.HandoverCount = b.rd Obj.HoldupStatus.HandoverCount :=
  (joinAll_keeps _ b.supportSet).rd_sub (joinObjects_subs _) 0x3B20 (by decide) (by simp)

theorem noteHandover_shows (b : Block) (cause : Nat) :
    (b.noteHandover cause).rd Obj.HoldupStatus.HandoverCount = min (b.rd Obj.HoldupStatus.HandoverCount + 1) 0xFFFFFFFF ∧
      (b.noteHandover cause).rd Obj.HoldupStatus.LastTriggerTick = b.glade.tick ∧
      (b.noteHandover cause).rd Obj.HoldupStatus.LastTriggerCycle = b.glade.cycle ∧
      (b.noteHandover cause).rd Obj.HoldupStatus.LastTriggerCause = cause :=
  ⟨(rd_wrs ..).trans (rd_wr_self ..), rd_wrs .., rd_wrs .., rd_wrs ..⟩

theorem noteHandover_leaves_sub (b : Block) (cause index : Nat) {sub : Nat} (hlt : sub < 256) (hsub : sub ∈ [1, 4, 0x42]) :
    (b.noteHandover cause).rdN (objKey index sub) = b.rdN (objKey index sub) :=
  (b.noteHandover_keeps cause _ (objKey_notMem index hlt fun k hk e => handoverObjects_subs k hk (e ▸ hsub))).2

theorem fireTrigger_supports {b : Block} (h : b.supportSet ≠ []) (cause : Nat) : Transfers cause b (b.fireTrigger cause) := by
  have hparts := b.beginTransfer_sameParts cause
  have hglade := b.beginTransfer_glade cause
  have hnext := b.beginTransfer_next cause
  have hcount := b.beginTransfer_count cause
  have hmodes := fun n (hn : n ∈ b.supportSet) => show (b.beginTransfer cause).rdN _ = _ from joinAll_mode _ hn
  have hcommand : (b.beginTransfer cause).holdup.isup = b.armedTotal := hparts.part (·.holdup.isup) fun _ _ _ => rfl
  rw [fireTrigger_transfers h]
  generalize b.beginTransfer cause = c at *
  obtain ⟨hnoted, htick, hcycle, hcause⟩ := c.noteHandover_shows cause
  rw [hglade] at htick hcycle ⊢
  exact {
    next := (c.noteHandover_leaves_sub cause 0x3B20 (by decide) (by simp)).trans hnext
    modes := fun n hn => (c.noteHandover_leaves_sub cause (0x3600 + n) (by decide) (by simp)).trans (hmodes n hn)
    command := (congrArg Holdup.isup (wrs_holdup ..)).trans hcommand
    count := hcount ▸ hnoted
    tick := htick
    cycle := hcycle
    reason := hcause
    report := List.mem_append_right _ (List.mem_singleton_self _) }

/-- The trigger leaves the states of the mains feeds. -/
theorem fireTrigger_mainsNext (b : Block) (cause f : Nat) : (b.fireTrigger cause).mainsNext f = b.mainsNext f := by
  by_cases h : b.supportSet = []
  · rw [fireTrigger_stops h]
    have hne : Obj.MainsFeed.State f ≠ Obj.HoldupStatus.State := objKey_ne_of_sub_ne (by decide) (by decide) (by decide)
    exact b.wr_comm_rdN _ _ _ hne
  · rw [fireTrigger_transfers h]
    refine ((noteHandover_leaves_sub _ cause (0x3B10 + f) (by decide) (by simp)).trans (b.beginTransfer_keeps cause _ ?_).2)
    exact objKey_notMem (0x3B10 + f) (by decide) (List.forall_mem_cons.2 ⟨by decide, fun k hk e => joinObjects_subs _ k hk (by simp [e])⟩)

theorem fireTrigger_writes (b : Block) (cause : Nat) : (b.fireTrigger cause).writes = b.writes := by
  by_cases h : b.supportSet = []
  · rw [fireTrigger_stops h]
    rfl
  · rw [fireTrigger_transfers h]
    exact (wrs_writes ..).trans ((b.beginTransfer_sameParts cause).part (·.writes) fun _ _ _ => rfl)

/-! ### The loss of the last feed (R229) -/

/-- On the mains, the loss of the only feed that can supply the bus fires the trigger where the REC group has a command. -/
theorem loseFeed_fires {b : Block} {f : Nat} (hon : b.onMains = true) (hcommand : 0 < b.holdup.recIg)
    (hothers : ∀ g < 2, g ≠ f → b.mainsNext g < mfAVAILABLE ∨ b.rd Obj.MainsConfig.FeedCount ≤ g) (code lines : Nat) (extreme : Int)
    (duration : Nat) :
    b.loseFeed f code lines extreme duration = ((b.disturb f code lines extreme duration).feedLost f).fireTrigger 1 := by
  have hlost := b.disturb_feedLost f code lines extreme duration
  have hon' := (hlost.objects.onMains (holdupState_notMem_feedLossObjects f)).trans hon
  have hrec := hlost.parts.part (·.holdup.recIg) fun _ _ _ _ _ => rfl
  have hnone := feedCapacity_none (hlost.leaves_none hothers)
  unfold loseFeed checkCapacity
  generalize (b.disturb f code lines extreme duration).feedLost f = c at *
  rw [if_neg (by simp [hon']), if_pos (by rw [hnone, hrec]; exact hcommand)]

/-- The support set and what a transfer starts from are no matter of the lost feed. -/
theorem Lost.transfers {f cause : Nat} {b c d : Block} (h : Lost (feedLossObjects f) f b c) (ht : Transfers cause c d) : Transfers cause b d := by
  have hset : c.supportSet = b.supportSet := h.parts.part (·.supportSet) fun _ _ _ _ _ => rfl
  have hglade : c.glade = b.glade := h.parts.part (·.glade) fun _ _ _ _ _ => rfl
  have hrec : c.holdup.recIg = b.holdup.recIg := h.parts.part (·.holdup.recIg) fun _ _ _ _ _ => rfl
  have hsup : c.holdup.isup = b.holdup.isup := h.parts.part (·.holdup.isup) fun _ _ _ _ _ => rfl
  have hmargin := h.objects.rd_sub (feedLossObjects_subs f) 0x3B00 (sub := 0x12) (by decide) (by simp)
  have hcount := h.objects.rd_sub (feedLossObjects_subs f) 0x3B20 (sub := 6) (by decide) (by simp)
  have htotal : c.armedTotal = b.armedTotal := by
    unfold armedTotal
    rw [hrec, hsup]
    exact congrArg (fun m : Nat => roundDiv ((b.holdup.recIg + b.holdup.isup) * m) 1024) hmargin
  exact {
    next := ht.next
    modes := hset ▸ ht.modes
    command := ht.command.trans htotal
    count := ht.count.trans (congrArg (fun n => min (n + 1) 0xFFFFFFFF) hcount)
    tick := hglade ▸ ht.tick
    cycle := hglade ▸ ht.cycle
    reason := ht.reason
    report := hglade ▸ ht.report }

end Block

/-- Settles O22: the loss leaves no capacity, so the trigger fires (`loseFeed_fires`), and what it does goes by the support set. -/
theorem aLossWithoutCapacityHandsOverToTheBatteries : Obligations.ALossWithoutCapacityHandsOverToTheBatteries := by
  unfold Obligations.ALossWithoutCapacityHandsOverToTheBatteries
  intro s f hs hf hlosable hon _ hfound hothers hcommand
  obtain ⟨hpos, hlong⟩ := hfound
  obtain ⟨extreme, duration, he⟩ := Block.lossDetect_finds hlosable hpos hlong
  have hlost := s.blk.disturb_feedLost f 1 7 extreme duration
  have hset := hlost.parts.part (·.supportSet) fun _ _ _ _ _ => rfl
  have hwrites := hlost.parts.part (·.writes) fun _ _ _ _ _ => rfl
  rw [Block.loseFeed_fires hon hcommand hothers] at he
  generalize (s.blk.disturb f 1 7 extreme duration).feedLost f = c at *
  refine ⟨_, State.actOn_block (decide_eq_true hf) .mains f (·.lossDetect f) he ((c.fireTrigger_writes 1).trans (hwrites.trans hs)),
    ⟨rfl, rfl, rfl⟩, (c.fireTrigger_mainsNext 1 f).trans hlost.next, fun hempty => ?_, fun hstrings => ?_⟩
  · rw [Block.fireTrigger_stops (hset.trans hempty)]
    exact ⟨Block.rdN_wrN_self c _ _, rfl, List.mem_append_right _ (List.mem_singleton_self _)⟩
  · have ht := hlost.transfers (Block.fireTrigger_supports (hset ▸ hstrings) 1)
    exact ⟨ht.next, ht.modes, ht.command, ht.count, ht.tick, ht.cycle, ht.reason, ht.report⟩

end Sys2Proof.Machine
end

section
/-! PROOFS. Hold-up: the end of a transfer, the start of a walk-in and its end (R231, R234, R235, R246). -/

namespace Sys2Proof.Machine

open Sys2Proof.Safety

namespace Block

/-! ### TRANSFER becomes BATTERY (R231) -/

theorem transferComplete_done {b : Block} (hstate : b.holdupState = huTRANSFER) (hboundary : b.glade.boundary = true)
    (hlong : b.holdup.trigger + 98 ≤ b.glade.ticks) :
    b.transferComplete = b.wrs [(Obj.HoldupStatus.State, huBATTERY), (Obj.HoldupStatus.BatteryCycles, 0)] :=
  if_pos ⟨hstate, hboundary, hlong⟩

/-! ### A walk-in starts (R234) -/

/-- The REC group's law starts anew at its Setpoint. -/
def restartLaw (b : Block) (g : Nat) : Block :=
  b.setGroup g { b.group g with veff := b.rd (Obj.GroupRecord.Setpoint g) * 1000, iint := 0, ig := 0, low := 0 }

/-- The walk-in of the REC group starts. -/
def startWalk (b : Block) (g : Nat) : Block :=
  { (b.restartLaw g).wrs [(Obj.HoldupStatus.State, huWALK_IN), (Obj.HoldupStatus.WalkInProgress, 0)] with
    holdup := { b.holdup with scheduled := false, walk := 0 } }

theorem walkInAction_starts {b : Block} {g : Nat} (hgroup : b.recGroup = some g) (hstate : b.holdupState = huBATTERY) (a : Action) :
    walkInAction a b = b.startWalk g := by
  have hgroup' (h : Holdup) : ({ b with holdup := h } : Block).recGroup = some g := hgroup
  have hstate' (h : Holdup) : ¬ ({ b with holdup := h } : Block).holdupState ≠ huBATTERY := not_not.2 hstate
  unfold walkInAction
  dsimp only
  rw [hgroup']
  exact if_neg (hstate' _)

theorem startWalk_keeps (b : Block) (g : Nat) :
    Keeps [Obj.HoldupStatus.State, Obj.HoldupStatus.WalkInProgress] b (b.startWalk g) :=
  (((Keeps.refl b).setGroup g _).wrs _ (by simp)).trans (Keeps.of_images rfl rfl)

theorem startWalk_group (b : Block) (g : Nat) :
    (b.startWalk g).group g = { b.group g with veff := b.rd (Obj.GroupRecord.Setpoint g) * 1000, iint := 0, ig := 0, low := 0 } :=
  b.group_setGroup_self g _

/-! ### A walk-in ends (R234, R246) -/

/-- A string in SUPPORT rests. -/
def restFromSupport (b : Block) (n : Nat) : Block := if b.stringMode n = smSUPPORT then b.wr (Obj.StringRecord.Mode n) smREST else b

theorem leaveSupport_eq (b : Block) : b.leaveSupport =
    (List.range 16).foldl restFromSupport { b with holdup := { b.holdup with isup := 0, iint := 0, veff := 0 } } := rfl

theorem restFromSupport_sameParts (b : Block) (n : Nat) : SameParts b (b.restFromSupport n) := by
  unfold restFromSupport
  split <;> exact rfl

theorem restFromSupport_keeps (b : Block) (n : Nat) : Keeps [Obj.StringRecord.Mode n] b (b.restFromSupport n) := by
  unfold restFromSupport
  split
  · exact (Keeps.refl b).wr _ (List.mem_singleton_self _)
  · exact Keeps.refl b

/-- The mode of a string once it no longer supports. -/
def restedMode (mode : Nat) : Nat := if mode = smSUPPORT then smREST else mode

theorem restedMode_restedMode (mode : Nat) : restedMode (restedMode mode) = restedMode mode := by
  unfold restedMode
  split <;> simp_all [smREST, smSUPPORT]

theorem stringMode_restFromSupport (b : Block) (n m : Nat) :
    (b.restFromSupport n).stringMode m = if m = n then restedMode (b.stringMode m) else b.stringMode m := by
  split
  · next he =>
    subst he
    unfold restFromSupport restedMode
    split
    · exact rd_wr_self ..
    · rfl
  · next hne =>
    refine (b.restFromSupport_keeps n).rd_eq ?_
    simpa [Obj.StringRecord.Mode, objKey] using hne

/-- Each string of a list rests, and no other changes its mode. -/
theorem stringMode_foldl_rest (b : Block) (l : List Nat) (m : Nat) :
    (l.foldl restFromSupport b).stringMode m = if m ∈ l then restedMode (b.stringMode m) else b.stringMode m := by
  induction l generalizing b with
  | nil => rfl
  | cons n r ih =>
    rw [List.foldl_cons, ih, stringMode_restFromSupport]
    by_cases hn : m = n <;> by_cases hr : m ∈ r <;> simp [hn, hr, restedMode_restedMode]

theorem leaveSupport_mode (b : Block) {n : Nat} (hn : n < 16) : b.leaveSupport.stringMode n = restedMode (b.stringMode n) := by
  rw [leaveSupport_eq, stringMode_foldl_rest, if_pos (List.mem_range.2 hn)]
  rfl

theorem leaveSupport_sameParts (b : Block) :
    SameParts { b with holdup := { b.holdup with isup := 0, iint := 0, veff := 0 } } b.leaveSupport := by
  rw [leaveSupport_eq]
  exact List.foldlRecOn _ restFromSupport (SameParts.refl _) fun c hc n _ => hc.trans (c.restFromSupport_sameParts n)

/-- The modes of the strings. -/
def modeObjects : List Nat := (List.range 16).flatMap fun n => [Obj.StringRecord.Mode n]

/-- Leaving support changes no other object. -/
theorem leaveSupport_keeps (b : Block) : Keeps modeObjects b b.leaveSupport := by
  have hheld : Keeps modeObjects b { b with holdup := { b.holdup with isup := 0, iint := 0, veff := 0 } } := Keeps.of_images rfl rfl
  rw [leaveSupport_eq]
  exact hheld.trans (Keeps.foldl restFromSupport_keeps (List.range 16) _)

/-- The walk-in is over: hold-up is on the mains with the whole limit. -/
def endWalk (b : Block) : Block := b.wrs [(Obj.HoldupStatus.State, huMAINS), (Obj.HoldupStatus.WalkInProgress, 1024)]

theorem walkInEnd_done {b : Block} (hstate : b.holdupState = huWALK_IN) (hlong : b.walkSpan ≤ b.holdup.walk) :
    b.walkInEnd = b.endWalk.leaveSupport.report Src.HOLDUP_RETURN 0 := if_pos ⟨hstate, hlong⟩

theorem endWalk_stringMode (b : Block) (n : Nat) : b.endWalk.stringMode n = b.stringMode n :=
  rd_wrs_of_notMem _ _ _ fun e he => by
    have hsub : e.1 % 256 ∈ [1, 0x0D] := by
      obtain rfl | rfl := List.mem_pair.1 he <;> decide
    intro heq
    simp [heq, Obj.StringRecord.Mode, objKey_mod] at hsub

end Block

/-! ### The commands -/

section

variable {s : State} (hs : Settled s)
include hs

/-- The entry of a walk-in that is due fires: after the start of the walk-in only its completion follows. -/
theorem walkIn_next {h g : Nat} {a : Action} (hdue : Due s.blk h opWALK_IN a) (hgroup : s.blk.recGroup = some g)
    (hstate : s.blk.holdupState = huBATTERY) :
    ∃ t, exec (.walkIn h) s = .next t ∧ t.blk.entry? h = none ∧ Block.Keeps recordObjects (s.blk.startWalk g) t.blk ∧
      t.blk.holdup = (s.blk.startWalk g).holdup ∧ t.blk.groupTab = (s.blk.startWalk g).groupTab ∧ SameArrays s t := by
  have hfire := Block.fireEntry_due hdue Block.walkInAction
  rw [Block.walkInAction_starts hgroup hstate] at hfire
  have hwrites : (s.blk.startWalk g).writes = s.blk.writes := rfl
  generalize s.blk.startWalk g = d, (if a.late then actFIRED_LATE else actFIRED) = outcome at *
  have hdone := (d.entry?_completeEntry h a outcome [] none h).trans (if_pos rfl)
  exact ⟨_, State.act_block (·.fireEntry h opWALK_IN Block.walkInAction) hfire
      ((d.completeEntry_writes h a outcome [] none).trans (hwrites.trans hs)),
    hdone, (Block.Keeps.refl d).completeEntry h a outcome [] none (List.Subset.refl _),
    Block.completeEntry_of (·.holdup) (fun _ _ _ => rfl) (fun _ _ => rfl) (fun _ _ => rfl) (fun _ _ => rfl) d h a outcome [] none,
    Block.completeEntry_of (·.groupTab) (fun _ _ _ => rfl) (fun _ _ => rfl) (fun _ _ => rfl) (fun _ _ => rfl) d h a outcome [] none, rfl, rfl, rfl⟩

theorem walkIn_walks {h g : Nat} {a : Action} (hdue : Due s.blk h opWALK_IN a) (hgroup : s.blk.recGroup = some g)
    (hstate : s.blk.holdupState = huBATTERY) :
    ∃ t, exec (.walkIn h) s = .next t ∧ t.blk.holdupState = huWALK_IN ∧ t.blk.rd Obj.HoldupStatus.WalkInProgress = 0 ∧ t.blk.holdup.walk = 0 ∧
      t.blk.holdup.scheduled = false ∧ t.blk.entry? h = none ∧ (t.blk.group g).veff = s.blk.rd (Obj.GroupRecord.Setpoint g) * 1000 ∧
      (t.blk.group g).iint = 0 ∧ (t.blk.group g).ig = 0 ∧
      KeepsObjects (Obj.HoldupStatus.State :: Obj.HoldupStatus.WalkInProgress :: recordObjects) s t ∧ SameArrays s t := by
  obtain ⟨t, hnext, hentry, hkeeps, hholdup, htab, hsame⟩ := walkIn_next hs hdue hgroup hstate
  have hlaw := (Block.group_congr htab g).trans (s.blk.startWalk_group g)
  refine ⟨t, hnext, (hkeeps.rd_eq (by decide)).trans (Block.rd_wrs ..), (hkeeps.rd_eq (by decide)).trans (Block.rd_wrs ..),
    congrArg Holdup.walk hholdup, congrArg Holdup.scheduled hholdup, hentry, congrArg Group.veff hlaw, congrArg Group.iint hlaw,
    congrArg Group.ig hlaw, ?_, hsame⟩
  exact ((s.blk.startWalk_keeps g).mono (by simp)).trans (hkeeps.mono (by simp))

theorem walkInEnd_returns (hstate : s.blk.holdupState = huWALK_IN) (hlong : s.blk.walkSpan ≤ s.blk.holdup.walk) :
    ∃ t, exec .walkInEnd s = .next t ∧ t.blk.holdupState = huMAINS ∧ t.blk.rd Obj.HoldupStatus.WalkInProgress = 1024 ∧
      t.blk.holdup = { s.blk.holdup with isup := 0, iint := 0, veff := 0 } ∧
      (∀ n < 16, t.blk.stringMode n = if s.blk.stringMode n = smSUPPORT then smREST else s.blk.stringMode n) ∧
      Reports s t [{ src := Src.HOLDUP_RETURN, inst := 0 }] ∧ SameArrays s t := by
  have hparts := s.blk.endWalk.leaveSupport_sameParts
  have hkeeps := s.blk.endWalk.leaveSupport_keeps
  have hmodes := fun n (hn : n < 16) => s.blk.endWalk.leaveSupport_mode hn
  have hdone := Block.walkInEnd_done hstate hlong
  generalize s.blk.endWalk.leaveSupport = c at *
  have hreports : c.faults = s.blk.faults := hparts.part (·.faults) fun _ _ _ => rfl
  refine ⟨_, State.act_block Block.walkInEnd hdone ((hparts.part (·.writes) fun _ _ _ => rfl).trans hs),
    (hkeeps.rd_eq (by decide)).trans (Block.rd_wrs ..), (hkeeps.rd_eq (by decide)).trans (Block.rd_wrs ..),
    hparts.part (·.holdup) fun _ _ _ => rfl, fun n hn => ?_,
    congrArg (fun x : Faults => x.reports ++ [({ src := Src.HOLDUP_RETURN, inst := 0 } : Report)]) hreports, rfl, rfl, rfl⟩
  exact (hmodes n hn).trans (congrArg Block.restedMode (s.blk.endWalk_stringMode n))

end

/-- Settles O23: a transfer's end is two writes, a walk-in starts by `walkIn_walks` and ends by `walkInEnd_returns`; its strings go to REST
until the supervisors decide (log entry 43). The model keeps the trigger's tick as one more than it, and the 98 counts from there. -/
theorem holdUpTransfersWalksInAndReturns : Obligations.HoldUpTransfersWalksInAndReturns := by
  unfold Obligations.HoldUpTransfersWalksInAndReturns
  refine ⟨fun s hs hstate hboundary hlong => ?_, fun s h g a hs hdue hgroup hstate => walkIn_walks hs hdue hgroup hstate,
    fun s hs hstate hlong => walkInEnd_returns hs hstate hlong⟩
  exact ⟨_, State.act_block Block.transferComplete (Block.transferComplete_done hstate hboundary hlong) hs, Block.rd_wrs .., Block.rd_wrs ..,
    (Block.Keeps.refl s.blk).wrs _ (by simp), (Block.SameParts.refl s.blk).wrs _, rfl, rfl, rfl⟩

end Sys2Proof.Machine
end

section
/-! PROOFS. Strings and their packs: what the operations on a string's record, on its estimate and on its identity change (R247-R265). -/

namespace Sys2Proof.Machine

open Sys2Proof.Safety

/-- An object is none of a list whose sub-indices are others. -/
theorem objKey_notMem_of_subs {l subs : List Nat} (hl : ∀ k ∈ l, k % 256 ∈ subs) (index : Nat) {sub : Nat} (hlt : sub < 256)
    (hsub : sub ∉ subs) : objKey index sub ∉ l :=
  objKey_notMem index hlt fun k hk e => hsub (e ▸ hl k hk)

namespace Block

theorem bat_wr (b : Block) (k v n : Nat) : (b.wr k v).bat n = b.bat n := rfl
theorem bat_report (b : Block) (src inst : Nat) (detail : List Int) (n : Nat) : (b.report src inst detail).bat n = b.bat n := rfl

/-! ### What a string's operations leave alone -/

/-- The blocks differ at most in the objects and in the records of the strings listed, beside what is reported, alerted, stored typed,
decided by the supervisors, drawn as a free value or in progress on the two-wire ports: no write to a memory is handed over. -/
structure OnStrings (objects strings : List Nat) (b c : Block) : Prop where
  parts : c = { b with
    dict := c.dict, wimg := c.wimg, free := c.free, faults := c.faults, stringTab := c.stringTab, sup := c.sup, events := c.events,
    store := c.store, tw := c.tw }
  keeps : Keeps objects b c
  others : ∀ m, m ∉ strings → c.bat m = b.bat m

namespace OnStrings

variable {l ns : List Nat} {b c d : Block}

theorem refl (b : Block) : OnStrings l ns b b := ⟨rfl, Keeps.refl b, fun _ _ => rfl⟩

theorem trans (h : OnStrings l ns b c) (h' : OnStrings l ns c d) : OnStrings l ns b d where
  parts := h'.parts.trans (congrArg (fun x : Block => { x with
    dict := d.dict, wimg := d.wimg, free := d.free, faults := d.faults, stringTab := d.stringTab, sup := d.sup, events := d.events,
    store := d.store, tw := d.tw }) h.parts)
  keeps := h.keeps.trans h'.keeps
  others m hm := (h'.others m hm).trans (h.others m hm)

theorem mono {l' ns' : List Nat} (h : OnStrings l ns b c) (hl : l ⊆ l') (hns : ns ⊆ ns') : OnStrings l' ns' b c :=
  ⟨h.parts, h.keeps.mono hl, fun m hm => h.others m fun hn => hm (hns hn)⟩

/-- A step of no string, after others. -/
theorem also {l' : List Nat} (h : OnStrings l ns b c) (h' : OnStrings l' [] c d) (hl : l' ⊆ l) : OnStrings l ns b d :=
  h.trans (h'.mono hl (List.nil_subset _))

/-- A step of one string, after others. -/
theorem alsoOn {l' : List Nat} {n : Nat} (h : OnStrings l ns b c) (h' : OnStrings l' [n] c d) (hl : l' ⊆ l) (hn : n ∈ ns) :
    OnStrings l ns b d := h.trans (h'.mono hl (List.cons_subset.2 ⟨hn, List.nil_subset _⟩))

theorem bat_eq (h : OnStrings l [] b c) (m : Nat) : c.bat m = b.bat m := h.others m List.not_mem_nil

theorem writes (h : OnStrings l ns b c) : c.writes = b.writes := by rw [h.parts]
theorem glade (h : OnStrings l ns b c) : c.glade = b.glade := by rw [h.parts]
theorem domains (h : OnStrings l ns b c) : c.domains = b.domains := by rw [h.parts]
theorem sessions (h : OnStrings l ns b c) : c.sessions = b.sessions := by rw [h.parts]

/-- An object with a sub-index that none of those listed has reads as it did. -/
theorem rd_sub (h : OnStrings l ns b c) {subs : List Nat} (hl : ∀ k ∈ l, k % 256 ∈ subs) (index : Nat) {sub : Nat} (hlt : sub < 256)
    (hsub : sub ∉ subs) : c.rd (objKey index sub) = b.rd (objKey index sub) :=
  h.keeps.rd_eq (objKey_notMem_of_subs hl index hlt hsub)

theorem wr (h : OnStrings l ns b c) {k : Nat} (v : Nat) (hk : k ∈ l) : OnStrings l ns b (c.wr k v) :=
  h.trans ⟨rfl, (Keeps.refl c).wr v hk, fun _ _ => rfl⟩

theorem wrs (h : OnStrings l ns b c) (vs : List (Nat × Nat)) (hl : ∀ e ∈ vs, e.1 ∈ l) : OnStrings l ns b (c.wrs vs) := by
  induction vs generalizing c with
  | nil => exact h
  | cons e r ih => exact ih (h.wr e.2 (hl e List.mem_cons_self)) fun x hx => hl x (List.mem_cons_of_mem e hx)

theorem setBat (h : OnStrings l ns b c) {n : Nat} (x : BatString) (hn : n ∈ ns) : OnStrings l ns b (c.setBat n x) :=
  h.trans ⟨rfl, Keeps.of_images rfl rfl, fun m hm => (c.bat_setBat n m x).trans (if_neg fun e : m = n => hm (e ▸ hn))⟩

theorem report (h : OnStrings l ns b c) (src inst : Nat) (detail : List Int) : OnStrings l ns b (c.report src inst detail) :=
  h.trans ⟨rfl, Keeps.of_images rfl rfl, fun _ _ => rfl⟩

theorem draw (h : OnStrings l ns b c) (w : Nat) : OnStrings l ns b (c.draw w).2 := h.trans ⟨rfl, Keeps.of_images rfl rfl, fun _ _ => rfl⟩

theorem stringEvent (h : OnStrings l ns b c) (n bit : Nat) : OnStrings l ns b (c.stringEvent n bit) := by
  refine h.trans ?_
  unfold Block.stringEvent
  split
  · exact ⟨rfl, Keeps.of_images rfl rfl, fun _ _ => rfl⟩
  · exact refl c

theorem condition (h : OnStrings l ns b c) (src inst : Nat) (p : Bool) (hk : Obj.SourceConfig.PresentInstances src ∈ l) :
    OnStrings l ns b (c.condition src inst p) := by
  refine h.trans ⟨?_, (Keeps.refl c).condition src inst p [] false hk,
    fun m _ => condition_of (·.bat m) (fun _ _ _ => rfl) (fun _ _ => rfl) ..⟩
  unfold Block.condition
  split
  · rfl
  · split <;> rfl

/-- What the operations of several strings change. -/
theorem foldl {f : Block → Nat → Block} {objects : Nat → List Nat} (hf : ∀ b n, OnStrings (objects n) [n] b (f b n)) (l : List Nat)
    (b : Block) : OnStrings (l.flatMap objects) l b (l.foldl f b) :=
  List.foldlRecOn l f (refl b) fun c hc n hn =>
    hc.alsoOn (hf c n) (fun _ hk => List.mem_flatMap.2 ⟨n, hn, hk⟩) hn

end OnStrings

/-! ### Nothing appears -/

/-- No report is withdrawn, and no condition that was absent is present. -/
structure NothingAppears (b c : Block) : Prop where
  reports : b.faults.reports ⊆ c.faults.reports
  absent : ∀ src inst, b.isPresent src inst = false → c.isPresent src inst = false

namespace NothingAppears

variable {b c d : Block}

theorem of_faults (h : c.faults = b.faults) : NothingAppears b c :=
  ⟨fun _ hr => h ▸ hr, fun _ _ ha => (isPresent_congr (congrArg Faults.present h) _ _).trans ha⟩

theorem trans (h : NothingAppears b c) (h' : NothingAppears c d) : NothingAppears b d :=
  ⟨fun _ hr => h'.reports (h.reports hr), fun src inst ha => h'.absent src inst (h.absent src inst ha)⟩

theorem report (b : Block) (src inst : Nat) (detail : List Int) : NothingAppears b (b.report src inst detail) :=
  ⟨fun _ hr => List.mem_append_left _ hr, fun _ _ ha => ha⟩

theorem condition (b : Block) (src inst : Nat) : NothingAppears b (b.condition src inst false) where
  reports := by
    obtain ⟨-, he⟩ | ⟨hp, -⟩ | ⟨-, -, hreports, -⟩ := b.condition_cases src inst false []
    · rw [he]
      exact List.Subset.refl _
    · exact absurd hp Bool.false_ne_true
    · rw [hreports]
      exact List.Subset.refl _
  absent src' inst' ha := condition_end_leaves_absent ha src inst

end NothingAppears

/-! ### The estimate (R255-R258) -/

/-- The objects that show the estimate of string `n`. -/
def estimateObjects (n : Nat) : List Nat :=
  [Obj.StringRecord.Soc n, Obj.StringRecord.RemainingCharge n, Obj.StringRecord.CapacityEstimate n, Obj.StringRecord.Soh n]

theorem estimateObjects_subs (n : Nat) : ∀ k ∈ estimateObjects n, k % 256 ∈ [0x49, 0x4A, 0x4B, 0x4C] := by
  simp [estimateObjects, Obj.StringRecord.Soc, Obj.StringRecord.RemainingCharge, Obj.StringRecord.CapacityEstimate, Obj.StringRecord.Soh,
    objKey_mod]

theorem showEstimate_onStrings (b : Block) (n : Nat) : OnStrings (estimateObjects n) [] b (b.showEstimate n) :=
  (OnStrings.refl b).wrs _ (by simp [estimateObjects])

theorem setEstFlag_onStrings (b : Block) (n i : Nat) (on : Bool) : OnStrings [Obj.StringRecord.EstFlags n] [] b (b.setEstFlag n i on) :=
  (OnStrings.refl b).wr _ (List.mem_singleton_self _)

theorem estFlag_setEstFlag (b : Block) (n i j : Nat) (on : Bool) :
    (b.setEstFlag n i on).estFlag n j = if j = i then on else b.estFlag n j := by
  rw [estFlag, setEstFlag, rd_wr_self, bitOf_putBit, estFlag]

theorem setSoc_onStrings (b : Block) (n soc : Nat) : OnStrings (estimateObjects n) [n] b (b.setSoc n soc) :=
  (((OnStrings.refl b).setBat _ (List.mem_singleton_self n)).also (showEstimate_onStrings _ n) (List.Subset.refl _)).wr soc
    (by simp [estimateObjects])

theorem setSoc_rd (b : Block) (n soc : Nat) : (b.setSoc n soc).rd (Obj.StringRecord.Soc n) = soc := rd_wr_self ..

theorem setSoc_bat (b : Block) (n soc : Nat) : (b.setSoc n soc).bat n = { b.bat n with q := (b.bat n).cap * soc / 10000 } := by
  unfold setSoc
  rw [bat_wr, (showEstimate_onStrings _ n).bat_eq, bat_setBat_self]

theorem storeSet_onStrings (b : Block) (n : Nat) (x : Copy) : OnStrings [Obj.HeartwoodStatus.WriteRefusals] [] b (b.storeSet n x) := by
  unfold storeSet
  split
  · extract_lets c
    have hc : OnStrings [Obj.HeartwoodStatus.WriteRefusals] [] b c := (OnStrings.refl b).wr _ (List.mem_singleton_self _)
    split
    · exact hc
    · exact hc.trans ⟨rfl, Keeps.of_images rfl rfl, fun _ _ => rfl⟩
  · exact ⟨rfl, Keeps.of_images rfl rfl, fun _ _ => rfl⟩

theorem storeString_onStrings (b : Block) (n : Nat) : OnStrings [Obj.HeartwoodStatus.WriteRefusals] [n] b (b.storeString n) := by
  unfold storeString
  split
  · exact (OnStrings.refl b).also (b.storeSet_onStrings 8 {}) (List.Subset.refl _)
  · exact (OnStrings.refl b).setBat _ (List.mem_singleton_self n)

theorem writeRefusals_subs : ∀ k ∈ [Obj.HeartwoodStatus.WriteRefusals], k % 256 ∈ [0x0A] := by decide

theorem storeString_nothingAppears (b : Block) (n : Nat) : NothingAppears b (b.storeString n) := by
  refine ⟨?_, fun src inst ha => (isPresent_congr (b.storeString_present n) src inst).trans ha⟩
  unfold storeString storeSet
  split
  · dsimp only
    split
    · exact List.Subset.refl _
    · exact fun _ hr => List.mem_append_left _ hr
  · exact List.Subset.refl _

end Block

/-- A string's record without what its estimate and its stored values are. -/
def BatString.unestimated (x : BatString) : BatString :=
  { x with
    q := 0, cap := 0, dq := 0, anchored := false, held := none, inserting := false, gained := false, storedAt := 0, store := {},
    storeBefore := {} }

/-- The records of a string differ at most in what its estimate and its stored values are. -/
def BatString.Estimated (x y : BatString) : Prop := y.unestimated = x.unestimated

theorem BatString.Estimated.refl (x : BatString) : x.Estimated x := rfl

theorem BatString.Estimated.trans {x y z : BatString} (h : x.Estimated y) (h' : y.Estimated z) : x.Estimated z := Eq.trans h' h

/-- What the estimate and the stored values do not show reads as it did. -/
theorem BatString.Estimated.part {α : Type} {x y : BatString} (h : x.Estimated y) (f : BatString → α) (hf : ∀ z, f z.unestimated = f z) :
    f y = f x := by
  rw [← hf y, h, hf]

theorem BatString.estimated (x : BatString) (q cap : Nat) (dq : Int) (anchored inserting gained : Bool) (held : Option (Nat × Bool × Nat))
    (storedAt : Nat) (store storeBefore : StringStore) :
    x.Estimated { x with q, cap, dq, anchored, inserting, gained, held, storedAt, store, storeBefore } := rfl

namespace Block

theorem storeString_bat (b : Block) (n : Nat) : ∃ at' st before,
    (b.storeString n).bat n = { b.bat n with storedAt := at', store := st, storeBefore := before } := by
  unfold storeString
  split
  · exact ⟨_, _, _, ((b.storeSet_onStrings 8 {}).bat_eq n).trans rfl⟩
  · exact ⟨_, _, _, bat_setBat_self ..⟩

/-! ### A new pack, and an insertion (R258) -/

/-- The objects that the estimate of string `n` and its flags show. -/
def packObjects (n : Nat) : List Nat := Obj.StringRecord.EstFlags n :: estimateObjects n

theorem packObjects_subs (n : Nat) : ∀ k ∈ packObjects n, k % 256 ∈ [0x49, 0x4A, 0x4B, 0x4C, 0x4D] := by
  simp [packObjects, estimateObjects, Obj.StringRecord.Soc, Obj.StringRecord.RemainingCharge, Obj.StringRecord.CapacityEstimate,
    Obj.StringRecord.Soh, Obj.StringRecord.EstFlags, objKey_mod]

section

variable {l ns : List Nat} {b c : Block} {n : Nat} (h : OnStrings l ns b c) (hl : packObjects n ⊆ l)
include h hl

theorem OnStrings.setEstFlag (i : Nat) (on : Bool) : OnStrings l ns b (c.setEstFlag n i on) :=
  h.wr _ (hl List.mem_cons_self)

theorem OnStrings.showEstimate : OnStrings l ns b (c.showEstimate n) :=
  h.also (c.showEstimate_onStrings n) fun _ hk => hl (List.mem_cons_of_mem _ hk)

end

theorem newPack_onStrings (b : Block) (n : Nat) : OnStrings (packObjects n) [n] b (b.newPack n) :=
  have hl := List.Subset.refl (packObjects n)
  (((OnStrings.refl b).setBat _ (List.mem_singleton_self n)).setEstFlag hl _ _).showEstimate hl

theorem newPack_bat (b : Block) (n : Nat) : (b.bat n).Estimated ((b.newPack n).bat n) := by
  unfold newPack
  rw [(showEstimate_onStrings _ n).bat_eq, (setEstFlag_onStrings _ n _ _).bat_eq, bat_setBat_self]
  exact BatString.estimated ..

/-- The table gives a Soc, or a free value is drawn. -/
theorem insertionSoc_block (b : Block) (n : Nat) : (b.insertionSoc n).2 = b ∨ (b.insertionSoc n).2 = (b.draw 14).2 := by
  unfold insertionSoc
  dsimp only
  split
  · split
    · exact .inl rfl
    · exact .inr rfl
  · exact .inr rfl

theorem insertionSoc_onStrings (b : Block) (n : Nat) : OnStrings [] [] b (b.insertionSoc n).2 := by
  obtain he | he := b.insertionSoc_block n <;> rw [he]
  · exact OnStrings.refl b
  · exact (OnStrings.refl b).draw 14

theorem insertionSoc_faults (b : Block) (n : Nat) : (b.insertionSoc n).2.faults = b.faults := by
  obtain he | he := b.insertionSoc_block n <;> rw [he]
  rfl

theorem insertion_onStrings (b : Block) (n : Nat) : OnStrings (packObjects n) [n] b (b.insertion n) := by
  have hsoc : OnStrings (packObjects n) [n] b (b.insertionSoc n).2 :=
    (b.insertionSoc_onStrings n).mono (List.nil_subset _) (List.nil_subset _)
  unfold insertion
  exact ((hsoc.setBat _ (List.mem_singleton_self n)).alsoOn (setSoc_onStrings _ n _) (List.subset_cons_self ..)
    (List.mem_singleton_self n)).setEstFlag (List.Subset.refl _) _ _

theorem insertion_bat (b : Block) (n : Nat) : (b.bat n).Estimated ((b.insertion n).bat n) := by
  unfold insertion
  rw [(setEstFlag_onStrings _ n _ _).bat_eq, setSoc_bat, bat_setBat_self, (b.insertionSoc_onStrings n).bat_eq]
  exact BatString.estimated ..

theorem setSoc_faults (b : Block) (n soc : Nat) : (b.setSoc n soc).faults = b.faults := by
  unfold setSoc showEstimate
  rw [wr_faults, wrs_faults, setBat_faults]

theorem insertion_faults (b : Block) (n : Nat) : (b.insertion n).faults = b.faults := by
  unfold insertion setEstFlag
  rw [wr_faults, setSoc_faults, setBat_faults, insertionSoc_faults]

/-! ### An anchor (R257) -/

/-- A second anchor far enough from the first corrects the capacity, or finds it implausible. -/
def learnCapacity (b : Block) (n soc : Nat) : Block :=
  let x := b.bat n
  let d := ((soc : Int) - b.rd (Obj.StringRecord.LastAnchorSoc n)).natAbs
  let rated := b.ratedUnits n
  if x.anchored ∧ 4000 ≤ d ∧ !b.estFlag n efPACK_UNIDENTIFIED then
    let c := x.dq.natAbs * 10000 / d
    if rated ≤ 2 * c ∧ 10 * c ≤ 11 * rated then
      ((b.setBat n { x with cap := ((x.cap : Int) + roundDiv ((c : Int) - x.cap) 8).toNat }).setEstFlag n efSOH_UNLEARNED false).report
        Src.CAPACITY_LEARNED n [c / unitsPerMah]
    else b.report Src.CAPACITY_IMPLAUSIBLE n [c / unitsPerMah]
  else b

/-- The anchor is taken: the charge is counted from here, and the estimate is neither coarse nor clamped. -/
def markAnchor (b : Block) (n : Nat) : Block :=
  ((b.setBat n { b.bat n with dq := 0, anchored := true }).setEstFlag n efSOC_COARSE false).setEstFlag n efQ_CLAMPED false

theorem anchor_eq (b : Block) (n soc : Nat) : b.anchor n soc =
    ((((b.learnCapacity n soc).markAnchor n).wr (Obj.StringRecord.LastAnchorSoc n) soc).setSoc n soc).storeString n := rfl

theorem learnCapacity_onStrings (b : Block) (n soc : Nat) : OnStrings (packObjects n) [n] b (b.learnCapacity n soc) := by
  unfold learnCapacity
  dsimp only
  split
  · split
    · exact (((OnStrings.refl b).setBat _ (List.mem_singleton_self n)).setEstFlag (List.Subset.refl _) _ _).report _ _ _
    · exact (OnStrings.refl b).report _ _ _
  · exact OnStrings.refl b

theorem learnCapacity_bat (b : Block) (n soc : Nat) : ∃ cap, (b.learnCapacity n soc).bat n = { b.bat n with cap := cap } := by
  unfold learnCapacity
  dsimp only
  split
  · split
    · exact ⟨_, (bat_report ..).trans (((setEstFlag_onStrings _ n _ _).bat_eq n).trans (bat_setBat_self ..))⟩
    · exact ⟨_, rfl⟩
  · exact ⟨_, rfl⟩

theorem markAnchor_onStrings (b : Block) (n : Nat) : OnStrings (packObjects n) [n] b (b.markAnchor n) :=
  have hl := List.Subset.refl (packObjects n)
  (((OnStrings.refl b).setBat _ (List.mem_singleton_self n)).setEstFlag hl _ _).setEstFlag hl _ _

theorem markAnchor_bat (b : Block) (n : Nat) : (b.markAnchor n).bat n = { b.bat n with dq := 0, anchored := true } := by
  unfold markAnchor
  rw [(setEstFlag_onStrings _ n _ _).bat_eq, (setEstFlag_onStrings _ n _ _).bat_eq, bat_setBat_self]

theorem markAnchor_estFlag (b : Block) (n : Nat) :
    (b.markAnchor n).estFlag n efSOC_COARSE = false ∧ (b.markAnchor n).estFlag n efQ_CLAMPED = false := by
  unfold markAnchor
  simp [estFlag_setEstFlag, efSOC_COARSE, efQ_CLAMPED]

/-- The objects that an anchor of string `n` may change. -/
def anchorObjects (n : Nat) : List Nat :=
  Obj.StringRecord.LastAnchorSoc n :: Obj.HeartwoodStatus.WriteRefusals :: packObjects n

theorem anchor_onStrings (b : Block) (n soc : Nat) : OnStrings (anchorObjects n) [n] b (b.anchor n soc) := by
  have hpack : packObjects n ⊆ anchorObjects n := List.subset_cons_of_subset _ (List.subset_cons_self ..)
  have hn := List.mem_singleton_self n
  have hmarked : OnStrings (anchorObjects n) [n] b ((b.learnCapacity n soc).markAnchor n) :=
    ((b.learnCapacity_onStrings n soc).mono hpack (List.Subset.refl _)).alsoOn (markAnchor_onStrings ..) hpack hn
  have hshown := (hmarked.wr soc List.mem_cons_self).alsoOn (setSoc_onStrings _ n soc) (List.Subset.trans (List.subset_cons_self ..) hpack) hn
  exact hshown.alsoOn (storeString_onStrings _ n) (by simp [anchorObjects]) hn

/-- The store that follows an anchor leaves what the anchor shows. -/
theorem anchor_shows (b : Block) (n soc : Nat) :
    (b.anchor n soc).rd (Obj.StringRecord.Soc n) = soc ∧ (b.anchor n soc).rd (Obj.StringRecord.LastAnchorSoc n) = soc ∧
      (b.anchor n soc).estFlag n efSOC_COARSE = false ∧ (b.anchor n soc).estFlag n efQ_CLAMPED = false := by
  rw [anchor_eq]
  generalize b.learnCapacity n soc = c
  obtain ⟨hcoarse, hclamped⟩ := c.markAnchor_estFlag n
  generalize c.markAnchor n = d at hcoarse hclamped ⊢
  have hstore {sub : Nat} (hlt : sub < 256) (hsub : sub ∉ [0x0A]) :=
    (storeString_onStrings ((d.wr (Obj.StringRecord.LastAnchorSoc n) soc).setSoc n soc) n).rd_sub writeRefusals_subs (0x3600 + n) hlt hsub
  have hsoc {sub : Nat} (hlt : sub < 256) (hsub : sub ∉ [0x49, 0x4A, 0x4B, 0x4C]) :=
    (setSoc_onStrings (d.wr (Obj.StringRecord.LastAnchorSoc n) soc) n soc).rd_sub (estimateObjects_subs n) (0x3600 + n) hlt hsub
  have hflags : (((d.wr (Obj.StringRecord.LastAnchorSoc n) soc).setSoc n soc).storeString n).rd (Obj.StringRecord.EstFlags n) =
      d.rd (Obj.StringRecord.EstFlags n) :=
    (hstore (sub := 0x4D) (by decide) (by decide)).trans ((hsoc (by decide) (by decide)).trans
      (rd_wr_of_ne _ _ (objKey_ne_of_sub_ne (by decide) (by decide) (by decide))))
  refine ⟨(hstore (sub := 0x49) (by decide) (by decide)).trans (setSoc_rd ..),
    (hstore (sub := 0x59) (by decide) (by decide)).trans ((hsoc (by decide) (by decide)).trans (rd_wr_self ..)), ?_, ?_⟩
  · rwa [estFlag, hflags]
  · rwa [estFlag, hflags]

/-- What an anchor makes of the string's record. -/
theorem anchor_bat (b : Block) (n soc : Nat) : ∃ cap at' st before, (b.anchor n soc).bat n =
    { b.bat n with
      cap := cap, q := cap * soc / 10000, dq := 0, anchored := true, storedAt := at', store := st, storeBefore := before } := by
  obtain ⟨cap, hcap⟩ := b.learnCapacity_bat n soc
  obtain ⟨at', st, before, hstore⟩ :=
    storeString_bat ((((b.learnCapacity n soc).markAnchor n).wr (Obj.StringRecord.LastAnchorSoc n) soc).setSoc n soc) n
  refine ⟨cap, at', st, before, ?_⟩
  rw [anchor_eq, hstore, setSoc_bat, bat_wr, markAnchor_bat, hcap]

/-! ### The levels, the test and the support set (R250-R253) -/

theorem showInhibit_onStrings (b : Block) (n : Nat) : OnStrings [Obj.StringRecord.Inhibit n] [] b (b.showInhibit n) := by
  unfold showInhibit
  dsimp only
  split
  · exact OnStrings.refl b
  · exact (OnStrings.refl b).wr _ (List.mem_singleton_self _)

/-- The objects that count the strings at a level. -/
def levelObjects : List Nat :=
  [Src.BAT_W1, Src.BAT_W2, Src.BAT_CUTOFF, Src.BAT_CHG_WARN, Src.BAT_CHG_STOP].map Obj.SourceConfig.PresentInstances

theorem levelsChanged_onStrings (b : Block) (n old new oldC newC : Nat) :
    OnStrings levelObjects [] b (b.levelsChanged n old new oldC newC) := by
  unfold levelsChanged
  extract_lets c d e
  have hd : OnStrings levelObjects [] b d :=
    (((((OnStrings.refl b).condition Src.BAT_W1 n _ (by decide)).condition Src.BAT_W2 n _ (by decide)).condition Src.BAT_CUTOFF n _
      (by decide)).condition Src.BAT_CHG_WARN n _ (by decide)).condition Src.BAT_CHG_STOP n _ (by decide)
  have he : OnStrings levelObjects [] b e := by
    unfold e
    split
    · exact hd.stringEvent n _
    · exact hd
  split
  · exact he.stringEvent n _
  · exact he

/-- At level 3 BAT_CUTOFF of the string is present (R253). -/
theorem levelsChanged_cutoff (b : Block) (n old oldC newC : Nat) :
    (b.levelsChanged n old 3 oldC newC).isPresent Src.BAT_CUTOFF n = true := by
  unfold levelsChanged
  extract_lets c d e
  have hkey {src : Nat} (h : Src.BAT_CUTOFF < src) : instKey Src.BAT_CUTOFF n ≠ instKey src n := by
    unfold instKey
    omega
  have hd : d.isPresent Src.BAT_CUTOFF n = true :=
    (isPresent_condition_of_ne _ (hkey (by decide)) _ _).trans
      ((isPresent_condition_of_ne _ (hkey (by decide)) _ _).trans (isPresent_condition ..))
  have hevent (x : Block) (bit : Nat) : (x.stringEvent n bit).isPresent Src.BAT_CUTOFF n = x.isPresent Src.BAT_CUTOFF n :=
    isPresent_congr (congrArg Faults.present (x.stringEvent_faults n bit)) _ _
  have he : e.isPresent Src.BAT_CUTOFF n = true := by
    unfold e
    split
    · exact (hevent ..).trans hd
    · exact hd
  split
  · exact (hevent ..).trans he
  · exact he

/-- The objects of a test of string `n` that is abandoned. -/
def testObjects (n : Nat) : List Nat := [Obj.StringRecord.TestStatus n, Obj.StringRecord.Mode n]

theorem abandonTest_onStrings (b : Block) (n : Nat) : OnStrings (testObjects n) [n] b (b.abandonTest n) := by
  unfold abandonTest
  split
  · extract_lets x c
    have hc : OnStrings (testObjects n) [n] b c :=
      ((OnStrings.refl b).wr 4 List.mem_cons_self).setBat _ (List.mem_singleton_self n)
    split
    · exact hc.wr _ (by simp [testObjects])
    · exact hc
  · exact OnStrings.refl b

theorem abandonTest_bat (b : Block) (n : Nat) :
    ∃ left next, (b.abandonTest n).bat n = { b.bat n with testLeft := left, nextMode := next } := by
  unfold abandonTest
  split
  · dsimp only
    split
    · exact ⟨_, _, (bat_wr ..).trans (bat_setBat_self ..)⟩
    · exact ⟨_, _, bat_setBat_self ..⟩
  · exact ⟨_, _, rfl⟩

/-- The objects that string `n` changes as it leaves the support set. -/
def leaveObjects (n : Nat) : List Nat :=
  [Obj.StringRecord.DischargeLimit n, Obj.StringRecord.SupportWeight n, Obj.StringRecord.Mode n]

/-- A string outside the support set has no limit and no weight. -/
def clearSupport (b : Block) (n : Nat) : Block :=
  (b.setBat n { b.bat n with support := false, limitBus := 0 }).wrs
    [(Obj.StringRecord.DischargeLimit n, 0), (Obj.StringRecord.SupportWeight n, 0)]

theorem leaveSet_eq (b : Block) (n : Nat) : b.leaveSet n =
    if (b.clearSupport n).stringMode n = smSUPPORT then (b.clearSupport n).wr (Obj.StringRecord.Mode n) smREST else b.clearSupport n := rfl

theorem clearSupport_onStrings (b : Block) (n : Nat) : OnStrings (leaveObjects n) [n] b (b.clearSupport n) :=
  ((OnStrings.refl b).setBat _ (List.mem_singleton_self n)).wrs _ (by simp [leaveObjects])

theorem leaveSet_onStrings (b : Block) (n : Nat) : OnStrings (leaveObjects n) [n] b (b.leaveSet n) := by
  rw [leaveSet_eq]
  split
  · exact (b.clearSupport_onStrings n).wr _ (by simp [leaveObjects])
  · exact b.clearSupport_onStrings n

theorem leaveSet_bat (b : Block) (n : Nat) : (b.leaveSet n).bat n = { b.bat n with support := false, limitBus := 0 } := by
  have hclear : (b.clearSupport n).bat n = { b.bat n with support := false, limitBus := 0 } :=
    (wrs_of (·.bat n) (fun _ _ _ => rfl) ..).trans (bat_setBat_self ..)
  rw [leaveSet_eq]
  split
  · exact (bat_wr ..).trans hclear
  · exact hclear

/-- Outside the support set a string has no limit, and it is not in SUPPORT (R251). -/
theorem leaveSet_shows (b : Block) (n : Nat) :
    (b.leaveSet n).rd (Obj.StringRecord.DischargeLimit n) = 0 ∧ (b.leaveSet n).stringMode n ≠ smSUPPORT := by
  have hlimit : (b.clearSupport n).rd (Obj.StringRecord.DischargeLimit n) = 0 :=
    (rd_wr_of_ne _ _ (objKey_ne_of_sub_ne (by decide) (by decide) (by decide))).trans (rd_wr_self ..)
  rw [leaveSet_eq]
  split
  · refine ⟨(rd_wr_of_ne _ _ (objKey_ne_of_sub_ne (by decide) (by decide) (by decide))).trans hlimit, ?_⟩
    rw [stringMode, rd_wr_self]
    decide
  · exact ⟨hlimit, ‹_›⟩

/-- The weights of all strings (R250). -/
def weightObjects : List Nat := (List.range 16).map Obj.StringRecord.SupportWeight

theorem weightObjects_subs : ∀ k ∈ weightObjects, k % 256 ∈ [0x50] := by decide

theorem showWeights_onStrings (b : Block) : OnStrings weightObjects [] b b.showWeights :=
  List.foldlRecOn b.supportSet _ (OnStrings.refl b) fun _ hc _ hn =>
    hc.wr _ (List.mem_map_of_mem (List.mem_filter.1 hn).1)

/-! ### Identity and the attempts (R254, R262-R265) -/

/-- The objects that an identity of string `n` may change as it is set. -/
def identityObjects (n : Nat) : List Nat :=
  Obj.StringRecord.Identity n :: Obj.StringRecord.Inhibit n ::
    [Src.PACK_AUTH_FAIL, Src.PACK_ID_CONFLICT, Src.PACK_NO_RESPONSE].map Obj.SourceConfig.PresentInstances

theorem identityObjects_subs (n : Nat) : ∀ k ∈ identityObjects n, k % 256 ∈ [0x41, 0x45, 0x0B] := by
  simp [identityObjects, Obj.StringRecord.Identity, Obj.StringRecord.Inhibit, Obj.SourceConfig.PresentInstances, objKey_mod]

/-- The conditions that an identity other than PENDING sets (R271). -/
def identityConditions (b : Block) (n v : Nat) : Block :=
  if v = idPENDING then b
  else ((b.condition Src.PACK_AUTH_FAIL n (v == idAUTH_FAILED)).condition Src.PACK_ID_CONFLICT n (v == idPACK_ID_CONFLICT)).condition
    Src.PACK_NO_RESPONSE n (v == idNO_RESPONSE)

theorem setIdentity_eq (b : Block) (n v : Nat) : b.setIdentity n v =
    if b.rd (Obj.StringRecord.Identity n) = v then b
    else (((b.wr (Obj.StringRecord.Identity n) v).identityConditions n v).stringEvent n 6).showInhibit n := rfl

theorem identityConditions_onStrings (b : Block) (n v : Nat) : OnStrings (identityObjects n) [] b (b.identityConditions n v) := by
  unfold identityConditions
  split
  · exact OnStrings.refl b
  · exact (((OnStrings.refl b).condition Src.PACK_AUTH_FAIL n _ (by simp [identityObjects])).condition Src.PACK_ID_CONFLICT n _
      (by simp [identityObjects])).condition Src.PACK_NO_RESPONSE n _ (by simp [identityObjects])

theorem setIdentity_onStrings (b : Block) (n v : Nat) : OnStrings (identityObjects n) [] b (b.setIdentity n v) := by
  rw [setIdentity_eq]
  split
  · exact OnStrings.refl b
  · have hset : OnStrings (identityObjects n) [] b (b.wr (Obj.StringRecord.Identity n) v) := (OnStrings.refl b).wr v List.mem_cons_self
    exact ((hset.trans (identityConditions_onStrings _ n v)).stringEvent n 6).also (showInhibit_onStrings _ n) (by simp [identityObjects])

theorem setIdentity_rd (b : Block) (n v : Nat) : (b.setIdentity n v).rd (Obj.StringRecord.Identity n) = v := by
  rw [setIdentity_eq]
  split
  · assumption
  · have hne {src : Nat} : Obj.StringRecord.Identity n ≠ Obj.SourceConfig.PresentInstances src :=
      objKey_ne_of_sub_ne (by decide) (by decide) (by decide)
    have hevent (c : Block) : (c.stringEvent n 6).rd (Obj.StringRecord.Identity n) = c.rd (Obj.StringRecord.Identity n) :=
      ((OnStrings.refl (l := []) (ns := []) c).stringEvent n 6).keeps.rd_eq List.not_mem_nil
    have hinhibit (c : Block) : (c.showInhibit n).rd (Obj.StringRecord.Identity n) = c.rd (Obj.StringRecord.Identity n) :=
      (c.showInhibit_onStrings n).keeps.rd_eq (mt List.mem_singleton.1 (objKey_ne_of_sub_ne (by decide) (by decide) (by decide)))
    rw [hinhibit, hevent]
    unfold identityConditions
    split
    · exact rd_wr_self ..
    · rw [rd_condition_of_ne _ _ _ _ _ _ hne, rd_condition_of_ne _ _ _ _ _ _ hne, rd_condition_of_ne _ _ _ _ _ _ hne, rd_wr_self]

/-- An identity that tells of no failure raises nothing. -/
theorem setIdentity_nothingAppears (b : Block) (n : Nat) {v : Nat} (hv : v ∉ [idAUTH_FAILED, idPACK_ID_CONFLICT, idNO_RESPONSE]) :
    NothingAppears b (b.setIdentity n v) := by
  rw [setIdentity_eq]
  split
  · exact NothingAppears.of_faults rfl
  · simp only [List.mem_cons, List.not_mem_nil, or_false, not_or] at hv
    obtain ⟨hfail, hconflict, hsilent⟩ := hv
    refine NothingAppears.trans ?_ (NothingAppears.of_faults ((showInhibit_faults _ n).trans (stringEvent_faults _ n 6)))
    unfold identityConditions
    split
    · exact NothingAppears.of_faults rfl
    · rw [beq_false_of_ne hfail, beq_false_of_ne hconflict, beq_false_of_ne hsilent]
      have hset : NothingAppears b (b.wr (Obj.StringRecord.Identity n) v) := NothingAppears.of_faults rfl
      exact ((hset.trans (.condition _ _ n)).trans (.condition _ _ n)).trans (.condition _ _ n)

/-- The record of a string whose attempt is queued, its Identity now `before`. -/
def queuedBat (x : BatString) (before : Nat) : BatString := { x with auth := 1, identityBefore := before, nextAuth := none }

/-- An attempt falls due where the holder has a port for it and none runs; otherwise nothing happens. -/
theorem authDue_cases (b : Block) (n : Nat) : b.authDue n = b ∨
    b.authDue n = (b.setBat n (queuedBat (b.bat n) (b.rd (Obj.StringRecord.Identity n)))).setIdentity n idPENDING := by
  unfold authDue
  dsimp only
  split
  · exact .inl rfl
  · exact .inr rfl

theorem authDue_queues {b : Block} {n : Nat} (hholder : b.isHolder = true) (hport : b.rd (Obj.StringRecord.AuthPort n) ≠ 0)
    (hidle : (b.bat n).auth = 0) :
    b.authDue n = (b.setBat n (queuedBat (b.bat n) (b.rd (Obj.StringRecord.Identity n)))).setIdentity n idPENDING :=
  if_neg (by simp [hholder, hport, hidle])

theorem authDue_onStrings (b : Block) (n : Nat) : OnStrings (identityObjects n) [n] b (b.authDue n) := by
  obtain he | he := b.authDue_cases n <;> rw [he]
  · exact OnStrings.refl b
  · exact ((OnStrings.refl b).setBat _ (List.mem_singleton_self n)).also (setIdentity_onStrings _ n _) (List.Subset.refl _)

theorem authDue_nothingAppears (b : Block) (n : Nat) : NothingAppears b (b.authDue n) := by
  obtain he | he := b.authDue_cases n <;> rw [he]
  · exact NothingAppears.of_faults rfl
  · exact (NothingAppears.of_faults (b.setBat_faults n _)).trans (setIdentity_nothingAppears _ n (by decide))

theorem authDue_bat (b : Block) (n m : Nat) :
    ((b.authDue n).bat m).absentSeen = (b.bat m).absentSeen ∧ ((b.authDue n).bat m).startWanted = (b.bat m).startWanted := by
  obtain he | he := b.authDue_cases n <;> rw [he]
  · exact ⟨rfl, rfl⟩
  · rw [(setIdentity_onStrings _ n _).bat_eq, bat_setBat]
    split
    · next hm => exact hm ▸ ⟨rfl, rfl⟩
    · exact ⟨rfl, rfl⟩

/-! ### What a PackId decides, and the end of an attempt (R258, R263) -/

/-- The objects that the PackId of string `n` may change. -/
def decidedObjects (n : Nat) : List Nat := Obj.StringRecord.PackId n :: packObjects n

theorem decidedObjects_subs (n : Nat) : ∀ k ∈ decidedObjects n, k % 256 ∈ [0x51, 0x49, 0x4A, 0x4B, 0x4C, 0x4D] := by
  simp [decidedObjects, packObjects, estimateObjects, Obj.StringRecord.Soc, Obj.StringRecord.RemainingCharge,
    Obj.StringRecord.CapacityEstimate, Obj.StringRecord.Soh, Obj.StringRecord.EstFlags, Obj.StringRecord.PackId, objKey_mod]

theorem packDecided_onStrings (b : Block) (n : Nat) (id : Option Nat) : OnStrings (decidedObjects n) [n] b (b.packDecided n id) := by
  have hn := List.mem_singleton_self n
  have hpack : packObjects n ⊆ decidedObjects n := List.subset_cons_self ..
  unfold packDecided
  extract_lets x stored c
  have hc : OnStrings (decidedObjects n) [n] b c := (OnStrings.refl b).setBat _ hn
  split
  · next i cap unlearned old _ =>
    have hback (y : BatString) := ((hc.wr i List.mem_cons_self).setBat y hn).setEstFlag hpack efPACK_UNIDENTIFIED false
    split
    · exact (((hback _).setBat _ hn).setEstFlag hpack _ _).showEstimate hpack
    · exact (hback _).report _ _ _
  · next i _ =>
    have hid : OnStrings (decidedObjects n) [n] b (c.wr (Obj.StringRecord.PackId n) i) := hc.wr i List.mem_cons_self
    split
    · split
      · exact (hid.alsoOn (newPack_onStrings _ n) hpack hn).report _ _ _
      · exact ((hid.alsoOn (insertion_onStrings _ n) hpack hn).alsoOn (newPack_onStrings _ n) hpack hn).report _ _ _
    · exact hid
  · split
    · exact ((hc.alsoOn (newPack_onStrings _ n) hpack hn).setEstFlag hpack _ _).setBat _ hn
    · exact hc

theorem packDecided_bat (b : Block) (n : Nat) (id : Option Nat) : (b.bat n).Estimated ((b.packDecided n id).bat n) := by
  unfold packDecided
  extract_lets x stored c
  have hc : x.Estimated (c.bat n) := by
    rw [bat_setBat_self]
    exact BatString.estimated ..
  clear_value c
  split
  · dsimp only
    split
    · rw [(showEstimate_onStrings _ n).bat_eq, (setEstFlag_onStrings _ n _ _).bat_eq, bat_setBat_self,
        (setEstFlag_onStrings _ n _ _).bat_eq, bat_setBat_self, bat_wr]
      exact hc.trans (BatString.estimated ..)
    · rw [bat_report, (setEstFlag_onStrings _ n _ _).bat_eq, bat_setBat_self, bat_wr]
      exact hc.trans (BatString.estimated ..)
  · dsimp only
    split
    · rw [bat_report]
      refine hc.trans (BatString.Estimated.trans ?_ (newPack_bat _ n))
      split
      · rw [bat_wr]
        exact BatString.Estimated.refl _
      · refine BatString.Estimated.trans ?_ (insertion_bat _ n)
        rw [bat_wr]
        exact BatString.Estimated.refl _
    · rw [bat_wr]
      exact hc
  · split
    · have hpacked : (c.bat n).Estimated (((c.newPack n).setEstFlag n efPACK_UNIDENTIFIED true).bat n) := by
        rw [(setEstFlag_onStrings _ n _ _).bat_eq]
        exact newPack_bat c n
      rw [bat_setBat_self]
      exact hc.trans (hpacked.trans (BatString.estimated ..))
    · exact hc

theorem packDecided_packId (b : Block) (n i : Nat) : (b.packDecided n (some i)).rd (Obj.StringRecord.PackId n) = i := by
  have hpack {c d : Block} (h : OnStrings (packObjects n) [n] c d) :
      d.rd (Obj.StringRecord.PackId n) = c.rd (Obj.StringRecord.PackId n) :=
    h.rd_sub (packObjects_subs n) (0x3600 + n) (by decide) (by decide)
  have hsub := List.Subset.refl (packObjects n)
  have hn := List.mem_singleton_self n
  unfold packDecided
  extract_lets x stored c
  split
  · next h _ =>
    cases h
    have hback (y : BatString) (d : Block) := ((OnStrings.refl d).setBat y hn).setEstFlag hsub efPACK_UNIDENTIFIED false
    split
    · exact (hpack ((((hback _ _).setBat _ hn).setEstFlag hsub _ _).showEstimate hsub)).trans (rd_wr_self ..)
    · exact (hpack ((hback _ _).report _ _ _)).trans (rd_wr_self ..)
  · next h _ =>
    cases h
    split
    · split
      · exact (hpack ((newPack_onStrings _ n).report _ _ _)).trans (rd_wr_self ..)
      · exact (hpack (((insertion_onStrings _ n).trans (newPack_onStrings _ n)).report _ _ _)).trans (rd_wr_self ..)
    · exact rd_wr_self ..
  · next h => cases h

theorem storeString_estimated (b : Block) (n : Nat) : (b.bat n).Estimated ((b.storeString n).bat n) := by
  obtain ⟨at', st, before, he⟩ := b.storeString_bat n
  rw [he]
  exact BatString.estimated ..

/-- The cycles until the next attempt (R263, R265). -/
def authWait (b : Block) (n v : Nat) : Nat := if v = idAUTHENTICATED then b.rd (Obj.StringRecord.AuthInterval n) else 500

/-- The record of a string whose attempt is over, the next due in cycle `next`. -/
def endedBat (x : BatString) (next : Nat) : BatString := { x with auth := 0, nonce := [], retried := false, nextAuth := some next }

/-- The attempt is over, and its place is kept. -/
def attemptPlaced (b : Block) (n v : Nat) : Block :=
  (b.setBat n (endedBat (b.bat n) (b.glade.cycles + b.authWait n v))).wrs
    [(Obj.StringRecord.LastAuthEpoch n, b.glade.epoch), (Obj.StringRecord.LastAuthCycle n, b.glade.cycle)]

/-- An attempt that ended with `v` is over; a failure is counted. -/
def attemptOver (b : Block) (n v : Nat) : Block :=
  if v = idAUTHENTICATED then b.attemptPlaced n v else (b.attemptPlaced n v).bump (Obj.StringRecord.AuthFailures n)

theorem authOutcome_eq (b : Block) (n v : Nat) (id : Option Nat) :
    b.authOutcome n v id = (((b.attemptOver n v).setIdentity n v).packDecided n id).storeString n := rfl

/-- The objects of string `n` that the end of an attempt counts and places. -/
def attemptObjects (n : Nat) : List Nat :=
  [Obj.StringRecord.LastAuthEpoch n, Obj.StringRecord.LastAuthCycle n, Obj.StringRecord.AuthFailures n]

theorem attemptOver_onStrings (b : Block) (n v : Nat) : OnStrings (attemptObjects n) [n] b (b.attemptOver n v) := by
  have hplaced : OnStrings (attemptObjects n) [n] b (b.attemptPlaced n v) :=
    ((OnStrings.refl b).setBat _ (List.mem_singleton_self n)).wrs _ (by simp [attemptObjects])
  unfold attemptOver
  split
  · exact hplaced
  · exact hplaced.wr _ (by simp [attemptObjects])

theorem attemptOver_bat (b : Block) (n v : Nat) :
    (b.attemptOver n v).bat n = endedBat (b.bat n) (b.glade.cycles + b.authWait n v) := by
  have hplaced : (b.attemptPlaced n v).bat n = endedBat (b.bat n) (b.glade.cycles + b.authWait n v) :=
    (wrs_of (·.bat n) (fun _ _ _ => rfl) ..).trans (bat_setBat_self ..)
  unfold attemptOver
  split
  · exact hplaced
  · exact (bat_wr ..).trans hplaced

theorem attemptOver_counts (b : Block) (n v : Nat) :
    (b.attemptOver n v).rd (Obj.StringRecord.LastAuthCycle n) = b.glade.cycle ∧
    (b.attemptOver n v).rd (Obj.StringRecord.AuthFailures n) = if v = idAUTHENTICATED then b.rd (Obj.StringRecord.AuthFailures n)
      else min (b.rd (Obj.StringRecord.AuthFailures n) + 1) 0xFFFFFFFF := by
  have hne {k l : Nat} (hk : k < 256) (hl : l < 256) (h : k ≠ l) := objKey_ne_of_sub_ne (i := 0x3600 + n) (j := 0x3600 + n) hk hl h
  have hcycle : (b.attemptPlaced n v).rd (Obj.StringRecord.LastAuthCycle n) = b.glade.cycle := rd_wr_self ..
  have hfailures : (b.attemptPlaced n v).rd (Obj.StringRecord.AuthFailures n) = b.rd (Obj.StringRecord.AuthFailures n) :=
    (rd_wr_of_ne _ _ (hne (by decide) (by decide) (by decide))).trans (rd_wr_of_ne _ _ (hne (by decide) (by decide) (by decide)))
  unfold attemptOver
  split
  · exact ⟨hcycle, hfailures⟩
  · refine ⟨(rd_wr_of_ne _ _ (hne (by decide) (by decide) (by decide))).trans hcycle, ?_⟩
    rw [rd_bump, if_pos rfl, hfailures]
    rfl

/-- The objects that change once an attempt is over. -/
def judgedObjects (n : Nat) : List Nat := identityObjects n ++ (decidedObjects n ++ [Obj.HeartwoodStatus.WriteRefusals])

theorem judgedObjects_subs (n : Nat) : ∀ k ∈ judgedObjects n, k % 256 ∈ [0x41, 0x45, 0x0B] ++ ([0x51, 0x49, 0x4A, 0x4B, 0x4C, 0x4D] ++ [0x0A]) := by
  intro k hk
  obtain hk | hk := List.mem_append.1 hk
  · exact List.mem_append_left _ (identityObjects_subs n k hk)
  · obtain hk | hk := List.mem_append.1 hk
    · exact List.mem_append_right _ (List.mem_append_left _ (decidedObjects_subs n k hk))
    · exact List.mem_append_right _ (List.mem_append_right _ (writeRefusals_subs k hk))

theorem authOutcome_judged (b : Block) (n v : Nat) (id : Option Nat) :
    OnStrings (judgedObjects n) [n] (b.attemptOver n v) (b.authOutcome n v id) := by
  have hn := List.mem_singleton_self n
  have hset : OnStrings (judgedObjects n) [n] (b.attemptOver n v) ((b.attemptOver n v).setIdentity n v) :=
    (setIdentity_onStrings _ n v).mono (List.subset_append_left ..) (List.nil_subset _)
  exact (hset.alsoOn (packDecided_onStrings _ n id) (by simp [judgedObjects]) hn).alsoOn (storeString_onStrings _ n)
    (by simp [judgedObjects]) hn

theorem authOutcome_onStrings (b : Block) (n v : Nat) (id : Option Nat) : OnStrings (stringObjects n) [n] b (b.authOutcome n v id) :=
  ((b.attemptOver_onStrings n v).mono (by simp [attemptObjects, stringObjects]) (List.Subset.refl _)).alsoOn (b.authOutcome_judged n v id)
    (by simp [judgedObjects, identityObjects, decidedObjects, packObjects, estimateObjects, stringObjects]) (List.mem_singleton_self n)

theorem authOutcome_estimated (b : Block) (n v : Nat) (id : Option Nat) :
    ((b.attemptOver n v).bat n).Estimated ((b.authOutcome n v id).bat n) := by
  refine BatString.Estimated.trans ?_ (storeString_estimated _ n)
  refine BatString.Estimated.trans ?_ (packDecided_bat _ n id)
  rw [(setIdentity_onStrings _ n v).bat_eq]
  exact BatString.Estimated.refl _

theorem authOutcome_identity (b : Block) (n v : Nat) (id : Option Nat) : (b.authOutcome n v id).rd (Obj.StringRecord.Identity n) = v := by
  rw [authOutcome_eq]
  exact ((storeString_onStrings _ n).rd_sub writeRefusals_subs (0x3600 + n) (by decide) (by decide)).trans
    (((packDecided_onStrings _ n id).rd_sub (decidedObjects_subs n) (0x3600 + n) (by decide) (by decide)).trans (setIdentity_rd ..))

theorem authOutcome_packId (b : Block) (n v i : Nat) : (b.authOutcome n v (some i)).rd (Obj.StringRecord.PackId n) = i := by
  rw [authOutcome_eq]
  exact ((storeString_onStrings _ n).rd_sub writeRefusals_subs (0x3600 + n) (by decide) (by decide)).trans (packDecided_packId ..)

/-! ### A string's presence is gained (R258, R261, R262) -/

/-- The temperature of string `n`, from its thermistor. -/
def showTemperature (b : Block) (n : Nat) : Block :=
  let t := b.thermistor n (b.value (b.rd (Obj.StringRecord.ThermChannel n)))
  t.2.wrI 16 (Obj.StringRecord.Temperature n) t.1

/-- The conditions of string `n`'s absence end, and PACK_INSERTED is reported. -/
def reportInserted (b : Block) (n : Nat) : Block :=
  ((b.condition Src.STRING_ABSENT n false).condition Src.STRING_THERM_SHORT n false).report Src.PACK_INSERTED n

/-- What is shown of a gain after the Presence. -/
def showInserted (b : Block) (n : Nat) : Block := (((b.showTemperature n).reportInserted n).stringEvent n 5).showInhibit n

/-- What is shown of a gain: the string is PRESENT, its temperature is known, and PACK_INSERTED is reported. -/
def gainShown (b : Block) (n : Nat) : Block := (b.wr (Obj.StringRecord.Presence n) prPRESENT).showInserted n

/-- The record of a string whose gain is noted: an insertion or not, with a port or without. -/
def gainedBat (x : BatString) (ins port : Bool) : BatString :=
  { x with absentSeen := false, store := { x.store with absent := false }, inserting := ins && port, gained := port, startWanted := true }

/-- The gain is noted. -/
def gainMarked (b : Block) (n : Nat) (ins port : Bool) : Block := b.setBat n (gainedBat (b.bat n) ins port)

/-- The pack of a string that gained its presence is identified: at once where it has no port, by an attempt of every string of the
port otherwise. -/
def gainIdentified (b : Block) (n port : Nat) (ins : Bool) : Block :=
  if port = 0 then
    if ins then ((b.setIdentity n idNOT_FITTED).newPack n).report Src.PACK_NEW n else b.setIdentity n idNOT_FITTED
  else ((List.range 16).filter (fun m => b.stringOn m && b.rd (Obj.StringRecord.AuthPort m) == port)).foldl authDue b

/-- The gain is an insertion: the string was absent while the controller ran, or, with a port, before. -/
def isInsertion (x : BatString) (port : Nat) : Bool := if port = 0 then x.absentSeen else x.store.absent || x.absentSeen

/-- What follows once a gain is shown. -/
def gainTaken (b : Block) (n port : Nat) (ins : Bool) : Block :=
  (((if ins then b.insertion n else b).gainMarked n ins (port != 0)).gainIdentified n port ins).storeString n

theorem presenceGain_gains {b : Block} {n : Nat} (hon : b.stringOn n = true) (habsent : b.rd (Obj.StringRecord.Presence n) ≠ prPRESENT)
    (hband : b.rd (Obj.StringRecord.PresenceCycles n) ≤ (b.bat n).inBand) : b.presenceGain n =
      (b.gainShown n).gainTaken n ((b.gainShown n).rd (Obj.StringRecord.AuthPort n))
        (isInsertion (b.bat n) ((b.gainShown n).rd (Obj.StringRecord.AuthPort n))) := by
  unfold presenceGain
  rw [if_neg (by simp [hon, habsent, hband])]
  extract_lets c1 t c2 c3 c4 port ins c5 x st c6 c7 c8
  have h4 : c4 = b.gainShown n := rfl
  have h5 : c5 = if ins then c4.insertion n else c4 := rfl
  have h6 : c6 = c5.gainMarked n ins (port != 0) := rfl
  have h8 : c8 = c6.gainIdentified n port ins := rfl
  rw [h8, h6, h5, gainTaken, ← h4]
  rfl

theorem thermistor_block (b : Block) (n : Nat) (v : Int) : (b.thermistor n v).2 = b ∨ (b.thermistor n v).2 = (b.draw 16).2 := by
  unfold thermistor
  extract_lets bias up nom top low inv
  split
  · exact .inr rfl
  · exact .inl rfl

theorem thermistor_onStrings (b : Block) (n : Nat) (v : Int) : OnStrings [] [] b (b.thermistor n v).2 := by
  obtain he | he := b.thermistor_block n v <;> rw [he]
  · exact OnStrings.refl b
  · exact (OnStrings.refl b).draw 16

/-- The objects that show a gain of string `n` beside its Presence. -/
def insertedObjects (n : Nat) : List Nat :=
  [Obj.StringRecord.Temperature n, Obj.StringRecord.Inhibit n, Obj.SourceConfig.PresentInstances Src.STRING_ABSENT,
    Obj.SourceConfig.PresentInstances Src.STRING_THERM_SHORT]

theorem insertedObjects_subs (n : Nat) : ∀ k ∈ insertedObjects n, k % 256 ∈ [0x48, 0x45, 0x0B] := by
  simp [insertedObjects, Obj.StringRecord.Temperature, Obj.StringRecord.Inhibit, Obj.SourceConfig.PresentInstances, objKey_mod]

theorem showInserted_onStrings (b : Block) (n : Nat) : OnStrings (insertedObjects n) [] b (b.showInserted n) := by
  have htemperature : OnStrings (insertedObjects n) [] b (b.showTemperature n) :=
    ((b.thermistor_onStrings n _).mono (List.nil_subset _) (List.nil_subset _)).wr _ List.mem_cons_self
  have hreported : OnStrings (insertedObjects n) [] b ((b.showTemperature n).reportInserted n) :=
    ((htemperature.condition Src.STRING_ABSENT n false (by simp [insertedObjects])).condition Src.STRING_THERM_SHORT n false
      (by simp [insertedObjects])).report _ _ _
  exact (hreported.stringEvent n 5).also (showInhibit_onStrings _ n) (by simp [insertedObjects])

theorem gainShown_onStrings (b : Block) (n : Nat) :
    OnStrings (Obj.StringRecord.Presence n :: insertedObjects n) [] b (b.gainShown n) :=
  ((OnStrings.refl b).wr _ List.mem_cons_self).also (showInserted_onStrings _ n) (List.subset_cons_self ..)

theorem gainShown_presence (b : Block) (n : Nat) : (b.gainShown n).rd (Obj.StringRecord.Presence n) = prPRESENT :=
  ((showInserted_onStrings _ n).rd_sub (insertedObjects_subs n) (0x3600 + n) (by decide) (by decide)).trans (rd_wr_self ..)

theorem reportInserted_faults (b : Block) (n : Nat) : (b.reportInserted n).isPresent Src.STRING_ABSENT n = false ∧
    (b.reportInserted n).isPresent Src.STRING_THERM_SHORT n = false ∧
    ({ src := Src.PACK_INSERTED, inst := n } : Report) ∈ (b.reportInserted n).faults.reports := by
  unfold reportInserted
  refine ⟨?_, ?_, ?_⟩
  · rw [isPresent_congr (report_present ..)]
    exact condition_end_leaves_absent (isPresent_condition ..) _ _
  · rw [isPresent_congr (report_present ..)]
    exact isPresent_condition ..
  · rw [report_reports]
    exact List.mem_append_right _ List.mem_cons_self

/-- A gain ends the conditions of the string's absence and reports PACK_INSERTED. -/
theorem gainShown_faults (b : Block) (n : Nat) : (b.gainShown n).isPresent Src.STRING_ABSENT n = false ∧
    (b.gainShown n).isPresent Src.STRING_THERM_SHORT n = false ∧
    ({ src := Src.PACK_INSERTED, inst := n } : Report) ∈ (b.gainShown n).faults.reports := by
  have hfaults (c : Block) : ((c.stringEvent n 5).showInhibit n).faults = c.faults := (showInhibit_faults ..).trans (stringEvent_faults ..)
  unfold gainShown showInserted
  rw [isPresent_congr (congrArg Faults.present (hfaults _)), isPresent_congr (congrArg Faults.present (hfaults _)), hfaults]
  exact reportInserted_faults _ n

/-- The objects of all strings that a gain of one may change once it is shown. -/
def takenObjects : List Nat := (List.range 16).flatMap judgedObjects

theorem takenObjects_subs :
    ∀ k ∈ takenObjects, k % 256 ∈ [0x41, 0x45, 0x0B] ++ ([0x51, 0x49, 0x4A, 0x4B, 0x4C, 0x4D] ++ [0x0A]) := fun k hk => by
  obtain ⟨n, -, hk⟩ := List.mem_flatMap.1 hk
  exact judgedObjects_subs n k hk

section

variable {n : Nat}

theorem packObjects_subset_judged : packObjects n ⊆ judgedObjects n := fun _ hk =>
  List.mem_append_right _ (List.mem_cons_of_mem _ (List.mem_append_left _ hk))

variable (hn : n < 16)
include hn

theorem judgedObjects_subset_taken : judgedObjects n ⊆ takenObjects := fun _ hk => List.mem_flatMap.2 ⟨n, List.mem_range.2 hn, hk⟩

theorem gainIdentified_onStrings (b : Block) (port : Nat) (ins : Bool) :
    OnStrings takenObjects (List.range 16) b (b.gainIdentified n port ins) := by
  have hset : OnStrings takenObjects (List.range 16) b (b.setIdentity n idNOT_FITTED) :=
    (setIdentity_onStrings b n _).mono (List.Subset.trans (by simp [judgedObjects]) (judgedObjects_subset_taken hn)) (List.nil_subset _)
  unfold gainIdentified
  split
  · split
    · exact (hset.alsoOn (newPack_onStrings _ n) (List.Subset.trans packObjects_subset_judged
        (judgedObjects_subset_taken hn)) (List.mem_range.2 hn)).report _ _ _
    · exact hset
  · refine (OnStrings.foldl authDue_onStrings _ b).mono (fun k hk => ?_) fun m hm => (List.mem_filter.1 hm).1
    obtain ⟨m, hm, hk⟩ := List.mem_flatMap.1 hk
    exact List.mem_flatMap.2 ⟨m, (List.mem_filter.1 hm).1, List.mem_append_left _ hk⟩

theorem gainTaken_onStrings (b : Block) (port : Nat) (ins : Bool) :
    OnStrings takenObjects (List.range 16) b (b.gainTaken n port ins) := by
  have hmem := List.mem_range.2 hn
  have hinserted : OnStrings takenObjects (List.range 16) b (if ins then b.insertion n else b) := by
    split
    · exact (OnStrings.refl b).alsoOn (b.insertion_onStrings n)
        (List.Subset.trans packObjects_subset_judged (judgedObjects_subset_taken hn)) hmem
    · exact OnStrings.refl b
  exact ((hinserted.setBat _ hmem).trans (gainIdentified_onStrings hn _ port ins)).alsoOn (storeString_onStrings _ n)
    (List.Subset.trans (by simp [judgedObjects]) (judgedObjects_subset_taken hn)) hmem

end

theorem gainIdentified_nothingAppears (b : Block) (n port : Nat) (ins : Bool) : NothingAppears b (b.gainIdentified n port ins) := by
  have hset := b.setIdentity_nothingAppears n (v := idNOT_FITTED) (by decide)
  have hpack (c : Block) : (c.newPack n).faults = c.faults := by
    unfold newPack showEstimate setEstFlag
    rw [wrs_faults, wr_faults, setBat_faults]
  unfold gainIdentified
  split
  · split
    · exact (hset.trans (.of_faults (hpack _))).trans (.report ..)
    · exact hset
  · exact List.foldlRecOn _ authDue (NothingAppears.of_faults rfl) fun c hc m _ => hc.trans (c.authDue_nothingAppears m)

theorem gainTaken_nothingAppears (b : Block) (n port : Nat) (ins : Bool) : NothingAppears b (b.gainTaken n port ins) := by
  have hinserted : NothingAppears b (if ins then b.insertion n else b) := by
    split
    · exact .of_faults (b.insertion_faults n)
    · exact .of_faults rfl
  exact ((hinserted.trans (.of_faults (setBat_faults ..))).trans (gainIdentified_nothingAppears ..)).trans (storeString_nothingAppears ..)

/-- The identification of the pack leaves what the gain noted. -/
theorem gainIdentified_bat (b : Block) (n port : Nat) (ins : Bool) :
    ((b.gainIdentified n port ins).bat n).absentSeen = (b.bat n).absentSeen ∧
      ((b.gainIdentified n port ins).bat n).startWanted = (b.bat n).startWanted := by
  have hset := (b.setIdentity_onStrings n idNOT_FITTED).bat_eq n
  have hpack := (b.setIdentity n idNOT_FITTED).newPack_bat n
  rw [hset] at hpack
  unfold gainIdentified
  split
  · split
    · rw [bat_report]
      exact ⟨hpack.part (·.absentSeen) fun _ => rfl, hpack.part (·.startWanted) fun _ => rfl⟩
    · rw [hset]
      exact ⟨rfl, rfl⟩
  · exact List.foldlRecOn (motive := fun c : Block => (c.bat n).absentSeen = (b.bat n).absentSeen ∧ (c.bat n).startWanted = (b.bat n).startWanted)
      _ authDue ⟨rfl, rfl⟩ fun c hc m _ => ⟨(c.authDue_bat m n).1.trans hc.1, (c.authDue_bat m n).2.trans hc.2⟩

theorem gainTaken_bat (b : Block) (n port : Nat) (ins : Bool) :
    ((b.gainTaken n port ins).bat n).absentSeen = false ∧ ((b.gainTaken n port ins).bat n).startWanted = true := by
  unfold gainTaken
  generalize hc : (if ins then b.insertion n else b).gainMarked n ins (port != 0) = c
  have hbat : c.bat n = gainedBat ((if ins then b.insertion n else b).bat n) ins (port != 0) := hc ▸ bat_setBat_self ..
  obtain ⟨habsent, hstart⟩ := c.gainIdentified_bat n port ins
  have hstore := storeString_estimated (c.gainIdentified n port ins) n
  rw [hbat] at habsent hstart
  exact ⟨(hstore.part (·.absentSeen) fun _ => rfl).trans habsent, (hstore.part (·.startWanted) fun _ => rfl).trans hstart⟩

end Block

end Sys2Proof.Machine
end

section
/-! PROOFS. Strings: the test, full and open-circuit anchors, the cutoff, the store and the gain of presence (R247-R262). -/

namespace Sys2Proof.Machine

open Sys2Proof.Safety

namespace Block

/-! ### The test (R252) -/

/-- The record of a string whose test starts. -/
def testedBat (b : Block) (a : Action) : BatString :=
  { b.bat a.target with
    testI := (a.arg * 10 ^ 9 : Nat), testV := b.rdI 32 (Obj.StringRecord.Voltage a.target)
    testPre := b.rdI 32 (Obj.StringRecord.Current a.target), testLeft := b.rd (Obj.StringRecord.StringTestCycles a.target) + 1 }

/-- The string of `a` is under test. -/
def startTest (b : Block) (a : Action) : Block :=
  ((b.wrs [(Obj.StringRecord.TestStatus a.target, 1), (Obj.StringRecord.Mode a.target, smTEST)]).setBat a.target (b.testedBat a)).showInhibit
    a.target

theorem testAction_refuses {b : Block} (h : b.holdupState ≠ huMAINS) (a : Action) :
    testAction a b = (b.wr (Obj.StringRecord.TestStatus a.target) 3).report Src.STRING_TEST_REFUSED a.target := by
  unfold testAction
  exact if_pos (by simp [h])

/-- A test that may run starts. -/
theorem testAction_starts {b : Block} {a : Action} (hholdup : b.holdupState = huMAINS) (hmode : b.stringMode a.target ∈ [smREST, smCHARGE])
    (hlevel : b.rd (Obj.StringRecord.DischargeLevel a.target) < 2) (hlimit : a.arg * 1000 ≤ b.rd (Obj.StringRecord.DischargeLimit a.target))
    (hbus : 10 * (a.arg * 10 ^ 9 : Nat) * (b.rdI 32 (Obj.StringRecord.Voltage a.target) * 1000) ≤
      8 * (b.recGroup.map (fun g => (b.group g).ig)).getD 0 * b.holdup.busMean)
    (hidle : b.rd (Obj.StringRecord.TestStatus a.target) ≠ 1) : testAction a b = b.startTest a := by
  have hmode' : b.stringMode a.target = smREST ∨ b.stringMode a.target = smCHARGE := by simpa using hmode
  have hkept {sub : Nat} (hlt : sub < 256) (hstatus : sub ≠ 0x56) (hmode : sub ≠ 0x42) :
      (b.wrs [(Obj.StringRecord.TestStatus a.target, 1), (Obj.StringRecord.Mode a.target, smTEST)]).rd (objKey (0x3600 + a.target) sub) =
        b.rd (objKey (0x3600 + a.target) sub) :=
    (rd_wr_of_ne _ _ (objKey_ne_of_sub_ne hlt (by decide) hmode)).trans (rd_wr_of_ne _ _ (objKey_ne_of_sub_ne hlt (by decide) hstatus))
  have hcurrent := congrArg (toI 32) (hkept (sub := 0x47) (by decide) (by decide) (by decide))
  have hcycles := hkept (sub := 0x36) (by decide) (by decide) (by decide)
  unfold testAction
  extract_lets n md lvl v rec' refused c
  have hrefused : refused = false := by
    unfold refused md lvl rec' v n
    rcases hmode' with hmode' | hmode' <;> simpa [hholdup, hmode', hlevel, hlimit, hidle] using hbus
  have hrecord : { c.bat n with
      testI := a.arg * 10 ^ 9, testV := v, testPre := c.rdI 32 (Obj.StringRecord.Current n)
      testLeft := c.rd (Obj.StringRecord.StringTestCycles n) + 1 } = b.testedBat a := by
    have hpre : c.rdI 32 (Obj.StringRecord.Current n) = b.rdI 32 (Obj.StringRecord.Current a.target) := hcurrent
    have hleft : c.rd (Obj.StringRecord.StringTestCycles n) = b.rd (Obj.StringRecord.StringTestCycles a.target) := hcycles
    have hcast : (a.arg : Int) * 10 ^ 9 = (a.arg * 10 ^ 9 : Nat) := by push_cast; rfl
    rw [hpre, hleft, hcast]
    rfl
  rw [if_neg (by simp [hrefused]), hrecord]
  rfl

theorem startTest_onStrings (b : Block) (a : Action) :
    OnStrings (Obj.StringRecord.Inhibit a.target :: testObjects a.target) [a.target] b (b.startTest a) :=
  (((OnStrings.refl b).wrs _ (by simp [testObjects])).setBat _ (List.mem_singleton_self _)).also (showInhibit_onStrings _ _) (by simp)

theorem startTest_shows (b : Block) (a : Action) : (b.startTest a).rd (Obj.StringRecord.TestStatus a.target) = 1 ∧
    (b.startTest a).stringMode a.target = smTEST ∧ (b.startTest a).bat a.target = b.testedBat a := by
  have hinhibit {sub : Nat} (hlt : sub < 256) (hsub : sub ≠ 0x45) (c : Block) :
      (c.showInhibit a.target).rd (objKey (0x3600 + a.target) sub) = c.rd (objKey (0x3600 + a.target) sub) :=
    (c.showInhibit_onStrings a.target).keeps.rd_eq (mt List.mem_singleton.1 (objKey_ne_of_sub_ne hlt (by decide) hsub))
  unfold startTest
  refine ⟨(hinhibit (sub := 0x56) (by decide) (by decide) _).trans ?_, (hinhibit (sub := 0x42) (by decide) (by decide) _).trans (rd_wr_self ..), ?_⟩
  · exact (rd_wr_of_ne _ _ (objKey_ne_of_sub_ne (by decide) (by decide) (by decide))).trans (rd_wr_self ..)
  · rw [(showInhibit_onStrings _ _).bat_eq, bat_setBat_self]

/-! ### The end of a test (R252) -/

/-- The resistance that a test found. -/
def showResistance (b : Block) (n : Nat) : Block :=
  let di := b.rdI 32 (Obj.StringRecord.Current n) - (b.bat n).testPre
  let dv := (b.bat n).testV - b.rdI 32 (Obj.StringRecord.Voltage n)
  if di = 0 then b.wrFree 32 (Obj.StringRecord.InternalResistance n)
  else b.wr (Obj.StringRecord.InternalResistance n) (clampI 0 0xFFFFFFFF (roundDiv (dv * 10 ^ 6) di)).toNat

/-- The string rests next, its test DONE. -/
def restAfterTest (b : Block) (n : Nat) : Block :=
  (b.setBat n { b.bat n with nextMode := some smREST }).wr (Obj.StringRecord.TestStatus n) 2

theorem testEnd_ends {b : Block} {n : Nat} (hruns : b.rd (Obj.StringRecord.TestStatus n) = 1) (hover : (b.bat n).testLeft = 0)
    (hdelivered : b.meas.delivered = true) :
    b.testEnd n = ((b.showResistance n).restAfterTest n).report Src.STRING_TEST_DONE n := by
  unfold testEnd
  exact if_neg (by simp [hruns, hover, hdelivered])

theorem showResistance_onStrings (b : Block) (n : Nat) : OnStrings [Obj.StringRecord.InternalResistance n] [] b (b.showResistance n) := by
  unfold showResistance
  dsimp only
  split
  · exact ((OnStrings.refl b).draw 32).wr _ (List.mem_singleton_self _)
  · exact (OnStrings.refl b).wr _ (List.mem_singleton_self _)

theorem restAfterTest_onStrings (b : Block) (n : Nat) : OnStrings [Obj.StringRecord.TestStatus n] [n] b (b.restAfterTest n) :=
  ((OnStrings.refl b).setBat _ (List.mem_singleton_self n)).wr 2 List.mem_cons_self

theorem showResistance_faults (b : Block) (n : Nat) : (b.showResistance n).faults = b.faults := by
  unfold showResistance
  dsimp only
  split <;> rfl

/-- Where the current has changed, no free value is drawn. -/
theorem showResistance_computes {b : Block} {n : Nat} (h : b.rdI 32 (Obj.StringRecord.Current n) - (b.bat n).testPre ≠ 0) :
    b.showResistance n = b.wr (Obj.StringRecord.InternalResistance n) (clampI 0 0xFFFFFFFF (roundDiv
      (((b.bat n).testV - b.rdI 32 (Obj.StringRecord.Voltage n)) * 10 ^ 6) (b.rdI 32 (Obj.StringRecord.Current n) - (b.bat n).testPre))).toNat :=
  if_neg h

/-! ### The cutoff (R253) -/

/-- Soc is held under CutoffSoc. -/
def capSoc (b : Block) (n : Nat) : Block :=
  if b.rd (Obj.StringRecord.CutoffSoc n) < b.rd (Obj.StringRecord.Soc n) then b.setSoc n (b.rd (Obj.StringRecord.CutoffSoc n)) else b

/-- The string is at level 3, its estimate coarse, and what the supervisors had decided on it in this cycle is dropped. -/
def markCutoff (b : Block) (n : Nat) : Block :=
  let b := (b.setEstFlag n efSOC_COARSE true).wr (Obj.StringRecord.DischargeLevel n) 3
  let b := b.setBat n { b.bat n with charged := false, cutTicks := 0 }
  { b with sup := { b.sup with
    writes := b.sup.writes.filter (fun e =>
      e.1 != Obj.StringRecord.DischargeLevel n && e.1 != Obj.StringRecord.EstFlags n && e.1 != Obj.StringRecord.Soc n) } }

/-- What follows from level 3, which the string entered from level `old`: its conditions, its Inhibit, its test and its support. -/
def cutoffFollows (b : Block) (n old : Nat) : Block :=
  let lvl := b.rd (Obj.StringRecord.ChargeLevel n)
  (((((b.levelsChanged n old 3 lvl lvl).showInhibit n).abandonTest n).leaveSet n)).showWeights

theorem cutoffVoltage_cuts {b : Block} {n : Nat} (hlong : b.rd (Obj.StringRecord.CutoffTicks n) ≤ (b.bat n).cutTicks)
    (hlevel : b.rd (Obj.StringRecord.DischargeLevel n) ≠ 3) :
    b.cutoffVoltage n = ((b.capSoc n).markCutoff n).cutoffFollows n (b.rd (Obj.StringRecord.DischargeLevel n)) := by
  unfold cutoffVoltage
  exact if_neg (by simp [hlong, hlevel])

theorem capSoc_onStrings (b : Block) (n : Nat) : OnStrings (estimateObjects n) [n] b (b.capSoc n) := by
  unfold capSoc
  split
  · exact b.setSoc_onStrings n _
  · exact OnStrings.refl b

theorem capSoc_rd (b : Block) (n : Nat) :
    (b.capSoc n).rd (Obj.StringRecord.Soc n) = min (b.rd (Obj.StringRecord.Soc n)) (b.rd (Obj.StringRecord.CutoffSoc n)) := by
  unfold capSoc
  split
  · next h => exact (setSoc_rd ..).trans (Nat.min_eq_right h.le).symm
  · next h => exact (Nat.min_eq_left (Nat.not_lt.1 h)).symm

/-- The objects that mark the cutoff of string `n`. -/
def markObjects (n : Nat) : List Nat := [Obj.StringRecord.EstFlags n, Obj.StringRecord.DischargeLevel n]

theorem markCutoff_onStrings (b : Block) (n : Nat) : OnStrings (markObjects n) [n] b (b.markCutoff n) := by
  have hset := (((OnStrings.refl (l := markObjects n) (ns := [n]) b).also (b.setEstFlag_onStrings n efSOC_COARSE true) (by simp [markObjects])).wr
    (k := Obj.StringRecord.DischargeLevel n) 3 (by simp [markObjects])).setBat
      { ((b.setEstFlag n efSOC_COARSE true).wr (Obj.StringRecord.DischargeLevel n) 3).bat n with charged := false, cutTicks := 0 }
      (List.mem_singleton_self n)
  exact hset.trans ⟨rfl, Keeps.of_images rfl rfl, fun _ _ => rfl⟩

theorem markCutoff_shows (b : Block) (n : Nat) : (b.markCutoff n).rd (Obj.StringRecord.DischargeLevel n) = 3 ∧
    (b.markCutoff n).estFlag n efSOC_COARSE = true ∧ ((b.markCutoff n).bat n).charged = false := by
  refine ⟨rd_wr_self .., ?_, congrArg BatString.charged (bat_setBat_self ..)⟩
  have hflags : (b.markCutoff n).rd (Obj.StringRecord.EstFlags n) = (b.setEstFlag n efSOC_COARSE true).rd (Obj.StringRecord.EstFlags n) :=
    rd_wr_of_ne _ _ (objKey_ne_of_sub_ne (by decide) (by decide) (by decide))
  rw [estFlag, hflags]
  exact (estFlag_setEstFlag ..).trans (if_pos rfl)

/-- The objects that follow from level 3 of string `n`. -/
def followObjects (n : Nat) : List Nat :=
  Obj.StringRecord.Inhibit n :: (testObjects n ++ (leaveObjects n ++ (levelObjects ++ weightObjects)))

theorem followObjects_subs (n : Nat) : ∀ k ∈ followObjects n, k % 256 ∈ [0x45, 0x56, 0x42, 0x4F, 0x50, 0x0B] := by
  have hshared : ∀ k ∈ levelObjects ++ weightObjects, k % 256 ∈ [0x45, 0x56, 0x42, 0x4F, 0x50, 0x0B] := by decide
  have hown : ∀ k ∈ Obj.StringRecord.Inhibit n :: (testObjects n ++ leaveObjects n), k % 256 ∈ [0x45, 0x56, 0x42, 0x4F, 0x50, 0x0B] := by
    simp [testObjects, leaveObjects, Obj.StringRecord.Inhibit, Obj.StringRecord.TestStatus, Obj.StringRecord.Mode,
      Obj.StringRecord.DischargeLimit, Obj.StringRecord.SupportWeight, objKey_mod]
  intro k hk
  rw [followObjects, ← List.append_assoc, ← List.cons_append] at hk
  exact (List.mem_append.1 hk).elim (hown k) (hshared k)

theorem subset_followObjects (n : Nat) : testObjects n ⊆ followObjects n ∧ leaveObjects n ⊆ followObjects n ∧
    levelObjects ⊆ followObjects n ∧ weightObjects ⊆ followObjects n := by
  have hrest : leaveObjects n ++ (levelObjects ++ weightObjects) ⊆ followObjects n := fun _ hk =>
    List.mem_cons_of_mem _ (List.mem_append_right _ hk)
  have hshared : levelObjects ++ weightObjects ⊆ followObjects n := fun _ hk => hrest (List.mem_append_right _ hk)
  exact ⟨fun _ hk => List.mem_cons_of_mem _ (List.mem_append_left _ hk), fun _ hk => hrest (List.mem_append_left _ hk),
    fun _ hk => hshared (List.mem_append_left _ hk), fun _ hk => hshared (List.mem_append_right _ hk)⟩

theorem cutoffFollows_onStrings (b : Block) (n old : Nat) : OnStrings (followObjects n) [n] b (b.cutoffFollows n old) := by
  have hn := List.mem_singleton_self n
  obtain ⟨htest, hleave, hlevel, hweight⟩ := subset_followObjects n
  have hlevels : OnStrings (followObjects n) [n] b _ := (OnStrings.refl b).also
    (b.levelsChanged_onStrings n old 3 (b.rd (Obj.StringRecord.ChargeLevel n)) (b.rd (Obj.StringRecord.ChargeLevel n))) hlevel
  exact (((hlevels.also (showInhibit_onStrings _ n) (by simp [followObjects])).alsoOn (abandonTest_onStrings _ n) htest hn).alsoOn
    (leaveSet_onStrings _ n) hleave hn).also (showWeights_onStrings _) hweight

theorem showWeights_faults (b : Block) : b.showWeights.faults = b.faults :=
  List.foldlRecOn (motive := fun c : Block => c.faults = b.faults) b.supportSet _ rfl fun _ hc _ _ => hc

theorem cutoffFollows_cutoff (b : Block) (n old : Nat) : (b.cutoffFollows n old).isPresent Src.BAT_CUTOFF n = true := by
  unfold cutoffFollows
  rw [isPresent_congr (congrArg Faults.present ((showWeights_faults _).trans ((leaveSet_faults ..).trans
    ((abandonTest_faults ..).trans (showInhibit_faults ..)))))]
  exact levelsChanged_cutoff ..

/-- The string is out of the support set, has no limit, and is not in SUPPORT. -/
theorem cutoffFollows_leaves (b : Block) (n old : Nat) : ((b.cutoffFollows n old).bat n).support = false ∧
    ((b.cutoffFollows n old).bat n).charged = (b.bat n).charged ∧ (b.cutoffFollows n old).stringMode n ≠ smSUPPORT ∧
    (b.cutoffFollows n old).rd (Obj.StringRecord.DischargeLimit n) = 0 := by
  have hlevels := (b.levelsChanged_onStrings n old 3 (b.rd (Obj.StringRecord.ChargeLevel n)) (b.rd (Obj.StringRecord.ChargeLevel n))).bat_eq n
  unfold cutoffFollows
  dsimp only
  generalize b.levelsChanged n old 3 (b.rd (Obj.StringRecord.ChargeLevel n)) (b.rd (Obj.StringRecord.ChargeLevel n)) = c at hlevels ⊢
  obtain ⟨left, next, htest⟩ := (c.showInhibit n).abandonTest_bat n
  have hbat := ((c.showInhibit n).abandonTest n).leaveSet_bat n
  rw [htest, (c.showInhibit_onStrings n).bat_eq, hlevels] at hbat
  obtain ⟨hlimit, hmode⟩ := ((c.showInhibit n).abandonTest n).leaveSet_shows n
  have hweights := (((c.showInhibit n).abandonTest n).leaveSet n).showWeights_onStrings
  have hkept {sub : Nat} (hlt : sub < 256) (hsub : sub ∉ [0x50]) := hweights.rd_sub weightObjects_subs (0x3600 + n) hlt hsub
  rw [hweights.bat_eq, hbat]
  refine ⟨rfl, rfl, ?_, (hkept (by decide) (by decide)).trans hlimit⟩
  exact fun h => hmode ((hkept (sub := 0x42) (by decide) (by decide)).symm.trans h)

/-- What the cutoff as a whole shows. -/
theorem cutoff_shows (b : Block) (n old : Nat) :
    (((b.capSoc n).markCutoff n).cutoffFollows n old).rd (Obj.StringRecord.DischargeLevel n) = 3 ∧
    (((b.capSoc n).markCutoff n).cutoffFollows n old).rd (Obj.StringRecord.Soc n) =
      min (b.rd (Obj.StringRecord.Soc n)) (b.rd (Obj.StringRecord.CutoffSoc n)) ∧
    (((b.capSoc n).markCutoff n).cutoffFollows n old).estFlag n efSOC_COARSE = true := by
  obtain ⟨hlevel, hcoarse, -⟩ := (b.capSoc n).markCutoff_shows n
  have hmark : ((b.capSoc n).markCutoff n).rd (Obj.StringRecord.Soc n) = (b.capSoc n).rd (Obj.StringRecord.Soc n) :=
    ((b.capSoc n).markCutoff_onStrings n).keeps.rd_eq (by
      simp [markObjects, objKey, Obj.StringRecord.Soc, Obj.StringRecord.EstFlags, Obj.StringRecord.DischargeLevel])
  have hkept {sub : Nat} (hlt : sub < 256) (hsub : sub ∉ [0x45, 0x56, 0x42, 0x4F, 0x50, 0x0B]) :=
    (((b.capSoc n).markCutoff n).cutoffFollows_onStrings n old).rd_sub (followObjects_subs n) (0x3600 + n) hlt hsub
  refine ⟨(hkept (by decide) (by decide)).trans hlevel, (hkept (by decide) (by decide)).trans (hmark.trans (b.capSoc_rd n)), ?_⟩
  exact (congrArg (bitOf · efSOC_COARSE) (hkept (by decide) (by decide))).trans hcoarse

theorem cutoff_onStrings (b : Block) (n old : Nat) :
    OnStrings (estimateObjects n ++ (markObjects n ++ followObjects n)) [n] b (((b.capSoc n).markCutoff n).cutoffFollows n old) :=
  have hn := List.mem_singleton_self n
  (((OnStrings.refl b).alsoOn (b.capSoc_onStrings n) (List.subset_append_left ..) hn).alsoOn (markCutoff_onStrings _ n)
    (List.subset_append_of_subset_right _ (List.subset_append_left ..)) hn).alsoOn (cutoffFollows_onStrings _ n old)
    (List.subset_append_of_subset_right _ (List.subset_append_right ..)) hn

/-! ### Full, and the open-circuit voltage (R249, R256) -/

/-- A string that is full rests next; what the supervisors had decided on its estimate in this cycle is dropped. -/
def markFull (b : Block) (n : Nat) : Block :=
  ({ b with sup := { b.sup with
    writes := b.sup.writes.filter (fun e =>
      e.1 != Obj.StringRecord.EstFlags n && e.1 != Obj.StringRecord.Soc n && e.1 != Obj.StringRecord.RemainingCharge n) } } : Block).setBat n
    { b.bat n with nextMode := some smREST, taper := 0 }

theorem stringFull_anchors {b : Block} {n : Nat} (hmode : b.stringMode n = smCHARGE)
    (hlong : b.rd (Obj.StringRecord.TaperCycles n) ≤ (b.bat n).taper) : b.stringFull n = (b.markFull n).anchor n 10000 := by
  unfold stringFull
  exact if_neg (by simp [hmode, hlong])

theorem markFull_onStrings (b : Block) (n : Nat) : OnStrings [] [n] b (b.markFull n) := by
  unfold markFull
  refine OnStrings.setBat ?_ _ (List.mem_singleton_self n)
  exact ⟨rfl, Keeps.of_images rfl rfl, fun _ _ => rfl⟩

/-- The open-circuit correction of this rest is taken. -/
def markOcv (b : Block) (n : Nat) : Block := b.setBat n { b.bat n with ocvDone := true }

theorem ocvAnchor_anchors {b : Block} {n : Nat} {seg : Nat × Nat × Nat} (hfirst : (b.bat n).ocvDone = false)
    (hlong : b.rd (Obj.StringRecord.RestCycles n) ≤ (b.bat n).rest) (hseg : b.ocvSegment n (b.cellVolts n) = some seg)
    (hrise : seg.2.1 < seg.2.2) (hslope : b.rd (Obj.StringRecord.OcvMinSlope n) ≤ seg.2.2 - seg.2.1) :
    b.ocvAnchor n = (b.markOcv n).anchor n (ocvSoc (b.cellVolts n) seg) := by
  have hseg' : (b.markOcv n).ocvSegment n ((b.markOcv n).cellVolts n) = some seg := hseg
  unfold ocvAnchor
  refine (if_neg (by simp [hfirst, hlong])).trans ?_
  show (match (b.markOcv n).ocvSegment n ((b.markOcv n).cellVolts n) with
    | some s => if s.2.1 < s.2.2 ∧ (b.markOcv n).rd (Obj.StringRecord.OcvMinSlope n) ≤ s.2.2 - s.2.1 then
        (b.markOcv n).anchor n (ocvSoc ((b.markOcv n).cellVolts n) s) else b.markOcv n
    | none => b.markOcv n) = _
  rw [hseg']
  exact if_pos ⟨hrise, hslope⟩

theorem ocvAnchor_once {b : Block} {n : Nat} (h : (b.bat n).ocvDone = true) : b.ocvAnchor n = b := if_pos (.inl h)

/-! ### The store (R258) -/

/-- What Heartwood is to hold of string `n`. -/
def storedValues (b : Block) (n : Nat) : StringStore :=
  let x := b.bat n
  { q := x.q, cap := x.cap, soh := b.rd (Obj.StringRecord.Soh n), flags := b.rd (Obj.StringRecord.EstFlags n)
    packId := b.rd (Obj.StringRecord.PackId n), dischargedAh := b.rd (Obj.StringRecord.DischargedAh n)
    anchorSoc := b.rd (Obj.StringRecord.LastAnchorSoc n)
    absent := x.absentSeen || (x.store.absent && b.rd (Obj.StringRecord.Presence n) != prPRESENT), held := x.held }

theorem stringStore_stores {b : Block} {n : Nat} (hon : b.stringOn n = true) (hlong : (b.bat n).storedAt + 3000 ≤ b.glade.cycles)
    (hopen : b.heartwoodRefuses (setAddress 8) = false) : b.stringStore n =
      b.setBat n { b.bat n with storedAt := b.glade.cycles, storeBefore := (b.bat n).store, store := b.storedValues n } := by
  unfold stringStore storeString
  rw [if_pos ⟨hon, hlong⟩]
  exact if_neg (Bool.eq_false_iff.1 hopen)

theorem judgedObjects_subset_stringObjects (n : Nat) : judgedObjects n ⊆ stringObjects n := by
  simp [judgedObjects, identityObjects, decidedObjects, packObjects, estimateObjects, stringObjects]

theorem shown_subset_stringObjects (n : Nat) : Obj.StringRecord.Presence n :: insertedObjects n ⊆ stringObjects n := by
  simp [insertedObjects, stringObjects]

theorem cutoff_subset (n : Nat) : estimateObjects n ++ (markObjects n ++ followObjects n) ⊆ stringObjects n ++ weightObjects := by
  have hown : estimateObjects n ++ (markObjects n ++ Obj.StringRecord.Inhibit n :: (testObjects n ++ (leaveObjects n ++ levelObjects))) ⊆
      stringObjects n := by
    simp [estimateObjects, markObjects, testObjects, leaveObjects, levelObjects, stringObjects]
  have hsame : estimateObjects n ++ (markObjects n ++ followObjects n) = (estimateObjects n ++
      (markObjects n ++ Obj.StringRecord.Inhibit n :: (testObjects n ++ (leaveObjects n ++ levelObjects)))) ++ weightObjects := by
    simp only [followObjects, List.append_assoc, List.cons_append]
  rw [hsame]
  exact List.append_subset.2 ⟨List.subset_append_of_subset_left _ hown, List.subset_append_right ..⟩

end Block

/-! ### The commands -/

/-- No other string's record changes, and the queue and both memories are as they were. -/
def StringAlone (n : Nat) (s t : State) : Prop := (∀ m, m ≠ n → t.blk.bat m = s.blk.bat m) ∧ SameArrays s t

/-- A command on string `n` whose meaning changes that string alone. -/
theorem State.actOn_string {s : State} {n : Nat} (hs : Settled s) (hn : n < 16) (f : Block → Block) {c : Block} {l : List Nat} (l' : List Nat)
    (he : f s.blk = c) (hc : Block.OnStrings l [n] s.blk c) (hl : l ⊆ l') :
    ∃ t, s.actOn (decide (n < 16)) .string n f = .next t ∧ t.blk = c ∧ KeepsObjects l' s t ∧ StringAlone n s t :=
  ⟨_, State.actOn_block (decide_eq_true hn) .string n f he (hc.writes.trans hs), rfl, hc.keeps.mono hl,
    fun m hm => hc.others m (mt List.mem_singleton.1 hm), rfl, rfl, rfl⟩

/-- String `n` is anchored at `soc`. -/
def Anchored (n soc : Nat) (s t : State) : Prop :=
  t.blk.rd (Obj.StringRecord.Soc n) = soc ∧ t.blk.rd (Obj.StringRecord.LastAnchorSoc n) = soc ∧
    (t.blk.bat n).q = (t.blk.bat n).cap * soc / 10000 ∧ (t.blk.bat n).dq = 0 ∧ (t.blk.bat n).anchored = true ∧
    t.blk.estFlag n efSOC_COARSE = false ∧ t.blk.estFlag n efQ_CLAMPED = false ∧ KeepsObjects (stringObjects n) s t ∧ StringAlone n s t

/-- The record of a completed entry leaves the objects of a string. -/
theorem Block.Keeps.string_rd {n sub : Nat} {c d : Block} (h : Block.Keeps recordObjects c d) (hn : n < 16) (hlt : sub < 256) :
    d.rd (objKey (0x3600 + n) sub) = c.rd (objKey (0x3600 + n) sub) :=
  h.rd_eq (Block.objKey_notMem_recordObjects hlt (by omega))

section

variable {s : State} (hs : Settled s)
include hs

/-- The entry of a test that is due fires: after the test's action only the entry's completion follows. -/
theorem stringTest_next {h : Nat} {a : Action} {c : Block} {l : List Nat} (hdue : Due s.blk h 10 a) (he : Block.testAction a s.blk = c)
    (hc : Block.OnStrings l [a.target] s.blk c) :
    ∃ t, exec (.stringTest h) s = .next t ∧ t.blk.entry? h = none ∧ Block.Keeps recordObjects c t.blk ∧
      t.blk.bat a.target = c.bat a.target ∧ t.blk.faults = c.faults ∧ KeepsObjects (l ++ recordObjects) s t ∧ SameArrays s t := by
  have hfire := Block.fireEntry_due hdue Block.testAction
  rw [he] at hfire
  have hwrites := hc.writes.trans hs
  have hkeeps := hc.keeps
  generalize (if a.late then actFIRED_LATE else actFIRED) = outcome at hfire
  have hdone : Block.Keeps recordObjects c (c.completeEntry h a outcome) :=
    (Block.Keeps.refl c).completeEntry h a outcome [] none (List.Subset.refl _)
  exact ⟨_, State.act_block (·.fireEntry h 10 Block.testAction) hfire ((c.completeEntry_writes h a outcome [] none).trans hwrites),
    (c.entry?_completeEntry h a outcome [] none h).trans (if_pos rfl), hdone,
    Block.completeEntry_of (·.bat a.target) (fun _ _ _ => rfl) (fun _ _ => rfl) (fun _ _ => rfl) (fun _ _ => rfl) c h a outcome [] none,
    c.completeEntry_faults h a outcome [] none,
    (hkeeps.mono (List.subset_append_left ..)).trans (hdone.mono (List.subset_append_right ..)), rfl, rfl, rfl⟩

theorem stringTest_starts {h : Nat} {a : Action} (hdue : Due s.blk h 10 a) (hn : a.target < 16)
    (hstart : Block.testAction a s.blk = s.blk.startTest a) :
    ∃ t, exec (.stringTest h) s = .next t ∧ t.blk.rd (Obj.StringRecord.TestStatus a.target) = 1 ∧ t.blk.stringMode a.target = smTEST ∧
      t.blk.bat a.target = s.blk.testedBat a ∧ t.blk.entry? h = none ∧ KeepsObjects (stringObjects a.target ++ recordObjects) s t ∧
      SameArrays s t := by
  obtain ⟨t, hnext, hentry, hkeeps, hbat, -, hobjects, hsame⟩ := stringTest_next hs hdue hstart (s.blk.startTest_onStrings a)
  obtain ⟨hstatus, hmode, hrecord⟩ := s.blk.startTest_shows a
  refine ⟨t, hnext, (hkeeps.string_rd hn (by decide)).trans hstatus, (hkeeps.string_rd hn (by decide)).trans hmode, hbat.trans hrecord,
    hentry, Block.Keeps.mono hobjects ?_, hsame⟩
  exact List.append_subset.2 ⟨List.subset_append_of_subset_left _ (by simp [Block.testObjects, stringObjects]), List.subset_append_right ..⟩

theorem stringTest_refused {h : Nat} {a : Action} (hdue : Due s.blk h 10 a) (hn : a.target < 16) (hstate : s.blk.holdupState ≠ huMAINS) :
    ∃ t, exec (.stringTest h) s = .next t ∧ t.blk.rd (Obj.StringRecord.TestStatus a.target) = 3 ∧
      t.blk.stringMode a.target = s.blk.stringMode a.target ∧ Reports s t [{ src := Src.STRING_TEST_REFUSED, inst := a.target }] ∧
      KeepsObjects (Obj.StringRecord.TestStatus a.target :: recordObjects) s t ∧ SameArrays s t := by
  have hrefused : Block.OnStrings [Obj.StringRecord.TestStatus a.target] [a.target] s.blk _ :=
    ((Block.OnStrings.refl s.blk).wr 3 (List.mem_singleton_self _)).report Src.STRING_TEST_REFUSED a.target []
  obtain ⟨t, hnext, -, hkeeps, -, hfaults, hobjects, hsame⟩ := stringTest_next hs hdue (Block.testAction_refuses hstate a) hrefused
  refine ⟨t, hnext, (hkeeps.string_rd hn (by decide)).trans (Block.rd_wr_self ..), ?_, congrArg Faults.reports hfaults, hobjects, hsame⟩
  exact (hkeeps.string_rd hn (by decide)).trans (Block.rd_wr_of_ne _ _ (objKey_ne_of_sub_ne (by decide) (by decide) (by decide)))

variable {n : Nat} (hn : n < 16)
include hn

theorem stringTestEnd_done (hruns : s.blk.rd (Obj.StringRecord.TestStatus n) = 1) (hover : (s.blk.bat n).testLeft = 0)
    (hdelivered : s.blk.meas.delivered = true) :
    ∃ t, exec (.stringTestEnd n) s = .next t ∧ t.blk = ((s.blk.showResistance n).restAfterTest n).report Src.STRING_TEST_DONE n ∧
      KeepsObjects [Obj.StringRecord.TestStatus n, Obj.StringRecord.InternalResistance n] s t ∧ StringAlone n s t := by
  have hdone : Block.OnStrings [Obj.StringRecord.TestStatus n, Obj.StringRecord.InternalResistance n] [n] s.blk _ :=
    (((Block.OnStrings.refl s.blk).also (s.blk.showResistance_onStrings n) (by simp)).alsoOn (Block.restAfterTest_onStrings _ n) (by simp)
      (List.mem_singleton_self n)).report Src.STRING_TEST_DONE n []
  exact State.actOn_string hs hn (·.testEnd n) _ (Block.testEnd_ends hruns hover hdelivered) hdone (List.Subset.refl _)

theorem stringTestEnd_ends (hruns : s.blk.rd (Obj.StringRecord.TestStatus n) = 1) (hover : (s.blk.bat n).testLeft = 0)
    (hdelivered : s.blk.meas.delivered = true) :
    ∃ t, exec (.stringTestEnd n) s = .next t ∧ t.blk.rd (Obj.StringRecord.TestStatus n) = 2 ∧
      t.blk.bat n = { s.blk.bat n with nextMode := some smREST } ∧ Reports s t [{ src := Src.STRING_TEST_DONE, inst := n }] ∧
      (let di := s.blk.rdI 32 (Obj.StringRecord.Current n) - (s.blk.bat n).testPre
       let dv := (s.blk.bat n).testV - s.blk.rdI 32 (Obj.StringRecord.Voltage n)
       di ≠ 0 → t.blk.rd (Obj.StringRecord.InternalResistance n) = (clampI 0 0xFFFFFFFF (roundDiv (dv * 10 ^ 6) di)).toNat ∧
         t.blk.free = s.blk.free) ∧
      KeepsObjects [Obj.StringRecord.TestStatus n, Obj.StringRecord.InternalResistance n] s t ∧ StringAlone n s t := by
  obtain ⟨t, hnext, hblk, hobjects, hothers⟩ := stringTestEnd_done hs hn hruns hover hdelivered
  refine ⟨t, hnext, ?_, ?_, ?_, fun hdi => ?_, hobjects, hothers⟩
  · rw [hblk]
    exact Block.rd_wr_self ..
  · rw [hblk, Block.bat_report, Block.restAfterTest, Block.bat_wr, Block.bat_setBat_self, (s.blk.showResistance_onStrings n).bat_eq]
  · rw [Reports, hblk, Block.report_reports, Block.restAfterTest, Block.wr_faults, Block.setBat_faults, Block.showResistance_faults]
  · rw [hblk, Block.showResistance_computes hdi]
    exact ⟨(Block.rd_wr_of_ne _ _ (objKey_ne_of_sub_ne (by decide) (by decide) (by decide))).trans (Block.rd_wr_self ..), rfl⟩

/-- An anchor of the string after a step on its record alone. -/
theorem anchored_next {f : Block → Block} {c : Block} {soc : Nat} (hc : Block.OnStrings [] [n] s.blk c) (he : f s.blk = c.anchor n soc) :
    ∃ t, s.actOn (decide (n < 16)) .string n f = .next t ∧ Anchored n soc s t ∧ ∃ cap at' st before, t.blk.bat n =
      { c.bat n with
        cap := cap, q := cap * soc / 10000, dq := 0, anchored := true, storedAt := at', store := st, storeBefore := before } := by
  obtain ⟨t, hnext, hblk, hobjects, hothers⟩ := State.actOn_string hs hn f (stringObjects n) he
    ((hc.mono (List.nil_subset _) (List.Subset.refl _)).trans (c.anchor_onStrings n soc))
    (by simp [Block.anchorObjects, Block.packObjects, Block.estimateObjects, stringObjects])
  obtain ⟨hsoc, hlast, hcoarse, hclamped⟩ := c.anchor_shows n soc
  obtain ⟨cap, at', st, before, hbat⟩ := c.anchor_bat n soc
  rw [← hblk] at hsoc hlast hcoarse hclamped hbat
  exact ⟨t, hnext, ⟨hsoc, hlast, by rw [hbat], by rw [hbat], by rw [hbat], hcoarse, hclamped, hobjects, hothers⟩, cap, at', st, before, hbat⟩

theorem stringFull_ends (hmode : s.blk.stringMode n = smCHARGE) (hlong : s.blk.rd (Obj.StringRecord.TaperCycles n) ≤ (s.blk.bat n).taper) :
    ∃ t, exec (.stringFull n) s = .next t ∧ Anchored n 10000 s t ∧ (t.blk.bat n).nextMode = some smREST ∧ (t.blk.bat n).taper = 0 := by
  obtain ⟨t, hnext, hanchored, cap, at', st, before, hbat⟩ :=
    anchored_next hs hn (f := (·.stringFull n)) (s.blk.markFull_onStrings n) (Block.stringFull_anchors hmode hlong)
  have hmark : (s.blk.markFull n).bat n = { s.blk.bat n with nextMode := some smREST, taper := 0 } := Block.bat_setBat_self ..
  rw [hmark] at hbat
  exact ⟨t, hnext, hanchored, by rw [hbat], by rw [hbat]⟩

theorem ocvAnchor_ends {seg : Nat × Nat × Nat} (hfirst : (s.blk.bat n).ocvDone = false)
    (hlong : s.blk.rd (Obj.StringRecord.RestCycles n) ≤ (s.blk.bat n).rest) (hseg : s.blk.ocvSegment n (s.blk.cellVolts n) = some seg)
    (hrise : seg.2.1 < seg.2.2) (hslope : s.blk.rd (Obj.StringRecord.OcvMinSlope n) ≤ seg.2.2 - seg.2.1) :
    ∃ t, exec (.ocvAnchor n) s = .next t ∧ Anchored n (Block.ocvSoc (s.blk.cellVolts n) seg) s t ∧ (t.blk.bat n).ocvDone = true := by
  have hmark : Block.OnStrings [] [n] s.blk (s.blk.markOcv n) := (Block.OnStrings.refl s.blk).setBat _ (List.mem_singleton_self n)
  obtain ⟨t, hnext, hanchored, cap, at', st, before, hbat⟩ :=
    anchored_next hs hn (f := (·.ocvAnchor n)) hmark (Block.ocvAnchor_anchors hfirst hlong hseg hrise hslope)
  rw [Block.markOcv, Block.bat_setBat_self] at hbat
  exact ⟨t, hnext, hanchored, by rw [hbat]⟩

theorem ocvAnchor_waits (hdone : (s.blk.bat n).ocvDone = true) : exec (.ocvAnchor n) s = .next s :=
  State.actOn_block (decide_eq_true hn) .string n (·.ocvAnchor n) (Block.ocvAnchor_once hdone) hs

theorem stringStore_ends (hon : s.blk.stringOn n = true) (hlong : (s.blk.bat n).storedAt + 3000 ≤ s.blk.glade.cycles)
    (hopen : s.blk.heartwoodRefuses (Block.setAddress 8) = false) :
    ∃ t, exec (.stringStore n) s = .next t ∧ t.blk.bat n =
        { s.blk.bat n with storedAt := s.blk.glade.cycles, storeBefore := (s.blk.bat n).store, store := s.blk.storedValues n } ∧
      t.blk = { s.blk with stringTab := t.blk.stringTab } ∧ StringAlone n s t := by
  have hstored : Block.OnStrings [] [n] s.blk _ := (Block.OnStrings.refl s.blk).setBat
    { s.blk.bat n with storedAt := s.blk.glade.cycles, storeBefore := (s.blk.bat n).store, store := s.blk.storedValues n } (List.mem_singleton_self n)
  obtain ⟨t, hnext, hblk, -, hothers⟩ :=
    State.actOn_string hs hn (·.stringStore n) [] (Block.stringStore_stores hon hlong hopen) hstored (List.Subset.refl _)
  refine ⟨t, hnext, ?_, ?_, hothers⟩ <;> rw [hblk]
  · exact Block.bat_setBat_self ..
  · rfl

theorem cutoffVoltage_ends (hlong : s.blk.rd (Obj.StringRecord.CutoffTicks n) ≤ (s.blk.bat n).cutTicks)
    (hlevel : s.blk.rd (Obj.StringRecord.DischargeLevel n) ≠ 3) :
    ∃ t, exec (.cutoffVoltage n) s = .next t ∧ t.blk.rd (Obj.StringRecord.DischargeLevel n) = 3 ∧
      t.blk.rd (Obj.StringRecord.Soc n) = min (s.blk.rd (Obj.StringRecord.Soc n)) (s.blk.rd (Obj.StringRecord.CutoffSoc n)) ∧
      t.blk.estFlag n efSOC_COARSE = true ∧ (t.blk.bat n).support = false ∧ (t.blk.bat n).charged = false ∧
      t.blk.stringMode n ≠ smSUPPORT ∧ t.blk.rd (Obj.StringRecord.DischargeLimit n) = 0 ∧ t.blk.isPresent Src.BAT_CUTOFF n = true ∧
      KeepsObjects (stringObjects n ++ (List.range 16).map Obj.StringRecord.SupportWeight) s t ∧ StringAlone n s t := by
  obtain ⟨t, hnext, hblk, hobjects, hothers⟩ := State.actOn_string hs hn (·.cutoffVoltage n) (stringObjects n ++ Block.weightObjects)
    (Block.cutoffVoltage_cuts hlong hlevel) (s.blk.cutoff_onStrings n _) (Block.cutoff_subset n)
  obtain ⟨hlevel', hsoc, hcoarse⟩ := s.blk.cutoff_shows n (s.blk.rd (Obj.StringRecord.DischargeLevel n))
  obtain ⟨hsupport, hcharged, hmode, hlimit⟩ := ((s.blk.capSoc n).markCutoff n).cutoffFollows_leaves n (s.blk.rd (Obj.StringRecord.DischargeLevel n))
  have hpresent := ((s.blk.capSoc n).markCutoff n).cutoffFollows_cutoff n (s.blk.rd (Obj.StringRecord.DischargeLevel n))
  rw [((s.blk.capSoc n).markCutoff_shows n).2.2] at hcharged
  rw [← hblk] at hlevel' hsoc hcoarse hsupport hcharged hmode hlimit hpresent
  exact ⟨t, hnext, hlevel', hsoc, hcoarse, hsupport, hcharged, hmode, hlimit, hpresent, hobjects, hothers⟩

theorem presenceGain_ends (hon : s.blk.stringOn n = true) (habsent : s.blk.rd (Obj.StringRecord.Presence n) ≠ prPRESENT)
    (hband : s.blk.rd (Obj.StringRecord.PresenceCycles n) ≤ (s.blk.bat n).inBand) :
    ∃ t, exec (.presenceGain n) s = .next t ∧ t.blk.rd (Obj.StringRecord.Presence n) = prPRESENT ∧ t.blk.isPresent Src.STRING_ABSENT n = false ∧
      t.blk.isPresent Src.STRING_THERM_SHORT n = false ∧ ({ src := Src.PACK_INSERTED, inst := n } : Report) ∈ t.blk.faults.reports ∧
      (t.blk.bat n).absentSeen = false ∧ (t.blk.bat n).startWanted = true ∧ KeepsObjects ((List.range 16).flatMap stringObjects) s t ∧
      SameArrays s t := by
  have hgain := Block.presenceGain_gains hon habsent hband
  have hpresence := s.blk.gainShown_presence n
  obtain ⟨habsence, hshort, hreport⟩ := s.blk.gainShown_faults n
  have hshown := s.blk.gainShown_onStrings n
  generalize s.blk.gainShown n = c at *
  have htaken := Block.gainTaken_onStrings hn c (c.rd (Obj.StringRecord.AuthPort n))
    (Block.isInsertion (s.blk.bat n) (c.rd (Obj.StringRecord.AuthPort n)))
  obtain ⟨hmarked, hstart⟩ := c.gainTaken_bat n (c.rd (Obj.StringRecord.AuthPort n))
    (Block.isInsertion (s.blk.bat n) (c.rd (Obj.StringRecord.AuthPort n)))
  have hnothing := c.gainTaken_nothingAppears n (c.rd (Obj.StringRecord.AuthPort n))
    (Block.isInsertion (s.blk.bat n) (c.rd (Obj.StringRecord.AuthPort n)))
  generalize c.gainTaken n _ _ = d at *
  refine ⟨_, State.actOn_block (decide_eq_true hn) .string n (·.presenceGain n) hgain (htaken.writes.trans (hshown.writes.trans hs)),
    (htaken.rd_sub Block.takenObjects_subs (0x3600 + n) (by decide) (by decide)).trans hpresence, hnothing.absent _ _ habsence,
    hnothing.absent _ _ hshort, hnothing.reports hreport, hmarked, hstart, ?_, rfl, rfl, rfl⟩
  refine Block.Keeps.trans (hshown.keeps.mono fun k hk => ?_) (htaken.keeps.mono fun k hk => ?_)
  · exact List.mem_flatMap.2 ⟨n, List.mem_range.2 hn, Block.shown_subset_stringObjects n hk⟩
  · obtain ⟨m, hm, hk⟩ := List.mem_flatMap.1 hk
    exact List.mem_flatMap.2 ⟨m, hm, Block.judgedObjects_subset_stringObjects m hk⟩

end

/-- Settles O38: a test starts through `testAction_starts` and ends through `testEnd_ends`, both anchors are an anchor after a step on the
string's record alone (`anchored_next`), the cutoff is a capped Soc, a mark and what follows from level 3, and a gain is what is shown and
what is then taken of it. That STRING_STORE fills the typed copy and leaves the bytes of Heartwood as they were is the model's choice (log
entry 47). -/
theorem stringsAreSensedTestedAndAnchored : Obligations.StringsAreSensedTestedAndAnchored := by
  unfold Obligations.StringsAreSensedTestedAndAnchored
  refine ⟨fun s h a hs hdue hn => ⟨fun hholdup hmode hlevel hlimit hbus hidle => ?_, fun hholdup => stringTest_refused hs hdue hn hholdup⟩,
    fun s n hs hn => ⟨fun hruns hover hdelivered => stringTestEnd_ends hs hn hruns hover hdelivered,
      fun hmode hlong => stringFull_ends hs hn hmode hlong,
      fun seg hfirst hlong hseg hrise hslope => ocvAnchor_ends hs hn hfirst hlong hseg hrise hslope,
      fun hdone => ocvAnchor_waits hs hn hdone, fun hlong hlevel => cutoffVoltage_ends hs hn hlong hlevel,
      fun hon hlong hopen => ?_, fun hon habsent hband => presenceGain_ends hs hn hon habsent hband⟩⟩
  · exact stringTest_starts hs hdue hn (Block.testAction_starts hholdup hmode hlevel hlimit hbus hidle)
  · obtain ⟨t, hnext, hbat, hblk, hothers⟩ := stringStore_ends hs hn hon hlong hopen
    exact ⟨t, hnext, by rw [hbat], by rw [hbat]; rfl, by rw [hbat]; rfl, by rw [hbat]; rfl, by rw [hbat]; rfl, by rw [hbat], hblk, hothers⟩

end Sys2Proof.Machine
end

section
/-! PROOFS. The controller ports TW1 to TW3: what a transfer counts and shows, and a host's transactions on them (R529-R535). -/

namespace Sys2Proof.Machine

open Sys2Proof.Safety

namespace Block

/-! ### BusState, and what waits -/

theorem twStuck_eq_false {b : Block} {k : Nat} (h : b.rd (Obj.TwPortStatus.BusState k) < bsSTUCK_SCL) : b.twStuck k = false :=
  decide_eq_false (Nat.not_le.2 h)

/-- On a port whose bus is not stuck BusState follows the transaction in progress. -/
theorem showBus_open {b : Block} {k : Nat} (h : b.twStuck k = false) :
    b.showBus k = b.wr (Obj.TwPortStatus.BusState k) (if (b.twPort k).cur.isSome then bsBUSY else bsIDLE) := if_neg (Bool.eq_false_iff.1 h)

theorem showBus_onStrings (b : Block) (k : Nat) : OnStrings [Obj.TwPortStatus.BusState k] [] b (b.showBus k) := by
  unfold showBus
  split
  · exact OnStrings.refl b
  · exact (OnStrings.refl b).wr _ (List.mem_singleton_self _)

theorem showBus_tw (b : Block) (k : Nat) : (b.showBus k).tw = b.tw := by
  unfold showBus
  split <;> rfl

theorem showBus_faults (b : Block) (k : Nat) : (b.showBus k).faults = b.faults := by
  unfold showBus
  split <;> rfl

theorem OnStrings.setTwPort {l ns : List Nat} {b c : Block} (h : OnStrings l ns b c) (k : Nat) (x : TwPort) :
    OnStrings l ns b (c.setTwPort k x) := h.trans ⟨rfl, Keeps.of_images rfl rfl, fun _ _ => rfl⟩

theorem OnStrings.twResult {l ns : List Nat} {b c : Block} (h : OnStrings l ns b c) (n code : Nat) (data : List Nat) :
    OnStrings l ns b (c.twResult n code data) := by
  refine h.trans ?_
  unfold Block.twResult
  split
  · exact ⟨rfl, Keeps.of_images rfl rfl, fun _ _ => rfl⟩
  · exact OnStrings.refl c

theorem OnStrings.bump {l ns : List Nat} {b c : Block} (h : OnStrings l ns b c) {k : Nat} (hk : k ∈ l) : OnStrings l ns b (c.bump k) :=
  h.wr _ hk

theorem twNext_onStrings (b : Block) (k : Nat) : OnStrings [Obj.TwPortStatus.BusState k] [] b (b.twNext k) := by
  unfold twNext
  dsimp only
  split
  · exact b.showBus_onStrings k
  · split
    · exact b.showBus_onStrings k
    · exact ((OnStrings.refl b).setTwPort k _).also (showBus_onStrings _ k) (List.Subset.refl _)

/-- Where nothing waits, only BusState is shown. -/
theorem twNext_idle {b : Block} {k : Nat} (h : (b.twPort k).queue = []) : b.twNext k = b.showBus k := by
  unfold twNext
  dsimp only
  rw [h]
  exact ite_self _

/-- What waits first starts on an idle port that no pack's authentication waits for. -/
theorem twNext_starts {b : Block} {k : Nat} {r : TwReq} {rest : List TwReq} (hidle : (b.twPort k).cur = none) (hopen : b.twStuck k = false)
    (hauth : b.authWaits k = false) (hqueue : (b.twPort k).queue = r :: rest) :
    b.twNext k = (b.setTwPort k { b.twPort k with cur := some r, queue := rest, lost := false }).wr (Obj.TwPortStatus.BusState k) bsBUSY := by
  have hshow := showBus_open (b := b.setTwPort k { b.twPort k with cur := some r, queue := rest, lost := false }) (k := k) hopen
  rw [twPort_setTwPort, if_pos rfl] at hshow
  unfold twNext
  dsimp only
  rw [hqueue]
  exact (if_neg (by simp [hidle, hopen, hauth])).trans hshow

/-! ### What a transfer counts -/

theorem rd_bump_self (b : Block) (k : Nat) : (b.bump k).rd k = min (b.rd k + 1) 0xFFFFFFFF := rd_wr_self ..

theorem rd_bump_of_ne (b : Block) {k j : Nat} (h : j ≠ k) : (b.bump k).rd j = b.rd j := rd_wr_of_ne _ _ h

/-- The objects that count the transfers of port `k`. -/
def transferObjects (k : Nat) : List Nat := [Obj.TwPortStatus.Transactions k, Obj.TwPortStatus.Nacks k, Obj.TwPortStatus.PecErrors k]

/-- Every transfer is counted; by its outcome a NACK, a PEC error or a lost arbitration is counted or reported beside. -/
theorem twCounted_nack {k o : Nat} (h : o = twNACK_ADDRESS ∨ o = twNACK_DATA) (b : Block) (inj : Bool) :
    b.twCounted k o inj = (b.bump (Obj.TwPortStatus.Transactions k)).bump (Obj.TwPortStatus.Nacks k) := if_pos h

theorem twCounted_pecError (b : Block) (k : Nat) : b.twCounted k twPEC_ERROR false =
    ((b.bump (Obj.TwPortStatus.Transactions k)).bump (Obj.TwPortStatus.PecErrors k)).report Src.TW_PEC_ERROR k := rfl

theorem twCounted_beside (b : Block) (k o : Nat) (inj : Bool) :
    OnStrings [Obj.TwPortStatus.Nacks k, Obj.TwPortStatus.PecErrors k] [] (b.bump (Obj.TwPortStatus.Transactions k)) (b.twCounted k o inj) := by
  have hkept := OnStrings.refl (l := [Obj.TwPortStatus.Nacks k, Obj.TwPortStatus.PecErrors k]) (ns := []) (b.bump (Obj.TwPortStatus.Transactions k))
  unfold twCounted
  dsimp only
  split
  · exact hkept.bump (by simp)
  · split
    · have hpec := hkept.bump (k := Obj.TwPortStatus.PecErrors k) (by simp)
      unfold raise
      split
      · exact hpec.trans ⟨rfl, Keeps.of_images rfl rfl, fun _ _ => rfl⟩
      · exact hpec.report _ _ _
    · split
      · exact hkept.report _ _ _
      · exact hkept

theorem twCounted_tw (b : Block) (k o : Nat) (inj : Bool) : (b.twCounted k o inj).tw = b.tw := by
  unfold twCounted raise
  dsimp only
  split
  · rfl
  · split
    · split <;> rfl
    · split <;> rfl

theorem twCounted_onStrings (b : Block) (k o : Nat) (inj : Bool) : OnStrings (transferObjects k) [] b (b.twCounted k o inj) :=
  ((OnStrings.refl b).wr _ List.mem_cons_self).also (b.twCounted_beside k o inj) (List.subset_cons_self ..)

theorem transferObjects_subs (k : Nat) : ∀ o ∈ transferObjects k, o % 256 ∈ [0x02, 0x03, 0x04] := by
  simp [transferObjects, Obj.TwPortStatus.Transactions, Obj.TwPortStatus.Nacks, Obj.TwPortStatus.PecErrors, objKey_mod]

theorem transactions_notMem (k : Nat) : Obj.TwPortStatus.Transactions k ∉ [Obj.TwPortStatus.Nacks k, Obj.TwPortStatus.PecErrors k] := by
  simp only [List.mem_cons, List.not_mem_nil, or_false, not_or]
  exact ⟨objKey_ne_of_sub_ne (by decide) (by decide) (by decide), objKey_ne_of_sub_ne (by decide) (by decide) (by decide)⟩

theorem twCounted_transactions (b : Block) (k o : Nat) (inj : Bool) : (b.twCounted k o inj).rd (Obj.TwPortStatus.Transactions k) =
    min (b.rd (Obj.TwPortStatus.Transactions k) + 1) 0xFFFFFFFF := by
  rw [(b.twCounted_beside k o inj).keeps.rd_eq (transactions_notMem k), rd_bump_self]

theorem twCounted_nacks {k o : Nat} (h : o = twNACK_ADDRESS ∨ o = twNACK_DATA) (b : Block) (inj : Bool) :
    (b.twCounted k o inj).rd (Obj.TwPortStatus.Nacks k) = min (b.rd (Obj.TwPortStatus.Nacks k) + 1) 0xFFFFFFFF := by
  have hne : Obj.TwPortStatus.Nacks k ≠ Obj.TwPortStatus.Transactions k := objKey_ne_of_sub_ne (by decide) (by decide) (by decide)
  rw [twCounted_nack h, rd_bump_self, rd_bump_of_ne _ hne]

theorem twCounted_pecErrors (b : Block) (k : Nat) :
    (b.twCounted k twPEC_ERROR false).rd (Obj.TwPortStatus.PecErrors k) = min (b.rd (Obj.TwPortStatus.PecErrors k) + 1) 0xFFFFFFFF ∧
      (b.twCounted k twPEC_ERROR false).faults.reports = b.faults.reports ++ [{ src := Src.TW_PEC_ERROR, inst := k }] := by
  have hne : Obj.TwPortStatus.PecErrors k ≠ Obj.TwPortStatus.Transactions k := objKey_ne_of_sub_ne (by decide) (by decide) (by decide)
  rw [twCounted_pecError]
  refine ⟨?_, rfl⟩
  rw [report_rd, rd_bump_self, rd_bump_of_ne _ hne]

/-! ### A host's transaction (R532, R529) -/

section

variable (b : Block) (n code k : Nat) (data : List Nat)

theorem twResult_twPort : (b.twResult n code data).twPort k = b.twPort k := by
  unfold twResult
  split <;> rfl

theorem twResult_twStuck : (b.twResult n code data).twStuck k = b.twStuck k := by
  unfold twResult
  split <;> rfl

theorem twResult_authWaits : (b.twResult n code data).authWaits k = b.authWaits k := by
  unfold twResult
  split <;> rfl

theorem twResult_faults : (b.twResult n code data).faults = b.faults := by
  unfold twResult
  split <;> rfl

/-- The result of a session that exists. -/
theorem twResult_results {n : Nat} (hn : n < 32) : Tab.look [] (b.twResult n code data).tw.results n = [code, data.length] ++ data := by
  unfold twResult
  rw [if_pos hn]
  exact Tab.look_set_self ..

end

/-- A request waits for port `k`, and its session's result is pending. -/
def pendRequest (b : Block) (k : Nat) (r : TwReq) : Block :=
  (b.setTwPort k { b.twPort k with queue := [r] }).twResult r.session twPENDING

/-- A port on which `r` is in progress and nothing waits. -/
def busyPort (x : TwPort) (r : TwReq) : TwPort := { x with cur := some r, queue := [], lost := false }

/-- The request of a session is in progress on port `k`, and pending. -/
def startRequest (b : Block) (k : Nat) (r : TwReq) : Block :=
  ((b.pendRequest k r).setTwPort k (busyPort (b.twPort k) r)).wr (Obj.TwPortStatus.BusState k) bsBUSY

theorem pendRequest_twPort (b : Block) (k : Nat) (r : TwReq) : (b.pendRequest k r).twPort k = { b.twPort k with queue := [r] } := by
  rw [pendRequest, twResult_twPort, twPort_setTwPort, if_pos rfl]

theorem pendRequest_starts {b : Block} {k : Nat} (hidle : (b.twPort k).cur = none) (hopen : b.twStuck k = false)
    (hauth : b.authWaits k = false) (r : TwReq) : (b.pendRequest k r).twNext k = b.startRequest k r := by
  have hport := b.pendRequest_twPort k r
  have hnext := twNext_starts (b := b.pendRequest k r) (k := k) (r := r) (rest := []) (hport ▸ hidle)
    ((twResult_twStuck ..).trans hopen) ((twResult_authWaits ..).trans hauth) (congrArg TwPort.queue hport)
  rw [hport] at hnext
  exact hnext

theorem pendRequest_results (b : Block) (k : Nat) {r : TwReq} (hn : r.session < 32) :
    Tab.look [] (b.pendRequest k r).tw.results r.session = [twPENDING, 0] := twResult_results _ _ _ hn

theorem startRequest_twPort (b : Block) (k j : Nat) (r : TwReq) :
    (b.startRequest k r).twPort j = if j = k then busyPort (b.twPort k) r else b.twPort j := by
  have hset : (b.startRequest k r).twPort j = ((b.pendRequest k r).setTwPort k (busyPort (b.twPort k) r)).twPort j := rfl
  rw [hset, twPort_setTwPort, pendRequest, twResult_twPort, twPort_setTwPort]
  split <;> rfl

theorem pendRequest_parts (b : Block) (k : Nat) (r : TwReq) : b.pendRequest k r = { b with tw := (b.pendRequest k r).tw } := by
  unfold pendRequest twResult
  split <;> rfl

theorem startRequest_parts (b : Block) (k : Nat) (r : TwReq) : b.startRequest k r =
    { b with tw := (b.startRequest k r).tw, dict := (b.startRequest k r).dict, wimg := (b.startRequest k r).wimg } := by
  unfold startRequest
  rw [b.pendRequest_parts k r]
  rfl

theorem startRequest_onStrings (b : Block) (k : Nat) (r : TwReq) : OnStrings [Obj.TwPortStatus.BusState k] [] b (b.startRequest k r) :=
  ((((OnStrings.refl b).setTwPort k _).twResult ..).setTwPort k _).wr _ (List.mem_singleton_self _)

/-- The kinds of R532 on a controller port are served. -/
theorem request_served {k kind : Nat} (hport : k ∈ [1, 2, 3]) (hkind : kind ∈ List.range' 1 8) : ¬ (k = 0 ∨ 3 < k ∨ kind = 0 ∨ 8 < kind) := by
  rw [List.mem_range'_1] at hkind
  simp only [List.mem_cons, List.not_mem_nil, or_false] at hport
  omega

theorem twRequest_starts {b : Block} {k : Nat} {r : TwReq} (hport : k ∈ [1, 2, 3]) (hkind : r.kind ∈ List.range' 1 8)
    (haddr : b.packAddress k r.addr = false) (hlow : 0x08 ≤ r.addr) (hhigh : r.addr ≤ 0x77) (hfree : b.twPending r.session = false)
    (hopen : b.twStuck k = false) (hauth : b.authWaits k = false) (hidle : (b.twPort k).cur = none)
    (hqueue : (b.twPort k).queue = []) (hfirst : r.tries = 0) :
    b.twRequest r.session k r.addr r.kind r.cmd r.pec r.data = b.startRequest k r := by
  have haddr' : ¬ (b.packAddress k r.addr = true ∨ r.addr < 0x08 ∨ 0x77 < r.addr) := by
    rw [haddr]
    simp [hlow, hhigh]
  have hr : ({ session := r.session, addr := r.addr, kind := r.kind, cmd := r.cmd, pec := r.pec, data := r.data } : TwReq) = r := by rw [← hfirst]
  unfold twRequest
  rw [if_neg (request_served hport hkind), if_neg haddr', if_neg (Bool.eq_false_iff.1 hfree), if_neg (Bool.eq_false_iff.1 hopen), hqueue]
  dsimp only
  rw [hr]
  exact pendRequest_starts hidle hopen hauth r

theorem twRequest_reserved {b : Block} {n k addr kind : Nat} (hport : k ∈ [1, 2, 3]) (hkind : kind ∈ List.range' 1 8)
    (haddr : addr < 0x08 ∨ 0x77 < addr) (cmd : Nat) (pec : Bool) (data : List Nat) :
    b.twRequest n k addr kind cmd pec data = b.twResult n twRESERVED_ADDRESS := by
  unfold twRequest
  rw [if_neg (request_served hport hkind), if_pos (.inr haddr)]

/-! ### The end of a transaction (R529) -/

theorem twPort_congr {b c : Block} (h : c.tw = b.tw) (k : Nat) : c.twPort k = b.twPort k := by rw [twPort, h, twPort]

/-- The transaction `r` in progress on port `k` is over and counted. -/
def overRequest (b : Block) (k o : Nat) : Block := (b.setTwPort k { b.twPort k with cur := none, lost := false }).twCounted k o false

/-- The transaction `r` in progress on port `k` ends; its outcome and what it read are its session's result. -/
def endRequest (b : Block) (k : Nat) (r : TwReq) (o : Nat) (answer : List Nat) : Block :=
  ((b.overRequest k o).twResult r.session o answer).showBus k

theorem pecInjected_none {b : Block} (h : b.faults.pecLeft = 0) (k : Nat) : b.pecInjected k = false := by
  rw [pecInjected, h]
  rfl

theorem overRequest_twPort (b : Block) (k o : Nat) : (b.overRequest k o).twPort k = { b.twPort k with cur := none, lost := false } := by
  rw [overRequest, twPort_congr (twCounted_tw ..), twPort_setTwPort, if_pos rfl]

theorem twDone_ends {b : Block} {k : Nat} {r : TwReq} (hruns : (b.twPort k).cur = some r) (hpec : b.faults.pecLeft = 0)
    (hqueue : (b.twPort k).queue = []) (o : Nat) (data : List Nat) :
    b.twDone k o data = b.endRequest k r o (if o = twOK ∧ 5 ≤ r.kind then data.take 255 else []) := by
  have hinj : (r.pec && decide (5 ≤ r.kind) && decide (o = twOK ∨ o = twPEC_ERROR) && b.pecInjected k) = false := by
    rw [pecInjected_none hpec, Bool.and_false]
  unfold twDone
  rw [hruns]
  dsimp only
  rw [hinj]
  refine twNext_idle ?_
  rw [twResult_twPort]
  exact (congrArg TwPort.queue (b.overRequest_twPort k o)).trans hqueue

section

variable (b : Block) (k o : Nat) (r : TwReq) (answer : List Nat)

theorem overRequest_onStrings : OnStrings (transferObjects k) [] b (b.overRequest k o) :=
  ((OnStrings.refl b).setTwPort k _).trans (twCounted_onStrings ..)

theorem endRequest_onStrings : OnStrings (Obj.TwPortStatus.BusState k :: transferObjects k) [] b (b.endRequest k r o answer) :=
  (((b.overRequest_onStrings k o).mono (List.subset_cons_self ..) (List.Subset.refl _)).twResult ..).also (showBus_onStrings ..) (by simp)

theorem endRequest_twPort : (b.endRequest k r o answer).twPort k = { b.twPort k with cur := none, lost := false } := by
  rw [endRequest, twPort_congr (showBus_tw ..), twResult_twPort, overRequest_twPort]

theorem endRequest_faults : (b.endRequest k r o answer).faults = (b.overRequest k o).faults := by
  rw [endRequest, showBus_faults, twResult_faults]

/-- The end shows the counts as they are once the transaction is over. -/
theorem endRequest_rd {sub : Nat} (hlt : sub < 256) (hsub : sub ≠ 0x01) :
    (b.endRequest k r o answer).rd (objKey (0x4C20 + k) sub) = (b.overRequest k o).rd (objKey (0x4C20 + k) sub) := by
  have hresult : OnStrings [Obj.TwPortStatus.BusState k] [] (b.overRequest k o) (b.endRequest k r o answer) :=
    ((OnStrings.refl _).twResult ..).also (showBus_onStrings ..) (List.Subset.refl _)
  exact hresult.keeps.rd_eq (mt List.mem_singleton.1 (objKey_ne_of_sub_ne hlt (by decide) hsub))

theorem endRequest_results {r : TwReq} (hn : r.session < 32) :
    Tab.look [] (b.endRequest k r o answer).tw.results r.session = [o, answer.length] ++ answer := by
  rw [endRequest, showBus_tw, twResult_results _ _ _ hn]

theorem endRequest_idle {b : Block} {k : Nat} (h : b.twStuck k = false) : (b.endRequest k r o answer).rd (Obj.TwPortStatus.BusState k) = bsIDLE := by
  have hkept := (b.overRequest_onStrings k o).rd_sub (sub := 0x01) (transferObjects_subs k) (0x4C20 + k) (by decide) (by decide)
  have hstuck : ((b.overRequest k o).twResult r.session o answer).twStuck k = false :=
    (twResult_twStuck ..).trans ((congrArg (fun v => decide (bsSTUCK_SCL ≤ v)) hkept).trans h)
  rw [endRequest, showBus_open hstuck, rd_wr_self, twResult_twPort, overRequest_twPort]
  rfl

end

end Block

/-! ### The commands -/

/-- The commands of R532 to address `addr` of port `k`, each with its kind, its command code and the bytes it writes. -/
def hostCommands (n k addr cmd : Nat) (pec : Bool) (data : List Nat) : List (Instr × Nat × Nat × List Nat) :=
  [(.sendByte n k addr cmd pec, 1, cmd, []), (.writeByte n k addr cmd pec data, 2, cmd, data), (.writeWord n k addr cmd pec data, 3, cmd, data),
    (.blockWrite n k addr cmd pec data, 4, cmd, data), (.receiveByte n k addr pec, 5, 0, []), (.readByte n k addr cmd pec, 6, cmd, []),
    (.readWord n k addr cmd pec, 7, cmd, []), (.blockRead n k addr cmd pec, 8, cmd, [])]

/-- Outside GRAVE each of them is its kind's request. -/
theorem hostCommand_next {s : State} {n k addr cmd kind code : Nat} {pec : Bool} {data bytes : List Nat} {c : Instr} {d : Block}
    (hs : Settled s) (hn : n < 32) (hgrave : s.blk.inGrave = false) (hc : (c, kind, code, bytes) ∈ hostCommands n k addr cmd pec data)
    (he : s.blk.twRequest n k addr kind code pec bytes = d) (hd : d.writes = s.blk.writes) : exec c s = .next { s with blk := d } := by
  have hrequest : s.hostTw n k addr kind code pec bytes = .next { s with blk := d } :=
    State.actOn_block (decide_eq_true hn) .session n (fun b => if b.inGrave then b else b.twRequest n k addr kind code pec bytes)
      ((if_neg (Bool.eq_false_iff.1 hgrave)).trans he) (hd.trans hs)
  rw [← hrequest]
  simp only [hostCommands, List.mem_cons, List.not_mem_nil, or_false, Prod.mk.injEq] at hc
  obtain ⟨rfl, rfl, rfl, rfl⟩ | ⟨rfl, rfl, rfl, rfl⟩ | ⟨rfl, rfl, rfl, rfl⟩ | ⟨rfl, rfl, rfl, rfl⟩ | ⟨rfl, rfl, rfl, rfl⟩ |
    ⟨rfl, rfl, rfl, rfl⟩ | ⟨rfl, rfl, rfl, rfl⟩ | ⟨rfl, rfl, rfl, rfl⟩ := hc <;> rfl

theorem hostCommand_kind {n k addr cmd kind code : Nat} {pec : Bool} {data bytes : List Nat} {c : Instr}
    (hc : (c, kind, code, bytes) ∈ hostCommands n k addr cmd pec data) : kind ∈ List.range' 1 8 := by
  have hkinds : (hostCommands n k addr cmd pec data).map (fun e => e.2.1) = List.range' 1 8 := rfl
  rw [← hkinds]
  exact List.mem_map_of_mem (f := fun e : Instr × Nat × Nat × List Nat => e.2.1) hc

section

variable {s : State} {n k addr cmd : Nat} {pec : Bool} {data : List Nat} (hs : Settled s) (hn : n < 32) (hgrave : s.blk.inGrave = false)
  (hport : k ∈ [1, 2, 3])
include hs hn hgrave hport

theorem hostCommand_starts {kind code : Nat} {bytes : List Nat} {c : Instr} (hc : (c, kind, code, bytes) ∈ hostCommands n k addr cmd pec data)
    (haddr : s.blk.packAddress k addr = false) (hlow : 0x08 ≤ addr) (hhigh : addr ≤ 0x77) (hfree : s.blk.twPending n = false)
    (hopen : s.blk.rd (Obj.TwPortStatus.BusState k) < bsSTUCK_SCL) (hauth : s.blk.authWaits k = false)
    (hidle : (s.blk.twPort k).cur = none) (hqueue : (s.blk.twPort k).queue = []) :
    ∃ t, exec c s = .next t ∧
      t.blk.twPort k = Block.busyPort (s.blk.twPort k) { session := n, addr := addr, kind := kind, cmd := code, pec := pec, data := bytes } ∧
      Tab.look [] t.blk.tw.results n = [twPENDING, 0] ∧ t.blk.rd (Obj.TwPortStatus.BusState k) = bsBUSY ∧
      (∀ j, j ≠ k → t.blk.twPort j = s.blk.twPort j) ∧ KeepsObjects [Obj.TwPortStatus.BusState k] s t ∧
      t.blk = { s.blk with tw := t.blk.tw, dict := t.blk.dict, wimg := t.blk.wimg } ∧ SameArrays s t := by
  have hstart := Block.twRequest_starts (r := { session := n, addr := addr, kind := kind, cmd := code, pec := pec, data := bytes }) hport
    (hostCommand_kind hc) haddr hlow hhigh hfree (Block.twStuck_eq_false hopen) hauth hidle hqueue rfl
  generalize hr : ({ session := n, addr := addr, kind := kind, cmd := code, pec := pec, data := bytes } : TwReq) = r at hstart ⊢
  have hsession : r.session = n := hr ▸ rfl
  have hobjects := s.blk.startRequest_onStrings k r
  have hpending : Tab.look [] (s.blk.startRequest k r).tw.results n = [twPENDING, 0] :=
    hsession ▸ s.blk.pendRequest_results k (hsession ▸ hn)
  exact ⟨_, hostCommand_next hs hn hgrave hc (hr ▸ hstart) hobjects.writes, (s.blk.startRequest_twPort k k r).trans (if_pos rfl), hpending,
    Block.rd_wr_self .., fun j hj => (s.blk.startRequest_twPort k j r).trans (if_neg hj), hobjects.keeps, s.blk.startRequest_parts k r, rfl, rfl, rfl⟩

theorem hostCommand_reserved {c : Instr} (hc : c ∈ (hostCommands n k addr cmd pec data).map (·.1)) (haddr : addr < 0x08 ∨ 0x77 < addr) :
    ∃ t, exec c s = .next t ∧ Tab.look [] t.blk.tw.results n = [twRESERVED_ADDRESS, 0] ∧ t.blk.tw.ports = s.blk.tw.ports ∧
      t.blk = { s.blk with tw := t.blk.tw } ∧ SameArrays s t := by
  obtain ⟨⟨c, kind, code, bytes⟩, hmem, rfl⟩ := List.mem_map.1 hc
  have he := Block.twRequest_reserved (b := s.blk) (n := n) hport (hostCommand_kind hmem) haddr code pec bytes
  have hresult := s.blk.twResult_results twRESERVED_ADDRESS [] hn
  rw [Block.twResult, if_pos hn] at he hresult
  exact ⟨_, hostCommand_next hs hn hgrave hmem he rfl, hresult, rfl, rfl, rfl, rfl, rfl⟩

end

theorem twTransactionDone_ends {s : State} {k o : Nat} {r : TwReq} (hs : Settled s) (hport : k ∈ [1, 2, 3]) (ho : o < 7)
    (hruns : (s.blk.twPort k).cur = some r) (hpec : s.blk.faults.pecLeft = 0) (hqueue : (s.blk.twPort k).queue = []) (data : List Nat) :
    exec (.twTransactionDone k o data) s =
      .next { s with blk := s.blk.endRequest k r o (if o = twOK ∧ 5 ≤ r.kind then data.take 255 else []) } := by
  have hcontroller : isController k = true := by
    rw [isController, ← Bool.decide_and, decide_eq_true_eq]
    simp only [List.mem_cons, List.not_mem_nil, or_false] at hport
    omega
  have hends : s.blk.twDone k (o % 7) data = _ := (congrArg (s.blk.twDone k · data) (Nat.mod_eq_of_lt ho)).trans
    (Block.twDone_ends hruns hpec hqueue o data)
  exact State.actOn_block hcontroller .twoWire k (·.twDone k (o % 7) data) hends ((s.blk.endRequest_onStrings ..).writes.trans hs)

/-- Settles O43: a request on an idle port is queued and started at once (`twRequest_starts`), an address that R532 reserves is answered
alone, and the end is `twDone_ends`, whose objects are the counts and BusState. The eight commands stand for the writes of Request, and the
outcome is an operand of TW_TRANSACTION_DONE (log entry 62). -/
theorem hostTransactionsQueueOnTheirPort : Obligations.HostTransactionsQueueOnTheirPort := by
  unfold Obligations.HostTransactionsQueueOnTheirPort
  refine ⟨fun s n k addr cmd pec data hs hn hgrave hport haddr hlow hhigh hfree hopen hauth hidle hqueue c kind code bytes hc => ?_,
    fun s n k addr cmd pec data hs hn hgrave hport haddr c hc => ?_, fun s k o data r hs hport ho hruns hn hpec hqueue => ?_⟩
  · exact hostCommand_starts hs hn hgrave hport hc haddr hlow hhigh hfree hopen hauth hidle hqueue
  · exact hostCommand_reserved hs hn hgrave hport hc haddr
  · refine ⟨_, twTransactionDone_ends hs hport ho hruns hpec hqueue data, s.blk.endRequest_twPort .., s.blk.endRequest_results _ _ _ hn,
      (s.blk.endRequest_rd _ _ _ _ (by decide) (by decide)).trans (Block.twCounted_transactions ..),
      fun hnack => (s.blk.endRequest_rd _ _ _ _ (by decide) (by decide)).trans (Block.twCounted_nacks hnack ..), fun hpecError => ?_,
      fun hopen => Block.endRequest_idle _ _ _ (Block.twStuck_eq_false hopen), ?_, rfl, rfl, rfl⟩
    · subst hpecError
      obtain ⟨hcount, hreports⟩ := Block.twCounted_pecErrors (s.blk.setTwPort k { s.blk.twPort k with cur := none, lost := false }) k
      exact ⟨(s.blk.endRequest_rd _ _ _ _ (by decide) (by decide)).trans hcount,
        (congrArg Faults.reports (s.blk.endRequest_faults ..)).trans hreports⟩
    · exact (s.blk.endRequest_onStrings ..).keeps.mono (by simp [Block.transferObjects, wireObjects])

end Sys2Proof.Machine
end

section
/-! PROOFS. The authentication of packs: an attempt is queued, its transfers on the port, its outcomes and its abort (R263-R265, R511-R512). -/

namespace Sys2Proof.Machine

open Sys2Proof.Safety

namespace Block

/-! ### The interval of R265 -/

theorem authExpiry_falls {b : Block} {n c : Nat} (hdue : (b.bat n).nextAuth = some c) (hlong : c ≤ b.glade.cycles) :
    b.authExpiry n = b.authDue n := by
  unfold authExpiry
  rw [hdue]
  exact if_pos hlong

/-! ### A transfer of an attempt -/

/-- The counts of a port are none of a string's objects. -/
theorem stringObjects_subs (n : Nat) : ∀ k ∈ stringObjects n, 0x0A ≤ k % 256 := by
  simp [stringObjects, objKey_mod, Obj.StringRecord.Presence, Obj.StringRecord.Temperature, Obj.StringRecord.Soc,
    Obj.StringRecord.RemainingCharge, Obj.StringRecord.CapacityEstimate, Obj.StringRecord.Soh, Obj.StringRecord.EstFlags,
    Obj.StringRecord.LastAnchorSoc, Obj.StringRecord.DischargeLevel, Obj.StringRecord.Inhibit, Obj.StringRecord.TestStatus,
    Obj.StringRecord.Mode, Obj.StringRecord.DischargeLimit, Obj.StringRecord.SupportWeight, Obj.StringRecord.InternalResistance,
    Obj.StringRecord.Identity, Obj.StringRecord.PackId, Obj.StringRecord.LastAuthEpoch, Obj.StringRecord.LastAuthCycle,
    Obj.StringRecord.AuthFailures, Obj.StringRecord.AuthAttempts, Obj.HeartwoodStatus.WriteRefusals, Obj.SourceConfig.PresentInstances]

theorem transactions_notMem_string (k n : Nat) : Obj.TwPortStatus.Transactions k ∉ stringObjects n :=
  objKey_notMem _ (by decide) fun o ho e => absurd (e ▸ stringObjects_subs n o ho) (by decide)

/-- Where the port is free and no check is injected, a transfer is counted, is taken by the attempt, and lets what waits go on. -/
theorem authTransfer_counts {b : Block} {n o : Nat} (hport : b.authPort n ∈ [1, 2, 3]) (hidle : (b.twPort (b.authPort n)).cur = none)
    (hopen : b.twStuck (b.authPort n) = false) (hpec : b.faults.pecLeft = 0) (ho : o ≠ twBUS_STUCK) (reads : Bool) (act : Block → Bool → Block) :
    b.authTransfer n o reads act = (act (b.twCounted (b.authPort n) o false) (o == twOK)).twNext (b.authPort n) := by
  have hfree : ¬ (b.authPort n = 0 ∨ (b.twPort (b.authPort n)).cur.isSome = true) := by
    simp only [hidle, Option.isSome_none, Bool.false_eq_true, or_false]
    exact fun h => absurd (h ▸ hport) (by decide)
  have hinj : (reads && decide (o = twOK ∨ o = twPEC_ERROR) && b.pecInjected (b.authPort n)) = false := by
    rw [pecInjected_none hpec, Bool.and_false]
  unfold authTransfer
  dsimp only
  rw [if_neg hfree, if_neg (Bool.eq_false_iff.1 hopen), hinj]
  rw [if_neg Bool.false_ne_true, if_neg Bool.false_ne_true, if_neg ho]

/-- What a counted transfer leaves of a string. -/
theorem twCounted_string_rd (b : Block) (k o n : Nat) {sub : Nat} (hlt : sub < 256) (hsub : sub ∉ [0x02, 0x03, 0x04]) :
    (b.twCounted k o false).rd (objKey (0x3600 + n) sub) = b.rd (objKey (0x3600 + n) sub) :=
  (b.twCounted_onStrings k o false).rd_sub (transferObjects_subs k) (0x3600 + n) hlt hsub

theorem isHolder_twCounted (b : Block) (k o : Nat) : (b.twCounted k o false).isHolder = b.isHolder := by
  have hrole : Obj.RedundancyStatus.Role ∉ transferObjects k := objKey_notMem_of_subs (transferObjects_subs k) _ (by decide) (by decide)
  exact congrArg (· == 1) ((b.twCounted_onStrings k o false).keeps.rd_eq hrole)

theorem authFree_twCounted (b : Block) (k o n : Nat) : (b.twCounted k o false).authFree n = b.authFree n := by
  have hport (m : Nat) : (b.twCounted k o false).rd (Obj.StringRecord.AuthPort m) = b.rd (Obj.StringRecord.AuthPort m) :=
    b.twCounted_string_rd k o m (by decide) (by decide)
  simp only [authFree, hport, (b.twCounted_onStrings k o false).bat_eq]

theorem authKey_twCounted (b : Block) (k o n : Nat) : (b.twCounted k o false).authKey n = b.authKey n :=
  congrArg (fun d => Tab.look [] d (objKey (0x3600 + n) 0x34)) (b.twCounted_onStrings k o false).domains

/-! ### The nonce (R263) -/

theorem drawNonce_length (k : Nat) (b : Block) : (b.drawNonce k).1.length = k := by
  induction k generalizing b with
  | zero => rfl
  | succ k ih => exact congrArg (· + 1) (ih (b.draw 8).2)

theorem drawNonce_onStrings (k : Nat) (b : Block) : OnStrings [] [] b (b.drawNonce k).2 := by
  induction k generalizing b with
  | zero => exact OnStrings.refl b
  | succ k ih => exact ((OnStrings.refl b).draw 8).trans (ih (b.draw 8).2)

/-- The record of a string whose nonce is written, or is to be written again. -/
def challengedBat (x : BatString) (nonce : List Nat) (ok : Bool) : BatString := { x with nonce := nonce, auth := if ok then 3 else 4 }

/-- A nonce is drawn and the attempt counted. -/
def challenge (b : Block) (n : Nat) (ok : Bool) : Block :=
  ((b.drawNonce 16).2.setBat n (challengedBat (b.bat n) (b.drawNonce 16).1 ok)).bump (Obj.StringRecord.AuthAttempts n)

theorem authStart_challenges {b : Block} {n : Nat} (hholder : b.isHolder = true) (hat : (b.bat n).auth = 2) (hfree : b.authFree n = true)
    (ok : Bool) : b.authStart n ok = b.challenge n ok := by
  unfold authStart
  exact if_neg (by simp [hholder, hat, hfree])

theorem challenge_onStrings (b : Block) (n : Nat) (ok : Bool) : OnStrings [Obj.StringRecord.AuthAttempts n] [n] b (b.challenge n ok) :=
  (((b.drawNonce_onStrings 16).mono (List.nil_subset _) (List.nil_subset _)).setBat _ (List.mem_singleton_self n)).bump (List.mem_singleton_self _)

/-- A challenge shows one attempt more, and the Identity as it was. -/
theorem challenge_shows (b : Block) (n : Nat) (ok : Bool) :
    (b.challenge n ok).rd (Obj.StringRecord.AuthAttempts n) = min (b.rd (Obj.StringRecord.AuthAttempts n) + 1) 0xFFFFFFFF ∧
      (b.challenge n ok).rd (Obj.StringRecord.Identity n) = b.rd (Obj.StringRecord.Identity n) ∧
      (b.challenge n ok).bat n = challengedBat (b.bat n) (b.drawNonce 16).1 ok := by
  have hdraw (o : Nat) : ((b.drawNonce 16).2.setBat n (challengedBat (b.bat n) (b.drawNonce 16).1 ok)).rd o = b.rd o :=
    (b.drawNonce_onStrings 16).keeps.rd_eq List.not_mem_nil
  refine ⟨?_, ?_, ?_⟩
  · rw [challenge, rd_bump_self, hdraw]
  · exact (rd_bump_of_ne _ (objKey_ne_of_sub_ne (by decide) (by decide) (by decide))).trans (hdraw _)
  · exact (bat_wr ..).trans (bat_setBat_self ..)

/-! ### The response, and what an attempt ends with (R263) -/

theorem authRetry_repeats {b : Block} {n : Nat} (hat : (b.bat n).auth = 4) :
    b.authRetry n true = b.setBat n { b.bat n with auth := 3 } ∧ b.authRetry n false = b.authOutcome n idNO_RESPONSE none := by
  unfold authRetry
  exact ⟨(if_neg (not_not.2 hat)).trans (if_pos rfl), (if_neg (not_not.2 hat)).trans (if_neg Bool.false_ne_true)⟩

/-- A bad read is repeated once. -/
theorem authResponse_bad {b : Block} {n : Nat} {again : Bool} (hat : (b.bat n).auth = if again then 5 else 3) (data : List Nat) :
    b.authResponse n again false data =
      if again then b.authOutcome n idPACK_ID_CONFLICT none else b.setBat n { b.bat n with auth := 5 } := by
  unfold authResponse
  exact (if_neg (not_not.2 hat)).trans (if_pos (.inl rfl))

/-- A whole response to a nonce is judged by the HMAC of nonce and id. -/
theorem authResponse_judges {b : Block} {n : Nat} {again : Bool} {data : List Nat} (hat : (b.bat n).auth = if again then 5 else 3)
    (hlen : data.length = 41) (heven : data.headD 0 % 2 = 0) : b.authResponse n again true data =
      if hmac256 (b.authKey n) ((b.bat n).nonce ++ (data.drop 1).take 8) = data.drop 9 then
        b.authOutcome n idAUTHENTICATED (some (beValue ((data.drop 1).take 8)))
      else b.authOutcome n idAUTH_FAILED none := by
  have heven' : ¬ data.getD 0 0 % 2 = 1 := by
    rw [List.getD_eq_getElem?_getD, ← List.head?_eq_getElem?, ← List.headD_eq_head?_getD]
    omega
  unfold authResponse
  exact (if_neg (not_not.2 hat)).trans ((if_neg (by simp [hlen])).trans (if_neg heven'))

/-- What the end of an attempt shows of the string. -/
theorem authOutcome_shows (b : Block) (n v : Nat) (id : Option Nat) :
    ((b.authOutcome n v id).bat n).auth = 0 ∧ ((b.authOutcome n v id).bat n).nonce = [] ∧
      ((b.authOutcome n v id).bat n).nextAuth = some (b.glade.cycles + b.authWait n v) ∧
      (b.authOutcome n v id).rd (Obj.StringRecord.LastAuthCycle n) = b.glade.cycle ∧
      (b.authOutcome n v id).rd (Obj.StringRecord.AuthFailures n) = if v = idAUTHENTICATED then b.rd (Obj.StringRecord.AuthFailures n)
        else min (b.rd (Obj.StringRecord.AuthFailures n) + 1) 0xFFFFFFFF := by
  have hrecord := b.authOutcome_estimated n v id
  rw [attemptOver_bat] at hrecord
  obtain ⟨hcycle, hfailures⟩ := b.attemptOver_counts n v
  have hjudged {sub : Nat} (hlt : sub < 256) (hsub : sub ∉ [0x41, 0x45, 0x0B] ++ ([0x51, 0x49, 0x4A, 0x4B, 0x4C, 0x4D] ++ [0x0A])) :=
    (b.authOutcome_judged n v id).rd_sub (judgedObjects_subs n) (0x3600 + n) hlt hsub
  exact ⟨hrecord.part (·.auth) fun _ => rfl, hrecord.part (·.nonce) fun _ => rfl, hrecord.part (·.nextAuth) fun _ => rfl,
    (hjudged (by decide) (by decide)).trans hcycle, (hjudged (by decide) (by decide)).trans hfailures⟩

/-! ### The abort (R263, R512) -/

/-- The record of a string whose attempt is aborted, the next due in cycle `next`. -/
def abortedBat (x : BatString) (next : Nat) : BatString := { x with auth := 0, nonce := [], nextAuth := some next }

theorem authAbort_aborts {b : Block} {n : Nat} (h : (b.bat n).auth ≠ 0) : ∃ next, b.authAbort n =
    (b.setBat n (abortedBat (b.bat n) next)).setIdentity n (b.bat n).identityBefore := ⟨_, if_neg h⟩

end Block

/-! ### The commands -/

/-- The two-wire port of string `n`'s authenticator is a controller port that is free, and no check is injected. -/
def Served (n : Nat) (s : State) : Prop :=
  s.blk.rd (Obj.StringRecord.AuthPort n) ∈ [1, 2, 3] ∧ (s.blk.twPort (s.blk.rd (Obj.StringRecord.AuthPort n))).cur = none ∧
    s.blk.twStuck (s.blk.rd (Obj.StringRecord.AuthPort n)) = false ∧ s.blk.faults.pecLeft = 0

/-- One transfer more is counted on the string's port; beside the port only the string changes. -/
def OnWire (n : Nat) (s t : State) : Prop :=
  t.blk.rd (Obj.TwPortStatus.Transactions (s.blk.rd (Obj.StringRecord.AuthPort n))) =
      min (s.blk.rd (Obj.TwPortStatus.Transactions (s.blk.rd (Obj.StringRecord.AuthPort n))) + 1) 0xFFFFFFFF ∧
    KeepsObjects (stringObjects n ++ wireObjects (s.blk.rd (Obj.StringRecord.AuthPort n))) s t ∧ StringAlone n s t

/-- The attempt of string `n` ended with Identity `v`, the next due after `wait` cycles. -/
def AttemptEnded (n v wait : Nat) (s t : State) : Prop :=
  t.blk.rd (Obj.StringRecord.Identity n) = v ∧ (t.blk.bat n).auth = 0 ∧ (t.blk.bat n).nonce = [] ∧
    (t.blk.bat n).nextAuth = some (s.blk.glade.cycles + wait) ∧ t.blk.rd (Obj.StringRecord.LastAuthCycle n) = s.blk.glade.cycle ∧
    t.blk.rd (Obj.StringRecord.AuthFailures n) = (if v = idAUTHENTICATED then s.blk.rd (Obj.StringRecord.AuthFailures n)
      else min (s.blk.rd (Obj.StringRecord.AuthFailures n) + 1) 0xFFFFFFFF) ∧ OnWire n s t

/-- A response `data` ended the attempt: AUTHENTICATED with the pack's id where it holds the HMAC of nonce and id, AUTH_FAILED otherwise. -/
def Judged (n : Nat) (data : List Nat) (s t : State) : Prop :=
  let id := (data.drop 1).take 8
  let good := hmac256 (s.blk.authKey n) ((s.blk.bat n).nonce ++ id) = data.drop 9
  (good → AttemptEnded n idAUTHENTICATED (s.blk.rd (Obj.StringRecord.AuthInterval n)) s t ∧
    t.blk.rd (Obj.StringRecord.PackId n) = beValue id) ∧ (¬ good → AttemptEnded n idAUTH_FAILED 500 s t)

/-- The block as a transfer of string `n` with outcome `o` is counted. -/
abbrev transferred (s : State) (n o : Nat) : Block := s.blk.twCounted (s.blk.rd (Obj.StringRecord.AuthPort n)) o false

/-- A string's object that the ports do not count reads as the transfer found it. -/
theorem transferred_rd (s : State) (n o : Nat) {sub : Nat} (hlt : sub < 256) (hsub : sub ∉ [0x02, 0x03, 0x04]) :
    (transferred s n o).rd (objKey (0x3600 + n) sub) = s.blk.rd (objKey (0x3600 + n) sub) :=
  s.blk.twCounted_string_rd _ o n hlt hsub

theorem transferred_bat (s : State) (n o : Nat) : (transferred s n o).bat n = s.blk.bat n := (s.blk.twCounted_onStrings _ o false).bat_eq n

/-- A transfer of an attempt that is in part `m`, on a port that serves it: what the attempt makes of it is `d`. -/
theorem transfer_eq {s : State} {n o m : Nat} {reads : Bool} {act : Block → Bool → Block} {d : Block} (hserved : Served n s) (ho : o < 5)
    (hat : (s.blk.bat n).auth = m) (hact : act (transferred s n o) (o == twOK) = d) :
    s.blk.authAt n [m] (·.authTransfer n (o % 7) reads act) = d.twNext (s.blk.rd (Obj.StringRecord.AuthPort n)) := by
  obtain ⟨hport, hidle, hopen, hpec⟩ := hserved
  rw [Nat.mod_eq_of_lt (ho.trans (by decide)), ← hact]
  exact (if_pos (by simp [hat])).trans (Block.authTransfer_counts hport hidle hopen hpec (ho.trans (by decide)).ne reads act)

section

variable {s : State} {n : Nat} (hs : Settled s) (hn : n < 16)
include hs hn

/-- A command that queues an attempt. -/
theorem queued_next {f : Block → Block} (hport : s.blk.rd (Obj.StringRecord.AuthPort n) ≠ 0) (hholder : s.blk.isHolder = true)
    (hidle : (s.blk.bat n).auth = 0) (he : f s.blk = s.blk.authDue n) :
    ∃ t, s.actOn (decide (n < 16)) .string n f = .next t ∧
      t.blk.bat n = { s.blk.bat n with auth := 1, identityBefore := s.blk.rd (Obj.StringRecord.Identity n), nextAuth := none } ∧
      t.blk.rd (Obj.StringRecord.Identity n) = idPENDING ∧ KeepsObjects (stringObjects n) s t ∧ StringAlone n s t := by
  obtain ⟨t, hnext, hblk, hobjects, hothers⟩ := State.actOn_string hs hn f (stringObjects n) he (s.blk.authDue_onStrings n)
    (by simp [Block.identityObjects, stringObjects])
  rw [Block.authDue_queues hholder hport hidle] at hblk
  refine ⟨t, hnext, ?_, ?_, hobjects, hothers⟩ <;> rw [hblk]
  · exact ((Block.setIdentity_onStrings _ n _).bat_eq n).trans (Block.bat_setBat_self ..)
  · exact Block.setIdentity_rd ..

/-- A transfer of an attempt: after the count the attempt takes it, and what waits on the port goes on. -/
theorem wire_next {f : Block → Block} {d : Block} {o : Nat} (he : f s.blk = d.twNext (s.blk.rd (Obj.StringRecord.AuthPort n)))
    (hd : Block.OnStrings (stringObjects n) [n] (transferred s n o) d) :
    ∃ t, s.actOn (decide (n < 16)) .string n f = .next t ∧ OnWire n s t ∧ t.blk.bat n = d.bat n ∧
      ∀ sub, sub < 256 → sub ≠ 0x01 → t.blk.rd (objKey (0x3600 + n) sub) = d.rd (objKey (0x3600 + n) sub) := by
  have hcounted := s.blk.twCounted_onStrings (s.blk.rd (Obj.StringRecord.AuthPort n)) o false
  have hbus := d.twNext_onStrings (s.blk.rd (Obj.StringRecord.AuthPort n))
  refine ⟨_, State.actOn_block (decide_eq_true hn) .string n f he (hbus.writes.trans (hd.writes.trans (hcounted.writes.trans hs))),
    ⟨?_, ?_, fun m hm => ?_, rfl, rfl, rfl⟩, hbus.bat_eq n,
    fun sub hlt hsub => hbus.keeps.rd_eq (mt List.mem_singleton.1 (objKey_ne_of_sub_ne hlt (by decide) hsub))⟩
  · have hstring := hd.keeps.rd_eq (Block.transactions_notMem_string (s.blk.rd (Obj.StringRecord.AuthPort n)) n)
    exact (hbus.keeps.rd_eq (mt List.mem_singleton.1 (objKey_ne_of_sub_ne (by decide) (by decide) (by decide)))).trans
      (hstring.trans (s.blk.twCounted_transactions ..))
  · exact ((hcounted.keeps.mono (List.subset_append_of_subset_right _ (by simp [Block.transferObjects, wireObjects]))).trans
      (hd.keeps.mono (List.subset_append_left ..))).trans (hbus.keeps.mono (by simp [wireObjects]))
  · exact (hbus.bat_eq m).trans ((hd.others m (mt List.mem_singleton.1 hm)).trans (hcounted.bat_eq m))

/-- The attempt of a string whose record alone changes after the transfer. -/
theorem record_next {f : Block → Block} {x : BatString} {o : Nat}
    (he : f s.blk = ((transferred s n o).setBat n x).twNext (s.blk.rd (Obj.StringRecord.AuthPort n))) :
    ∃ t, s.actOn (decide (n < 16)) .string n f = .next t ∧ t.blk.bat n = x ∧
      t.blk.rd (Obj.StringRecord.Identity n) = s.blk.rd (Obj.StringRecord.Identity n) ∧ OnWire n s t := by
  obtain ⟨t, hnext, hwire, hbat, hrd⟩ := wire_next hs hn he ((Block.OnStrings.refl _).setBat x (List.mem_singleton_self n))
  exact ⟨t, hnext, hbat.trans (Block.bat_setBat_self ..),
    (hrd _ (by decide) (by decide)).trans (transferred_rd s n o (by decide) (by decide)), hwire⟩

/-- The attempt of a string that ends with the transfer. -/
theorem ended_next {f : Block → Block} {v wait o : Nat} {id : Option Nat}
    (he : f s.blk = ((transferred s n o).authOutcome n v id).twNext (s.blk.rd (Obj.StringRecord.AuthPort n)))
    (hwait : wait = if v = idAUTHENTICATED then s.blk.rd (Obj.StringRecord.AuthInterval n) else 500) :
    ∃ t, s.actOn (decide (n < 16)) .string n f = .next t ∧ AttemptEnded n v wait s t ∧
      t.blk.rd (Obj.StringRecord.PackId n) = ((transferred s n o).authOutcome n v id).rd (Obj.StringRecord.PackId n) := by
  obtain ⟨t, hnext, hwire, hbat, hrd⟩ := wire_next hs hn he ((transferred s n o).authOutcome_onStrings n v id)
  obtain ⟨hauth, hnonce, hdue, hcycle, hfailures⟩ := (transferred s n o).authOutcome_shows n v id
  have hglade := (s.blk.twCounted_onStrings (s.blk.rd (Obj.StringRecord.AuthPort n)) o false).glade
  have hinterval : (transferred s n o).authWait n v = wait := by
    rw [hwait, Block.authWait]
    exact congrArg (fun w => if v = idAUTHENTICATED then w else 500) (transferred_rd s n o (by decide) (by decide))
  rw [hinterval, hglade] at hdue
  rw [hglade] at hcycle
  have hcount := transferred_rd s n o (sub := 0x53) (by decide) (by decide)
  refine ⟨t, hnext, ⟨(hrd _ (by decide) (by decide)).trans (Block.authOutcome_identity ..), hbat ▸ hauth, hbat ▸ hnonce, hbat ▸ hdue,
    (hrd _ (by decide) (by decide)).trans hcycle, ?_, hwire⟩, hrd _ (by decide) (by decide)⟩
  exact (hrd _ (by decide) (by decide)).trans (hfailures.trans (congrArg (fun w => if v = idAUTHENTICATED then w else min (w + 1) 0xFFFFFFFF) hcount))

theorem authStart_starts (hserved : Served n s) (hholder : s.blk.isHolder = true) (hfree : s.blk.authFree n = true)
    (hat : (s.blk.bat n).auth = 2) {o : Nat} (ho : o < 5) :
    ∃ t, exec (.authStart n o) s = .next t ∧ (t.blk.bat n).nonce.length = 16 ∧ (t.blk.bat n).auth = (if o = twOK then 3 else 4) ∧
      t.blk.rd (Obj.StringRecord.AuthAttempts n) = min (s.blk.rd (Obj.StringRecord.AuthAttempts n) + 1) 0xFFFFFFFF ∧
      t.blk.rd (Obj.StringRecord.Identity n) = s.blk.rd (Obj.StringRecord.Identity n) ∧ OnWire n s t := by
  have hstart : (transferred s n o).authStart n (o == twOK) = (transferred s n o).challenge n (o == twOK) :=
    Block.authStart_challenges ((Block.isHolder_twCounted ..).trans hholder) ((transferred_bat s n o).symm ▸ hat)
      ((Block.authFree_twCounted ..).trans hfree) _
  have htransfer := transfer_eq (reads := false) (act := fun b ok => b.authStart n ok) hserved ho hat hstart
  have he : s.blk.authAt n [2] (fun b =>
      if b.isHolder && b.authFree n then b.authTransfer n (o % 7) false (fun b ok => b.authStart n ok) else b) =
        ((transferred s n o).challenge n (o == twOK)).twNext (s.blk.rd (Obj.StringRecord.AuthPort n)) := by
    rw [← htransfer, Block.authAt, Block.authAt, if_pos (by rw [hholder, hfree]; rfl : (s.blk.isHolder && s.blk.authFree n) = true)]
  obtain ⟨hattempts, hidentity, hrecord⟩ := (transferred s n o).challenge_shows n (o == twOK)
  obtain ⟨t, hnext, hwire, hbat, hrd⟩ := wire_next hs hn he (((transferred s n o).challenge_onStrings n (o == twOK)).mono
    (by simp [stringObjects]) (List.Subset.refl _))
  rw [hrecord] at hbat
  refine ⟨t, hnext, ?_, ?_, ?_, ?_, hwire⟩
  · rw [hbat]
    exact Block.drawNonce_length ..
  · rw [hbat]
    exact ite_congr beq_iff_eq.eq (fun _ => rfl) fun _ => rfl
  · exact (hrd _ (by decide) (by decide)).trans (hattempts.trans
      (congrArg (fun v => min (v + 1) 0xFFFFFFFF) (transferred_rd s n o (sub := 0x52) (by decide) (by decide))))
  · exact (hrd _ (by decide) (by decide)).trans (hidentity.trans (transferred_rd s n o (by decide) (by decide)))

theorem authNackRetry_repeats (hserved : Served n s) (hat : (s.blk.bat n).auth = 4) :
    ∃ t, exec (.authNackRetry n twOK) s = .next t ∧ t.blk.bat n = { s.blk.bat n with auth := 3 } ∧
      t.blk.rd (Obj.StringRecord.Identity n) = s.blk.rd (Obj.StringRecord.Identity n) ∧ OnWire n s t := by
  have hrepeat := (Block.authRetry_repeats (b := transferred s n twOK) (n := n) ((transferred_bat s n twOK).symm ▸ hat)).1
  rw [transferred_bat] at hrepeat
  exact record_next hs hn (transfer_eq (act := fun b ok => b.authRetry n ok) hserved (by decide) hat hrepeat)

theorem authNackRetry_fails (hserved : Served n s) (hat : (s.blk.bat n).auth = 4) :
    ∃ t, exec (.authNackRetry n twNACK_ADDRESS) s = .next t ∧ AttemptEnded n idNO_RESPONSE 500 s t := by
  have hfail := (Block.authRetry_repeats (b := transferred s n twNACK_ADDRESS) (n := n) ((transferred_bat s n twNACK_ADDRESS).symm ▸ hat)).2
  obtain ⟨t, hnext, hended, -⟩ := ended_next hs hn (transfer_eq (act := fun b ok => b.authRetry n ok) hserved (by decide) hat hfail) rfl
  exact ⟨t, hnext, hended⟩

/-- A whole response, first or read again, ends the attempt as the HMAC of nonce and id says. -/
theorem response_judged (again : Bool) {data : List Nat} (hserved : Served n s) (hat : (s.blk.bat n).auth = if again then 5 else 3)
    (hlen : data.length = 41) (heven : data.headD 0 % 2 = 0) :
    ∃ t, s.actOn (decide (n < 16)) .string n (·.authAt n [if again then 5 else 3]
        (·.authTransfer n (twOK % 7) true (fun b ok => b.authResponse n again ok data))) = .next t ∧ Judged n data s t := by
  have hat' : ((transferred s n twOK).bat n).auth = if again then 5 else 3 := (transferred_bat s n twOK).symm ▸ hat
  have hjudge := Block.authResponse_judges hat' hlen heven
  rw [Block.authKey_twCounted, transferred_bat] at hjudge
  by_cases hgood : hmac256 (s.blk.authKey n) ((s.blk.bat n).nonce ++ (data.drop 1).take 8) = data.drop 9
  · rw [if_pos hgood] at hjudge
    obtain ⟨t, hnext, hended, hid⟩ := ended_next hs hn
      (transfer_eq (act := fun b ok => b.authResponse n again ok data) hserved (by decide) hat hjudge) rfl
    exact ⟨t, hnext, fun _ => ⟨hended, hid.trans (Block.authOutcome_packId ..)⟩, fun hbad => absurd hgood hbad⟩
  · rw [if_neg hgood] at hjudge
    obtain ⟨t, hnext, hended, -⟩ := ended_next hs hn
      (transfer_eq (act := fun b ok => b.authResponse n again ok data) hserved (by decide) hat hjudge) rfl
    exact ⟨t, hnext, fun hgood' => absurd hgood' hgood, fun _ => hended⟩

theorem authRead_again (hserved : Served n s) (hat : (s.blk.bat n).auth = 3) :
    ∃ t, exec (.authRead n twNACK_DATA []) s = .next t ∧ t.blk.bat n = { s.blk.bat n with auth := 5 } ∧
      t.blk.rd (Obj.StringRecord.Identity n) = s.blk.rd (Obj.StringRecord.Identity n) ∧ OnWire n s t := by
  have hbad := Block.authResponse_bad (b := transferred s n twNACK_DATA) (n := n) (again := false)
    ((transferred_bat s n twNACK_DATA).symm ▸ hat) []
  rw [if_neg Bool.false_ne_true, transferred_bat] at hbad
  exact record_next hs hn (transfer_eq (act := fun b ok => b.authResponse n false ok []) hserved (by decide) hat hbad)

theorem authReread_fails (hserved : Served n s) (hat : (s.blk.bat n).auth = 5) :
    ∃ t, exec (.authReread n twNACK_DATA []) s = .next t ∧ AttemptEnded n idPACK_ID_CONFLICT 500 s t := by
  have hbad := Block.authResponse_bad (b := transferred s n twNACK_DATA) (n := n) (again := true)
    ((transferred_bat s n twNACK_DATA).symm ▸ hat) []
  rw [if_pos rfl] at hbad
  obtain ⟨t, hnext, hended, -⟩ := ended_next hs hn
    (transfer_eq (act := fun b ok => b.authResponse n true ok []) hserved (by decide) hat hbad) rfl
  exact ⟨t, hnext, hended⟩

end

/-! ### The abort of an attempt -/

/-- A command that reads the arrays but changes the block alone. -/
theorem State.run_block {s : State} {f : State → State} {c : Block} (he : f s = { s with blk := c }) (hw : c.writes = {}) :
    s.run f = .next { s with blk := c } := by
  rw [State.run, he]
  exact s.act_frame (fun _ => c) hw

theorem State.mapBlk_ite (s : State) (f g : Block → Block) (running : Bool) :
    (if running then s.mapBlk f else s).mapBlk g = { s with blk := g (if running then f s.blk else s.blk) } := by
  cases running <;> rfl

/-- An abort that no session waits for is answered at once. -/
theorem State.abortRun_answers {s : State} {kind target : Nat} (hno : ∀ e ∈ s.blk.sessions, ∀ since, e.2.abort ≠ some (kind, target, since))
    (n : Nat) (running : Bool) (eff : State → State) : s.abortRun n kind target running eff =
      (if running then eff s else s).mapBlk (·.abortAnswer n (if running then 0 else 1)) := by
  unfold State.abortRun
  refine if_neg ?_
  rw [List.any_eq_true]
  rintro ⟨e, he, hwaits⟩
  split at hwaits
  · next k t since habort =>
    obtain ⟨rfl, rfl⟩ : k = kind ∧ t = target := by simpa using hwaits
    exact hno e he since habort
  · exact Bool.false_ne_true hwaits

theorem Block.abortAnswer_onStrings (b : Block) (m result : Nat) :
    Block.OnStrings [sk m Obj.Abort.Result, sk m Obj.Abort.Elapsed] [] b (b.abortAnswer m result) :=
  (Block.OnStrings.refl b).wrs _ (by simp)

theorem Block.abortAnswer_result (b : Block) (m result : Nat) : (b.abortAnswer m result).rd (sk m Obj.Abort.Result) = result :=
  (rd_wr_of_ne _ _ (sk_ne_sk (by decide))).trans (rd_wr_self ..)

/-- A string's object is none of a session's. -/
theorem Block.abortAnswer_string_rd (b : Block) (m result : Nat) {n sub : Nat} (hn : n < 16) (hlt : sub < 256) :
    (b.abortAnswer m result).rd (objKey (0x3600 + n) sub) = b.rd (objKey (0x3600 + n) sub) := by
  have hkey : objKey (0x3600 + n) sub < 0x1000000 := by
    unfold objKey
    omega
  refine (b.abortAnswer_onStrings m result).keeps.rd_eq ?_
  simp [(sk_ne hkey).symm]

section

variable {s : State} {n m : Nat} (hs : Settled s) (hn : n < 16) (hm : m < 32)
  (hno : ∀ e ∈ s.blk.sessions, ∀ since, e.2.abort ≠ some (3, n, since))
include hs hn hm hno

theorem abortAuthentication_next {c : Block} {running : Bool} (hruns : s.blk.authRuns n = running)
    (hc : (if running then (s.blk.authAbort n).twNext (s.blk.authPort n) else s.blk) = c) (hw : c.writes = s.blk.writes) :
    exec (.abortAuthentication m n) s = .next { s with blk := c.abortAnswer m (if running then 0 else 1) } := by
  refine (State.runOn_of s (by simp [hm, hn]) ..).trans (State.run_block ?_ ((Block.OnStrings.writes (c.abortAnswer_onStrings m _)).trans (hw.trans hs)))
  rw [State.abortRun_answers hno, hruns, State.mapBlk_ite, hc]

theorem abortAuthentication_idle (hidle : (s.blk.bat n).auth = 0) :
    ∃ t, exec (.abortAuthentication m n) s = .next t ∧ t.blk.rd (sk m Obj.Abort.Result) = 1 ∧
      KeepsObjects [sk m Obj.Abort.Result, sk m Obj.Abort.Elapsed] s t ∧ OnlyObjects s t ∧ SameArrays s t := by
  have hnext := abortAuthentication_next hs hn hm hno (running := false) (bne_eq_false_iff_eq.2 hidle) rfl rfl
  rw [if_neg Bool.false_ne_true, if_neg Bool.false_ne_true] at hnext
  exact ⟨_, hnext, s.blk.abortAnswer_result m 1, (s.blk.abortAnswer_onStrings m 1).keeps, (Block.SameParts.refl s.blk).wrs _, rfl, rfl, rfl⟩

theorem abortAuthentication_aborts (hruns : (s.blk.bat n).auth ≠ 0) :
    ∃ t, exec (.abortAuthentication m n) s = .next t ∧ t.blk.rd (Obj.StringRecord.Identity n) = (s.blk.bat n).identityBefore ∧
      (t.blk.bat n).auth = 0 ∧ (t.blk.bat n).nonce = [] ∧ t.blk.rd (sk m Obj.Abort.Result) = 0 ∧
      KeepsObjects (sk m Obj.Abort.Result :: sk m Obj.Abort.Elapsed ::
        (stringObjects n ++ wireObjects (s.blk.rd (Obj.StringRecord.AuthPort n)))) s t ∧ StringAlone n s t := by
  obtain ⟨next, habort⟩ := Block.authAbort_aborts hruns
  have hset := Block.setIdentity_onStrings (s.blk.setBat n (Block.abortedBat (s.blk.bat n) next)) n (s.blk.bat n).identityBefore
  have hidentity := Block.setIdentity_rd (s.blk.setBat n (Block.abortedBat (s.blk.bat n) next)) n (s.blk.bat n).identityBefore
  rw [← habort] at hset hidentity
  have haborted : Block.OnStrings (stringObjects n) [n] s.blk (s.blk.authAbort n) :=
    ((Block.OnStrings.refl s.blk).setBat _ (List.mem_singleton_self n)).also hset (by simp [Block.identityObjects, stringObjects])
  have hbus := (s.blk.authAbort n).twNext_onStrings (s.blk.authPort n)
  have hbat : ((s.blk.authAbort n).twNext (s.blk.authPort n)).bat n = Block.abortedBat (s.blk.bat n) next :=
    (hbus.bat_eq n).trans ((hset.bat_eq n).trans (Block.bat_setBat_self ..))
  have hidentity' := (hbus.keeps.rd_eq (mt List.mem_singleton.1 (objKey_ne_of_sub_ne (by decide) (by decide) (by decide)))).trans hidentity
  have hsofar : Block.OnStrings (stringObjects n ++ wireObjects (s.blk.rd (Obj.StringRecord.AuthPort n))) [n] s.blk _ :=
    (haborted.mono (List.subset_append_left ..) (List.Subset.refl _)).also hbus
      (List.subset_append_of_subset_right _ (by simp [wireObjects, Block.authPort]))
  have hnext := abortAuthentication_next hs hn hm hno (running := true) (bne_iff_ne.2 hruns) rfl hsofar.writes
  rw [if_pos rfl, if_pos rfl] at hnext
  generalize (s.blk.authAbort n).twNext (s.blk.authPort n) = c at *
  have hanswer := c.abortAnswer_onStrings m 0
  refine ⟨_, hnext, (c.abortAnswer_string_rd m 0 hn (by decide)).trans hidentity', ?_, ?_, c.abortAnswer_result m 0, ?_, fun j hj => ?_, rfl, rfl, rfl⟩
  · exact (congrArg BatString.auth ((hanswer.bat_eq n).trans hbat))
  · exact (congrArg BatString.nonce ((hanswer.bat_eq n).trans hbat))
  · exact (hsofar.keeps.mono (List.subset_append_right [sk m Obj.Abort.Result, sk m Obj.Abort.Elapsed] _)).trans
      (hanswer.keeps.mono (List.subset_append_left _ _))
  · exact (hanswer.bat_eq j).trans (hsofar.others j (mt List.mem_singleton.1 hj))

end

/-- Settles O39: an attempt is queued by `queued_next`, each of its transfers goes through `transfer_eq` and `wire_next`, and it ends by
`ended_next`. The outcomes are operands of the commands, and a NACK of the data counts as a failed write or read (log entry 62). -/
theorem packsAnswerAChallenge : Obligations.PacksAnswerAChallenge := by
  unfold Obligations.PacksAnswerAChallenge
  refine fun s n hs hn => ⟨fun hholder hport hidle => ⟨?_, fun c hdue hlong => ?_⟩,
    fun hserved hholder hfree hat o ho => authStart_starts hs hn hserved hholder hfree hat ho,
    fun hserved hat => ⟨authNackRetry_repeats hs hn hserved hat, authNackRetry_fails hs hn hserved hat⟩,
    fun data hserved hlen heven => ⟨fun hat => response_judged hs hn false hserved hat hlen heven,
      fun hat => response_judged hs hn true hserved hat hlen heven⟩,
    fun hserved hat => authRead_again hs hn hserved hat, fun hserved hat => authReread_fails hs hn hserved hat,
    fun m hm _ hno => ⟨fun hruns => abortAuthentication_aborts hs hn hm hno hruns, fun hidle => abortAuthentication_idle hs hn hm hno hidle⟩⟩
  · exact queued_next hs hn (f := (·.authDue n)) hport hholder hidle rfl
  · exact queued_next hs hn (f := (·.authExpiry n)) hport hholder hidle (Block.authExpiry_falls hdue hlong)

end Sys2Proof.Machine
end

section
/-! PROOFS. Feeds: what a change of state, an opening, a trip and a close make of the feed, of its port and of the objects (R277, R278, R281-R283). -/

namespace Sys2Proof.Machine

open Sys2Proof.Safety

namespace Block

theorem feed_congr {b c : Block} (h : c.feedTab = b.feedTab) (f : Nat) : c.feed f = b.feed f := by rw [feed, h, feed]

/-! ### The objects of a feed -/

/-- The objects that a change of feed `f`'s state, and the command words that follow it, may change (R281, R299, R302). -/
def moveObjects (f : Nat) : List Nat :=
  [Obj.FeedRecord.State f, Obj.FeedRecord.IlimInForce f, Obj.FeedRecord.CapState f, Obj.FeedRecord.CapCurrent f, Obj.FeedRecord.Allocation f,
   Obj.SourceConfig.PresentInstances Src.FEED_FLOOR_BREACH, Obj.SourceConfig.PresentInstances Src.FEED_LOCKED_OUT,
   Obj.SourceConfig.PresentInstances Src.BRK_GATE_SUSPECT, Obj.SourceConfig.PresentInstances Src.BRK_PASS_SHORT]

/-- The objects that an opening of feed `f` may change (R282). -/
def openObjects (f : Nat) : List Nat :=
  [Obj.FeedRecord.LastOpenCause f, Obj.FeedRecord.LastOpenEpoch f, Obj.FeedRecord.LastOpenCycle f, Obj.FeedRecord.LastOpenTick f] ++ moveObjects f

/-- The sub-indices of the objects of a change of state. -/
def moveSubs : List Nat := [0x25, 0x33, 0x47, 0x48, 0x46, 0x0B]

/-- The sub-indices of the objects of an opening. -/
def openSubs : List Nat := [0x2E, 0x2F, 0x30, 0x31] ++ moveSubs

/-- The sub-indices of all objects of `feedObjects`. -/
def feedSubs : List Nat := [0x2B, 0x2C] ++ openSubs

theorem moveObjects_subs (f : Nat) : ∀ k ∈ moveObjects f, k % 256 ∈ moveSubs := by
  simp [moveSubs, moveObjects, objKey_mod, Obj.FeedRecord.State, Obj.FeedRecord.IlimInForce, Obj.FeedRecord.CapState, Obj.FeedRecord.CapCurrent,
    Obj.FeedRecord.Allocation, Obj.SourceConfig.PresentInstances]

theorem openObjects_subs (f : Nat) : ∀ k ∈ openObjects f, k % 256 ∈ openSubs := by
  simp [openSubs, moveSubs, openObjects, moveObjects, objKey_mod, Obj.FeedRecord.State, Obj.FeedRecord.IlimInForce, Obj.FeedRecord.CapState,
    Obj.FeedRecord.CapCurrent, Obj.FeedRecord.Allocation, Obj.SourceConfig.PresentInstances, Obj.FeedRecord.LastOpenCause,
    Obj.FeedRecord.LastOpenEpoch, Obj.FeedRecord.LastOpenCycle, Obj.FeedRecord.LastOpenTick]

theorem feedObjects_subs (f : Nat) : ∀ k ∈ feedObjects f, k % 256 ∈ feedSubs := by
  simp [feedSubs, openSubs, moveSubs, feedObjects, objKey_mod, Obj.FeedRecord.State, Obj.FeedRecord.IlimInForce, Obj.FeedRecord.CapState,
    Obj.FeedRecord.CapCurrent, Obj.FeedRecord.Allocation, Obj.SourceConfig.PresentInstances, Obj.FeedRecord.LastOpenCause,
    Obj.FeedRecord.LastOpenEpoch, Obj.FeedRecord.LastOpenCycle, Obj.FeedRecord.LastOpenTick, Obj.FeedRecord.RetriesUsed,
    Obj.FeedRecord.TripCount]

theorem openObjects_subset (f : Nat) : openObjects f ⊆ feedObjects f := by simp [openObjects, moveObjects, feedObjects]

theorem moveObjects_subset (f : Nat) : moveObjects f ⊆ feedObjects f := by simp [moveObjects, feedObjects]

/-! ### Objects, conditions and reports alone -/

/-- The blocks differ at most in the objects listed and in the fault collector, where no report is withdrawn. -/
structure Shown (l : List Nat) (b c : Block) : Prop where
  parts : c = { b with dict := c.dict, wimg := c.wimg, faults := c.faults }
  objects : Keeps l b c
  reports : b.faults.reports ⊆ c.faults.reports

namespace Shown

variable {l : List Nat} {b c d : Block}

theorem refl (b : Block) : Shown l b b := ⟨rfl, Keeps.refl b, List.Subset.refl _⟩

theorem trans (h : Shown l b c) (h' : Shown l c d) : Shown l b d where
  parts := h'.parts.trans (congrArg (fun x : Block => { x with dict := d.dict, wimg := d.wimg, faults := d.faults }) h.parts)
  objects := h.objects.trans h'.objects
  reports := List.Subset.trans h.reports h'.reports

theorem mono {m : List Nat} (h : Shown l b c) (hs : l ⊆ m) : Shown m b c := ⟨h.parts, h.objects.mono hs, h.reports⟩

/-- Every part but the objects and the fault collector reads as it did. -/
theorem part {α : Type} (h : Shown l b c) (f : Block → α)
    (hf : ∀ (x : Block) (dict wimg : Tab Nat) (faults : Faults), f { x with dict, wimg, faults } = f x) : f c = f b := by
  rw [h.parts, hf]

theorem wrN (h : Shown l b c) {k : Nat} (v : Nat) (hk : k ∈ l) : Shown l b (c.wrN k v) :=
  h.trans ⟨rfl, (Keeps.refl c).wrN v hk, List.Subset.refl _⟩

theorem bump (h : Shown l b c) {k : Nat} (hk : k ∈ l) : Shown l b (c.bump k) :=
  h.trans ⟨rfl, (Keeps.refl c).wr _ hk, List.Subset.refl _⟩

theorem report (h : Shown l b c) (src inst : Nat) (detail : List Int) : Shown l b (c.report src inst detail) :=
  h.trans ⟨rfl, (Keeps.refl c).report _ _ _, List.subset_append_left ..⟩

theorem condition (h : Shown l b c) (src inst : Nat) (p : Bool) (hk : Obj.SourceConfig.PresentInstances src ∈ l) :
    Shown l b (c.condition src inst p) := by
  refine h.trans ⟨?_, (Keeps.refl c).condition src inst p [] false hk, ?_⟩
  · unfold Block.condition
    split
    · rfl
    · split <;> rfl
  · obtain ⟨-, he⟩ | ⟨-, -, hreports, -⟩ | ⟨-, -, hreports, -⟩ := c.condition_cases src inst p []
    · rw [he]
      exact List.Subset.refl _
    · rw [hreports]
      exact List.subset_append_left ..
    · rw [hreports]
      exact List.Subset.refl _

end Shown

/-! ### Nothing but a feed, its port and what the end of an action touches -/

/-- The blocks differ at most in the objects listed and the recorder's, the records of feed `f` and port `p`, and what a fault, a record or
the end of an action changes; no report is withdrawn. -/
structure OnFeed (l : List Nat) (f p : Nat) (b c : Block) : Prop where
  writes : c.writes = b.writes
  glade : c.glade = b.glade
  feeds : ∀ g, g ≠ f → c.feed g = b.feed g
  ports : ∀ q, q ≠ p → c.port q = b.port q
  objects : Keeps (l ++ recordObjects) b c
  reports : b.faults.reports ⊆ c.faults.reports

theorem Shown.onFeed {l : List Nat} {b c : Block} (h : Shown l b c) (f p : Nat) : OnFeed l f p b c :=
  ⟨h.part (·.writes) fun _ _ _ _ => rfl, h.part (·.glade) fun _ _ _ _ => rfl, fun g _ => h.part (·.feed g) fun _ _ _ _ => rfl,
    fun q _ => h.part (·.port q) fun _ _ _ _ => rfl, h.objects.mono (List.subset_append_left ..), h.reports⟩

namespace OnFeed

variable {l : List Nat} {f p : Nat} {b c d : Block}

theorem refl (b : Block) : OnFeed l f p b b := (Shown.refl b).onFeed f p

theorem trans (h : OnFeed l f p b c) (h' : OnFeed l f p c d) : OnFeed l f p b d :=
  ⟨h'.writes.trans h.writes, h'.glade.trans h.glade, fun g hg => (h'.feeds g hg).trans (h.feeds g hg),
    fun q hq => (h'.ports q hq).trans (h.ports q hq), h.objects.trans h'.objects, List.Subset.trans h.reports h'.reports⟩

theorem mono {m : List Nat} (h : OnFeed l f p b c) (hs : l ⊆ m) : OnFeed m f p b c :=
  ⟨h.writes, h.glade, h.feeds, h.ports, h.objects.mono (List.append_subset.2 ⟨List.subset_append_of_subset_left _ hs,
    List.subset_append_right ..⟩), h.reports⟩

theorem setFeed (h : OnFeed l f p b c) (x : Feed) : OnFeed l f p b (c.setFeed f x) :=
  h.trans ⟨rfl, rfl, fun _ hg => (feed_setFeed ..).trans (if_neg hg), fun _ _ => rfl, Keeps.of_images rfl rfl, List.Subset.refl _⟩

theorem setPort (h : OnFeed l f p b c) (x : Port) : OnFeed l f p b (c.setPort p x) :=
  h.trans ⟨rfl, rfl, fun _ _ => rfl, fun _ hq => (port_setPort ..).trans (if_neg hq), Keeps.of_images rfl rfl, List.Subset.refl _⟩

/-- An object whose sub-index none of those listed has, and whose index is none of the recorder's, reads as it did. -/
theorem object (h : OnFeed l f p b c) {subs : List Nat} (hl : ∀ k ∈ l, k % 256 ∈ subs) {index sub : Nat} (hlt : sub < 256) (hsub : sub ∉ subs)
    (hindex : index ≠ 0x2083 ∧ index ≠ 0x20A1 ∧ index ≠ 0x4401) :
    c.rd (objKey index sub) = b.rd (objKey index sub) ∧ c.rdN (objKey index sub) = b.rdN (objKey index sub) :=
  h.objects _ fun hk => (List.mem_append.1 hk).elim (objKey_notMem_of_subs hl index hlt hsub) (objKey_notMem_recordObjects hlt hindex)

end OnFeed

/-- The end of an entry touches no feed, no port and no object but the recorder's. -/
theorem completeEntry_onFeed (b : Block) (h : Nat) (a : Action) (outcome : Nat) (extra : List Nat) (ago : Option Nat) (f p : Nat) :
    OnFeed [] f p b (b.completeEntry h a outcome extra ago) where
  writes := completeEntry_writes ..
  glade := completeEntry_of (·.glade) (fun _ _ _ => rfl) (fun _ _ => rfl) (fun _ _ => rfl) (fun _ _ => rfl) ..
  feeds g _ := completeEntry_of (·.feed g) (fun _ _ _ => rfl) (fun _ _ => rfl) (fun _ _ => rfl) (fun _ _ => rfl) ..
  ports q _ := completeEntry_of (·.port q) (fun _ _ _ => rfl) (fun _ _ => rfl) (fun _ _ => rfl) (fun _ _ => rfl) ..
  objects := (Keeps.refl b).completeEntry h a outcome extra ago (List.Subset.refl _)
  reports := by
    rw [completeEntry_faults]
    exact List.Subset.refl _

/-! ### A one-shot on the feed's port (R137) -/

/-- What holds of a block and survives a change of a port's record, a report and the end of an entry holds once a one-shot fired. -/
theorem fireShot_of {P : Block → Prop} (hport : ∀ {b : Block} (q : Nat) (x : Port), P b → P (b.setPort q x))
    (hreport : ∀ {b : Block} (src inst : Nat) (d : List Int), P b → P (b.report src inst d))
    (hentry : ∀ {b : Block} (h : Nat) (a : Action) (outcome : Nat) (extra : List Nat) (ago : Option Nat), P b →
      P (b.completeEntry h a outcome extra ago)) {b : Block} (hb : P b) (p op : Nat) (handle : Option Nat) : P (b.fireShot p op handle) := by
  have hend (c : Block) (hc : P c) : P (c.endShot p 2) := by
    unfold endShot
    extract_lets x
    split
    · exact hc
    · next o rest _ =>
      extract_lets host c1 c2 c3
      have h2 : P c2 := hreport _ _ _ (hport _ _ hc)
      have h3 : P c3 := by
        unfold c3
        split
        · unfold shotEntry
          split
          · exact h2
          · exact hentry _ _ _ _ _ h2
        · exact h2
      exact hport _ _ h3
  rw [fireShot_eq]
  split
  · exact List.foldlRecOn _ _ (hport _ _ hb) fun c hc _ _ => hend c hc
  · exact hport _ _ (hport _ _ hb)

theorem fireShot_feedTab (b : Block) (p op : Nat) (handle : Option Nat) : (b.fireShot p op handle).feedTab = b.feedTab :=
  fireShot_of (P := fun c => c.feedTab = b.feedTab) (fun _ _ h => h) (fun _ _ _ h => h) (fun _ _ _ _ _ h =>
    (completeEntry_of (·.feedTab) (fun _ _ _ => rfl) (fun _ _ => rfl) (fun _ _ => rfl) (fun _ _ => rfl) ..).trans h) rfl p op handle

theorem fireShot_reports (b : Block) (p op : Nat) (handle : Option Nat) : b.faults.reports ⊆ (b.fireShot p op handle).faults.reports :=
  fireShot_of (P := fun c => b.faults.reports ⊆ c.faults.reports) (fun _ _ h => h) (fun _ _ _ h => List.subset_append_of_subset_left _ h)
    (fun _ _ _ _ _ h => (congrArg Faults.reports (completeEntry_faults ..)).symm ▸ h) (List.Subset.refl _) p op handle

theorem fireShot_onFeed (b : Block) (f p op : Nat) : OnFeed [] f p b (b.fireShot p op) :=
  have hfired := b.fireShot_shotsFired p op none
  ⟨hfired.writes, fireShot_glade .., fun g _ => feed_congr (b.fireShot_feedTab p op none) g, fun q hq => hfired.others q (by simpa using hq),
    hfired.objects, b.fireShot_reports p op none⟩

/-! ### The state of a feed (R272, R299, R302) -/

theorem feedNext_wrN (b : Block) (f st : Nat) : (b.wrN (Obj.FeedRecord.State f) st).feedNext f = st := rdN_wrN_self ..

theorem feedNext_condition (b : Block) (src inst : Nat) (p : Bool) (f : Nat) : (b.condition src inst p).feedNext f = b.feedNext f :=
  ((Keeps.refl b).condition src inst p [] false (List.mem_singleton_self _) _ (mt List.mem_singleton.1
    (objKey_ne_of_sub_ne (by decide) (by decide) (by decide)))).2

/-- Conditions of different sources are different conditions. -/
theorem instKey_ne_of_src {src src' inst : Nat} (h : src ≠ src') : instKey src inst ≠ instKey src' inst := by
  unfold instKey
  omega

theorem capMove_shown (b : Block) (f st : Nat) : Shown (moveObjects f) b (b.capMove f st) := by
  unfold capMove
  extract_lets part c
  have hc : Shown (moveObjects f) b c := (((Shown.refl b).wrN _ (by simp [moveObjects])).wrN _ (by simp [moveObjects])).condition _ _ _
    (by simp [moveObjects])
  split
  · exact Shown.refl b
  · split
    · exact hc
    · exact hc.wrN _ (by simp [moveObjects])

/-- The feed's state is written, and LOCKED_OUT is a condition. -/
def stateWritten (b : Block) (f st : Nat) : Block :=
  ((b.capMove f st).wrN (Obj.FeedRecord.State f) st).condition Src.FEED_LOCKED_OUT f (st == fsLOCKED_OUT)

theorem setFeedState_eq (b : Block) (f st : Nat) : b.setFeedState f st = if st = fsSUSPECT then b.stateWritten f st
    else ((b.stateWritten f st).condition Src.BRK_GATE_SUSPECT f false).condition Src.BRK_PASS_SHORT f false := rfl

theorem setFeedState_shown (b : Block) (f st : Nat) : Shown (moveObjects f) b (b.setFeedState f st) := by
  have hwritten : Shown (moveObjects f) b (b.stateWritten f st) :=
    ((b.capMove_shown f st).wrN _ (by simp [moveObjects])).condition _ _ _ (by simp [moveObjects])
  rw [setFeedState_eq]
  split
  · exact hwritten
  · exact (hwritten.condition _ _ _ (by simp [moveObjects])).condition _ _ _ (by simp [moveObjects])

theorem setFeedState_feedNext (b : Block) (f st : Nat) : (b.setFeedState f st).feedNext f = st := by
  have hwritten : (b.stateWritten f st).feedNext f = st := (feedNext_condition ..).trans (feedNext_wrN ..)
  rw [setFeedState_eq]
  split
  · exact hwritten
  · rw [feedNext_condition, feedNext_condition, hwritten]

theorem setFeedState_lockedOut (b : Block) (f st : Nat) : (b.setFeedState f st).isPresent Src.FEED_LOCKED_OUT f = (st == fsLOCKED_OUT) := by
  have hwritten : (b.stateWritten f st).isPresent Src.FEED_LOCKED_OUT f = (st == fsLOCKED_OUT) := isPresent_condition ..
  rw [setFeedState_eq]
  split
  · exact hwritten
  · rw [isPresent_condition_of_ne _ (instKey_ne_of_src (by decide)), isPresent_condition_of_ne _ (instKey_ne_of_src (by decide)), hwritten]

/-- Outside SUSPECT both conditions of a damaged pass transistor end (R278). -/
theorem setFeedState_sound (b : Block) (f : Nat) {st : Nat} (h : st ≠ fsSUSPECT) :
    (b.setFeedState f st).isPresent Src.BRK_GATE_SUSPECT f = false ∧ (b.setFeedState f st).isPresent Src.BRK_PASS_SHORT f = false := by
  rw [setFeedState_eq, if_neg h]
  exact ⟨(isPresent_condition_of_ne _ (instKey_ne_of_src (by decide)) _ _).trans (isPresent_condition ..), isPresent_condition ..⟩

/-! ### A feed moves to a state (R274, R281) -/

/-- MODE ARMED, while the transistors may be on, and MODE OPEN otherwise, as the first command word has it (R131). -/
def modeWord (st : Nat) : Nat := b2n (st == fsCLOSING || st == fsCLOSED || st == fsNO_LINK) * 4096

/-- Feed `f` has state `st` from the next tick, with the conditions of that state and the command words that go with it on its port `p`;
its record beside the dictionary is as it was. -/
structure Moved (f p st : Nat) (b c : Block) : Prop where
  next : c.feedNext f = st
  words : (c.port p).cmdN.head? = some (modeWord st)
  feedTab : c.feedTab = b.feedTab
  lockedOut : c.isPresent Src.FEED_LOCKED_OUT f = (st == fsLOCKED_OUT)
  sound : st ≠ fsSUSPECT → c.isPresent Src.BRK_GATE_SUSPECT f = false ∧ c.isPresent Src.BRK_PASS_SHORT f = false
  frame : OnFeed (moveObjects f) f p b c

theorem feedWords_onFeed (b : Block) (f p : Nat) : OnFeed (moveObjects f) f p b (b.feedWords p f) :=
  ((OnFeed.refl b).setPort _).trans (((Shown.refl _).wrN _ (by simp [moveObjects])).onFeed f p)

theorem feedWords_words (b : Block) (f p : Nat) : ((b.feedWords p f).port p).cmdN.head? = some (modeWord (b.feedNext f)) := by
  unfold feedWords
  rw [wrN_port, setWords, port_modPort_self]
  rfl

theorem feedNext_feedWords (b : Block) (f p : Nat) : (b.feedWords p f).feedNext f = b.feedNext f :=
  wr_comm_rdN _ _ _ _ (objKey_ne_of_sub_ne (by decide) (by decide) (by decide))

/-- The words of a state that was set follow it, with no one-shot between. -/
theorem feedWords_moved (b : Block) (f p st : Nat) : Moved f p st b ((b.setFeedState f st).feedWords p f) where
  next := (feedNext_feedWords ..).trans (b.setFeedState_feedNext f st)
  words := (feedWords_words ..).trans (by rw [setFeedState_feedNext])
  feedTab := (b.setFeedState_shown f st).part (·.feedTab) fun _ _ _ _ => rfl
  lockedOut := b.setFeedState_lockedOut f st
  sound := b.setFeedState_sound f
  frame := ((b.setFeedState_shown f st).onFeed f p).trans (feedWords_onFeed ..)

/-- The same with a one-shot between: it goes in the frame that carries the words. -/
theorem shotWords_moved (b : Block) {f : Nat} (hf : f < 256) (p st op : Nat) :
    Moved f p st b (((b.setFeedState f st).fireShot p op).feedWords p f) := by
  have hshot := (b.setFeedState f st).fireShot_onFeed f p op
  have hpresent (src : Nat) : ((b.setFeedState f st).fireShot p op).isPresent src f = (b.setFeedState f st).isPresent src f :=
    isPresent_congr (fireShot_shotsFired ..).present ..
  have hnext : ((b.setFeedState f st).fireShot p op).feedNext f = st :=
    ((hshot.object (subs := []) (by simp) (by decide) (by simp) (by omega)).2).trans (b.setFeedState_feedNext f st)
  refine ⟨(feedNext_feedWords ..).trans hnext, (feedWords_words ..).trans (by rw [hnext]), (fireShot_feedTab ..).trans
    ((b.setFeedState_shown f st).part (·.feedTab) fun _ _ _ _ => rfl), (hpresent _).trans (b.setFeedState_lockedOut f st), fun hst => ?_,
    (((b.setFeedState_shown f st).onFeed f p).trans (hshot.mono (List.nil_subset _))).trans (feedWords_onFeed ..)⟩
  obtain ⟨hgate, hpass⟩ := b.setFeedState_sound f hst
  exact ⟨(hpresent _).trans hgate, (hpresent _).trans hpass⟩

end Block
end Sys2Proof.Machine
end

section
/-! PROOFS. Feeds: openings, trips and damaged pass transistors (R277-R280, R282, R283). -/

namespace Sys2Proof.Machine

open Sys2Proof.Safety

/-- The record of a feed that opens: no close is in progress, no retry waits, no gate is to be checked (R282). -/
def Feed.opened (x : Feed) : Feed := { x with step := 0, retryAt := none, gateWant := false, held := false }

namespace Block

/-! ### An opening (R282) -/

/-- Feed `f` opened with a cause in the tick in progress, to state `st` from the next tick. -/
structure Opened (f p cause st : Nat) (b c : Block) : Prop where
  next : c.feedNext f = st
  cause : c.rdN (Obj.FeedRecord.LastOpenCause f) = cause
  epoch : c.rdN (Obj.FeedRecord.LastOpenEpoch f) = b.glade.epoch
  cycle : c.rdN (Obj.FeedRecord.LastOpenCycle f) = b.glade.cycle
  tick : c.rdN (Obj.FeedRecord.LastOpenTick f) = b.glade.tick
  words : (c.port p).cmdN.head? = some (modeWord st)
  step : (c.feed f).step = 0
  gateWant : (c.feed f).gateWant = false
  frame : OnFeed (feedObjects f) f p b c

namespace Opened

variable {f p cause st : Nat} {b c d : Block}

/-- An opening follows what changed objects of the feed. -/
theorem after (h : Opened f p cause st c d) (hshown : Shown (feedObjects f) b c) : Opened f p cause st b d := by
  have hglade := hshown.part (·.glade) fun _ _ _ _ => rfl
  exact ⟨h.next, h.cause, h.epoch.trans (by rw [hglade]), h.cycle.trans (by rw [hglade]), h.tick.trans (by rw [hglade]), h.words, h.step,
    h.gateWant, (hshown.onFeed f p).trans h.frame⟩

/-- Reports and counts of conditions that follow leave an opening what it is. -/
theorem then_shown (h : Opened f p cause st b c) {l : List Nat} (hshown : Shown l c d) (hl : ∀ k ∈ l, k % 256 ∈ [0x0B])
    (hs : l ⊆ feedObjects f) : Opened f p cause st b d := by
  have hfeed : d.feed f = c.feed f := hshown.part (·.feed f) fun _ _ _ _ => rfl
  have hport : d.port p = c.port p := hshown.part (·.port p) fun _ _ _ _ => rfl
  have hobject {sub : Nat} (hlt : sub < 256) (hsub : sub ∉ [0x0B]) : d.rdN (objKey (0x3400 + f) sub) = c.rdN (objKey (0x3400 + f) sub) :=
    (hshown.objects _ (objKey_notMem_of_subs hl _ hlt hsub)).2
  exact ⟨(hobject (by decide) (by decide)).trans h.next, (hobject (by decide) (by decide)).trans h.cause,
    (hobject (by decide) (by decide)).trans h.epoch, (hobject (by decide) (by decide)).trans h.cycle,
    (hobject (by decide) (by decide)).trans h.tick, by rw [hport, h.words], by rw [hfeed, h.step], by rw [hfeed, h.gateWant],
    h.frame.trans ((hshown.mono hs).onFeed f p)⟩

end Opened

theorem feed_wrN (b : Block) (k v g : Nat) : (b.wrN k v).feed g = b.feed g := rfl

/-- The cause and the place of an opening are noted, and what was in progress is given up. -/
def openNoted (b : Block) (f cause : Nat) : Block :=
  ((((b.setFeed f (b.feed f).opened).wrN (Obj.FeedRecord.LastOpenCause f) cause).wrN (Obj.FeedRecord.LastOpenEpoch f) b.glade.epoch).wrN
    (Obj.FeedRecord.LastOpenCycle f) b.glade.cycle).wrN (Obj.FeedRecord.LastOpenTick f) b.glade.tick

theorem openNoted_feed (b : Block) (f cause : Nat) : (b.openNoted f cause).feed f = (b.feed f).opened := by
  rw [openNoted, feed_wrN, feed_wrN, feed_wrN, feed_wrN, feed_setFeed_self]

theorem openNoted_shows (b : Block) (f cause : Nat) : (b.openNoted f cause).rdN (Obj.FeedRecord.LastOpenCause f) = cause ∧
    (b.openNoted f cause).rdN (Obj.FeedRecord.LastOpenEpoch f) = b.glade.epoch ∧
    (b.openNoted f cause).rdN (Obj.FeedRecord.LastOpenCycle f) = b.glade.cycle ∧
    (b.openNoted f cause).rdN (Obj.FeedRecord.LastOpenTick f) = b.glade.tick := by
  simp [openNoted, rdN_wrN, objKey, Obj.FeedRecord.LastOpenCause, Obj.FeedRecord.LastOpenEpoch, Obj.FeedRecord.LastOpenCycle,
    Obj.FeedRecord.LastOpenTick]

theorem openNoted_onFeed (b : Block) (f p cause : Nat) : OnFeed (openObjects f) f p b (b.openNoted f cause) :=
  ((OnFeed.refl b).setFeed _).trans ((((((Shown.refl _).wrN _ (by simp [openObjects])).wrN _ (by simp [openObjects])).wrN _
    (by simp [openObjects])).wrN _ (by simp [openObjects])).onFeed f p)

theorem openFeed_eq (b : Block) (p f cause st : Nat) : b.openFeed p f cause st =
    (if ((b.openNoted f cause).setFeedState f st).statusN p 7 then (b.openNoted f cause).setFeedState f st
      else ((b.openNoted f cause).setFeedState f st).fireShot p osBRK_OPEN).feedWords p f := rfl

section

variable {f : Nat} (hf : f < 256) (b : Block) (p cause st : Nat)
include hf

/-- BRK_OPEN goes with the words of the state unless the head is already safe. -/
theorem openFeed_moved : Moved f p st (b.openNoted f cause) (b.openFeed p f cause st) := by
  rw [openFeed_eq]
  split
  · exact feedWords_moved ..
  · exact shotWords_moved _ hf ..

theorem openFeed_onFeed : OnFeed (openObjects f) f p b (b.openFeed p f cause st) :=
  (b.openNoted_onFeed f p cause).trans ((openFeed_moved hf b p cause st).frame.mono (List.subset_append_right ..))

theorem openFeed_feed : (b.openFeed p f cause st).feed f = (b.feed f).opened :=
  (feed_congr (openFeed_moved hf b p cause st).feedTab f).trans (b.openNoted_feed f cause)

theorem openFeed_opened : Opened f p cause st b (b.openFeed p f cause st) := by
  obtain ⟨hcause, hepoch, hcycle, htick⟩ := b.openNoted_shows f cause
  have hmoved := openFeed_moved hf b p cause st
  have hobject {sub : Nat} (hlt : sub < 256) (hsub : sub ∉ moveSubs) :=
    (hmoved.frame.object (moveObjects_subs f) (index := 0x3400 + f) hlt hsub (by omega)).2
  have hfeed := openFeed_feed hf b p cause st
  exact ⟨hmoved.next, (hobject (by decide) (by decide)).trans hcause, (hobject (by decide) (by decide)).trans hepoch,
    (hobject (by decide) (by decide)).trans hcycle, (hobject (by decide) (by decide)).trans htick, hmoved.words, by rw [hfeed]; rfl,
    by rw [hfeed]; rfl, (openFeed_onFeed hf b p cause st).mono (openObjects_subset f)⟩

end

/-! ### A trip (R282, R283) -/

/-- Feed `f` tripped: it opened, the trip was counted and reported, and a retry waits while any is left. -/
structure Tripped (f p cause : Nat) (b c : Block) : Prop where
  opened : Opened f p cause
    (if b.rdN (Obj.FeedRecord.RetriesUsed f) < b.rd (Obj.FeedRecord.RetryLimit f) then fsTRIPPED else fsLOCKED_OUT) b c
  count : c.rd (Obj.FeedRecord.TripCount f) = min (b.rd (Obj.FeedRecord.TripCount f) + 1) 0xFFFFFFFF
  report : ({ src := Src.FEED_TRIP, inst := f, detail := [(cause : Nat)] } : Report) ∈ c.faults.reports
  retryAt : (c.feed f).retryAt = if b.rdN (Obj.FeedRecord.RetriesUsed f) < b.rd (Obj.FeedRecord.RetryLimit f) then
    some (b.glade.ticks + b.rd (Obj.FeedRecord.RetryBackoff f) * 2 ^ b.rdN (Obj.FeedRecord.RetriesUsed f) * b.glade.nt) else none
  lockedOut : c.isPresent Src.FEED_LOCKED_OUT f = decide (b.rd (Obj.FeedRecord.RetryLimit f) ≤ b.rdN (Obj.FeedRecord.RetriesUsed f))

/-- A trip is counted and reported. -/
def tripNoted (b : Block) (f cause : Nat) : Block := (b.bump (Obj.FeedRecord.TripCount f)).report Src.FEED_TRIP f [cause]

/-- The back-off of a retry, after `used` retries. -/
def backOff (b : Block) (f used : Nat) : Block :=
  b.setFeed f { b.feed f with retryAt := some (b.glade.ticks + b.rd (Obj.FeedRecord.RetryBackoff f) * 2 ^ used * b.glade.nt) }

theorem tripFeed_backsOff {b : Block} {f : Nat} (h : b.rdN (Obj.FeedRecord.RetriesUsed f) < b.rd (Obj.FeedRecord.RetryLimit f)) (p cause : Nat) :
    b.tripFeed p f cause = ((b.tripNoted f cause).openFeed p f cause fsTRIPPED).backOff f (b.rdN (Obj.FeedRecord.RetriesUsed f)) := by
  unfold tripFeed
  simp only [h, decide_true, if_true]
  rfl

theorem tripFeed_locksOut {b : Block} {f : Nat} (h : ¬ b.rdN (Obj.FeedRecord.RetriesUsed f) < b.rd (Obj.FeedRecord.RetryLimit f)) (p cause : Nat) :
    b.tripFeed p f cause = (b.tripNoted f cause).openFeed p f cause fsLOCKED_OUT := by
  unfold tripFeed
  simp only [h, decide_false, Bool.false_eq_true, if_false]
  rfl

theorem tripNoted_shown (b : Block) (f cause : Nat) : Shown [Obj.FeedRecord.TripCount f] b (b.tripNoted f cause) :=
  ((Shown.refl b).bump (List.mem_singleton_self _)).report _ _ _

section

variable {f : Nat} (hf : f < 256) (b : Block) (p cause : Nat)
include hf

/-- The opening of a trip leaves the count, the report and the feed's configuration as they were noted. -/
theorem tripNoted_openFeed (st : Nat) : Opened f p cause st b ((b.tripNoted f cause).openFeed p f cause st) ∧
    ((b.tripNoted f cause).openFeed p f cause st).rd (Obj.FeedRecord.TripCount f) = min (b.rd (Obj.FeedRecord.TripCount f) + 1) 0xFFFFFFFF ∧
    ({ src := Src.FEED_TRIP, inst := f, detail := [(cause : Nat)] } : Report) ∈ ((b.tripNoted f cause).openFeed p f cause st).faults.reports ∧
    ((b.tripNoted f cause).openFeed p f cause st).rd (Obj.FeedRecord.RetryBackoff f) = b.rd (Obj.FeedRecord.RetryBackoff f) ∧
    ((b.tripNoted f cause).openFeed p f cause st).isPresent Src.FEED_LOCKED_OUT f = (st == fsLOCKED_OUT) := by
  have hnoted := b.tripNoted_shown f cause
  have hopens := openFeed_onFeed hf (b.tripNoted f cause) p cause st
  have hobject {sub : Nat} (hlt : sub < 256) (hsub : sub ∉ openSubs) :=
    (hopens.object (openObjects_subs f) (index := 0x3400 + f) hlt hsub (by omega)).1
  refine ⟨(openFeed_opened hf ..).after (hnoted.mono (by simp [feedObjects])), ?_, ?_, ?_, (openFeed_moved hf ..).lockedOut⟩
  · exact (hobject (by decide) (by decide)).trans (rd_wr_self ..)
  · exact hopens.reports (List.mem_append_right _ (List.mem_singleton_self _))
  · exact (hobject (by decide) (by decide)).trans (hnoted.objects.rd_eq (mt List.mem_singleton.1
      (objKey_ne_of_sub_ne (by decide) (by decide) (by decide))))

theorem tripFeed_tripped : Tripped f p cause b (b.tripFeed p f cause) := by
  by_cases hmore : b.rdN (Obj.FeedRecord.RetriesUsed f) < b.rd (Obj.FeedRecord.RetryLimit f)
  · obtain ⟨hopened, hcount, hreport, hbackoff, hlocked⟩ := tripNoted_openFeed hf b p cause fsTRIPPED
    rw [tripFeed_backsOff hmore]
    generalize (b.tripNoted f cause).openFeed p f cause fsTRIPPED = c at *
    have hfeed : (c.backOff f (b.rdN (Obj.FeedRecord.RetriesUsed f))).feed f = _ := feed_setFeed_self ..
    refine ⟨?_, hcount, hreport, ?_, hlocked.trans (decide_eq_false hmore.not_ge).symm⟩
    · rw [if_pos hmore]
      exact ⟨hopened.next, hopened.cause, hopened.epoch, hopened.cycle, hopened.tick, hopened.words, by rw [hfeed]; exact hopened.step,
        by rw [hfeed]; exact hopened.gateWant, hopened.frame.setFeed _⟩
    · rw [hfeed, if_pos hmore, hbackoff, hopened.frame.glade]
  · obtain ⟨hopened, hcount, hreport, -, hlocked⟩ := tripNoted_openFeed hf b p cause fsLOCKED_OUT
    have hfeed := openFeed_feed hf (b.tripNoted f cause) p cause fsLOCKED_OUT
    rw [tripFeed_locksOut hmore]
    refine ⟨by rwa [if_neg hmore], hcount, hreport, ?_, hlocked.trans (decide_eq_true (Nat.not_lt.1 hmore)).symm⟩
    rw [hfeed, if_neg hmore]
    rfl

/-! ### Damaged pass transistors (R278) -/

theorem suspectFeed_opened : Opened f p cause fsSUSPECT b (b.suspectFeed p f cause) := by
  unfold suspectFeed
  refine (openFeed_opened hf b p cause fsSUSPECT).then_shown ((Shown.refl _).condition _ f true (List.mem_singleton_self _)) ?_ ?_
  · simp [Obj.SourceConfig.PresentInstances, objKey_mod]
  · split <;> simp [feedObjects]

end

theorem suspectFeed_gate (b : Block) (p f : Nat) : (b.suspectFeed p f ocGATE).isPresent Src.BRK_GATE_SUSPECT f = true := by
  rw [suspectFeed, if_pos rfl, isPresent_condition]

theorem suspectFeed_passShort (b : Block) (p f : Nat) : (b.suspectFeed p f ocPASS_SHORT).isPresent Src.BRK_PASS_SHORT f = true := by
  rw [suspectFeed, if_neg (by decide), isPresent_condition]

/-! ### What each command decides -/

/-- Feed `f` is in one of the states listed and goes on into the next tick in it, and `p` is its port. -/
structure Stands (f p : Nat) (l : List Nat) (b : Block) : Prop where
  port : b.feedPort f = some p
  state : b.feedState f ∈ l
  next : b.feedNext f = b.feedState f

section

variable {b : Block} {f p : Nat}

theorem onFeedIn_acts {l : List Nat} (h : Stands f p l b) (act : Block → Nat → Block) : b.onFeedIn f l act = act b p := by
  unfold onFeedIn
  rw [h.port]
  exact if_pos (Bool.and_eq_true_iff.2 ⟨List.contains_iff_mem.2 h.state, beq_iff_eq.2 h.next⟩)

theorem closeTimeout_trips (h : Stands f p [fsCLOSING] b) (hlate : (b.feed f).closeAt + b.rd (Obj.FeedRecord.CloseTimeout f) ≤ b.glade.ticks) :
    b.closeTimeout f = b.tripFeed p f ocCLOSE_TIMEOUT := (onFeedIn_acts h _).trans (if_pos hlate)

theorem curveTrip_trips (h : Stands f p [fsCLOSED] b) (hacc : 2 ^ 30 ≤ (b.feed f).acc) (hmode : b.rd (Obj.FeedRecord.CurveMode f) = 0) :
    b.curveTrip f = b.tripFeed p f ocCURVE := (onFeedIn_acts h _).trans (if_pos ⟨hacc, hmode⟩)

theorem timerTrip_trips (h : Stands f p [fsCLOSED] b) (htimer : b.rd (Obj.FeedRecord.FaultTimer f) * 10 ^ 6 ≤ (b.feed f).timer)
    (hmode : b.rd (Obj.FeedRecord.CurveMode f) = 1) : b.timerTrip f = b.tripFeed p f ocTIMER :=
  (onFeedIn_acts h _).trans (if_pos ⟨htimer, hmode⟩)

theorem inputFault_opens (h : Stands f p [fsCLOSED] b) (hbad : b.rd (Obj.FeedRecord.InputFaultTicks f) ≤ (b.feed f).inBad) :
    b.inputFault f = (b.openFeed p f ocINPUT (if b.rd (Obj.FeedRecord.AutoReclose f) = 1 then fsWAIT_INPUT else fsOPEN)).report
      Src.FEED_INPUT_FAULT f := (onFeedIn_acts h _).trans (if_pos hbad)

theorem passShort_suspects (h : Stands f p [fsOPEN, fsTRIPPED, fsLOCKED_OUT] b) (hshort : 100 ≤ (b.feed f).shortTicks) :
    b.passShort f = b.suspectFeed p f ocPASS_SHORT := (onFeedIn_acts h _).trans (if_pos hshort)

/-- The sample received in the tick of the check decides it. -/
theorem gateCheck_decides (h : Stands f p [fsCLOSING, fsCLOSED] b) (hwant : (b.feed f).gateWant = true)
    (hat : (b.feed f).gateAt = b.glade.ticks) {r : Received} (hentered : (b.port p).entered = some r) : b.gateCheck f =
      if bitOf (r.words.getD 6 0) 1 then b.setFeed f { b.feed f with gateWant := false } else b.suspectFeed p f ocGATE := by
  refine (onFeedIn_acts h _).trans ?_
  simp [hat, hentered, hwant]

end

end Block

/-! ### The commands -/

section

variable {s : State} {f p : Nat} (hs : Settled s) (hf : f < 256)
include hs hf

theorem tripped_next {cause : Nat} (act : Block → Block) (he : act s.blk = s.blk.tripFeed p f cause) :
    ∃ t, s.actOn (decide (f < 256)) .feed f act = .next t ∧ Block.Tripped f p cause s.blk t.blk ∧ SameArrays s t := by
  have htripped := Block.tripFeed_tripped hf s.blk p cause
  generalize s.blk.tripFeed p f cause = c at *
  exact ⟨_, State.actOn_block (decide_eq_true hf) .feed f act he (htripped.opened.frame.writes.trans hs), htripped, rfl, rfl, rfl⟩

theorem opened_next {cause st : Nat} (act : Block → Block) {c : Block} (he : act s.blk = c) (hopened : Block.Opened f p cause st s.blk c) :
    s.actOn (decide (f < 256)) .feed f act = .next { s with blk := c } :=
  State.actOn_block (decide_eq_true hf) .feed f act he (hopened.frame.writes.trans hs)

end

/-- An opening as the statement puts it, to a state whose MODE is OPEN. -/
theorem Block.Opened.told {f p cause st : Nat} {s t : State} (h : Block.Opened f p cause st s.blk t.blk) (hmode : Block.modeWord st = 0)
    (hsame : SameArrays s t) : t.blk.feedNext f = st ∧ t.blk.rdN (Obj.FeedRecord.LastOpenCause f) = cause ∧
      t.blk.rdN (Obj.FeedRecord.LastOpenEpoch f) = s.blk.glade.epoch ∧ t.blk.rdN (Obj.FeedRecord.LastOpenCycle f) = s.blk.glade.cycle ∧
      t.blk.rdN (Obj.FeedRecord.LastOpenTick f) = s.blk.glade.tick ∧ (t.blk.port p).cmdN.head? = some 0 ∧ (t.blk.feed f).step = 0 ∧
      (t.blk.feed f).gateWant = false ∧ (∀ g, g ≠ f → t.blk.feed g = s.blk.feed g) ∧ (∀ q, q ≠ p → t.blk.port q = s.blk.port q) ∧
      KeepsObjects (feedObjects f ++ recordObjects) s t ∧ SameArrays s t :=
  ⟨h.next, h.cause, h.epoch, h.cycle, h.tick, hmode ▸ h.words, h.step, h.gateWant, h.frame.feeds, h.frame.ports, h.frame.objects, hsame⟩

/-- Settles O33: the three trips by `tripFeed_tripped`, the input fault by `openFeed_opened`, GATE_CHECK and PASS_SHORT by `suspectFeed_opened`. -/
theorem feedsTripByCurveTimerInputAndGate : Obligations.FeedsTripByCurveTimerInputAndGate := by
  unfold Obligations.FeedsTripByCurveTimerInputAndGate
  intro s f p hs hf hport inState opened used limit tripped
  have htold {cause : Nat} {t : State} (h : Block.Tripped f p cause s.blk t.blk) (hsame : SameArrays s t) : tripped t cause := by
    refine ⟨h.opened.told ?_ hsame, h.count, h.report, h.retryAt, h.lockedOut⟩
    split <;> rfl
  have hstands {l : List Nat} (h : inState l) : Block.Stands f p l s.blk := ⟨hport, h.1, h.2⟩
  have htrips {cause : Nat} (act : Block → Block) (he : act s.blk = s.blk.tripFeed p f cause) :
      ∃ t, s.actOn (decide (f < 256)) .feed f act = .next t ∧ tripped t cause := by
    obtain ⟨t, ht, htripped, hsame⟩ := tripped_next hs hf act he
    exact ⟨t, ht, htold htripped hsame⟩
  refine ⟨fun hin hlate => ?_, fun hin hacc hmode => ?_, fun hin htimer hmode => ?_, fun hin hbad => ?_, fun r hin hwant hat hentered => ?_,
    fun hin hshort => ?_⟩
  · exact htrips (·.closeTimeout f) (Block.closeTimeout_trips (hstands hin) hlate)
  · exact htrips (·.curveTrip f) (Block.curveTrip_trips (hstands hin) hacc hmode)
  · exact htrips (·.timerTrip f) (Block.timerTrip_trips (hstands hin) htimer hmode)
  · have hopened := (Block.openFeed_opened hf s.blk p ocINPUT
      (if s.blk.rd (Obj.FeedRecord.AutoReclose f) = 1 then fsWAIT_INPUT else fsOPEN)).then_shown
        ((Block.Shown.refl _).report Src.FEED_INPUT_FAULT f []) (l := []) (by simp) (by simp)
    refine ⟨_, opened_next hs hf (·.inputFault f) (Block.inputFault_opens (hstands hin) hbad) hopened, hopened.told ?_ ⟨rfl, rfl, rfl⟩,
      List.mem_append_right _ (List.mem_singleton_self _)⟩
    split <;> rfl
  · have he := Block.gateCheck_decides (hstands hin) hwant hat hentered
    refine ⟨fun hup => ?_, fun hdown => ?_⟩
    · rw [if_pos hup] at he
      exact ⟨_, State.actOn_block (decide_eq_true hf) .feed f (·.gateCheck f) he hs, Block.feed_setFeed_self .., rfl, rfl, rfl, rfl⟩
    · rw [hdown, if_neg Bool.false_ne_true] at he
      have hopened := Block.suspectFeed_opened hf s.blk p ocGATE
      exact ⟨_, opened_next hs hf (·.gateCheck f) he hopened, hopened.told rfl ⟨rfl, rfl, rfl⟩, s.blk.suspectFeed_gate p f⟩
  · have hopened := Block.suspectFeed_opened hf s.blk p ocPASS_SHORT
    exact ⟨_, opened_next hs hf (·.passShort f) (Block.passShort_suspects (hstands hin) hshort) hopened, hopened.told rfl ⟨rfl, rfl, rfl⟩,
      s.blk.suspectFeed_passShort p f⟩

end Sys2Proof.Machine
end

section
/-! PROOFS. Feeds: closes, opens on command, retries and their count (R272, R276, R277, R281, R283, R284, R307). -/

namespace Sys2Proof.Machine

open Sys2Proof.Safety

/-- The record of a feed whose close waits, or whose head's latch is reset first (R277 steps 1 and 2). -/
def Feed.closing (x : Feed) (step : Nat) : Feed := { x with step, retryAt := none }

/-- The record of a feed whose close frame goes in tick `k`, with the gate to be read in tick `gate` (R277 step 3, R278). -/
def Feed.framed (x : Feed) (k gate : Nat) : Feed := { x with step := 4, closeAt := k, gateWant := true, gateAt := gate, retryAt := none }

/-- The record of a feed that a FEED_OPEN finds: no retry and no held close waits, and no LATCH_RESET leads to a close (R284). -/
def Feed.dropped (x : Feed) : Feed := { x with held := false, retryAt := none, step := if x.step = 2 then 0 else x.step }

namespace Block

/-! ### A close (R276, R277, R307) -/

/-- A feed that was SHUT is UNCAPPED until the next allocation (R307). -/
def unshut (b : Block) (f : Nat) : Block :=
  if b.rdN (Obj.FeedRecord.CapState f) = csSHUT then
    ((b.wrN (Obj.FeedRecord.CapState f) csUNCAPPED).wrN (Obj.FeedRecord.CapCurrent f) 0xFFFFFFFF).condition Src.FEED_FLOOR_BREACH f false
  else b

/-- The feed waits for its input with the transistors off (R277 step 1). -/
def closeWaits (b : Block) (p f : Nat) : Block :=
  ((b.setFeed f ((b.feed f).closing 0)).setFeedState f fsWAIT_INPUT).feedWords p f

/-- A LATCH_RESET goes first (R277 step 2). -/
def closeResets (b : Block) (p f : Nat) : Block := (b.setFeed f ((b.feed f).closing 2)).fireShot p osLATCH_RESET

theorem closeFrame_eq (b : Block) (p f : Nat) : ∃ gate, b.closeFrame p f =
    (((b.setFeed f ((b.feed f).framed (b.glade.ticks + 1) gate)).setFeedState f fsCLOSING).fireShot p osBRK_CLOSE).feedWords p f := ⟨_, rfl⟩

theorem unshut_shown (b : Block) (f : Nat) : Shown (moveObjects f) b (b.unshut f) := by
  unfold unshut
  split
  · exact (((Shown.refl b).wrN _ (by simp [moveObjects])).wrN _ (by simp [moveObjects])).condition _ _ _ (by simp [moveObjects])
  · exact Shown.refl b

/-- On the feed's objects neither the input's qualification, nor the head's status, nor the port's training depends. -/
theorem Shown.closing {f : Nat} {l : List Nat} {b c : Block} (h : Shown l b c) (hl : l ⊆ feedObjects f) (p : Nat) :
    c.inputQualified f = b.inputQualified f ∧ c.statusN p 7 = b.statusN p 7 ∧ c.inTraining p = b.inTraining p := by
  have hobject {index sub : Nat} (hlt : sub < 256) (hsub : sub ∉ feedSubs) :
      c.rd (objKey index sub) = b.rd (objKey index sub) ∧ c.rdN (objKey index sub) = b.rdN (objKey index sub) :=
    h.objects _ fun hk => objKey_notMem_of_subs (feedObjects_subs f) index hlt hsub (hl hk)
  have hdelay : c.rd (Obj.FeedRecord.InsertionDelay f) = b.rd (Obj.FeedRecord.InsertionDelay f) := (hobject (by decide) (by decide)).1
  have hstatus : c.rdN (Obj.PortRecord.HeadStatus p) = b.rdN (Obj.PortRecord.HeadStatus p) := (hobject (by decide) (by decide)).2
  have hstate : c.portState p = b.portState p := (hobject (by decide) (by decide)).1
  have hglade : c.glade = b.glade := h.part (·.glade) fun _ _ _ _ => rfl
  have hfeed : c.feed f = b.feed f := h.part (·.feed f) fun _ _ _ _ => rfl
  have hport : c.port p = b.port p := h.part (·.port p) fun _ _ _ _ => rfl
  exact ⟨by rw [inputQualified, hdelay, hglade, hfeed, inputQualified], by rw [statusN, hstatus, statusN],
    by rw [inTraining, hstate, hport, inTraining]⟩

theorem closeFeed_eq (b : Block) (p f : Nat) : b.closeFeed p f =
    if !b.inputQualified f then (b.unshut f).closeWaits p f
    else if b.statusN p 7 then (b.unshut f).closeResets p f else (b.unshut f).closeFrame p f := by
  obtain ⟨hqualified, hstatus, -⟩ := (b.unshut_shown f).closing (moveObjects_subset f) p
  rw [← hqualified, ← hstatus]
  rfl

/-- What a close of feed `f` on port `p` does, by its input and its head (R277 steps 1 to 3). -/
structure Closes (f p : Nat) (b c : Block) : Prop where
  waits : b.inputQualified f = false →
    c.feedNext f = fsWAIT_INPUT ∧ (c.feed f).step = 0 ∧ (c.port p).cmdN.head? = some 0
  resets : b.inputQualified f = true → b.statusN p 7 = true → (c.feed f).step = 2 ∧
    (b.inTraining p = false → (c.port p).shots.map (·.op) = (b.port p).shots.map (·.op) ++ [osLATCH_RESET])
  frames : b.inputQualified f = true → b.statusN p 7 = false → c.feedNext f = fsCLOSING ∧ (c.feed f).step = 4 ∧
    (c.feed f).closeAt = b.glade.ticks + 1 ∧ (c.port p).cmdN.head? = some 4096

/-- A close follows what changed objects of the feed. -/
theorem Closes.after {f p : Nat} {b c d : Block} (h : Closes f p c d) (hshown : Shown (feedObjects f) b c) : Closes f p b d := by
  obtain ⟨hqualified, hstatus, htraining⟩ := hshown.closing (List.Subset.refl _) p
  have hport : c.port p = b.port p := hshown.part (·.port p) fun _ _ _ _ => rfl
  have hglade : c.glade = b.glade := hshown.part (·.glade) fun _ _ _ _ => rfl
  obtain ⟨hwaits, hresets, hframes⟩ := h
  rw [hqualified] at hwaits hresets hframes
  rw [hstatus] at hresets hframes
  rw [htraining, hport] at hresets
  rw [hglade] at hframes
  exact ⟨hwaits, hresets, hframes⟩

section

variable (b : Block) (f p : Nat)

theorem closeWaits_moved : Moved f p fsWAIT_INPUT (b.setFeed f ((b.feed f).closing 0)) (b.closeWaits p f) := feedWords_moved ..

theorem closeWaits_feed : (b.closeWaits p f).feed f = (b.feed f).closing 0 :=
  (feed_congr (b.closeWaits_moved f p).feedTab f).trans (feed_setFeed_self ..)

theorem closeResets_feed : (b.closeResets p f).feed f = (b.feed f).closing 2 :=
  (feed_congr (fireShot_feedTab ..) f).trans (feed_setFeed_self ..)

variable {f} (hf : f < 256)
include hf

/-- The close frame goes in the next tick. -/
theorem closeFrame_frames : ∃ gate, Moved f p fsCLOSING (b.setFeed f ((b.feed f).framed (b.glade.ticks + 1) gate)) (b.closeFrame p f) ∧
    (b.closeFrame p f).feed f = (b.feed f).framed (b.glade.ticks + 1) gate := by
  obtain ⟨gate, he⟩ := b.closeFrame_eq p f
  have hmoved := shotWords_moved (b.setFeed f ((b.feed f).framed (b.glade.ticks + 1) gate)) hf p fsCLOSING osBRK_CLOSE
  rw [← he] at hmoved
  exact ⟨gate, hmoved, (feed_congr hmoved.feedTab f).trans (feed_setFeed_self ..)⟩

theorem closeFeed_onFeed : OnFeed (moveObjects f) f p b (b.closeFeed p f) := by
  have hset (x : Feed) : OnFeed (moveObjects f) f p b ((b.unshut f).setFeed f x) := ((b.unshut_shown f).onFeed f p).setFeed x
  rw [closeFeed_eq]
  split
  · exact (hset _).trans ((b.unshut f).closeWaits_moved f p).frame
  · split
    · exact (hset _).trans ((fireShot_onFeed _ f p _).mono (List.nil_subset _))
    · obtain ⟨gate, hmoved, -⟩ := (b.unshut f).closeFrame_frames p hf
      exact (hset _).trans hmoved.frame

theorem closeFeed_closes : Closes f p b (b.closeFeed p f) := by
  have hshown := b.unshut_shown f
  have hport : (b.unshut f).port p = b.port p := hshown.part (·.port p) fun _ _ _ _ => rfl
  have hglade : (b.unshut f).glade = b.glade := hshown.part (·.glade) fun _ _ _ _ => rfl
  refine ⟨fun hno => ?_, fun hqualified hsafe => ?_, fun hqualified hsafe => ?_⟩
  · rw [closeFeed_eq, if_pos (by rw [hno]; rfl)]
    have hmoved := (b.unshut f).closeWaits_moved f p
    exact ⟨hmoved.next, congrArg Feed.step (closeWaits_feed ..), hmoved.words⟩
  · rw [closeFeed_eq, if_neg (by rw [hqualified]; decide), if_pos hsafe]
    refine ⟨congrArg Feed.step (closeResets_feed ..), fun htrain => ?_⟩
    have htrain' : ((b.unshut f).setFeed f (((b.unshut f).feed f).closing 2)).inTraining p = false :=
      (hshown.closing (moveObjects_subset f) p).2.2.trans htrain
    rw [closeResets, (fireShot_joins htrain' osLATCH_RESET none).1, List.map_append, ← hport]
    rfl
  · rw [closeFeed_eq, if_neg (by rw [hqualified]; decide), if_neg (Bool.eq_false_iff.1 hsafe)]
    obtain ⟨gate, hmoved, hfeed⟩ := (b.unshut f).closeFrame_frames p hf
    rw [← hglade]
    exact ⟨hmoved.next, congrArg Feed.step hfeed, congrArg Feed.closeAt hfeed, hmoved.words⟩

/-- A close after changes of the feed's objects. -/
theorem closeFeed_after {c : Block} (hshown : Shown (feedObjects f) b c) :
    Closes f p b (c.closeFeed p f) ∧ OnFeed (feedObjects f) f p b (c.closeFeed p f) :=
  ⟨(c.closeFeed_closes p hf).after hshown, (hshown.onFeed f p).trans ((c.closeFeed_onFeed p hf).mono (moveObjects_subset f))⟩

/-- A close leaves the count of the retries (R283). -/
theorem closeFeed_retries : (b.closeFeed p f).rdN (Obj.FeedRecord.RetriesUsed f) = b.rdN (Obj.FeedRecord.RetriesUsed f) :=
  ((b.closeFeed_onFeed p hf).object (moveObjects_subs f) (by decide) (by decide) (by omega)).2

end

/-! ### The commands that close (R276, R283, R284) -/

/-- The count of the retries is set. -/
theorem retries_shown (b : Block) (f n : Nat) : Shown (feedObjects f) b (b.wrN (Obj.FeedRecord.RetriesUsed f) n) :=
  (Shown.refl b).wrN n (by simp [feedObjects])

/-- With no close in progress, and the feed neither CLOSING nor CLOSED, the head has nothing to say. -/
theorem feedHead_idle {b : Block} {f : Nat} (hstep : (b.feed f).step = 0) (hstate : b.feedState f ∈ [fsOPEN, fsTRIPPED, fsLOCKED_OUT]) (p : Nat) :
    b.feedHead p f = b := by
  have hoff : b.feedState f ≠ fsCLOSING ∧ b.feedState f ≠ fsCLOSED :=
    ⟨fun e => absurd (e ▸ hstate) (by decide), fun e => absurd (e ▸ hstate) (by decide)⟩
  simp [feedHead, hstep, hoff]

section

variable {b : Block} {f p : Nat}

/-- FEED_CLOSE closes a feed that is open, with no retry used. -/
theorem feedCloseAct_closes (h : Stands f p [fsOPEN, fsTRIPPED, fsLOCKED_OUT] b) (hstep : (b.feed f).step = 0) : ∃ c,
    Shown (feedObjects f) b c ∧ c.rdN (Obj.FeedRecord.RetriesUsed f) = 0 ∧ b.feedCloseAct f false = c.closeFeed p f := by
  have hreset := b.retries_shown f 0
  have hcount := rdN_wrN_self b (Obj.FeedRecord.RetriesUsed f) 0
  have hnext : b.feedNext f ∈ [fsOPEN, fsTRIPPED, fsLOCKED_OUT] := h.next ▸ h.state
  unfold feedCloseAct
  rw [h.port]
  dsimp only
  rw [feedHead_idle hstep h.state]
  simp only [List.mem_cons, List.not_mem_nil, or_false] at hnext
  obtain hopen | htripped | hlocked := hnext
  · exact ⟨_, hreset, hcount, by simp [hopen, hstep, fsOPEN, resetRetries]⟩
  · exact ⟨_, hreset, hcount, by simp [htripped, fsTRIPPED, resetRetries]⟩
  · have hopens := (b.wrN (Obj.FeedRecord.RetriesUsed f) 0).setFeedState_shown f fsOPEN
    refine ⟨_, hreset.trans (hopens.mono (moveObjects_subset f)), ?_, by simp [hlocked, fsLOCKED_OUT, resetRetries]⟩
    exact (hopens.objects _ (objKey_notMem_of_subs (moveObjects_subs f) _ (by decide) (by decide))).2.trans hcount

theorem inputQualify_closes (h : Stands f p [fsWAIT_INPUT] b) (hstep : (b.feed f).step = 0) (hqualified : b.inputQualified f = true) :
    b.inputQualify f = b.closeFeed p f := (onFeedIn_acts h _).trans (if_pos (by simp [hstep, hqualified]))

theorem feedRetry_closes (h : Stands f p [fsTRIPPED] b) {k : Nat} (hretry : (b.feed f).retryAt = some k) (hdue : k ≤ b.glade.ticks + 1) :
    b.feedRetry f = (b.wrN (Obj.FeedRecord.RetriesUsed f) (b.rdN (Obj.FeedRecord.RetriesUsed f) + 1)).closeFeed p f := by
  refine (onFeedIn_acts h _).trans ?_
  rw [hretry]
  exact if_pos hdue

theorem retryReset_resets (h : Stands f p [fsCLOSED] b)
    (hlong : (b.feed f).closedAt + b.rd (Obj.FeedRecord.RetryResetCycles f) * b.glade.nt ≤ b.glade.ticks) : b.retryReset f = b.resetRetries f :=
  (onFeedIn_acts h _).trans (if_pos hlong)

end

/-! ### An open on command, and ClearSuspect (R278, R284) -/

/-- Feed `f` is OPEN from the next tick with MODE OPEN and no retry used. -/
structure Shut (f p : Nat) (b c : Block) : Prop where
  next : c.feedNext f = fsOPEN
  words : (c.port p).cmdN.head? = some 0
  retries : c.rdN (Obj.FeedRecord.RetriesUsed f) = 0
  frame : OnFeed (feedObjects f) f p b c

/-- What waits on a feed is dropped, and no retry is used. -/
def openDropped (b : Block) (f : Nat) : Block := (b.resetRetries f).setFeed f (b.feed f).dropped

section

variable {b : Block} {f p : Nat}

theorem openDropped_onFeed (b : Block) (f p : Nat) : OnFeed (feedObjects f) f p b (b.openDropped f) := ((b.retries_shown f 0).onFeed f p).setFeed _

theorem openDropped_retries (b : Block) (f : Nat) : (b.openDropped f).rdN (Obj.FeedRecord.RetriesUsed f) = 0 := rdN_wrN_self b _ 0

theorem feedNext_openDropped (b : Block) (f : Nat) : (b.openDropped f).feedNext f = b.feedNext f :=
  wr_comm_rdN b _ _ _ (objKey_ne_of_sub_ne (by decide) (by decide) (by decide))

theorem feedOpenAct_eq (hport : b.feedPort f = some p) : b.feedOpenAct f = match (b.openDropped f).feedNext f with
    | 1 => b.openDropped f
    | 5 => ((b.openDropped f).setFeedState f fsOPEN).feedWords p f
    | 6 => ((b.openDropped f).setFeedState f fsOPEN).feedWords p f
    | 7 => (b.openDropped f).feedWords p f
    | 0 => b.openDropped f
    | _ => (b.openDropped f).openFeed p f ocCOMMANDED fsOPEN := by
  unfold feedOpenAct
  rw [hport]
  rfl

theorem feedOpenAct_commanded (hport : b.feedPort f = some p) (hnext : b.feedNext f ∈ [fsWAIT_INPUT, fsCLOSING, fsCLOSED, fsNO_LINK]) :
    b.feedOpenAct f = (b.openDropped f).openFeed p f ocCOMMANDED fsOPEN := by
  simp only [List.mem_cons, List.not_mem_nil, or_false] at hnext
  rw [feedOpenAct_eq hport, feedNext_openDropped]
  obtain h | h | h | h := hnext <;> rw [h] <;> rfl

theorem feedOpenAct_alreadyOff (hport : b.feedPort f = some p) (hnext : b.feedNext f ∈ [fsTRIPPED, fsLOCKED_OUT]) :
    b.feedOpenAct f = ((b.openDropped f).setFeedState f fsOPEN).feedWords p f := by
  simp only [List.mem_cons, List.not_mem_nil, or_false] at hnext
  rw [feedOpenAct_eq hport, feedNext_openDropped]
  obtain h | h := hnext <;> rw [h] <;> rfl

theorem Moved.shut {c d : Block} (hf : f < 256) (h : Moved f p fsOPEN c d) (hbefore : OnFeed (feedObjects f) f p b c)
    (hretries : c.rdN (Obj.FeedRecord.RetriesUsed f) = 0) : Shut f p b d :=
  ⟨h.next, h.words, (h.frame.object (moveObjects_subs f) (by decide) (by decide) (by omega)).2.trans hretries,
    hbefore.trans (h.frame.mono (moveObjects_subset f))⟩

/-- FEED_OPEN leaves the feed OPEN; where the transistors may be on it is an opening with cause COMMANDED. -/
theorem feedOpenAct_shuts (hf : f < 256) (hport : b.feedPort f = some p)
    (hnext : b.feedNext f ∈ [fsWAIT_INPUT, fsCLOSING, fsCLOSED, fsNO_LINK, fsTRIPPED, fsLOCKED_OUT]) : Shut f p b (b.feedOpenAct f) ∧
      (b.feedNext f ∈ [fsWAIT_INPUT, fsCLOSING, fsCLOSED, fsNO_LINK] →
        (b.feedOpenAct f).rdN (Obj.FeedRecord.LastOpenCause f) = ocCOMMANDED) := by
  have hdropped := b.openDropped_onFeed f p
  have hretries := b.openDropped_retries f
  by_cases hon : b.feedNext f ∈ [fsWAIT_INPUT, fsCLOSING, fsCLOSED, fsNO_LINK]
  · rw [feedOpenAct_commanded hport hon]
    generalize b.openDropped f = c at *
    have hopened := openFeed_opened hf c p ocCOMMANDED fsOPEN
    refine ⟨⟨hopened.next, hopened.words, ?_, hdropped.trans hopened.frame⟩, fun _ => hopened.cause⟩
    exact ((openFeed_onFeed hf c p ocCOMMANDED fsOPEN).object (openObjects_subs f) (by decide) (by decide) (by omega)).2.trans hretries
  · have hoff : b.feedNext f ∈ [fsTRIPPED, fsLOCKED_OUT] :=
      (List.mem_append (s := [fsWAIT_INPUT, fsCLOSING, fsCLOSED, fsNO_LINK]).1 hnext).resolve_left hon
    rw [feedOpenAct_alreadyOff hport hoff]
    exact ⟨(feedWords_moved ..).shut hf hdropped hretries, fun h => absurd h hon⟩

theorem clearSuspect_moves (hport : b.feedPort f = some p) (hnext : b.feedNext f = fsSUSPECT) :
    b.clearSuspect f = ((b.resetRetries f).setFeedState f fsOPEN).feedWords p f := by
  have hkept : (b.resetRetries f).feedNext f = fsSUSPECT :=
    (wr_comm_rdN b _ _ _ (objKey_ne_of_sub_ne (by decide) (by decide) (by decide))).trans hnext
  unfold clearSuspect
  rw [hport]
  exact if_pos hkept

theorem feedWords_keeps (b : Block) (f p : Nat) : Keeps (feedObjects f) b (b.feedWords p f) :=
  ((Keeps.refl b).setPort p _).wrN _ (by simp [feedObjects])

end

/-! ### The end of an entry -/

section

variable (b : Block) (h : Nat) (a : Action) (outcome : Nat)

theorem completeEntry_feed (f : Nat) : (b.completeEntry h a outcome).feed f = b.feed f :=
  completeEntry_of (·.feed f) (fun _ _ _ => rfl) (fun _ _ => rfl) (fun _ _ => rfl) (fun _ _ => rfl) ..

theorem completeEntry_port (p : Nat) : (b.completeEntry h a outcome).port p = b.port p :=
  completeEntry_of (·.port p) (fun _ _ _ => rfl) (fun _ _ => rfl) (fun _ _ => rfl) (fun _ _ => rfl) ..

theorem completeEntry_feed_rdN {f sub : Nat} (hf : f < 256) (hlt : sub < 256) :
    (b.completeEntry h a outcome).rdN (objKey (0x3400 + f) sub) = b.rdN (objKey (0x3400 + f) sub) :=
  (((Keeps.refl b).completeEntry h a outcome [] none (List.Subset.refl _)) _ (objKey_notMem_recordObjects hlt (by omega))).2

end

theorem Closes.completed {f p : Nat} {b c : Block} (h : Closes f p b c) (hf : f < 256) (n : Nat) (a : Action) (outcome : Nat) :
    Closes f p b (c.completeEntry n a outcome) := by
  have hnext : (c.completeEntry n a outcome).feedNext f = c.feedNext f := completeEntry_feed_rdN c n a outcome hf (by decide)
  obtain ⟨hwaits, hresets, hframes⟩ := h
  constructor <;> rw [completeEntry_feed, completeEntry_port]
  · rwa [hnext]
  · exact hresets
  · rwa [hnext]

end Block

/-! ### The commands -/

section

variable {s : State} {f p : Nat} (hs : Settled s) (hf : f < 256)
include hs hf

/-- A command whose meaning closes the feed, after changes of the feed's objects. -/
theorem closes_next (act : Block → Block) {c : Block} (hshown : Block.Shown (feedObjects f) s.blk c) (he : act s.blk = c.closeFeed p f) :
    ∃ t, s.actOn (decide (f < 256)) .feed f act = .next t ∧ Block.Closes f p s.blk t.blk ∧ SameArrays s t ∧
      t.blk.rdN (Obj.FeedRecord.RetriesUsed f) = c.rdN (Obj.FeedRecord.RetriesUsed f) ∧
      KeepsObjects (feedObjects f ++ recordObjects) s t := by
  obtain ⟨hcloses, hframe⟩ := s.blk.closeFeed_after p hf hshown
  exact ⟨_, State.actOn_block (decide_eq_true hf) .feed f act he (hframe.writes.trans hs), hcloses, ⟨rfl, rfl, rfl⟩,
    c.closeFeed_retries p hf, hframe.objects⟩

theorem feedClose_next {h : Nat} {a : Action} (hdue : Due s.blk h 1 a) (htarget : a.target = f)
    (hstands : Block.Stands f p [fsOPEN, fsTRIPPED, fsLOCKED_OUT] s.blk) (hstep : (s.blk.feed f).step = 0) :
    ∃ t, exec (.feedClose h) s = .next t ∧ Block.Closes f p s.blk t.blk ∧ SameArrays s t ∧
      t.blk.rdN (Obj.FeedRecord.RetriesUsed f) = 0 ∧ t.blk.entry? h = none ∧ KeepsObjects (feedObjects f ++ recordObjects) s t := by
  obtain ⟨c, hshown, hzero, he⟩ := Block.feedCloseAct_closes hstands hstep
  have hfire := Block.fireEntry_due hdue (fun a b => b.feedCloseAct a.target false)
  rw [htarget, he] at hfire
  obtain ⟨hcloses, hframe⟩ := s.blk.closeFeed_after p hf hshown
  have hretries := (c.closeFeed_retries p hf).trans hzero
  generalize c.closeFeed p f = d, (if a.late then actFIRED_LATE else actFIRED) = outcome at *
  have hdone := hframe.trans ((d.completeEntry_onFeed h a outcome [] none f p).mono (List.nil_subset _))
  exact ⟨_, State.act_block (·.fireEntry h 1 (fun a b => b.feedCloseAct a.target false)) hfire (hdone.writes.trans hs),
    hcloses.completed hf h a outcome, ⟨rfl, rfl, rfl⟩, (d.completeEntry_feed_rdN h a outcome hf (by decide)).trans hretries,
    (d.entry?_completeEntry h a outcome [] none h).trans (if_pos rfl), hdone.objects⟩

theorem feedOpen_next {h : Nat} {a : Action} (hdue : Due s.blk h 2 a) (htarget : a.target = f) (hport : s.blk.feedPort f = some p)
    (hnext : s.blk.feedNext f ∈ [fsWAIT_INPUT, fsCLOSING, fsCLOSED, fsNO_LINK, fsTRIPPED, fsLOCKED_OUT]) :
    ∃ t, exec (.feedOpen h) s = .next t ∧ t.blk.feedNext f = fsOPEN ∧ (t.blk.port p).cmdN.head? = some 0 ∧
      t.blk.rdN (Obj.FeedRecord.RetriesUsed f) = 0 ∧ t.blk.entry? h = none ∧
      (s.blk.feedNext f ∈ [fsWAIT_INPUT, fsCLOSING, fsCLOSED, fsNO_LINK] → t.blk.rdN (Obj.FeedRecord.LastOpenCause f) = ocCOMMANDED) ∧
      KeepsObjects (feedObjects f ++ recordObjects) s t ∧ SameArrays s t := by
  obtain ⟨hshut, hcause⟩ := Block.feedOpenAct_shuts hf hport hnext
  have hfire := Block.fireEntry_due hdue (fun a b => b.feedOpenAct a.target)
  rw [htarget] at hfire
  generalize s.blk.feedOpenAct f = d, (if a.late then actFIRED_LATE else actFIRED) = outcome at *
  have hdone := hshut.frame.trans ((d.completeEntry_onFeed h a outcome [] none f p).mono (List.nil_subset _))
  have hobject {sub : Nat} (hlt : sub < 256) := d.completeEntry_feed_rdN h a outcome hf hlt
  refine ⟨_, State.act_block (·.fireEntry h 2 (fun a b => b.feedOpenAct a.target)) hfire (hdone.writes.trans hs),
    (hobject (by decide)).trans hshut.next, ?_, (hobject (by decide)).trans hshut.retries,
    (d.entry?_completeEntry h a outcome [] none h).trans (if_pos rfl), fun hon => (hobject (by decide)).trans (hcause hon), hdone.objects,
    rfl, rfl, rfl⟩
  exact (congrArg (·.cmdN.head?) (d.completeEntry_port h a outcome p)).trans hshut.words

theorem retryReset_next (hstands : Block.Stands f p [fsCLOSED] s.blk)
    (hlong : (s.blk.feed f).closedAt + s.blk.rd (Obj.FeedRecord.RetryResetCycles f) * s.blk.glade.nt ≤ s.blk.glade.ticks) :
    ∃ t, exec (.retryReset f) s = .next t ∧ t.blk.rdN (Obj.FeedRecord.RetriesUsed f) = 0 ∧ KeepsObjects [Obj.FeedRecord.RetriesUsed f] s t ∧
      OnlyObjects s t ∧ SameArrays s t :=
  ⟨_, State.actOn_block (decide_eq_true hf) .feed f (·.retryReset f) (Block.retryReset_resets hstands hlong) hs,
    Block.rdN_wrN_self s.blk _ 0, (Block.Keeps.refl s.blk).wrN 0 (List.mem_singleton_self _), rfl, rfl, rfl, rfl⟩

theorem clearSuspect_next (hport : s.blk.feedPort f = some p) (hnext : s.blk.feedNext f = fsSUSPECT) :
    ∃ t, exec (.clearSuspect f) s = .next t ∧ t.blk.feedNext f = fsOPEN ∧ t.blk.rdN (Obj.FeedRecord.RetriesUsed f) = 0 ∧
      t.blk.isPresent Src.BRK_GATE_SUSPECT f = false ∧ t.blk.isPresent Src.BRK_PASS_SHORT f = false ∧ KeepsObjects (feedObjects f) s t ∧
      SameArrays s t := by
  have hreset := s.blk.retries_shown f 0
  have hmoved := (s.blk.resetRetries f).feedWords_moved f p fsOPEN
  have hshut := hmoved.shut hf (hreset.onFeed f p) (Block.rdN_wrN_self s.blk _ 0)
  have hkeeps := (hreset.objects.trans ((Block.setFeedState_shown _ f fsOPEN).objects.mono (Block.moveObjects_subset f))).trans
    (Block.feedWords_keeps ((s.blk.resetRetries f).setFeedState f fsOPEN) f p)
  obtain ⟨hgate, hpass⟩ := hmoved.sound (by decide)
  exact ⟨_, State.actOn_block (decide_eq_true hf) .feed f (·.clearSuspect f) (Block.clearSuspect_moves hport hnext) (hshut.frame.writes.trans hs),
    hshut.next, hshut.retries, hgate, hpass, hkeeps, rfl, rfl, rfl⟩

end

/-- Settles O32: the three closes by `closeFeed_closes`, FEED_OPEN by `feedOpenAct_shuts`, the counts of the retries by their writes. -/
theorem feedsCloseOpenAndRetry : Obligations.FeedsCloseOpenAndRetry := by
  unfold Obligations.FeedsCloseOpenAndRetry
  intro s f p hs hf hport closes inState
  have hcloses {t : State} (h : Block.Closes f p s.blk t.blk) (hsame : SameArrays s t) : closes t := ⟨hsame, h.waits, h.resets, h.frames⟩
  have hstands {l : List Nat} (h : inState l) : Block.Stands f p l s.blk := ⟨hport, h.1, h.2⟩
  refine ⟨fun h a hdue htarget hin hstep => ?_, fun hin hstep hqualified => ?_, fun k hin hretry hdue => ?_,
    fun h a hdue htarget hnext => feedOpen_next hs hf hdue htarget hport hnext, fun hin hlong => retryReset_next hs hf (hstands hin) hlong,
    fun hnext => clearSuspect_next hs hf hport hnext⟩
  · obtain ⟨t, ht, hclosed, hsame, hretries, hentry, hkeeps⟩ := feedClose_next hs hf hdue htarget (hstands hin) hstep
    exact ⟨t, ht, hcloses hclosed hsame, hretries, hentry, hkeeps⟩
  · obtain ⟨t, ht, hclosed, hsame, -, hkeeps⟩ := closes_next hs hf (·.inputQualify f) (Block.Shown.refl s.blk)
      (Block.inputQualify_closes (hstands hin) hstep hqualified)
    exact ⟨t, ht, hcloses hclosed hsame, hkeeps⟩
  · obtain ⟨t, ht, hclosed, hsame, hretries, hkeeps⟩ := closes_next hs hf (·.feedRetry f) (s.blk.retries_shown f _)
      (Block.feedRetry_closes (hstands hin) hretry hdue)
    exact ⟨t, ht, hcloses hclosed hsame, hretries.trans (Block.rdN_wrN_self ..), hkeeps⟩

end Sys2Proof.Machine
end
